-- ==== Sys2Proof/Word.lean ====
section
/-!
DEFINITION. The word types of the Cremas module (R9) and the sparse map in which every indexed store of
the state is held.
-/
namespace Sys2Proof

/-- One byte. -/
abbrev Byte := BitVec 8

/-- A halfword. -/
abbrev Half := BitVec 16

/-- A word is 32 bits (R9). -/
abbrev Word := BitVec 32

/-- A double word is 64 bits (R9). -/
abbrev Dword := BitVec 64

/-- A sparse store: pairs of an index and a value, the indexes strictly rising. An index that is not listed
holds the store's default value, which the reader of the store names. -/
abbrev Sparse (α : Type) := List (Nat × α)

end Sys2Proof
end

