-- ==== Sys2Proof/Syntax.lean ====
section
/-!
DEFINITION. The commands of the module: one constructor of `Instr` per row of spec/opcode_table.json, with the
row's operands (log entry 1). A tile is named by its virtual tile number (R13), a group by its GID (R39), a
port by its number 0 to 11 (R261), a partner by its device id (R294).
-/
namespace Sys2Proof

/-- The two matrix queues (Table 3-6). -/
inductive MQueue where
  | f | b
  deriving DecidableEq, Repr

/-- What a router finds wrong with a packet it passes (Table 7-10); `w` is data word 0 or 1. -/
inductive PktErr where
  | dataCe (w : Nat) | dataUe (w : Nat) | hdrCe | hdrUe | overflow
  deriving DecidableEq, Repr

/-- The five requesters of a port's transmit side (Table 11-6). -/
inductive Requester where
  | mgmt | coll | win | msg | plume
  deriving DecidableEq, Repr

/-- The fields of a TXP segment header besides the version and LEN (Table 12-1). -/
structure Seg where
  mtype : Nat
  session : Nat
  seq : Nat
  epoch : Nat
  step : Nat
  ref : Nat
  retry : Bool
  fwd : Bool
  takeover : Bool
  handover : Bool
  rsv : Bool
  deriving DecidableEq, Repr

/-- Where a DATA segment's payload belongs (log entry 20): a window at an offset, or the staging of collective
`cid` for the contribution of partner rank `rank` to reduction block `blk`. -/
inductive SegDst where
  | win (w off : Nat)
  | coll (cid rank blk off : Nat)
  deriving DecidableEq, Repr

/-- A request for a transfer (R275, R278): its partner, CLASS, XFER number, lock and TS bit, the sequence identifier where it
carries an IEEE 1588 event message (R270), the header fields that its segments share, where its bytes belong, the bytes, and
the poison bit of each of their 64-bit words (R265). -/
structure XferReq where
  dev : Nat
  cls : Nat
  xfer : Nat
  lock : Bool
  ts : Bool
  ev : Option Nat
  head : Seg
  dst : Option SegDst
  data : List Byte
  pz : List Bool
  deriving DecidableEq, Repr

/-- The carriage header (Table 11-3). -/
structure Carriage where
  cver : Nat
  cls : Nat
  pm : Bool
  ts : Bool
  last : Bool
  att : Nat
  xfer : Nat
  segno : Nat
  deriving DecidableEq, Repr

/-- A received DIRECT frame (R266): the 64 bits of its link header, the body and the CRC-32 as they arrived; and the codewords that the
FEC corrected or could not correct since the frame before it (R292). -/
structure DFrame where
  hdr : Nat
  body : List Byte
  crc : Nat
  feccw : Nat
  fecuc : Nat
  deriving DecidableEq, Repr

/-- The IPv6 part of a received frame (R268). -/
structure Ip6Part where
  dst : Nat
  extHdr : Bool
  fragment : Bool
  udpPort : Nat
  csumOk : Bool
  deriving DecidableEq, Repr

/-- A received ETH frame (R268): `unsupported` marks a frame that uses a feature R263 excludes, `body` is what follows its Ethernet, IPv6
and UDP headers, `ev1588` the sequence identifier of an IEEE 1588 event message (R270); FEC codewords as in DFrame. -/
structure EFrame where
  dmac : Nat
  etype : Nat
  ip6 : Option Ip6Part
  fcsOk : Bool
  unsupported : Bool
  body : List Byte
  ev1588 : Option Nat
  feccw : Nat
  fecuc : Nat
  deriving DecidableEq, Repr

/-- A message as it arrives from another module (R192, R290). -/
structure RMsg where
  src : Nat
  dest : Nat
  tag : Nat
  words : List Word
  poison : Bool
  deriving DecidableEq, Repr

/-- The three parts of message egress (R290): a message of this module goes out, a message of another module
comes in to this head module, or an answer comes back. -/
inductive EgressEv where
  | send (id : Nat)
  | incoming (dev : Nat) (m : RMsg)
  | answer (id code : Nat)
  deriving DecidableEq, Repr

/-- Why a segment is dropped under R297. -/
inductive AuthFail where
  | badTag | replayedSeq | staleSeq
  deriving DecidableEq, Repr

/-- A contribution id (R308). -/
structure ContribId where
  dev : Nat
  inc : Nat
  step : Nat
  seq : Nat
  deriving DecidableEq, Repr

/-- The CONTRIB payload (Table 12-6). -/
structure ContribMsg where
  id : ContribId
  npart : Nat
  sfirst : Nat
  scount : Nat
  idig : List Byte
  odig : List Byte
  deriving DecidableEq, Repr

/-- One entry of a membership list (R303). -/
structure Member where
  dev : Nat
  inc : Nat
  slot : Nat
  coords : List Nat
  suspended : Bool
  deriving DecidableEq, Repr

/-- The JOIN payload with the joiner's incarnation (Table 12-5). -/
structure JoinMsg where
  inc : Nat
  digest : List Byte
  slot : Nat
  coords : List Nat
  deriving DecidableEq, Repr

/-- The EPOCH payload (Table 12-5); `full` marks the answer to RESEND KIND = LIST, whose joiner records are
the whole list (R305). -/
structure EpochMsg where
  epoch : Nat
  first : Nat
  count : Nat
  ldig : List Byte
  joiners : List Member
  leavers : List Member
  full : Bool
  takeover : Bool
  deriving DecidableEq, Repr

/-- What STEP_OPEN carries (R307). -/
structure StepOpenMsg where
  step : Nat
  epoch : Nat
  count : Nat
  b : Nat
  tInclMs : Nat
  chain : List Byte
  deriving DecidableEq, Repr

/-- The kinds of an ACCEPT (R304, R305, R311, R314, R319). -/
inductive AcceptMsg where
  | contrib (id : ContribId) (wm : Nat)
  | fwd (id : ContribId)
  | join | leave | epoch | close | takeover
  deriving DecidableEq, Repr

/-- A REJECT (R310): the reason code, the contribution it names, the detail. -/
structure RejectMsg where
  code : Nat
  id : Option ContribId
  detail : Nat
  deriving DecidableEq, Repr

/-- STEP_CLOSE PHASE = FINAL (R314). -/
structure FinalMsg where
  step : Nat
  epoch : Nat
  included : List Nat
  excluded : Nat
  chain : List Byte
  deriving DecidableEq, Repr

/-- The status of an audit report (R325, R326). -/
inductive AuditStatus where
  | matched | mismatch | unable
  deriving DecidableEq, Repr

/-- The two filtered inputs (R403). -/
inductive ExtInput where
  | syncIn | throttleN
  deriving DecidableEq, Repr

/-- The five parts of start-up step 5 (Table 15-1). -/
inductive TestPart where
  | tiles | fabric | terrace | basin | serdes
  deriving DecidableEq, Repr

/-- The result of one self-test (R381): the parts found failed, and whether anything failed that no repair
absorbs. -/
structure SelfTest where
  part : TestPart
  tiles : List Nat
  quads : List (Nat × Nat)
  routers : List Nat
  ports : List Nat
  hard : Bool
  mgmt : Bool
  deriving DecidableEq, Repr

/-- The RC counters that a read can name: a tile's, or those of a block, by register offset. -/
inductive CntReg where
  | tile (t off : Nat) | xch (off : Nat) | cal (off : Nat) | mig (off : Nat) | mem (off : Nat)
  | port (p off : Nat) | pcoll (off : Nat) | evqLost
  deriving DecidableEq, Repr

/-- The 64-bit registers whose low word latches the high word (R69, R170, R238). -/
inductive LatchReg where
  | ssn (t : Nat) | xchPkt | migSstep | memStall (c : Nat)
  deriving DecidableEq, Repr

/-- The registers that REGISTER_WRITE can name: a tile's through the management path, those of a block by
offset, or BAR0, BAR2 or configuration space by offset. -/
inductive WReg where
  | tile (t off : Nat) | xch (off : Nat) | cal (off : Nat) | mig (off : Nat) | mem (off : Nat)
  | port (p off : Nat) | parb (off : Nat) | pcoll (off : Nat) | bar0 (off : Nat)
  | bar2 (off : Nat) | cfg (off : Nat)
  deriving DecidableEq, Repr

/-- What happens at the host link (R428, R432): PERST_N takes a level, which resets the function where it is low, or the link trains at a
width. -/
inductive LinkEv where
  | perst (low : Bool) | trains (width : Nat)
  deriving DecidableEq, Repr

/-- The end of start-up's step 1 (Table 15-1): every PLL has locked, and the flash answers the boot ROM's reads or does not; or a PLL has
failed. -/
inductive PllEnd where
  | locked | locksNoFlash | fails
  deriving DecidableEq, Repr

/-- What an error report says (R404, R405): a ledger code, or that Vent's handler itself has faulted. -/
inductive ErrEv where
  | code (c : Nat) | handlerFault
  deriving DecidableEq, Repr

/-- A PLDM request (R354): a sensor's reading, a record of the PDR repository, the repository's summary, any other. -/
inductive PldmReq where
  | reading (sensor : Nat) | pdr (handle : Nat) | repository | other (data : List Byte)
  deriving DecidableEq, Repr

/-- The commands: one constructor per row of the table, in the table's order; each docstring names the row and
its rule. -/
inductive Instr where
  /-- ADD (R439). -/
  | add (t : Nat) (rd rs1 rs2 : BitVec 5)
  /-- SUB (R439). -/
  | sub (t : Nat) (rd rs1 rs2 : BitVec 5)
  /-- AND (R439). -/
  | and (t : Nat) (rd rs1 rs2 : BitVec 5)
  /-- OR (R439). -/
  | or (t : Nat) (rd rs1 rs2 : BitVec 5)
  /-- XOR (R439). -/
  | xor (t : Nat) (rd rs1 rs2 : BitVec 5)
  /-- SHL (R50). -/
  | shl (t : Nat) (rd rs1 rs2 : BitVec 5)
  /-- SHR (R50). -/
  | shr (t : Nat) (rd rs1 rs2 : BitVec 5)
  /-- SRA (R50). -/
  | sra (t : Nat) (rd rs1 rs2 : BitVec 5)
  /-- SLT (R439). -/
  | slt (t : Nat) (rd rs1 rs2 : BitVec 5)
  /-- SLTU (R439). -/
  | sltu (t : Nat) (rd rs1 rs2 : BitVec 5)
  /-- MUL (R439). -/
  | mul (t : Nat) (rd rs1 rs2 : BitVec 5)
  /-- MULH (R439). -/
  | mulh (t : Nat) (rd rs1 rs2 : BitVec 5)
  /-- MULHU (R439). -/
  | mulhu (t : Nat) (rd rs1 rs2 : BitVec 5)
  /-- DIV (R50). -/
  | div (t : Nat) (rd rs1 rs2 : BitVec 5)
  /-- DIVU (R50). -/
  | divu (t : Nat) (rd rs1 rs2 : BitVec 5)
  /-- REM (R50). -/
  | rem (t : Nat) (rd rs1 rs2 : BitVec 5)
  /-- REMU (R50). -/
  | remu (t : Nat) (rd rs1 rs2 : BitVec 5)
  /-- FADD (R50). -/
  | fadd (t : Nat) (rd rs1 rs2 : BitVec 5)
  /-- FSUB (R50). -/
  | fsub (t : Nat) (rd rs1 rs2 : BitVec 5)
  /-- FMUL (R50). -/
  | fmul (t : Nat) (rd rs1 rs2 : BitVec 5)
  /-- FMA (R50). -/
  | fma (t : Nat) (rd rs1 rs2 : BitVec 5)
  /-- FMIN (R50). -/
  | fmin (t : Nat) (rd rs1 rs2 : BitVec 5)
  /-- FMAX (R50). -/
  | fmax (t : Nat) (rd rs1 rs2 : BitVec 5)
  /-- FCMP_EQ (R50). -/
  | fcmpEq (t : Nat) (rd rs1 rs2 : BitVec 5)
  /-- FCMP_LT (R50). -/
  | fcmpLt (t : Nat) (rd rs1 rs2 : BitVec 5)
  /-- FCMP_LE (R50). -/
  | fcmpLe (t : Nat) (rd rs1 rs2 : BitVec 5)
  /-- FABS (R50). -/
  | fabs (t : Nat) (rd rs1 : BitVec 5)
  /-- FNEG (R50). -/
  | fneg (t : Nat) (rd rs1 : BitVec 5)
  /-- ADDI (R439). -/
  | addi (t : Nat) (rd rs1 : BitVec 5) (imm : BitVec 16)
  /-- ANDI (R439). -/
  | andi (t : Nat) (rd rs1 : BitVec 5) (imm : BitVec 16)
  /-- ORI (R439). -/
  | ori (t : Nat) (rd rs1 : BitVec 5) (imm : BitVec 16)
  /-- XORI (R439). -/
  | xori (t : Nat) (rd rs1 : BitVec 5) (imm : BitVec 16)
  /-- SHLI (R439). -/
  | shli (t : Nat) (rd rs1 : BitVec 5) (imm : BitVec 16)
  /-- SHRI (R439). -/
  | shri (t : Nat) (rd rs1 : BitVec 5) (imm : BitVec 16)
  /-- SRAI (R439). -/
  | srai (t : Nat) (rd rs1 : BitVec 5) (imm : BitVec 16)
  /-- SLTI (R439). -/
  | slti (t : Nat) (rd rs1 : BitVec 5) (imm : BitVec 16)
  /-- SLTUI (R439). -/
  | sltui (t : Nat) (rd rs1 : BitVec 5) (imm : BitVec 16)
  /-- MOVHI (R439). -/
  | movhi (t : Nat) (rd : BitVec 5) (imm : BitVec 16)
  /-- BEQ (R439). -/
  | beq (t : Nat) (ra rb : BitVec 5) (imm : BitVec 16)
  /-- BNE (R439). -/
  | bne (t : Nat) (ra rb : BitVec 5) (imm : BitVec 16)
  /-- BLT (R439). -/
  | blt (t : Nat) (ra rb : BitVec 5) (imm : BitVec 16)
  /-- BGE (R439). -/
  | bge (t : Nat) (ra rb : BitVec 5) (imm : BitVec 16)
  /-- BLTU (R439). -/
  | bltu (t : Nat) (ra rb : BitVec 5) (imm : BitVec 16)
  /-- BGEU (R439). -/
  | bgeu (t : Nat) (ra rb : BitVec 5) (imm : BitVec 16)
  /-- J (R439). -/
  | j (t : Nat) (imm : BitVec 16)
  /-- JAL (R439). -/
  | jal (t : Nat) (rd : BitVec 5) (imm : BitVec 16)
  /-- JR (R439). -/
  | jr (t : Nat) (rs1 : BitVec 5)
  /-- LD_B (R65). -/
  | ldB (t : Nat) (rd : BitVec 5) (h : BitVec 6) (rs : BitVec 5) (imm : BitVec 10)
  /-- LD_BU (R65). -/
  | ldBu (t : Nat) (rd : BitVec 5) (h : BitVec 6) (rs : BitVec 5) (imm : BitVec 10)
  /-- LD_H (R65). -/
  | ldH (t : Nat) (rd : BitVec 5) (h : BitVec 6) (rs : BitVec 5) (imm : BitVec 10)
  /-- LD_HU (R65). -/
  | ldHu (t : Nat) (rd : BitVec 5) (h : BitVec 6) (rs : BitVec 5) (imm : BitVec 10)
  /-- LD_W (R65). -/
  | ldW (t : Nat) (rd : BitVec 5) (h : BitVec 6) (rs : BitVec 5) (imm : BitVec 10)
  /-- LD_D (R65). -/
  | ldD (t : Nat) (rd : BitVec 5) (h : BitVec 6) (rs : BitVec 5) (imm : BitVec 10)
  /-- ST_B (R65). -/
  | stB (t : Nat) (rd : BitVec 5) (h : BitVec 6) (rs : BitVec 5) (imm : BitVec 10)
  /-- ST_H (R65). -/
  | stH (t : Nat) (rd : BitVec 5) (h : BitVec 6) (rs : BitVec 5) (imm : BitVec 10)
  /-- ST_W (R65). -/
  | stW (t : Nat) (rd : BitVec 5) (h : BitVec 6) (rs : BitVec 5) (imm : BitVec 10)
  /-- ST_D (R65). -/
  | stD (t : Nat) (rd : BitVec 5) (h : BitVec 6) (rs : BitVec 5) (imm : BitVec 10)
  /-- ENQ_F (R54). -/
  | enqF (t : Nat) (rs1 rs2 : BitVec 5)
  /-- ENQ_B (R54). -/
  | enqB (t : Nat) (rs1 rs2 : BitVec 5)
  /-- ENQ_V (R54). -/
  | enqV (t : Nat) (rs1 rs2 : BitVec 5)
  /-- ENQ_D (R54). -/
  | enqD (t : Nat) (rs1 rs2 : BitVec 5)
  /-- TRR (R69). -/
  | trr (t : Nat) (rd : BitVec 5) (off : BitVec 10)
  /-- TRW (R69). -/
  | trw (t : Nat) (rs1 : BitVec 5) (off : BitVec 10)
  /-- MQ_MODE_APPLY (R117). -/
  | mqModeApply (t : Nat)
  /-- SF_WAIT (R172). -/
  | sfWait (t : Nat) (n : BitVec 6)
  /-- SF_SIG (R172). -/
  | sfSig (t : Nat) (n : BitVec 6)
  /-- SF_READ (R176). -/
  | sfRead (t : Nat) (rd : BitVec 5) (n : BitVec 6)
  /-- SYNC_FLAG_GRANT (R173). -/
  | syncFlagGrant (t n : Nat)
  /-- SCALAR_WAKE (R177). -/
  | scalarWake (t : Nat)
  /-- BAR_ARRIVE (R182). -/
  | barArrive (t : Nat) (rd rs1 : BitVec 5) (rop level : BitVec 3) (xpn : BitVec 8)
  /-- MSG_SEND (R190). -/
  | msgSend (t : Nat) (rp rs1 rs2 : BitVec 5) (flag : BitVec 6)
  /-- MSG_RECV (R199). -/
  | msgRecv (t : Nat) (rd : BitVec 5)
  /-- MSG_POLL (R199). -/
  | msgPoll (t : Nat) (rd : BitVec 5)
  /-- MSG_FREE (R199). -/
  | msgFree (t : Nat)
  /-- MSG_CTL_CLOSE (R197). -/
  | msgCtlClose (t : Nat)
  /-- MSG_CTL_OPEN (R197). -/
  | msgCtlOpen (t : Nat)
  /-- MSG_CTL_EPOCH (R197). -/
  | msgCtlEpoch (t : Nat) (ep : BitVec 4)
  /-- END (R46). -/
  | endProg (t : Nat)
  /-- TILE_DONE (R46). -/
  | tileDone (t : Nat)
  /-- MNOP (R102). -/
  | mnop (t : Nat) (q : MQueue)
  /-- MLD (R103). -/
  | mld (t : Nat) (q : MQueue)
  /-- MLD_COMPLETE (R105). -/
  | mldComplete (t : Nat)
  /-- MMA (R107). -/
  | mma (t : Nat) (q : MQueue)
  /-- MMA_COMPLETE (R108). -/
  | mmaComplete (t : Nat)
  /-- SLICE (R109). -/
  | slice (t : Nat) (q : MQueue)
  /-- SLICE_COMPLETE (R111). -/
  | sliceComplete (t : Nat)
  /-- VNOP (R129). -/
  | vnop (t : Nat)
  /-- VSD (R126). -/
  | vsd (t : Nat)
  /-- PKLD (R138). -/
  | pkld (t : Nat)
  /-- RNGSET_S (R142). -/
  | rngsetS (t : Nat)
  /-- RNGSET_B (R142). -/
  | rngsetB (t : Nat)
  /-- VOPF_MOV (R130). -/
  | vopfMov (t : Nat)
  /-- VOPF_FADD (R130). -/
  | vopfFadd (t : Nat)
  /-- VOPF_FSUB (R130). -/
  | vopfFsub (t : Nat)
  /-- VOPF_FMUL (R130). -/
  | vopfFmul (t : Nat)
  /-- VOPF_FMA (R130). -/
  | vopfFma (t : Nat)
  /-- VOPF_FMIN (R130). -/
  | vopfFmin (t : Nat)
  /-- VOPF_FMAX (R130). -/
  | vopfFmax (t : Nat)
  /-- VOPF_FABS (R130). -/
  | vopfFabs (t : Nat)
  /-- VOPF_FNEG (R130). -/
  | vopfFneg (t : Nat)
  /-- VOPF_FCMP_LT (R130). -/
  | vopfFcmpLt (t : Nat)
  /-- VOPF_FCMP_LE (R130). -/
  | vopfFcmpLe (t : Nat)
  /-- VOPF_FCMP_EQ (R130). -/
  | vopfFcmpEq (t : Nat)
  /-- VOPF_FSEL (R130). -/
  | vopfFsel (t : Nat)
  /-- VOPF_EXP2 (R131). -/
  | vopfExp2 (t : Nat)
  /-- VOPF_LOG2 (R131). -/
  | vopfLog2 (t : Nat)
  /-- VOPF_RCP (R131). -/
  | vopfRcp (t : Nat)
  /-- VOPF_RSQRT (R131). -/
  | vopfRsqrt (t : Nat)
  /-- VOPF_SQRT (R131). -/
  | vopfSqrt (t : Nat)
  /-- VOPI_MOV (R130). -/
  | vopiMov (t : Nat)
  /-- VOPI_IADD (R130). -/
  | vopiIadd (t : Nat)
  /-- VOPI_ISUB (R130). -/
  | vopiIsub (t : Nat)
  /-- VOPI_IMUL (R130). -/
  | vopiImul (t : Nat)
  /-- VOPI_AND (R130). -/
  | vopiAnd (t : Nat)
  /-- VOPI_OR (R130). -/
  | vopiOr (t : Nat)
  /-- VOPI_XOR (R130). -/
  | vopiXor (t : Nat)
  /-- VOPI_SHL (R130). -/
  | vopiShl (t : Nat)
  /-- VOPI_SHR (R130). -/
  | vopiShr (t : Nat)
  /-- VOPI_SRA (R130). -/
  | vopiSra (t : Nat)
  /-- VOPI_IMIN (R130). -/
  | vopiImin (t : Nat)
  /-- VOPI_IMAX (R130). -/
  | vopiImax (t : Nat)
  /-- VOPI_ISEL (R130). -/
  | vopiIsel (t : Nat)
  /-- VOPI_ICMP_LT (R130). -/
  | vopiIcmpLt (t : Nat)
  /-- VOPI_ICMP_EQ (R130). -/
  | vopiIcmpEq (t : Nat)
  /-- CVT (R134). -/
  | cvt (t : Nat)
  /-- PRISM (R137). -/
  | prism (t : Nat)
  /-- VRED_SUM (R139). -/
  | vredSum (t : Nat)
  /-- VRED_SUMSQ (R139). -/
  | vredSumsq (t : Nat)
  /-- VRED_MAX (R140). -/
  | vredMax (t : Nat)
  /-- VRED_MIN (R140). -/
  | vredMin (t : Nat)
  /-- VRED_ARGMAX (R140). -/
  | vredArgmax (t : Nat)
  /-- VRED_ARGMIN (R140). -/
  | vredArgmin (t : Nat)
  /-- VRED_ISUM (R139). -/
  | vredIsum (t : Nat)
  /-- RNG_BITS (R143). -/
  | rngBits (t : Nat)
  /-- RNG_UNIF (R143). -/
  | rngUnif (t : Nat)
  /-- RNG_BERN (R143). -/
  | rngBern (t : Nat)
  /-- RNG_GUMBEL (R143). -/
  | rngGumbel (t : Nat)
  /-- VECTOR_COMPLETE (R132). -/
  | vectorComplete (t : Nat)
  /-- DNOP (R225). -/
  | dnop (t : Nat)
  /-- FEED (R226). -/
  | feed (t : Nat)
  /-- FEED_COMPLETE (R228). -/
  | feedComplete (t id : Nat)
  /-- WREL (R233). -/
  | wrel (t : Nat)
  /-- WREL_TAKE_EFFECT (R233). -/
  | wrelTakeEffect (t : Nat)
  /-- TILE_STORE_SCRUB (R61). -/
  | tileStoreScrub (t word : Nat)
  /-- CALDERA_ARRIVAL (R185). -/
  | calderaArrival (gid rank : Nat) (ue : Bool)
  /-- BARRIER_RELEASE (R184). -/
  | barrierRelease (gid : Nat)
  /-- EXCHANGE_PHASE_END (R24). -/
  | exchangePhaseEnd (gid : Nat)
  /-- BARRIER_WATCHDOG_EXPIRY (R189). -/
  | barrierWatchdogExpiry (gid : Nat)
  /-- START_GATE_SET (R373). -/
  | startGateSet
  /-- PACKET_SEND_READ (R155). -/
  | packetSendRead (t e j : Nat)
  /-- PACKET_INJECT (R155). -/
  | packetInject (id : Nat)
  /-- PACKET_ROUTER_PASS (R168). -/
  | packetRouterPass (id link : Nat) (errs : List PktErr)
  /-- PACKET_LANDING (R157). -/
  | packetLanding (id : Nat)
  /-- SCHEDULE_ENTRY_APPLY (R223). -/
  | scheduleEntryApply (n : Nat)
  /-- PROMOTION_COMPLETE (R218). -/
  | promotionComplete (page : Nat)
  /-- WRITE_BACK_COMPLETE (R215). -/
  | writeBackComplete (page : Nat)
  /-- FRAME_WAIT_GRANT (R217). -/
  | frameWaitGrant (part : Nat)
  /-- BASIN_READ_RETRY (R208). -/
  | basinReadRetry (word : Nat) (ok : Bool)
  /-- MESSAGE_ARRIVAL (R194). -/
  | messageArrival (id : Nat)
  /-- MESSAGE_ANSWER (R196). -/
  | messageAnswer (id : Nat)
  /-- ARBITER_REQUEST (R275). -/
  | arbiterRequest (p : Nat) (r : Requester) (x : XferReq)
  /-- FRAME_TX_END (R276). -/
  | frameTxEnd (p : Nat)
  /-- REQUESTER_MASK (R279). -/
  | requesterMask (r : Requester) (masked : Bool)
  /-- DIRECT_DATA_FRAME (R267). -/
  | directDataFrame (p : Nat) (f : DFrame)
  /-- LACK (R267). -/
  | lack (p ackseq : Nat)
  /-- LNAK (R267). -/
  | lnak (p ackseq : Nat)
  /-- ETH_FRAME (R268). -/
  | ethFrame (p : Nat) (f : EFrame)
  /-- PORT_TRAINED (R264). -/
  | portTrained (p : Nat) (ident : Bool)
  /-- LANE_LOCK_LOSS (R272). -/
  | laneLockLoss (p lane : Nat)
  /-- FEC_BURST (R272). -/
  | fecBurst (p lane : Nat)
  /-- RETRAIN_ATTEMPT_TIMEOUT (R272). -/
  | retrainAttemptTimeout (p : Nat)
  /-- DIRECT_IDENT_TIMEOUT (R263). -/
  | directIdentTimeout (p : Nat)
  /-- TRANSFER_RESTART (R274). -/
  | transferRestart (id : Nat)
  /-- DATA_SEGMENT (R277). -/
  | dataSegment (p dev : Nat) (c : Carriage) (g : Seg) (dst : SegDst) (data : List Byte) (mask : List Bool)
  /-- WIN_HANDOVER (R323). -/
  | winHandover (dev win : Nat) (g : Seg)
  /-- MESSAGE_EGRESS (R290). -/
  | messageEgress (e : EgressEv)
  /-- REDUCTION_BLOCK_RELEASE (R287). -/
  | reductionBlockRelease (cid blk : Nat)
  /-- SRCWIN_ARRIVAL (R283). -/
  | srcwinArrival (cid : Nat)
  /-- HELLO_OFFER (R299). -/
  | helloOffer (p dev vmaj vmin : Nat) (payload : List Byte)
  /-- HELLO_ANSWER (R421). -/
  | helloAnswer (p dev : Nat) (payload : List Byte)
  /-- HELLO_CONFIRM (R421). -/
  | helloConfirm (p dev : Nat) (payload : List Byte)
  /-- HELLO_PING (R301). -/
  | helloPing (dev : Nat) (g : Seg)
  /-- HELLO_PONG (R301). -/
  | helloPong (dev : Nat) (g : Seg)
  /-- HELLO_CLOSE (R300). -/
  | helloClose (dev : Nat) (g : Seg)
  /-- SEGMENT_AUTH_FAIL (R297). -/
  | segmentAuthFail (dev : Nat) (why : AuthFail)
  /-- JOIN (R304). -/
  | join (dev vmaj : Nat) (g : Seg) (j : JoinMsg)
  /-- LEAVE (R304). -/
  | leave (dev : Nat) (g : Seg)
  /-- EPOCH (R305). -/
  | epoch (dev : Nat) (g : Seg) (m : EpochMsg)
  /-- STEP_OPEN (R307). -/
  | stepOpen (dev : Nat) (g : Seg) (m : StepOpenMsg)
  /-- STEP_OPEN_TAKEOVER (R319). -/
  | stepOpenTakeover (dev : Nat) (g : Seg)
  /-- CONTRIB (R310). -/
  | contrib (dev : Nat) (g : Seg) (m : ContribMsg)
  /-- CONTRIB_FWD (R311). -/
  | contribFwd (dev : Nat) (g : Seg) (m : ContribMsg)
  /-- ACCEPT (R311). -/
  | accept (dev : Nat) (g : Seg) (m : AcceptMsg)
  /-- REJECT (R310). -/
  | reject (dev : Nat) (g : Seg) (m : RejectMsg)
  /-- RESEND_XFER (R322). -/
  | resendXfer (dev : Nat) (g : Seg) (cls xfer att : Nat)
  /-- RESEND_LIST (R305). -/
  | resendList (dev : Nat) (g : Seg)
  /-- RESEND_EPOCH (R305). -/
  | resendEpoch (dev : Nat) (g : Seg)
  /-- RESEND_CONTRIB (R320). -/
  | resendContrib (dev : Nat) (g : Seg)
  /-- STEP_CLOSE_FREEZE (R313). -/
  | stepCloseFreeze (dev : Nat) (g : Seg)
  /-- STEP_CLOSE_FREEZE_ACK (R313). -/
  | stepCloseFreezeAck (dev : Nat) (g : Seg) (released : List Nat)
  /-- STEP_CLOSE_FINAL (R314). -/
  | stepCloseFinal (dev : Nat) (g : Seg) (m : FinalMsg)
  /-- AUDIT_REQ (R324). -/
  | auditReq (dev : Nat) (g : Seg) (id : ContribId)
  /-- AUDIT_REPLY (R325). -/
  | auditReply (dev : Nat) (g : Seg) (reply : Option ContribMsg) (id : ContribId)
  /-- AUDIT_REPORT (R326). -/
  | auditReport (dev : Nat) (g : Seg) (id : ContribId) (status : AuditStatus) (odig : List Byte)
  /-- T_HS_EXPIRY (R327). -/
  | tHsExpiry (dev : Nat)
  /-- T_PING_EXPIRY (R301). -/
  | tPingExpiry (dev : Nat)
  /-- T_SESS_EXPIRY (R300). -/
  | tSessExpiry (dev : Nat)
  /-- T_RECON_EXPIRY (R300). -/
  | tReconExpiry (dev : Nat)
  /-- T_CONTRIB_EXPIRY (R327). -/
  | tContribExpiry (part : Nat)
  /-- T_INCL_EXPIRY (R313). -/
  | tInclExpiry
  /-- T_FREEZE_EXPIRY (R313). -/
  | tFreezeExpiry
  /-- T_LEAD_DEPUTY_EXPIRY (R319). -/
  | tLeadDeputyExpiry
  /-- T_LEAD_STEP_DOWN (R319). -/
  | tLeadStepDown
  /-- T_LEAD_DEPUTY_LOST (R321). -/
  | tLeadDeputyLost
  /-- T_JOIN_EXPIRY (R327). -/
  | tJoinExpiry
  /-- T_XFER_EXPIRY (R322). -/
  | tXferExpiry (dev cls xfer : Nat)
  /-- T_WIN_EXPIRY (R323). -/
  | tWinExpiry (id : Nat)
  /-- T_AUDIT_EXPIRY (R324). -/
  | tAuditExpiry
  /-- SESSION_LIFETIME_LIMIT (R300). -/
  | sessionLifetimeLimit (dev : Nat)
  /-- SESSION_DOWN_60S (R301). -/
  | sessionDown60s (dev : Nat)
  /-- JOURNAL_BATCH_WRITE (R392). -/
  | journalBatchWrite
  /-- JOURNAL_COMPACTION (R394). -/
  | journalCompaction
  /-- COUNTER_SHADOW_POLL (R345). -/
  | counterShadowPoll
  /-- HEARTBEAT_TICK (R338). -/
  | heartbeatTick
  /-- WIN_REFUSED_EVENT (R335). -/
  | winRefusedEvent
  /-- MONITOR_SAMPLE (R398). -/
  | monitorSample (temps : List Int) (volts : List Nat) (oscs : List Nat)
  /-- PACING_LEVEL_UPDATE (R401). -/
  | pacingLevelUpdate
  /-- THERMAL_TRIP (R401). -/
  | thermalTrip (sensor : Nat)
  /-- VOLTAGE_EXCURSION (R399). -/
  | voltageExcursion (monitor mv : Nat) (wide : Bool)
  /-- RING_OSCILLATOR_CHECK (R400). -/
  | ringOscillatorCheck (shifts : List Int)
  /-- PLDM_SENSOR_UPDATE (R354). -/
  | pldmSensorUpdate
  /-- INPUT_EDGE_ACCEPT (R403). -/
  | inputEdgeAccept (i : ExtInput) (level : Bool)
  /-- INPUT_STUCK (R403). -/
  | inputStuck (i : ExtInput)
  /-- IEEE_1588_LOCK (R271). -/
  | ieee1588Lock (p sec ns : Nat)
  /-- ERROR_REPORT (R404). -/
  | errorReport (r : ErrEv) (src : Nat)
  /-- SUMMARY_FORWARD (R404). -/
  | summaryForward (gid code : Nat)
  /-- LEDGER_ENTRY_CREATE (R407). -/
  | ledgerEntryCreate
  /-- LEDGER_ENTRY_HANDLE (R406). -/
  | ledgerEntryHandle
  /-- HANDLER_TIMEOUT (R405). -/
  | handlerTimeout
  /-- MODULE_RESET (R380). -/
  | moduleReset
  /-- RESET_N_ASSERT (R431). -/
  | resetNAssert
  /-- FIRMWARE_VERIFY (R381). -/
  | firmwareVerify
  /-- JOURNAL_MOUNT (R393). -/
  | journalMount
  /-- SELF_TEST_COMPLETE (R381). -/
  | selfTestComplete (r : SelfTest)
  /-- REPAIR_MAP_MERGE (R388). -/
  | repairMapMerge
  /-- AON_POWER_UP (R271). -/
  | aonPowerUp (puf : List Byte)
  /-- INPUT_RISE_39V (R430). -/
  | inputRise39v
  /-- INPUT_FALL_38V (R430). -/
  | inputFall38v
  /-- RAIL_OUT_OF_LIMITS (R430). -/
  | railOutOfLimits
  /-- CXL_FUNCTION_RESET (R342). -/
  | cxlFunctionReset
  /-- HDM_READ (R334). -/
  | hdmRead (off : Nat)
  /-- HDM_WRITE (R334). -/
  | hdmWrite (off : Nat) (data : List Byte) (poison : Bool)
  /-- CXL_IDENTIFY_MEMORY_DEVICE (R331). -/
  | cxlIdentifyMemoryDevice
  /-- CXL_GET_SUPPORTED_LOGS (R331). -/
  | cxlGetSupportedLogs
  /-- CXL_GET_LOG (R331). -/
  | cxlGetLog
  /-- CXL_GET_HEALTH_INFO (R331). -/
  | cxlGetHealthInfo
  /-- CXL_GET_EVENT_RECORDS (R331). -/
  | cxlGetEventRecords
  /-- CXL_CLEAR_EVENT_RECORDS (R331). -/
  | cxlClearEventRecords (n : Nat)
  /-- CXL_UNSUPPORTED_OPCODE (R331). -/
  | cxlUnsupportedOpcode (opcode : Nat)
  /-- UNSUPPORTED_COMMAND (R343). -/
  | unsupportedCommand
  /-- IDENTIFY (R344). -/
  | identify
  /-- GET_STATE (R344). -/
  | getState
  /-- GET_HEALTH (R344). -/
  | getHealth
  /-- GET_ERRLEDGER (R344). -/
  | getErrledger
  /-- GET_COUNTERS (R345). -/
  | getCounters
  /-- BAR_PENDING (R189). -/
  | barPending
  /-- IMAGE_LOAD (R371). -/
  | imageLoad
  /-- IMAGE_LOAD_DONE (R372). -/
  | imageLoadDone
  /-- IMAGE_START (R373). -/
  | imageStart
  /-- IMAGE_STOP_SIGNAL (R377). -/
  | imageStopSignal
  /-- IMAGE_STOP_HALT (R377). -/
  | imageStopHalt
  /-- IMAGE_UNLOAD (R379). -/
  | imageUnload
  /-- CTX_SAVE (R347). -/
  | ctxSave
  /-- CTX_RESTORE (R378). -/
  | ctxRestore
  /-- HDM_MAP (R333). -/
  | hdmMap
  /-- WIN_ARRIVE (R346). -/
  | winArrive
  /-- WIN_QUERY (R344). -/
  | winQuery
  /-- PARTNER_ADD (R299). -/
  | partnerAdd
  /-- PARTNER_REMOVE (R344). -/
  | partnerRemove
  /-- PORT_CFG (R349). -/
  | portCfg
  /-- PORT_STATUS (R344). -/
  | portStatus
  /-- TXP_TIMERS (R349). -/
  | txpTimers
  /-- TXP_STATUS (R344). -/
  | txpStatus
  /-- FORCE_TAKEOVER (R349). -/
  | forceTakeover
  /-- JRN_INFO (R344). -/
  | jrnInfo
  /-- JRN_READ (R344). -/
  | jrnRead
  /-- JRN_ACK_CLOSE (R317). -/
  | jrnAckClose
  /-- GET_IDENTITY (R412). -/
  | getIdentity
  /-- ATTEST_QUOTE (R419). -/
  | attestQuote
  /-- FW_WRITE (R350). -/
  | fwWrite
  /-- FW_COMMIT (R350). -/
  | fwCommit
  /-- FW_COMMIT_DONE (R415). -/
  | fwCommitDone
  /-- DEBUG_OPEN (R424). -/
  | debugOpen
  /-- DEBUG_CLOSE (R425). -/
  | debugClose
  /-- SYNCF_SET (R179). -/
  | syncfSet
  /-- SYNCF_READ (R348). -/
  | syncfRead
  /-- TREG_READ (R345). -/
  | tregRead
  /-- TSTORE_READ (R344). -/
  | tstoreRead
  /-- MAILBOX_WRITE_WHILE_BUSY (R340). -/
  | mailboxWriteWhileBusy (off : Nat) (v : Word)
  /-- EVQ_HEAD_WRITE (R351). -/
  | evqHeadWrite (v : Word)
  /-- PORTN_CFG_WRITE_DISABLE (R262). -/
  | portnCfgWriteDisable (p : Nat) (v : Word)
  /-- PORTN_CFG_WRITE_ENABLE (R262). -/
  | portnCfgWriteEnable (p : Nat) (v : Word)
  /-- RC_COUNTER_READ (R12). -/
  | rcCounterRead (c : CntReg)
  /-- LATCHED_LOW_WORD_READ (R238). -/
  | latchedLowWordRead (c : LatchReg) (high : Bool)
  /-- MSG_NACK_READ (R201). -/
  | msgNackRead (t : Nat)
  /-- TSQ_ENTRY_READ (R291). -/
  | tsqEntryRead (p word : Nat)
  /-- REGISTER_WRITE (R12). -/
  | registerWrite (r : WReg) (v : Word)
  /-- JTAG_BYPASS (R426). -/
  | jtagBypass (tdi : Bool)
  /-- JTAG_IDCODE (R436). -/
  | jtagIdcode
  /-- JTAG_SAMPLE_PRELOAD (R426). -/
  | jtagSamplePreload (pins preload : List Bool)
  /-- JTAG_EXTEST (R426). -/
  | jtagExtest (tdi : Bool)
  /-- JTAG_REGISTER_READ (R426). -/
  | jtagRegisterRead (t off : Nat) (tdi : Bool)
  /-- JTAG_SYNCF_SET (R179). -/
  | jtagSyncfSet (t flag value : Nat) (tdi : Bool)
  /-- TRST_N_RESET (R436). -/
  | trstNReset (low : Bool)
  /-- MCTP_CONTROL_MESSAGE (R353). -/
  | mctpControlMessage (cmd : Nat) (data : List Byte)
  /-- PLDM_REQUEST (R354). -/
  | pldmRequest (r : PldmReq)
  /-- SMBUS_ARP (R353). -/
  | smbusArp (addr : Nat)
  /-- ALWAYS_ON_POWER_LOSS (R428). -/
  | alwaysOnPowerLoss
  /-- SYNC_OUT_PULSE (R434). -/
  | syncOutPulse
  /-- HOST_LINK_TRAINING (R432). -/
  | hostLinkTraining (e : LinkEv) (speed : Nat)
  /-- PLL_LOCK (R380). -/
  | pllLock (r : PllEnd)
  /-- FRESH_JOIN (R327). -/
  | freshJoin
  deriving DecidableEq, Repr

end Sys2Proof
end

