-- ==== Sys2Proof/Decode.lean ====
section
/-!
DEFINITION. Commands from the words of the table. No row of spec/opcode_table.json gives bits (every "fields" is empty), so no word spells
a command. A block has no instruction decoder (log entry 1).
-/
namespace Sys2Proof

/-- The command that a word of the table's bits spells: none, since no row has bits. -/
def decodeTableWord (_nbits _w : Nat) : Option Instr := none

end Sys2Proof
end

