-- ==== Sys2Proof/Config.lean ====
section
/-!
DEFINITION. What an individual module fixes at manufacture, the free values, and the cryptographic functions that
the manual names and does not define. Every constant here has no body: a claim holds whatever it is (log entries 9, 10, 12).
-/
namespace Sys2Proof.Config

/-- The free value of number `n`: whatever the manual leaves undefined (log entry 9). -/
opaque freeValue : Nat → Nat

/-- The free value of vector register element `k` while a SLICE writes its register (R112), for the instruction of number `n`. -/
opaque freeElem : Nat → Nat → Nat

/-- A byte of the message ring that the program reads where it may not, by cycle and address (R199; log entry 9). -/
opaque freeRing : Nat → Nat → Byte

/-- The shipped grade is 1536 (R1); otherwise it is 1408. -/
opaque ships1536 : Bool

/-- The stepping is B0 (R4); otherwise it is A1. -/
opaque isB0 : Bool

/-- The device id fixed at manufacture (R294). -/
opaque deviceId : BitVec 64

/-- The ring-oscillator baselines of the MANUFACTURE record (Table 15-4), 64 bytes. -/
opaque baselines : BitVec 512

/-- The Vent image that the flash holds when the module first starts (R390, R415). -/
opaque factoryFw : List Byte

/-- What manufacture puts into the certificate (Table 16-2): the public keys, the time, the Varsis production signature. -/
opaque identityPublic : BitVec 512
opaque quotePublic : BitVec 256
opaque madeAt : BitVec 64
opaque certSignature : BitVec 238336

/-- What manufacture puts into the two copies of the sealed identity beside the certificate (R413): PUF helper data, nonce, ciphertext and tag
of a copy. -/
opaque pufHelper : Nat → BitVec 16384
opaque sealNonce : Nat → BitVec 96
opaque sealedKeys : Nat → BitVec 1536
opaque sealTag : Nat → BitVec 128

/-- The PUF's reading at the power-up that precedes the first module reset (R413). -/
opaque pufReading : List Byte

/-- The nominal voltage of monitor n in mV (R399). -/
opaque nominalMv : Nat → Nat

/-- The fuzzy extractor of R413: the sealing key from a PUF reading and the helper data. -/
opaque fuzzyExtract : List Byte → List Byte → BitVec 256

/-- Whether a sealed identity unseals (R413): the sealing key, nonce, ciphertext, tag. -/
opaque unseals : BitVec 256 → List Byte → List Byte → List Byte → Bool

/-- SLH-DSA-SHAKE-256s verification under the named Varsis key: key, message, signature (R411). -/
opaque verify256 : List Byte → List Byte → List Byte → Bool

/-- SLH-DSA-SHAKE-128f verification (R411, R424): key, message, signature. -/
opaque verify128 : List Byte → List Byte → List Byte → Bool

/-- Signature of 29,792 bytes by the identity key over a message, as one number (R411, R420). -/
opaque signIdentity : List Byte → BitVec 238336

/-- Signature of 17,088 bytes by the quote key over a message, as one number (R411, R419). -/
opaque signQuote : List Byte → BitVec 136704

/-- The Varsis firmware public key of the boot ROM (R411). -/
opaque firmwareKey : List Byte

/-- The Varsis production public key (R411). -/
opaque productionKey : List Byte

/-- The public key of debug authority `a` in the body of a Vent image, where it holds one (R411, R424); R415 does not lay the body out. -/
opaque debugKey : List Byte → Nat → Option (List Byte)

/-- The identity public key inside a certificate belongs to its bytes 16 to 79; ML-KEM-1024 encapsulation of
draw `n` to a key: shared secret of 32 bytes and ciphertext of 1,568 bytes (R421). -/
opaque kemEncaps : List Byte → Nat → BitVec 256 × BitVec 12544

/-- ML-KEM-1024 decapsulation with the key of draw `n` (R421). -/
opaque kemDecaps : Nat → List Byte → BitVec 256

/-- The ML-KEM-1024 encapsulation key of draw `n`, 1,568 bytes (R420). -/
opaque kemKey : Nat → BitVec 12544

/-- The 32-byte nonce of draw `n` from the module's random source (R420). -/
opaque nonce : Nat → BitVec 256

/-- AES-256-GCM (R297): the ciphertext and the tag of a payload under a key and a nonce, with its associated data. -/
opaque gcmSeal : (key nonce aad payload : List Byte) → List Byte × BitVec 128

/-- The payload of a TXP message that the manual does not lay out, by MTYPE, KIND, the fields it carries and its bytes (log entry 20). -/
opaque txpPayload : (mtype kind : Nat) → (fields : List Nat) → (bytes : List Byte) → List Byte

/-- The round-trip time of a session in nanoseconds, by the peer's device id and the time (R322). -/
opaque roundTrip : Nat → Nat → Nat

/-- The data-pool number of a member's first sample in a step (Table 12-6), by image digest, device id and step. -/
opaque firstSample : List Byte → Nat → Nat → Nat

/-- The bytes of the samples that the data pool holds from a number on (R309, R325), by image digest, first sample and count. -/
opaque samples : List Byte → Nat → Nat → List Byte

/-- The vendor id of Varsis (R331); no chapter gives its value. -/
opaque vendorId : Nat

/-- The registers of the HDM decoder and of the RAS capability and the device status behind BAR2 (R331; log entry 81). -/
inductive Bar2Reg where
  | decCapability | decControl | decBaseLow | decBaseHigh | decSizeLow | decSizeHigh | rasUe | rasUeMask | rasUeSev | rasCe | rasCeMask
  | devStatus
  deriving DecidableEq, Repr

/-- The register at an offset in BAR2; CXL leaves the places to the implementation, and no chapter gives them (log entry 81). -/
opaque bar2At : Nat → Option Bar2Reg

/-- The words of the function's configuration space that R331 gives a content, and the control word of MSI-X (R352; log entry 81). -/
inductive CfgReg where
  | id | classCode | deviceDvsec | rangeSizeHigh | rangeSizeLow | barLow (n : Nat) | barHigh (n : Nat) | registerLocator | msixControl
  deriving DecidableEq, Repr

/-- The word at an offset of the configuration space; PCI Express and CXL leave the places of the capabilities to the implementation, and no
chapter gives them (log entry 81). -/
opaque cfgAt : Nat → Option CfgReg

/-- The revision id, and the register locator's block and offset, which no chapter gives (log entry 81). -/
opaque revisionId : BitVec 8
opaque locatorBlock : BitVec 29

/-- The content of a standard answer that the manual names and does not lay out (MCTP, PLDM, CXL logs and
records), by request (log entry 17). -/
opaque standardAnswer : Nat → List Byte → List Byte

/-- The entries that the partner table holds; no chapter gives the number (log entry 9). -/
opaque partnerSlots : Nat

/-- The bytes that n samples take in the layout of the job's input window, by image digest (R325); no chapter lays it out. -/
opaque sampleBytes : List Byte → Nat → Nat

/-- The range fields of a BACKFILL entry's 12 bytes, which R367 names and does not lay out (log entry 27): field 0 is the tile, 1 the
first of the range (an address, a flag, a number), 2 its length. -/
opaque backfillField : List Byte → Nat → Nat

end Sys2Proof.Config
end

