-- ==== Sys2Proof/Machine/Bits.lean ====
section
/-!
DEFINITION. Bit fields, sign extension, saturation and little-endian byte order (R9, R10).
-/
namespace Sys2Proof

/-- Field [hi:lo] of a number. -/
def fld (w hi lo : Nat) : Nat := w / 2 ^ lo % 2 ^ (hi + 1 - lo)

/-- Bit `b` of a number, as a Bool. -/
def bitAt (w b : Nat) : Bool := w / 2 ^ b % 2 == 1

/-- A Bool as 0 or 1. -/
def b2n (b : Bool) : Nat := if b then 1 else 0

/-- Places field value `v` at bit `lo`. -/
def at' (v lo : Nat) : Nat := v * 2 ^ lo

/-- The two's complement value of the low `n` bits of `v`. -/
def sext (n v : Nat) : Int :=
  if v % 2 ^ n < 2 ^ (n - 1) then (v % 2 ^ n : Nat) else (v % 2 ^ n : Nat) - (2 ^ n : Nat)

/-- `v` held at `2^n - 1` (the saturating counters). -/
def satN (n v : Nat) : Nat := min v (2 ^ n - 1)

/-- The least whole number of `b`s that holds `a`. -/
def ceilDiv (a b : Nat) : Nat := (a + b - 1) / b

/-- `v` in `n` bytes, least significant byte first (R10). -/
def leBytes : Nat → Nat → List Byte
  | 0, _ => []
  | n + 1, v => BitVec.ofNat 8 v :: leBytes n (v / 256)

/-- The number whose bytes, least significant first, are given (R10). -/
def leNat : List Byte → Nat
  | [] => 0
  | b :: bs => b.toNat + 256 * leNat bs

/-- `v` in `n` bytes, most significant byte first (R10, fields on the ports). -/
def beBytes (n v : Nat) : List Byte := (leBytes n v).reverse

/-- Number of bytes `n` of `l` from offset `o`, as a little-endian number; bytes past the end read as zero. -/
def leAt (l : List Byte) (o n : Nat) : Nat := leNat ((l.drop o).take n)

/-- `l` padded with zero bytes, or cut, to `n` bytes. -/
def padTo (n : Nat) (l : List Byte) : List Byte := (l ++ List.replicate (n - l.length) 0).take n

/-- Bits packed little-endian into bytes, bit 0 first. -/
def bitsToBytes (bs : List Bool) : List Byte :=
  leBytes (ceilDiv bs.length 8) (bs.foldr (fun b acc => b2n b + 2 * acc) 0)

/-- Inserts an element into a list that is sorted by `key`, after its equals' first. -/
def insertOn {α : Type} (key : α → Nat) (a : α) : List α → List α
  | [] => [a]
  | b :: l => if key a ≤ key b then a :: b :: l else b :: insertOn key a l

/-- Sorts a list by `key`, keeping the order of equals. -/
def sortOn {α : Type} (key : α → Nat) (l : List α) : List α := l.foldr (insertOn key) []

/-- The low 32 bits of a number. -/
def w32 (v : Nat) : Word := BitVec.ofNat 32 v

/-- Rotates a 32-bit word left. -/
def rotl32 (x : Nat) (k : Nat) : Nat := (x <<< k ||| x >>> (32 - k)) % 2 ^ 32

end Sys2Proof
end

