-- ==== Sys2Proof/Machine/Float.lean ====
section
/-!
DEFINITION. Number formats and rounding (chapter 04): format codes, decoding, one exact value type, the single
rounding of R84 to R87, and the FP32 operations of Tables 3-5 and 4-9.
-/
namespace Sys2Proof.Machine

/-- The flags of Table 4-6, in the bit order of Table 3-14: NX 0, UF 1, OF 2, NV 3, PZ 4; BN 5. -/
abbrev Flg := BitVec 6

def fNX : Flg := 1
def fUF : Flg := 2
def fOF : Flg := 4
def fNV : Flg := 8
def fPZ : Flg := 16
def fBN : Flg := 32

/-- An exact value: a NaN (signalling or quiet), an infinity, or (−1)^neg × m × 2^e. -/
inductive Val where
  | nan (sig : Bool)
  | inf (neg : Bool)
  | fin (neg : Bool) (m : Nat) (e : Int)
  deriving DecidableEq, Repr

/-- What the top exponent of a format means (Table 4-2): infinities and NaNs, NaN only at the top fraction, or nothing. -/
inductive TopExp where
  | ieee | nanTop | none
  deriving DecidableEq, Repr

/-- A floating format (Table 4-2): exponent bits, bias, fraction bits, top exponent, whether it has signalling NaNs. -/
structure FFmt where
  eb : Nat
  bias : Nat
  mb : Nat
  top : TopExp
  sig : Bool
  deriving DecidableEq, Repr

def ffFP32 : FFmt := ⟨8, 127, 23, .ieee, true⟩
def ffBF16 : FFmt := ⟨8, 127, 7, .ieee, true⟩
def ffFP16 : FFmt := ⟨5, 15, 10, .ieee, true⟩
def ffE5M2 : FFmt := ⟨5, 15, 2, .ieee, false⟩
def ffE4M3 : FFmt := ⟨4, 7, 3, .nanTop, false⟩
def ffE2M1 : FFmt := ⟨2, 1, 1, .none, false⟩

/-- Format codes (Table 4-1). -/
def cFP32 : Nat := 0
def cBF16 : Nat := 1
def cFP16 : Nat := 2
def cE4M3 : Nat := 3
def cE5M2 : Nat := 4
def cBS4 : Nat := 5
def cINT8 : Nat := 6
def cINT4 : Nat := 7
def cBS8 : Nat := 8
def cINT32 : Nat := 9

/-- The element format of a floating format code: a BS code's is that of its elements. -/
def ffOf : Nat → FFmt
  | 0 => ffFP32
  | 1 => ffBF16
  | 2 => ffFP16
  | 3 => ffE4M3
  | 4 => ffE5M2
  | 5 => ffE2M1
  | _ => ffE4M3

/-- The code is not reserved (R74). -/
def fmtOk (f : Nat) : Bool := decide (f ≤ 9)

/-- Integer formats: INT8, INT4, INT32. -/
def fmtInt (f : Nat) : Bool := f == 6 || f == 7 || f == 9

/-- Block-scaled formats. -/
def fmtBS (f : Nat) : Bool := f == 5 || f == 8

/-- Element width in bits (Table 4-1, R67). -/
def fmtBits : Nat → Nat
  | 0 => 32
  | 9 => 32
  | 1 => 16
  | 2 => 16
  | 5 => 4
  | 7 => 4
  | _ => 8

/-- Width of a floating format with its sign. -/
def FFmt.width (f : FFmt) : Nat := 1 + f.eb + f.mb

/-- The value of a code (R75, R76). -/
def FFmt.decode (f : FFmt) (b : Nat) : Val :=
  let neg := bitAt b (f.eb + f.mb)
  let e := b / 2 ^ f.mb % 2 ^ f.eb
  let fr := b % 2 ^ f.mb
  if e = 2 ^ f.eb - 1 ∧ f.top = .ieee then
    if fr = 0 then .inf neg else .nan (f.sig && decide (fr < 2 ^ (f.mb - 1)))
  else if e = 2 ^ f.eb - 1 ∧ f.top = .nanTop ∧ fr = 2 ^ f.mb - 1 then .nan false
  else if e = 0 then .fin neg fr (1 - (f.bias : Int) - f.mb)
  else .fin neg (fr + 2 ^ f.mb) ((e : Int) - f.bias - f.mb)

/-- The magnitude code of the largest finite value (Table 4-2). -/
def FFmt.maxMag (f : FFmt) : Nat :=
  match f.top with
  | .ieee => (2 ^ f.eb - 1) * 2 ^ f.mb - 1
  | .nanTop => 2 ^ (f.eb + f.mb) - 2
  | .none => 2 ^ (f.eb + f.mb) - 1

/-- The canonical NaN (Table 4-2). -/
def FFmt.canonNaN (f : FFmt) : Nat :=
  match f.top with
  | .ieee => (2 ^ f.eb - 1) * 2 ^ f.mb + 2 ^ (f.mb - 1)
  | .nanTop => 2 ^ (f.eb + f.mb) - 1
  | .none => 2 ^ (f.eb + f.mb) - 1

/-- A magnitude code with its sign. -/
def FFmt.signed (f : FFmt) (neg : Bool) (mag : Nat) : Nat := b2n neg * 2 ^ (f.eb + f.mb) + mag

/-- The rounding modes (R84). -/
inductive Rnd where
  | rne | rtz | sr
  deriving DecidableEq, Repr

/-- m × 2^e ≥ m' × 2^e'. -/
def geScaled (m : Nat) (e : Int) (m' : Nat) (e' : Int) : Bool :=
  if e' ≤ e then decide (m' ≤ m * 2 ^ (e - e').toNat) else decide (m' * 2 ^ (e' - e).toNat ≤ m)

/-- The whole part of m × 2^(e − q) rounded by the mode (R84, R85; `u` the 24 random bits), and whether it is inexact. -/
def roundAt (mode : Rnd) (u m : Nat) (e q : Int) : Nat × Bool :=
  if q ≤ e then (m * 2 ^ (e - q).toNat, false)
  else
    let sh := (q - e).toNat
    let lo := m / 2 ^ sh
    let rem := m % 2 ^ sh
    let up : Bool :=
      match mode with
      | .rne => decide (2 * rem > 2 ^ sh) || (decide (2 * rem = 2 ^ sh) && lo % 2 == 1)
      | .rtz => false
      | .sr => decide (u < 2 ^ 24 * rem / 2 ^ sh)
    (lo + b2n up, decide (rem ≠ 0))

/-- The magnitude exceeds the format's range under the mode (R87). -/
def FFmt.overflows (f : FFmt) (mode : Rnd) (m : Nat) (e : Int) : Bool :=
  let frac := f.maxMag % 2 ^ f.mb + 2 ^ f.mb
  let q : Int := (f.maxMag / 2 ^ f.mb : Nat) - (f.bias : Int) - f.mb
  match mode with
  | .rne => geScaled m e (2 * frac + 1) (q - 1)
  | _ => geScaled m e frac q && !geScaled frac q m e

/-- Rounds a non-zero magnitude into the format, without its overflow: the code and the inexactness. -/
def FFmt.roundMag (f : FFmt) (mode : Rnd) (u m : Nat) (e : Int) : Nat × Bool :=
  let emin : Int := 1 - (f.bias : Int)
  let k : Int := (Nat.log2 m : Int) + e
  let q := max k emin - f.mb
  let r := roundAt mode u m e q
  ((q - (emin - f.mb)).toNat * 2 ^ f.mb + r.1, r.2)

/-- Rounds an exact value into a float format (R84 to R87, Tables 4-5 and 4-7); `sat` is the SAT bit. An infinity to
E4M3 raises NV; a NaN gives the canonical NaN and raises nothing here. -/
def FFmt.round (f : FFmt) (mode : Rnd) (u : Nat) (sat : Bool) : Val → Nat × Flg
  | .nan _ => (f.canonNaN, 0)
  | .inf neg =>
    if f.top = .ieee then (f.signed neg (f.maxMag + 1), 0)
    else if sat then (f.signed neg f.maxMag, fNV) else (f.canonNaN, fNV)
  | .fin neg m e =>
    if m = 0 then (f.signed neg 0, 0)
    else if f.overflows mode m e then
      if sat || mode = .rtz then (f.signed neg f.maxMag, fOF ||| fNX)
      else if f.top = .ieee then (f.signed neg (f.maxMag + 1), fOF ||| fNX)
      else (f.canonNaN, fOF ||| fNX)
    else
      let r := f.roundMag mode u m e
      (f.signed neg r.1, if r.2 then (if r.1 < 2 ^ f.mb then fUF ||| fNX else fNX) else 0)

/-- Rounds a BS element (R82, R83): saturates with NX, raises UF only where a non-zero value becomes zero. -/
def FFmt.roundBS (f : FFmt) (mode : Rnd) (u : Nat) : Val → Nat × Flg
  | .fin neg m e =>
    if m = 0 then (f.signed neg 0, 0)
    else
      let r := f.roundMag mode u m e
      if f.maxMag < r.1 then (f.signed neg f.maxMag, fNX)
      else if geScaled m e (f.maxMag % 2 ^ f.mb + 2 ^ f.mb) ((f.maxMag / 2 ^ f.mb : Nat) - (f.bias : Int) - f.mb)
          && r.2 then (f.signed neg f.maxMag, fNX)
      else (f.signed neg r.1, if r.2 then (if r.1 = 0 then fUF ||| fNX else fNX) else 0)
  | _ => (0, 0)

/-- The largest magnitude of an n-bit integer of a sign. -/
def intMax (n : Nat) (neg : Bool) : Nat := if neg then 2 ^ (n - 1) else 2 ^ (n - 1) - 1

/-- The exact magnitude m × 2^e overflows an n-bit integer (R87): at least the largest magnitude and a half under RNE, above the
largest magnitude under RTZ and SR. -/
def intOverflows (n : Nat) (mode : Rnd) (neg : Bool) (m : Nat) (e : Int) : Bool :=
  match mode with
  | .rne => geScaled m e (2 * intMax n neg + 1) (-1)
  | _ => !geScaled (intMax n neg) 0 m e

/-- A value converted to an n-bit integer (R85, R87, R89, Tables 4-5 to 4-7): the end of the range with NV on overflow, else rounded; UF
where a non-zero value becomes zero. -/
def roundInt (n : Nat) (mode : Rnd) (u : Nat) : Val → Nat × Flg
  | .nan _ => (0, fNV)
  | .inf neg => (intMax n neg, fNV)
  | .fin neg m e =>
    if intOverflows n mode neg m e then (intMax n neg, fNV)
    else
      let r := roundAt mode u m e 0
      (if neg then (2 ^ n - r.1) % 2 ^ n else r.1, if r.2 then (if r.1 = 0 then fUF ||| fNX else fNX) else 0)

/-- An n-bit integer as an exact value. -/
def intVal (n b : Nat) : Val :=
  let v := sext n b
  .fin (decide (v < 0)) v.natAbs 0

/-- NV where a NaN operand signals. -/
def nvOf : Val → Flg
  | .nan true => fNV
  | _ => 0

def Val.isNaN : Val → Bool
  | .nan _ => true
  | _ => false

def Val.isInf : Val → Bool
  | .inf _ => true
  | _ => false

def Val.isZero : Val → Bool
  | .fin _ 0 _ => true
  | _ => false

def Val.neg : Val → Bool
  | .inf n => n
  | .fin n _ _ => n
  | .nan _ => false

/-- The value negated. -/
def Val.negate : Val → Val
  | .nan s => .nan s
  | .inf n => .inf (!n)
  | .fin n m e => .fin (!n) m e

/-- The exact product; ∞ × 0 is a NaN with NV. A NaN operand raises NV where it signals. -/
def vmul (a b : Val) : Val × Flg :=
  match a, b with
  | .nan _, _ => (.nan false, nvOf a ||| nvOf b)
  | _, .nan _ => (.nan false, nvOf a ||| nvOf b)
  | .inf n, .inf n' => (.inf (n != n'), 0)
  | .inf n, .fin n' m _ => if m = 0 then (.nan false, fNV) else (.inf (n != n'), 0)
  | .fin n m _, .inf n' => if m = 0 then (.nan false, fNV) else (.inf (n != n'), 0)
  | .fin n m e, .fin n' m' e' => (.fin (n != n') (m * m') (e + e'), 0)

/-- The exact sum of two finite values: a zero sum is −0 only if both are −0 (R93, IEEE 754 under RNE). -/
def addFin (n : Bool) (m : Nat) (e : Int) (n' : Bool) (m' : Nat) (e' : Int) : Val :=
  if m = 0 ∧ m' = 0 then .fin (n && n') 0 0
  else if m = 0 then .fin n' m' e'
  else if m' = 0 then .fin n m e
  else
    let q := min e e'
    let a : Int := m * 2 ^ (e - q).toNat
    let b : Int := m' * 2 ^ (e' - q).toNat
    let s : Int := (if n then -a else a) + (if n' then -b else b)
    .fin (decide (s < 0)) s.natAbs q

/-- The exact sum; ∞ − ∞ is a NaN with NV. -/
def vadd (a b : Val) : Val × Flg :=
  match a, b with
  | .nan _, _ => (.nan false, nvOf a ||| nvOf b)
  | _, .nan _ => (.nan false, nvOf a ||| nvOf b)
  | .inf n, .inf n' => if n = n' then (.inf n, 0) else (.nan false, fNV)
  | .inf n, .fin _ _ _ => (.inf n, 0)
  | .fin _ _ _, .inf n' => (.inf n', 0)
  | .fin n m e, .fin n' m' e' => (addFin n m e n' m' e', 0)

/-- The value of an FP32 word. -/
def f32 (w : Word) : Val := ffFP32.decode w.toNat

/-- A result rounded once to FP32 by RNE. -/
def rnd32 (r : Val × Flg) : Word × Flg :=
  let q := ffFP32.round .rne 0 false r.1
  (w32 q.1, r.2 ||| q.2)

/-- FADD (Table 3-5). -/
def fAdd (a b : Word) : Word × Flg := rnd32 (vadd (f32 a) (f32 b))

/-- FSUB (Table 3-5). -/
def fSub (a b : Word) : Word × Flg := rnd32 (vadd (f32 a) (f32 b).negate)

/-- FMUL (Table 3-5). -/
def fMul (a b : Word) : Word × Flg := rnd32 (vmul (f32 a) (f32 b))

/-- FMA: a × b + c rounded once; 0 × ∞ gives the canonical NaN and NV whatever the addend (Table 3-5). -/
def fMa (a b c : Word) : Word × Flg :=
  let p := vmul (f32 a) (f32 b)
  let r := vadd p.1 (f32 c)
  rnd32 (r.1, p.2 ||| r.2)

/-- The FP32 canonical NaN. -/
def nan32 : Word := 0x7FC00000

def isNaN32 (w : Word) : Bool := (f32 w).isNaN

/-- Order of non-NaN FP32 words as an integer key; −0 and +0 share a key. -/
def key32 (w : Word) : Int :=
  let mag : Int := (w.toNat % 2 ^ 31 : Nat)
  if w.toNat < 2 ^ 31 then mag else -mag

/-- `a` comes before `b` with −0 below +0 (R50). -/
def before32 (a b : Word) : Bool :=
  decide (key32 a < key32 b) || (decide (key32 a = key32 b) && decide (2 ^ 31 ≤ a.toNat))

/-- FMIN (R50). -/
def fMin (a b : Word) : Word × Flg :=
  let fl := nvOf (f32 a) ||| nvOf (f32 b)
  if isNaN32 a then (if isNaN32 b then nan32 else b, fl)
  else if isNaN32 b then (a, fl)
  else (if before32 a b then a else b, 0)

/-- FMAX (R50). -/
def fMax (a b : Word) : Word × Flg :=
  let fl := nvOf (f32 a) ||| nvOf (f32 b)
  if isNaN32 a then (if isNaN32 b then nan32 else b, fl)
  else if isNaN32 b then (a, fl)
  else (if before32 a b then b else a, 0)

/-- FCMP: 0 with a NaN operand, NV for a signalling one (R50). -/
def fCmp (p : Int → Int → Bool) (a b : Word) : Bool × Flg :=
  if isNaN32 a || isNaN32 b then (false, nvOf (f32 a) ||| nvOf (f32 b)) else (p (key32 a) (key32 b), 0)

/-- FABS changes only the sign bit (R50). -/
def fAbs (a : Word) : Word := a &&& 0x7FFFFFFF

/-- FNEG changes only the sign bit (R50). -/
def fNeg (a : Word) : Word := a ^^^ 0x80000000

/-- DIV and DIVU with a zero divisor give all ones (Table 3-4). -/
def iDiv (a b : Word) : Word := if b = 0 then 0xFFFFFFFF else BitVec.sdiv a b

def iDivu (a b : Word) : Word := if b = 0 then 0xFFFFFFFF else a / b

/-- REM and REMU with a zero divisor give the dividend (Table 3-4). -/
def iRem (a b : Word) : Word := if b = 0 then a else BitVec.srem a b

def iRemu (a b : Word) : Word := if b = 0 then a else a % b

/-- The high 32 bits of the signed product. -/
def iMulh (a b : Word) : Word := BitVec.ofInt 32 ((a.toInt * b.toInt) / (2 ^ 32 : Int))

/-- The high 32 bits of the unsigned product. -/
def iMulhu (a b : Word) : Word := w32 (a.toNat * b.toNat / 2 ^ 32)

/-- Shifts take their count modulo 32 (R50). -/
def iShl (a b : Word) : Word := a <<< (b.toNat % 32)

def iShr (a b : Word) : Word := a >>> (b.toNat % 32)

def iSra (a b : Word) : Word := BitVec.sshiftRight a (b.toNat % 32)

/-- SLT and SLTU write 1 or 0. -/
def iSlt (a b : Word) : Word := if a.toInt < b.toInt then 1 else 0

def iSltu (a b : Word) : Word := if a.toNat < b.toNat then 1 else 0

end Sys2Proof.Machine
end

