-- ==== Sys2Proof/Machine/Sparse.lean ====
section
/-!
DEFINITION. Reading and writing the sparse stores of the state (registers, buffers, memories, tables).
-/
namespace Sys2Proof

/-- The value at index `k`, or `d` where the store lists none. -/
def Sparse.get {α : Type} (d : α) : Sparse α → Nat → α
  | [], _ => d
  | (i, v) :: m, k => if k = i then v else Sparse.get d m k

/-- Removes the entry of index `k`. -/
def Sparse.del {α : Type} : Sparse α → Nat → Sparse α
  | [], _ => []
  | (i, v) :: m, k => if k = i then Sparse.del m k else (i, v) :: Sparse.del m k

/-- Lists value `v` at index `k`. -/
def Sparse.put {α : Type} : Sparse α → Nat → α → Sparse α
  | [], k, v => [(k, v)]
  | (i, w) :: m, k, v =>
    if k = i then (k, v) :: m else if k < i then (k, v) :: (i, w) :: m else (i, w) :: Sparse.put m k v

/-- Writes `v` at index `k` and keeps the canonical form: the default `d` is never listed. -/
def Sparse.set {α : Type} [DecidableEq α] (d : α) (m : Sparse α) (k : Nat) (v : α) : Sparse α :=
  if v = d then Sparse.del m k else Sparse.put m k v

/-- The indexes of the store are above `lo`, rise strictly, and list no default. -/
def Sparse.wfFrom {α : Type} [DecidableEq α] (d : α) : Nat → Sparse α → Bool
  | _, [] => true
  | lo, (i, v) :: m => decide (lo ≤ i) && decide (v ≠ d) && Sparse.wfFrom d (i + 1) m

/-- The canonical form: strictly rising indexes, no default listed. -/
def Sparse.wf {α : Type} [DecidableEq α] (d : α) (m : Sparse α) : Bool := Sparse.wfFrom d 0 m

/-- Writes a run of values from index `k` up. -/
def Sparse.setRun {α : Type} [DecidableEq α] (d : α) : Sparse α → Nat → List α → Sparse α
  | m, _, [] => m
  | m, k, v :: vs => Sparse.setRun d (Sparse.set d m k v) (k + 1) vs

/-- Reads `n` values from index `k` up. -/
def Sparse.getRun {α : Type} (d : α) (m : Sparse α) (k n : Nat) : List α :=
  (List.range n).map fun i => Sparse.get d m (k + i)

/-- Changes the value at index `k`. -/
def Sparse.upd {α : Type} (d : α) (m : Sparse α) (k : Nat) (f : α → α) : Sparse α :=
  Sparse.put m k (f (Sparse.get d m k))

end Sys2Proof
end

