-- ==== Sys2Proof/Machine/TileState.lean ====
section
/-!
DEFINITION. The state of one tile: scalar core, queues, tile store, handles, matrix engine, vector engine, sync
flags, message ring, feeds and exchange tables (chapters 03, 05 to 09).
-/
namespace Sys2Proof.Machine

/-- TILE.STATUS.STATE (Table 3-15). -/
inductive TileSt where
  | idle | run | wait | done | stopped
  deriving DecidableEq, Repr

/-- What a sleeping or stalled core waits for (R177, R46, R117). -/
inductive Sleep where
  | none
  | flag (n : Nat)
  | granted (n cyc : Nat)
  | barrier
  | recv (rd : BitVec 5)
  | ending
  | mqApply (v : Word)
  deriving DecidableEq, Repr

/-- An entry of an engine queue: the instruction, bits [15:8] of its ENQ's address (R47), and whether its
WFLAG wait has been granted (R172). -/
structure QEnt where
  word : Dword
  pchi : Byte
  granted : Bool
  deriving DecidableEq, Repr

/-- The error state of a stored word: none, a single-bit error, an uncorrectable error (R59). In the memory tiers `ue1` is
one whose first retry has failed, `path` an uncorrectable error that arose on the read path, and `path1` one of those whose first
retry has failed (R208). -/
inductive Ecc where
  | ok | ce | ue | ue1 | path | path1
  deriving DecidableEq, Repr

/-- A requester of the tile store's banks, in the order of Table 3-9 and R62. -/
inductive BankUser where
  | arrival | handoff | feeder | vector | feed | fetch | access
  deriving DecidableEq, Repr

/-- What a requester asks for in one cycle: the banks, and whether the cycle writes a vector register (R111). -/
structure BankNeed where
  banks : List Nat
  vwrites : Bool
  deriving DecidableEq, Repr

/-- The accesses that a requester has still to make (R62): what it needs in each coming cycle, the cycles that it has lost in a row, and
the scalar registers that wait for it. -/
structure BankReq where
  who : BankUser
  need : List BankNeed
  lost : Nat
  regs : List Nat
  deriving DecidableEq, Repr

/-- A sync flag (R171, R172): the value at the start of the cycle, the value set by hand in it (R179), the increments and the granted
decrement of the cycle, OVF and RSV. -/
structure SFlag where
  val0 : Nat
  hand : Option Nat
  inc : Nat
  dec : Nat
  ovf : Bool
  rsv : Bool
  deriving DecidableEq, Repr

/-- A slot tag of the A- or B-buffer (R100). -/
structure Tag where
  valid : Bool
  mir : Bool
  fmt : Nat
  deriving DecidableEq, Repr

/-- The state of a C-block (R101). -/
inductive CSt where
  | empty | fp32 | int32
  deriving DecidableEq, Repr

/-- An MLD in the feeder (R105): the block it carries to its slots at `due`. -/
structure MldFly where
  due : Nat
  buf : Bool
  slot : Nat
  nslots : Nat
  tag : Tag
  data : List Byte
  pz : List Bool
  sflag : Nat
  deriving DecidableEq, Repr

/-- An issued MMA that has not completed (R108): last compute cycle + 1, completion, the slots it reads. -/
structure MmaFly where
  busyEnd : Nat
  due : Nat
  cb : Nat
  a0 : Nat
  a1 : Nat
  bb0 : Nat
  bb1 : Nat
  sflag : Nat
  deriving DecidableEq, Repr

/-- A SLICE in the handoff unit (R111): the end of its reading, its completion, the vector registers it writes (R112). -/
structure SliceFly where
  readEnd : Nat
  due : Nat
  cb : Nat
  vregs : List Nat
  sflag : Nat
  deriving DecidableEq, Repr

/-- The matrix engine's state (R99 to R101, R114, R120); it may issue again from cycle `next` on (R113), and its last issue was from the
B-queue where `lastB`. `landed`: the SLICEs that have completed and whose SFLAG the vector engine has not waited on (R112). -/
structure MxEng where
  abuf : Sparse Byte
  bbuf : Sparse Byte
  apz : Sparse Bool
  bpz : Sparse Bool
  atag : Sparse Tag
  btag : Sparse Tag
  acc : Sparse Word
  accPz : Sparse Bool
  cst : Sparse CSt
  mqmode : Word
  flags : BitVec 6
  turn : Bool
  mld : Option MldFly
  mmas : List MmaFly
  slices : List SliceFly
  landed : List (List Nat × Nat)
  next : Nat
  lastB : Bool
  deriving DecidableEq, Repr

/-- A stream slot (R126). -/
structure StreamSlot where
  valid : Bool
  h : Nat
  off : Nat
  deriving DecidableEq, Repr

/-- A random context (R142). -/
structure RngCtx where
  stream : Nat
  base : Nat
  deriving DecidableEq, Repr

/-- What a vector instruction reads and writes (R133): registers and handles; and what it writes element by element, register elements
and runs of a handle (its word, the element width in half-bytes, the first element, the number). -/
structure VUse where
  rregs : List Nat
  wregs : List Nat
  rhnd : List Nat
  whnd : List Nat
  wels : List Nat
  wruns : List (Nat × Nat × Nat × Nat)
  deriving DecidableEq, Repr

/-- A vector instruction that has not completed (R132, R133): the end of its occupation, its completion, what it reads and writes. -/
structure VFly where
  busyEnd : Nat
  due : Nat
  sflag : Nat
  use : VUse
  deriving DecidableEq, Repr

/-- The vector engine's state (R123, R126, R135, R138, R142, R146). `und`: the register elements that R112 leaves undefined: 1 until the
engine has waited on the SLICE's SFLAG, 2 until the element is written again outside a SLICE's time. -/
structure VxEng where
  vreg : Sparse Word
  vpz : Sparse Bool
  und : Sparse Nat
  slots : Sparse StreamSlot
  kc : Sparse Word
  kpz : Sparse Bool
  ctx : Sparse RngCtx
  seed : Dword
  prism : Sparse Dword
  flags : BitVec 6
  fly : List VFly
  deriving DecidableEq, Repr

/-- An entry of the NACK queue (Table 8-12). -/
structure Nack where
  code : Nat
  tag : Nat
  dest : Nat
  deriving DecidableEq, Repr

/-- The message ring and the send side (R193, R196, R201). `lent`: the record at RD has been returned to the program and not yet
released (R199). -/
structure MsgRing where
  present : Bool
  opened : Bool
  epoch : Nat
  size : Nat
  rh : Nat
  wr : Nat
  rd : Nat
  lent : Bool
  nack : List Nack
  novf : Nat
  outst : Nat
  deriving DecidableEq, Repr

/-- A barrier arrival on its way (R182): `bad` is the mismatch mark of R183, `at'` the arrival cycle, `taken`
whether the L1 node has it. -/
structure Arrival where
  xpn : Nat
  level : Nat
  rop : Nat
  rd : BitVec 5
  val : Word
  idx : Word
  pzVal : Bool
  pzIdx : Bool
  bad : Bool
  at' : Nat
  taken : Bool
  deriving DecidableEq, Repr

/-- A feed in flight (R227): its number, user, device address, direction, tile-store address, bytes, SFLAG. -/
structure FeedFly where
  id : Nat
  sid : Nat
  daddr : Nat
  out : Bool
  ts : Nat
  len : Nat
  sflag : Nat
  deriving DecidableEq, Repr

/-- A feed descriptor (Table 9-8) as the engine has read it: user, device address, direction, handle, tile-store address, bytes. -/
structure FeedDesc where
  sid : Nat
  daddr : Nat
  out : Bool
  h : Nat
  ts : Nat
  len : Nat
  deriving DecidableEq, Repr

/-- A WREL that has left the queue and has not taken effect (R233): the feeds it follows. -/
structure WrelFly where
  win : Nat
  sflag : Nat
  after : List Nat
  deriving DecidableEq, Repr

/-- One tile. `fdesc`: the descriptor of the FEED at the head of the D-queue, once it has been read and has passed its checks (R226). -/
structure Tile where
  regs : Sparse Word
  rpz : Sparse Bool
  pc : Word
  issueAt : Nat
  ready : Sparse Nat
  sleep : Sleep
  st : TileSt
  taint : Bool
  errCode : Byte
  errPc : Byte
  fpflags : BitVec 5
  vtile : Nat
  rows : Nat
  cols : Nat
  ssn : Nat
  ssnHold : Option Word
  codelim : Nat
  hnd : Sparse Dword
  phys : Nat
  half : Bool
  qf : List QEnt
  qb : List QEnt
  qv : List QEnt
  qd : List QEnt
  store : Sparse Byte
  spz : Sparse Bool
  ecc : Sparse Ecc
  cnt : Sparse Word
  mx : MxEng
  vx : VxEng
  sf : Sparse SFlag
  ring : MsgRing
  arr : Option Arrival
  banks : List BankReq
  fdesc : Option FeedDesc
  feeds : List FeedFly
  feedNo : Nat
  wrels : List WrelFly
  xdir : Sparse Dword
  xent : Sparse Nat
  reports : List Nat
  deriving DecidableEq, Repr

/-- A flag at rest with value 0. -/
def SFlag.zero : SFlag := ⟨0, none, 0, 0, false, false⟩

/-- The matrix engine at reset: TILE.MQ_MODE holds B_SPLIT = 32, A_SPLIT = 16, C_SPLIT = 16 (Table 5-14). -/
def MxEng.reset : MxEng where
  abuf := []
  bbuf := []
  apz := []
  bpz := []
  atag := []
  btag := []
  acc := []
  accPz := []
  cst := []
  mqmode := 0x20101000
  flags := 0
  turn := false
  mld := none
  mmas := []
  slices := []
  landed := []
  next := 0
  lastB := false

/-- The vector engine at reset. -/
def VxEng.reset : VxEng where
  vreg := []
  vpz := []
  und := []
  slots := []
  kc := []
  kpz := []
  ctx := []
  seed := 0
  prism := []
  flags := 0
  fly := []

/-- The ring at reset: none configured (Table 8-11). -/
def MsgRing.reset : MsgRing := ⟨false, false, 0, 0, 0, 0, 0, false, [], 0, 0⟩

/-- A tile after a module reset: IDLE, no image, every register at its reset value (Tables 3-13 to 3-16; log entry 6). -/
def Tile.reset : Tile where
  regs := []
  rpz := []
  pc := 0
  issueAt := 0
  ready := []
  sleep := .none
  st := .idle
  taint := false
  errCode := 0
  errPc := 0
  fpflags := 0
  vtile := 0
  rows := 0
  cols := 0
  ssn := 0
  ssnHold := none
  codelim := 0
  hnd := []
  phys := 0
  half := false
  qf := []
  qb := []
  qv := []
  qd := []
  store := []
  spz := []
  ecc := []
  cnt := []
  mx := MxEng.reset
  vx := VxEng.reset
  sf := []
  ring := MsgRing.reset
  arr := none
  banks := []
  fdesc := none
  feeds := []
  feedNo := 0
  wrels := []
  xdir := []
  xent := []
  reports := []

end Sys2Proof.Machine
end

