-- ==== Sys2Proof/Machine/Ops.lean ====
section
/-!
DEFINITION. The named operations on one tile: scalar registers, counters, error reports, reads and writes of the tile
store with their check bits and poison (R59, R60), stopping (R47), taint (R52).
-/
namespace Sys2Proof.Machine

/-- s[n]: s0 reads as zero (R48). -/
def Tile.reg (x : Tile) (n : Nat) : Word := if n = 0 then 0 else Sparse.get 0 x.regs n

/-- The poison bit of s[n]; s0 has none (R48). -/
def Tile.regPz (x : Tile) (n : Nat) : Bool := if n = 0 then false else Sparse.get false x.rpz n

/-- Writes s[n] and its poison bit; a write to s0 is ignored (R48). -/
def Tile.setReg (x : Tile) (n : Nat) (v : Word) (pz : Bool) : Tile :=
  if n = 0 then x else { x with regs := Sparse.set 0 x.regs n v, rpz := Sparse.set false x.rpz n pz }

/-- The cycle from which s[n] can be used (R49). -/
def Tile.setReady (x : Tile) (n c : Nat) : Tile :=
  if n = 0 then x else { x with ready := Sparse.set 0 x.ready n c }

/-- `v + n`, held at 2^32 − 1 (the saturating RC counters). -/
def sat32 (v : Word) (n : Nat) : Word := w32 (satN 32 (v.toNat + n))

/-- Adds `n` to the tile counter at register offset `off`. -/
def Tile.bump (x : Tile) (off n : Nat) : Tile :=
  { x with cnt := Sparse.set 0 x.cnt off (sat32 (Sparse.get 0 x.cnt off) n) }

/-- The tile reports a ledger code to its group's error summary (R41, R404). -/
def Tile.report (x : Tile) (code : Nat) : Tile := { x with reports := x.reports ++ [code] }

/-- The key of word `w` of a store: 0 tile store, 1 A-buffer, 2 B-buffer, 3 accumulators, 4 vector registers. -/
def eccKey (region w : Nat) : Nat := region * 65536 + w

/-- A read of a checked word (R59): a single-bit error is corrected and counted, an uncorrectable one sets the word's
poison (`mark`), is counted and reported. -/
def Tile.check (x : Tile) (region w : Nat) (mark : Tile → Tile) : Tile :=
  match Sparse.get Ecc.ok x.ecc (eccKey region w) with
  | .ok => x
  | .ce => Tile.bump { x with ecc := Sparse.set Ecc.ok x.ecc (eccKey region w) .ok } 0x810 1
  | _ =>
    Tile.report (Tile.bump (mark { x with ecc := Sparse.set Ecc.ok x.ecc (eccKey region w) .ok }) 0x814 1) 0x0102

/-- The poison bit of word `w` of the tile store. -/
def Tile.wordPz (x : Tile) (w : Nat) : Bool := Sparse.get false x.spz w

/-- Sets the poison bit of word `w` of the tile store. -/
def Tile.setWordPz (x : Tile) (w : Nat) (pz : Bool) : Tile := { x with spz := Sparse.set false x.spz w pz }

/-- The read inside a partial write: checks word `w` and delivers nothing (R59). -/
def Tile.checkWord (x : Tile) (w : Nat) : Tile := x.check 0 w (fun y => y.setWordPz w true)

/-- A read of word `w` that delivers it: a delivery of a poisoned word is counted (R59). -/
def Tile.touchWord (x : Tile) (w : Nat) : Tile :=
  let y := x.checkWord w
  if y.wordPz w then y.bump 0x818 1 else y

/-- The 64-bit words that bytes a to a + n − 1 touch. -/
def wordsOf (a n : Nat) : List Nat :=
  if n = 0 then [] else (List.range ((a + n - 1) / 8 - a / 8 + 1)).map (a / 8 + ·)

/-- A read of n bytes from address a: every word it touches is read. -/
def Tile.touch (x : Tile) (a n : Nat) : Tile := (wordsOf a n).foldl Tile.touchWord x

/-- The bytes from address a. -/
def Tile.bytes (x : Tile) (a n : Nat) : List Byte := Sparse.getRun 0 x.store a n

/-- A word that bytes a to a + n − 1 touch is poisoned. -/
def Tile.anyPz (x : Tile) (a n : Nat) : Bool := (wordsOf a n).any x.wordPz

/-- The poison of a write to word `w`: a whole word takes the value's; a partial write reads the word first and keeps or
adds poison (R60). -/
def Tile.writePz (a n : Nat) (pz : Bool) (x : Tile) (w : Nat) : Tile :=
  if a ≤ 8 * w ∧ 8 * w + 8 ≤ a + n then
    ({ x with ecc := Sparse.set Ecc.ok x.ecc (eccKey 0 w) .ok } : Tile).setWordPz w pz
  else
    let y := x.checkWord w
    y.setWordPz w (y.wordPz w || pz)

/-- Writes bytes at address a with one poison mark (R60). -/
def Tile.write (x : Tile) (a : Nat) (bs : List Byte) (pz : Bool) : Tile :=
  let y := (wordsOf a bs.length).foldl (Tile.writePz a bs.length pz) x
  { y with store := Sparse.setRun 0 y.store a bs }

/-- The bank of a tile-store address (Table 3-8). -/
def bankOf (a : Nat) : Nat := 4 * fld a 18 16 + fld a 5 4

/-- The banks that bytes a to a + n − 1 lie in. -/
def banksOf (a n : Nat) : List Nat :=
  if n = 0 then [] else ((List.range ((a + n - 1) / 16 - a / 16 + 1)).map fun i => bankOf (a + 16 * i)).eraseDups

/-- The four banks of a quad (R58). -/
def quadBanks (k : Nat) : List Nat := (List.range 4).map (4 * k + ·)

/-- The needs of a run of n bytes from address a, `per` bytes a cycle. -/
def runNeeds (a n per : Nat) : List BankNeed := (List.range (ceilDiv n per)).map fun i => ⟨banksOf (a + per * i) (min per (n - per * i)), false⟩

/-- Requester u asks for its banks from this cycle on (R62); `regs` are the scalar registers that wait for the access. -/
def Tile.ask (x : Tile) (u : BankUser) (need : List BankNeed) (regs : List Nat) : Tile :=
  if need.isEmpty then x else { x with banks := x.banks ++ [⟨u, need, 0, regs⟩] }

/-- The requesters that bid for banks in this cycle: every exchange access, and the first access of each other requester. -/
def Tile.bidders (x : Tile) : List BankReq :=
  x.banks.filter (fun r => r.who == .arrival) ++
    [BankUser.handoff, .feeder, .vector, .feed, .fetch, .access].filterMap fun u => x.banks.find? fun r => r.who == u

/-- What a requester needs in this cycle. -/
def BankReq.now (r : BankReq) : BankNeed := r.need.headD ⟨[], false⟩

/-- A requester claims bank b in this cycle. -/
def Tile.claimed (x : Tile) (b : Nat) : Bool := x.bidders.any fun r => r.now.banks.contains b

/-- The tile enters the tainted state and reports POISON_CTRL once (R52). -/
def Tile.mark (x : Tile) : Tile := if x.taint then x else Tile.report { x with taint := true } 0x0104

/-- A value in control position: a poisoned one taints the tile (R52). It raises no FPFLAGS.PZ (log entry 74): the poison flag of a scalar
operation (R50) is of an operation that computes a result. -/
def Tile.ctrl (x : Tile) (pz : Bool) : Tile := if pz then x.mark else x

/-- Items 1 to 5 of R47 without the code: the queues are discarded, the ring closes, the tile is STOPPED. DESIGN CHOICE
(log entry 89): at a halt a tile that is DONE stays so. -/
def Tile.halt (x : Tile) : Tile :=
  match x.st with
  | .idle => x
  | .done => x
  | .stopped => x
  | _ =>
    { x with st := .stopped, sleep := .none, qf := [], qb := [], qv := [], qd := [], fdesc := none,
             ring := { x.ring with opened := false } }

/-- The tile stops under a condition of Table 3-1 met by the instruction whose address has bits [15:8] = `hi` (R47); only
the first condition is recorded. -/
def Tile.stopAt (x : Tile) (code : Byte) (hi : Byte) : Tile :=
  match x.st with
  | .idle => x
  | .done => x
  | .stopped => x
  | _ => Tile.report { x.halt with errCode := code, errPc := hi } (if code = 3 then 0x0103 else 0x0101)

/-- Bits [15:8] of the program counter. -/
def Tile.pcHi (x : Tile) : Byte := BitVec.ofNat 8 (x.pc.toNat / 256)

/-- A stop that the scalar core detects at its own instruction. -/
def Tile.stop (x : Tile) (code : Byte) : Tile := x.stopAt code x.pcHi

/-- Table 3-1. -/
def cILLEGAL : Byte := 1
def cFETCH : Byte := 2
def cCODEUE : Byte := 3
def cHINVALID : Byte := 4
def cHBOUNDS : Byte := 5
def cHWP : Byte := 6
def cMISALIGN : Byte := 7
def cDESC : Byte := 8
def cSFRANGE : Byte := 9

/-- An instruction is done at cycle `cc`: the program counter advances and the core can issue again in `cc + 1` (R49). -/
def Tile.advance (x : Tile) (cc : Nat) : Tile := { x with pc := x.pc + 4, issueAt := cc + 1 }

/-- A taken branch: the target, and two further cycles (Table 3-3). -/
def Tile.jump (x : Tile) (cc : Nat) (target : Word) : Tile := { x with pc := target, issueAt := cc + 3 }

/-- Writes the result of an instruction of latency `lat` issued at `cc`, and advances (R49). -/
def Tile.retire (x : Tile) (cc : Nat) (rd : Nat) (v : Word) (pz : Bool) (lat : Nat) : Tile :=
  ((x.setReg rd v pz).setReady rd (cc + lat)).advance cc

/-- The source registers are ready at cycle `cc` (R49). -/
def Tile.srcReady (x : Tile) (cc : Nat) (rs : List Nat) : Bool :=
  rs.all fun n => n = 0 || decide (Sparse.get 0 x.ready n ≤ cc)

end Sys2Proof.Machine
end

