-- ==== Sys2Proof/Machine/Flags.lean ====
section
/-!
DEFINITION. Flag computations: TILE.FPFLAGS (Table 3-14), the engines' sticky flags (Table 4-6), and the sync flags
(R171 to R175, R179).
-/
namespace Sys2Proof.Machine

/-- The scalar flags of an operation: only PZ with a poisoned operand (Tables 3-4 and 3-5). -/
def Tile.addFp (x : Tile) (fl : Flg) (pz : Bool) : Tile :=
  { x with fpflags := x.fpflags ||| (if pz then 0x10 else fl.setWidth 5) }

/-- The vector engine's sticky flags (R146). -/
def Tile.addVx (x : Tile) (fl : Flg) : Tile := { x with vx := { x.vx with flags := x.vx.flags ||| fl } }

/-- The matrix engine's sticky flags (R120). -/
def Tile.addMx (x : Tile) (fl : Flg) : Tile := { x with mx := { x.mx with flags := x.mx.flags ||| fl } }

/-- Sync flag n. -/
def Tile.sflag (x : Tile) (n : Nat) : SFlag := Sparse.get SFlag.zero x.sf n

/-- Writes sync flag n. -/
def Tile.setSflag (x : Tile) (n : Nat) (f : SFlag) : Tile := { x with sf := Sparse.set SFlag.zero x.sf n f }

/-- An increment of flag n in this cycle, by whoever may (R172). -/
def Tile.incFlag (x : Tile) (n : Nat) : Tile := x.setSflag n { x.sflag n with inc := (x.sflag n).inc + 1 }

/-- A signal of the program: 0x3F names none, SF44 to SF47 only set RSV and report its rise (R172, R175). -/
def Tile.signal (x : Tile) (n : Nat) : Tile :=
  if 48 ≤ n then x
  else if 44 ≤ n then
    let y := x.setSflag n { x.sflag n with rsv := true }
    if (x.sflag n).rsv then y else y.report 0x0106
  else x.incFlag n

/-- A decrement of flag n can be granted in this cycle: the value at its start is at least 1 and none is granted
(R172). -/
def Tile.grantable (x : Tile) (n : Nat) : Bool := decide (1 ≤ (x.sflag n).val0) && decide ((x.sflag n).dec = 0)

/-- Grants the decrement of this cycle. -/
def Tile.takeFlag (x : Tile) (n : Nat) : Tile := x.setSflag n { x.sflag n with dec := 1 }

/-- The flag at the end of the cycle: v + i − d, held at 255 with OVF (R172); a hand setting stands in for v, and the result is never
below 0 (R179). -/
def SFlag.settle (f : SFlag) : SFlag :=
  let v := f.hand.getD f.val0 + f.inc - f.dec
  { f with val0 := min v 255, hand := none, inc := 0, dec := 0, ovf := f.ovf || decide (255 < v) }

/-- The end of a cycle at one flag: SYNCF_OVF is reported when OVF rises (R172). -/
def Tile.settleFlag (x : Tile) (n : Nat) : Tile :=
  let f := x.sflag n
  let y := x.setSflag n f.settle
  if f.settle.ovf && !f.ovf then y.report 0x0105 else y

/-- The end of a cycle at every flag of a tile. -/
def Tile.settle (x : Tile) : Tile := (x.sf.map (·.1)).foldl Tile.settleFlag x

/-- A hand setting: the increments and the granted decrement of the cycle are applied after it (R179). -/
def Tile.handSet (x : Tile) (n v : Nat) : Tile := x.setSflag n { x.sflag n with hand := some v }

/-- TILE.SYNCF[n] (Table 8-11). -/
def SFlag.word (f : SFlag) : Word := w32 (f.val0 + at' (b2n f.ovf) 8 + at' (b2n f.rsv) 9)

end Sys2Proof.Machine
end

