-- ==== Sys2Proof/Machine/Operands.lean ====
section
/-!
DEFINITION. Operand forms: the scalar instruction formats and which words are defined (Tables 3-2a, 8-2, 8-5, R182),
instruction fetch and issue (R47 to R49), handles and the bytes they reach (R64 to R67, R80), the common header of
an engine instruction (R55).
-/
namespace Sys2Proof.Machine

/-- R format (Table 3-2). -/
def encR (opc rd rs1 rs2 func : Nat) : Nat := at' opc 26 + at' rd 21 + at' rs1 16 + at' rs2 11 + func

/-- I format. -/
def encI (opc rd rs1 imm : Nat) : Nat := at' opc 26 + at' rd 21 + at' rs1 16 + imm

/-- M format. -/
def encM (opc rd h rs imm : Nat) : Nat := at' opc 26 + at' rd 21 + at' h 15 + at' rs 10 + imm

/-- The encodings of OPC 0x30 (Table 8-2). -/
def definedSync (w : Nat) : Bool :=
  let op := fld w 10 8
  fld w 7 6 == 0 && fld w 5 0 != 0x3F && fld w 20 11 == 0
    && (op == 2 || ((op == 0 || op == 1) && fld w 25 21 == 0))

/-- The encodings of BAR.ARRIVE (R182). -/
def definedBar (w : Nat) : Bool :=
  let lvl := fld w 10 8
  let rop := fld w 13 11
  let rd := fld w 25 21
  let rs1 := fld w 20 16
  fld w 15 14 == 0 && decide (1 ≤ lvl) && decide (lvl ≤ 5) && (rop != 0 || rd == 0)
    && (decide (rop < 6) || (rd % 2 == 0 && rd != 0 && rs1 % 2 == 0 && rs1 != 0))

/-- The encodings of the message instructions (Table 8-5). -/
def definedMsg (w : Nat) : Bool :=
  match fld w 10 8 with
  | 0 => fld w 7 6 == 0
  | 1 => fld w 20 11 == 0 && fld w 7 0 == 0
  | 2 => fld w 20 11 == 0 && fld w 7 0 == 0
  | 3 => fld w 25 11 == 0 && fld w 7 0 == 0
  | 4 => fld w 25 11 == 0 && fld w 3 2 == 0 && (fld w 1 0 == 2 || (decide (fld w 1 0 < 2) && fld w 7 4 == 0))
  | _ => false

/-- The word is a defined scalar instruction (Table 3-2a); any other stops the program with ILLEGAL_OP (R439). -/
def definedWord (w : Nat) : Bool :=
  let func := fld w 10 0
  match fld w 31 26 with
  | 0x00 => decide (func ≤ 9) || (decide (0x10 ≤ func) && decide (func ≤ 0x12)) || (decide (0x18 ≤ func) && decide (func ≤ 0x1B))
  | 0x01 => decide (func ≤ 5) || (decide (8 ≤ func) && decide (func ≤ 0xA)) || ((func == 0xC || func == 0xD) && fld w 15 11 == 0)
  | 0x04 => true
  | 0x05 => true
  | 0x06 => true
  | 0x07 => true
  | 0x08 => fld w 15 5 == 0
  | 0x09 => fld w 15 5 == 0
  | 0x0A => fld w 15 5 == 0
  | 0x0B => true
  | 0x0C => true
  | 0x0D => fld w 20 16 == 0
  | 0x10 => true
  | 0x11 => true
  | 0x12 => true
  | 0x13 => true
  | 0x14 => true
  | 0x15 => true
  | 0x16 => fld w 25 16 == 0
  | 0x17 => fld w 20 16 == 0
  | 0x18 => fld w 25 21 == 0 && fld w 15 0 == 0
  | 0x20 => true
  | 0x21 => true
  | 0x22 => true
  | 0x23 => true
  | 0x24 => true
  | 0x25 => fld w 21 21 == 0
  | 0x26 => true
  | 0x27 => true
  | 0x28 => true
  | 0x29 => fld w 21 21 == 0
  | 0x2C => fld w 25 21 == 0 && fld w 10 2 == 0
  | 0x2D => fld w 20 16 == 0 && fld w 1 0 == 0 && fld w 15 12 == 0
  | 0x2E => fld w 25 21 == 0 && fld w 1 0 == 0 && fld w 15 12 == 0
  | 0x30 => definedSync w
  | 0x31 => definedBar w
  | 0x32 => definedMsg w
  | 0x3F => w == 0xFC000000
  | _ => false

/-- The scalar register or registers that the instruction `w` writes (Tables 3-2a, 8-2, 8-5). -/
def destsOf (w : Nat) : List Nat :=
  let rd := fld w 25 21
  let opc := fld w 31 26
  if opc = 0x25 then [rd, rd + 1]
  else if opc ≤ 0x0D ∨ opc = 0x17 ∨ (0x20 ≤ opc ∧ opc < 0x25) ∨ opc = 0x2D ∨ (opc = 0x30 ∧ fld w 10 8 = 2)
      ∨ (opc = 0x32 ∧ (fld w 10 8 = 1 ∨ fld w 10 8 = 2)) then [rd]
  else []

/-- The instruction fetch: CODE_FETCH, then CODE_UE (R47); `none` where the program stopped. -/
def Tile.fetch (x : Tile) : Tile × Option Nat :=
  if x.pc.toNat % 4 ≠ 0 ∨ x.codelim ≤ x.pc.toNat then (x.stop cFETCH, none)
  else
    let y := x.touch x.pc.toNat 4
    if y.anyPz x.pc.toNat 4 then (y.stop cCODEUE, none) else (y, some (leNat (y.bytes x.pc.toNat 4)))

/-- Issue of the scalar instruction `word` at cycle `cc` (R49): the core runs, is not stalled, nothing issued in this cycle,
the word at the program counter is that instruction, its sources are ready and it does not stall (`go`); then `f` is its effect, and the
fetch has asked for its bank (R62). An undefined word stops the program with ILLEGAL_OP. In any other case nothing happens (log
entry 3). -/
def Tile.issueWhen (x : Tile) (cc word : Nat) (srcs : List Nat) (go : Tile → Bool) (f : Tile → Tile) : Tile :=
  if x.st ≠ .run ∨ x.sleep ≠ .none ∨ cc < x.issueAt then x
  else
    match x.fetch with
    | (y, none) => y
    | (y, some w) =>
      if !definedWord w then y.stop cILLEGAL
      else if w ≠ word ∨ !x.srcReady cc srcs ∨ !go x then x
      else f (y.ask .fetch [⟨banksOf x.pc.toNat 4, false⟩] (destsOf w))

/-- Issue of an instruction that never stalls by itself (R49). -/
def Tile.issue (x : Tile) (cc word : Nat) (srcs : List Nat) (f : Tile → Tile) : Tile := x.issueWhen cc word srcs (fun _ => true) f

/-- TILE.HND[n]. -/
def Tile.hndOf (x : Tile) (n : Nat) : Nat := (Sparse.get 0 x.hnd n).toNat

/-- The fields of a handle (Table 3-10). -/
def hValid (h : Nat) : Bool := bitAt h 63
def hWp (h : Nat) : Bool := bitAt h 62
def hLayout (h : Nat) : Nat := fld h 61 60
def hFmt (h : Nat) : Nat := fld h 59 56
def hBdim (h : Nat) : Nat := fld h 55 46
def hLen (h : Nat) : Nat := fld h 25 13
def hBase (h : Nat) : Nat := fld h 12 0

/-- The bytes of a record of LEN words (R192). -/
def recordBytes (len : Nat) : Nat := 8 + 8 * ceilDiv len 2

/-- The bytes of ring r. -/
def MsgRing.bytes (r : MsgRing) : Nat := 256 * 2 ^ r.size

/-- The tile-store address of offset o of the tile's ring. -/
def Tile.ringAddr (x : Tile) (o : Nat) : Nat := 64 * hBase (x.hndOf x.ring.rh) + o

/-- Word 0 of the header at the read pointer (Table 8-7). -/
def Tile.ringHead (x : Tile) : Nat := leNat (x.bytes (x.ringAddr x.ring.rd) 4)

/-- Byte a of the tile store lies in the ring and outside the record that the program may read (R199). -/
def Tile.ringHides (x : Tile) (a : Nat) : Bool :=
  x.ring.present && decide (x.ringAddr 0 ≤ a) && decide (a < x.ringAddr x.ring.bytes) &&
    !(x.ring.lent && decide (x.ringAddr x.ring.rd ≤ a) &&
      decide (a < x.ringAddr x.ring.rd + recordBytes (fld x.ringHead 14 12 + 1)))

/-- Byte a of the tile store as the program reads it: a free value in the ring outside the record that it may read (R199; log
entry 9). -/
def Tile.seenByte (x : Tile) (a : Nat) : Byte := if x.ringHides a then Config.freeRing x.issueAt a else Sparse.get 0 x.store a

/-- The bytes from address a as the program reads them. -/
def Tile.seen (x : Tile) (a n : Nat) : List Byte := (List.range n).map fun i => x.seenByte (a + i)

/-- An access of s bytes at byte offset o is in bounds (R65). -/
def hInBounds (h o s : Nat) : Bool := decide (o + s ≤ 64 * hLen h)

/-- The byte offset inside a 32 × 32 block of element (r, c), width `w2` half-bytes (R67). -/
def blockByte (w2 r c : Nat) : Nat :=
  let perG := 32 / w2
  let g := c / perG
  16 * (4 * ((r / 4) * w2 + g) + (r + g) % 4) + (c % perG) * w2 / 2

/-- The tile-store address of element i of a handle in element order, of width `w2` half-bytes (R65, R67, R126). -/
def hElemAddr (h w2 i : Nat) : Nat :=
  if hLayout h = 0 then 64 * hBase h + i * w2 / 2
  else 64 * hBase h + (i / 1024) * (512 * w2) + blockByte w2 (i % 1024 / 32) (i % 32)

/-- The tile-store address of byte offset o of a handle (R65). -/
def hByteAddr (h o : Nat) : Nat :=
  if hLayout h = 0 then 64 * hBase h + o
  else
    let w2 := fmtBits (hFmt h) / 4
    let i := 2 * o / w2
    hElemAddr h w2 i + (2 * o % w2) / 2

/-- Handle n is the scale handle of the handle below it: pairs are formed upward from H0 (R80). -/
def Tile.isScale (x : Tile) : Nat → Bool
  | 0 => false
  | n + 1 => hValid (x.hndOf n) && fmtBS (hFmt (x.hndOf n)) && !x.isScale n

/-- The common header of an engine instruction (Table 3-7). -/
def eOpc (w : Nat) : Nat := fld w 63 56
def eWflag (w : Nat) : Nat := fld w 55 50
def eSflag (w : Nat) : Nat := fld w 49 44

/-- A flag field names SF0 to SF47 or none (R174). -/
def flagOk (n : Nat) : Bool := decide (n < 48) || n == 0x3F

end Sys2Proof.Machine
end

