-- ==== Sys2Proof/Machine/TileRegs.lean ====
section
/-!
DEFINITION. The tile register space (Tables 3-12 to 3-16, 5-13 to 5-16, 6-11 to 6-13, 8-10 to 8-12): what a read returns,
what it does, and what a write of the program does.
-/
namespace Sys2Proof.Machine

/-- TILE.QSTAT (Table 3-16). -/
def Tile.qstat (x : Tile) : Word :=
  w32 (x.qf.length + at' x.qb.length 8 + at' x.qv.length 16 + at' x.qd.length 24)

/-- The state of C-block c. -/
def Tile.cst (x : Tile) (c : Nat) : CSt := Sparse.get CSt.empty x.mx.cst c

/-- TILE.MX_STAT (Table 5-16). -/
def Tile.mxStat (x : Tile) : Word :=
  w32 (((List.range 16).map fun c => at' (b2n (decide (x.cst c = .empty))) c).sum + at' (b2n (!x.mx.mmas.isEmpty)) 22
    + at' (b2n x.mx.mld.isSome) 23 + at' (b2n (!x.mx.slices.isEmpty)) 24 + at' (b2n x.mx.turn) 29)

/-- Stream slot s. -/
def Tile.vslot (x : Tile) (s : Nat) : StreamSlot := Sparse.get ⟨false, 0, 0⟩ x.vx.slots s

/-- Micro-op j of prism program p (R135). -/
def Tile.uop (x : Tile) (p j : Nat) : Nat := (Sparse.get (0 : Dword) x.vx.prism (32 * p + j)).toNat

/-- TILE.VX_STAT (Table 6-13): PVALID where program p holds a micro-op before its END. -/
def Tile.vxStat (x : Tile) : Word :=
  w32 (((List.range 4).map fun s => at' (b2n (x.vslot s).valid) s).sum
    + ((List.range 8).map fun p => at' (b2n (decide (fld (x.uop p 0) 63 58 ≠ 0))) (16 + p)).sum + at' (b2n (!x.vx.fly.isEmpty)) 24)

/-- Random context c as TILE.RNG_CTX[c] shows it (Table 6-13). -/
def Tile.rngCtx (x : Tile) (c : Nat) : RngCtx := Sparse.get ⟨0, 0⟩ x.vx.ctx c

def Tile.rngCtxWord (x : Tile) (c : Nat) : Nat := (x.rngCtx c).base + at' (x.rngCtx c).stream 40

/-- TILE.MR_CFG (Table 8-11). -/
def MsgRing.cfg (r : MsgRing) : Word :=
  w32 (r.rh + at' r.size 8 + at' r.epoch 20 + at' (b2n r.opened) 30 + at' (b2n r.present) 31)

/-- TILE.MSG_STAT (Table 8-12). -/
def MsgRing.stat (r : MsgRing) : Word := w32 (r.outst + at' r.nack.length 8 + at' r.novf 24)

/-- TILE.MSG_NACK: the oldest entry, zero when the queue is empty (Table 8-12). -/
def Nack.word (n : Nack) : Word := w32 (n.dest % 4096 + at' n.tag 12 + at' n.code 28)

def MsgRing.nackWord (r : MsgRing) : Word :=
  match r.nack with
  | [] => 0
  | n :: _ => n.word

/-- The half of a 64-bit value that an offset selects. -/
def halfOf (v : Nat) (high : Bool) : Word := w32 (if high then v / 2 ^ 32 else v)

/-- TILE.SSN_HI holds the high word from a read of TILE.SSN_LO on (Table 3-13). -/
def Tile.ssnHi (x : Tile) : Word := x.ssnHold.getD (w32 (x.ssn / 2 ^ 32))

/-- The offsets that only Vent reads (Tables 3-12, 5-13, 6-11, 8-10). -/
def ventOnly (off : Nat) : Bool :=
  off == 0x018 || off == 0x01C || off == 0x508 || (decide (0x510 ≤ off) && decide (off ≤ 0x51C)) || off == 0x604
    || (decide (0x610 ≤ off) && decide (off ≤ 0x624)) || decide (0x720 ≤ off)

/-- The offset is a counter of the tile: 0x810 to 0x820, 0x510 to 0x51C, 0x620, 0x624, 0x720 to 0x730. -/
def tileCounter (off : Nat) : Bool :=
  off % 4 == 0 && ((decide (0x810 ≤ off) && decide (off ≤ 0x820)) || (decide (0x510 ≤ off) && decide (off ≤ 0x51C))
    || off == 0x620 || off == 0x624 || (decide (0x720 ≤ off) && decide (off ≤ 0x730)))

/-- TILE.STATUS.STATE (Table 3-15). -/
def TileSt.code : TileSt → Nat
  | .idle => 0
  | .run => 1
  | .wait => 2
  | .done => 3
  | .stopped => 4

/-- The content of the tile register at byte offset `off`; reserved offsets read as zero. -/
def Tile.peek (x : Tile) (off : Nat) : Word :=
  if 0x100 ≤ off ∧ off < 0x300 then halfOf (x.hndOf ((off - 0x100) / 8)) (off % 8 == 4)
  else if 0x400 ≤ off ∧ off < 0x4C0 then (x.sflag ((off - 0x400) / 4)).word
  else if tileCounter off then Sparse.get 0 x.cnt off
  else match off with
    | 0x000 => w32 x.vtile
    | 0x004 => w32 (x.cols + at' x.rows 16)
    | 0x008 => w32 x.ssn
    | 0x00C => x.ssnHi
    | 0x010 => x.fpflags.setWidth 32
    | 0x014 => w32 x.codelim
    | 0x018 => w32 (x.errCode.toNat + at' x.errPc.toNat 8)
    | 0x01C => w32 (x.st.code + at' (b2n x.taint) 8)
    | 0x500 => x.mx.mqmode
    | 0x504 => x.mx.flags.setWidth 32
    | 0x508 => x.mxStat
    | 0x600 => x.vx.flags.setWidth 32
    | 0x604 => x.vxStat
    | 0x608 => halfOf x.vx.seed.toNat false
    | 0x60C => halfOf x.vx.seed.toNat true
    | 0x610 => halfOf (x.rngCtxWord 0) false
    | 0x614 => halfOf (x.rngCtxWord 0) true
    | 0x618 => halfOf (x.rngCtxWord 1) false
    | 0x61C => halfOf (x.rngCtxWord 1) true
    | 0x700 => x.ring.cfg
    | 0x704 => w32 x.ring.wr
    | 0x708 => w32 x.ring.rd
    | 0x70C => x.ring.nackWord
    | 0x710 => x.ring.stat
    | 0x800 => w32 x.phys
    | 0x804 => w32 (b2n x.half)
    | 0x808 => x.qstat
    | _ => 0

/-- What a program's read does: SSN_LO holds SSN_HI, SSN_HI lets go, MSG_NACK removes its entry (R12, R69, R201). -/
def Tile.readEffect (x : Tile) (off : Nat) : Tile :=
  match off with
  | 0x008 => { x with ssnHold := some (w32 (x.ssn / 2 ^ 32)) }
  | 0x00C => { x with ssnHold := none }
  | 0x70C => { x with ring := { x.ring with nack := x.ring.nack.drop 1 } }
  | _ => x

/-- The matrix engine is idle and its queues are empty (R117). -/
def Tile.mxDrained (x : Tile) : Bool :=
  x.qf.isEmpty && x.qb.isEmpty && x.mx.mld.isNone && x.mx.mmas.isEmpty && x.mx.slices.isEmpty

/-- The fields of TILE.MQ_MODE (Table 5-14). -/
def mqBsplit (v : Nat) : Nat := fld v 29 24
def mqAsplit (v : Nat) : Nat := fld v 20 16
def mqCsplit (v : Nat) : Nat := fld v 12 8
def mqFirst (v : Nat) : Bool := bitAt v 1
def mqPaired (v : Nat) : Bool := bitAt v 0

/-- The split fields are in range (R117). -/
def mqOk (v : Nat) : Bool := decide (mqAsplit v ≤ 16) && decide (mqBsplit v ≤ 32) && decide (mqCsplit v ≤ 16)

/-- A write of TILE.MQ_MODE takes effect: the writable fields, REJ cleared by a 1, the turn to FIRST (R117). -/
def Tile.applyMq (x : Tile) (v : Word) : Tile :=
  let rej := x.mx.mqmode &&& 0x80000000
  let keep := if bitAt v.toNat 31 then 0 else rej
  { x with mx := { x.mx with mqmode := (v &&& 0x3F1F1F03) ||| keep, turn := mqFirst v.toNat } }

/-- A write of the program to a register other than TILE.MQ_MODE (R12): the W1C fields; any other write is ignored. -/
def Tile.poke (x : Tile) (off : Nat) (v : Word) : Tile :=
  if 0x400 ≤ off ∧ off < 0x4C0 then
    let n := (off - 0x400) / 4
    let f := x.sflag n
    x.setSflag n { f with ovf := f.ovf && !bitAt v.toNat 8, rsv := f.rsv && !bitAt v.toNat 9 }
  else match off with
    | 0x010 => { x with fpflags := x.fpflags &&& ~~~(v.setWidth 5) }
    | 0x504 => { x with mx := { x.mx with flags := x.mx.flags &&& ~~~(v.setWidth 6) } }
    | 0x600 => { x with vx := { x.vx with flags := x.vx.flags &&& ~~~(v.setWidth 6) } }
    | 0x710 =>
      { x with ring := { x.ring with novf := (BitVec.ofNat 8 x.ring.novf &&& ~~~(BitVec.ofNat 8 (v.toNat / 2 ^ 24))).toNat } }
    | _ => x

end Sys2Proof.Machine
end

