-- ==== Sys2Proof/Machine/Hash.lean ====
section
/-!
DEFINITION. SHAKE256 (R356, R391, R417): FIPS 202's sponge over Keccak-f[1600] with rate 136 bytes and the suffix 0x1F
(PRESUMED, log entry 11: the manual names the function and does not lay it out).
-/
namespace Sys2Proof.Machine

/-- A 64-bit lane turned left by n places. -/
def turn64 (n v : Nat) : Nat := (v * 2 ^ (n % 64) + v / 2 ^ (64 - n % 64)) % 2 ^ 64

/-- The lanes of the sponge, five sheets of five: sheet x holds the lanes (x, 0) to (x, 4). -/
abbrev Sponge := List (List Nat)

/-- Lane (x, y), both modulo 5. -/
def Sponge.at (a : Sponge) (x y : Nat) : Nat := (a.getD (x % 5) []).getD (y % 5) 0

/-- The sponge whose lane (x, y) is f x y. -/
def Sponge.of (f : Nat → Nat → Nat) : Sponge := (List.range 5).map fun x => (List.range 5).map (f x)

/-- Each lane takes the parities of the sheet before its own and, turned by one, of the sheet after it. -/
def Sponge.mix (a : Sponge) : Sponge :=
  let p := a.map fun sheet => sheet.foldl Nat.xor 0
  Sponge.of fun x y => Nat.xor (a.at x y) (Nat.xor (p.getD ((x + 4) % 5) 0) (turn64 1 (p.getD ((x + 1) % 5) 0)))

/-- The number of the lane's place on the walk (1, 0), (0, 2), (2, 1), … that goes from (x, y) to (y, 2 x + 3 y): the turn of the
place numbered t is the t-th triangular number. `n` bounds the search from (u, v), whose number is t. -/
def walkTurn (x y : Nat) : Nat → Nat → Nat → Nat → Nat
  | 0, _, _, _ => 0
  | n + 1, t, u, v => if u = x ∧ v = y then (t + 1) * (t + 2) / 2 else walkTurn x y n (t + 1) v ((2 * u + 3 * v) % 5)

/-- Each lane moves one place along that walk, turned by its place's number; lane (0, 0) stays. -/
def Sponge.move (a : Sponge) : Sponge :=
  -- the lane that comes to (x, y) stood at (x + 3 y, x)
  Sponge.of fun x y =>
    let u := (x + 3 * y) % 5
    turn64 (walkTurn u x 24 0 1 0) (a.at u x)

/-- Each lane takes the lane two sheets on where the lane one sheet on has a zero. -/
def Sponge.bend (a : Sponge) : Sponge :=
  Sponge.of fun x y => Nat.xor (a.at x y) (Nat.land (2 ^ 64 - 1 - a.at (x + 1) y) (a.at (x + 2) y))

/-- The bit register of the round constants, one step on: times x modulo x^8 + x^6 + x^5 + x^4 + 1. -/
def rcStep (r : Nat) : Nat := if 128 ≤ r then Nat.xor (2 * r - 256) 0x71 else 2 * r

/-- The constant of a round, whose bits 2^j − 1 are the next seven outputs of the register, and the register after them. -/
def rcNext (r : Nat) : Nat × Nat :=
  (List.range 7).foldl (fun c j => (if c.2 % 2 = 1 then c.1 + 2 ^ (2 ^ j - 1) else c.1, rcStep c.2)) (0, r)

/-- `n` rounds of Keccak-f[1600] with the register at r. -/
def Sponge.rounds : Nat → Nat → Sponge → Sponge
  | 0, _, a => a
  | n + 1, r, a =>
    let c := rcNext r
    let b := a.mix.move.bend
    Sponge.rounds n c.2 (Sponge.of fun x y => if x = 0 ∧ y = 0 then Nat.xor (b.at 0 0) c.1 else b.at x y)

/-- Lane (x, y) stands at byte 8 × (x + 5 y) of the sponge; the first 17 lanes take the input and give the output. -/
def Sponge.take136 (a : Sponge) : List Byte := ((List.range 17).map fun i => leBytes 8 (a.at i (i / 5))).flatten

/-- The sponge after `n` blocks of 136 bytes of the padded message. -/
def Sponge.feed : Nat → List Byte → Sponge → Sponge
  | 0, _, a => a
  | n + 1, m, a =>
    Sponge.feed n (m.drop 136)
      (Sponge.rounds 24 1 (Sponge.of fun x y => if x + 5 * y < 17 then Nat.xor (a.at x y) (leAt m (8 * (x + 5 * y)) 8) else a.at x y))

/-- `n` blocks of output. -/
def Sponge.pour : Nat → Sponge → List Byte
  | 0, _ => []
  | n + 1, a => a.take136 ++ Sponge.pour n (Sponge.rounds 24 1 a)

/-- The message with its padding: 0x1F, zeros, and the top bit of the last byte of a whole number of blocks. -/
def padShake (m : List Byte) : List Byte :=
  let free := 135 - m.length % 136
  m ++ (if free = 0 then [0x9F] else 0x1F :: List.replicate (free - 1) 0 ++ [0x80])

/-- SHAKE256 over `m`, `n` bytes long. -/
def shake256 (n : Nat) (m : List Byte) : List Byte :=
  let p := padShake m
  (Sponge.pour (ceilDiv n 136) (Sponge.feed (p.length / 136) p (Sponge.of fun _ _ => 0))).take n

end Sys2Proof.Machine
end

