-- ==== Sys2Proof/Machine/FabricState.lean ====
section
/-!
DEFINITION. The state of what lies between the tiles: Caldera nodes, exchange packets, messages, and the memory
tiers with their migration directory and windows (chapters 02, 07, 08, 09).
-/
namespace Sys2Proof.Machine

/-- A value at a Caldera node (R183, R187): operands of the barrier, the reduced pair, its marks, and the cycle of
the last arrival below. -/
structure NVal where
  xpn : Nat
  level : Nat
  rop : Nat
  val : Word
  idx : Word
  pzVal : Bool
  pzIdx : Bool
  at' : Nat
  deriving DecidableEq, Repr

/-- A pending error summary (R404): count (saturating at 32 bits), first source, cycle in which it was opened. -/
structure Summary where
  count : Nat
  src : Nat
  at' : Nat
  deriving DecidableEq, Repr

/-- A Caldera node (R183, R185, R189, R402, R404). `got`: child rank and arrival; `fwd`: the combined arrival that
waits for the parent; `debt` in units of 1/16 cc, kept to cycle `debtAt`. -/
structure CalNode where
  got : List (Nat × NVal)
  firstAt : Nat
  fwd : Option NVal
  held : Bool
  expired : Bool
  debt : Nat
  debtAt : Nat
  sums : Sparse Summary
  deriving DecidableEq, Repr

/-- A scheduled release (R184): the cycle, the idle supersteps in it, the result. -/
structure Release where
  gid : Nat
  at' : Nat
  idle : Nat
  v : NVal
  deriving DecidableEq, Repr

/-- An exchange phase in progress (R24): its group, program, first cycle and length, and the packets already read (tile, send
entry, packet). -/
structure Phase where
  gid : Nat
  xpn : Nat
  start : Nat
  lx : Nat
  sent : List (Nat × Nat × Nat)
  deriving DecidableEq, Repr

/-- The Caldera tree and its registers (Table 8-13); `sumFly` the summaries on their way to a parent: the cycle of their arrival, the parent, the
code (R404). -/
structure Caldera where
  nodes : Sparse CalNode
  releases : List Release
  parked : Option NVal
  phases : List Phase
  ventQ : List (Nat × Summary)
  wdog : Nat
  wdFired : Bool
  wdGid : Nat
  errMismatch : Bool
  errUe : Bool
  errLoc : Nat
  cntBar : Word
  idleSs : Nat
  sumFly : List (Nat × Nat × Nat × Summary)
  deriving DecidableEq, Repr

/-- Where a packet is (R155): in the send buffer, on its way, in the landing buffer. -/
inductive PktSt where
  | sendBuf | onTrack | landingBuf
  deriving DecidableEq, Repr

/-- A quad router on the path of a packet (R155, R161): where it is, the input that the packet takes (Table 7-15), the cycle of the pass. -/
structure Hop where
  qx : Nat
  qy : Nat
  inp : Nat
  cyc : Nat
  deriving DecidableEq, Repr

/-- A packet (R155, Table 7-4): its source and destination tile, destination address, class latency, read cycle,
holds, data and poison; `path` lists the quad routers still to pass, `prev` is the one it has passed last. -/
structure Packet where
  id : Nat
  src : Nat
  dst : Nat
  addr : Nat
  r : Nat
  c : Nat
  spad : Nat
  lpad : Nat
  trk : Nat
  st : PktSt
  path : List Hop
  prev : Option Hop
  w0 : Dword
  w1 : Dword
  pz0 : Bool
  pz1 : Bool
  deriving DecidableEq, Repr

/-- The exchange mesh: packets in flight and the XCH registers (Tables 7-13 to 7-15). -/
structure Mesh where
  pkts : List Packet
  pktNo : Nat
  errOvf : Bool
  errHdrUe : Bool
  errDataUe : Bool
  errLoc : Nat
  cntPkt : Nat
  pktHold : Option Word
  cntCe : Word
  cntUe : Word
  cntHdrCe : Word
  cntHdrUe : Word
  deriving DecidableEq, Repr

/-- A message sent and not yet answered at its sender (R190, R196): `answer` once the destination has answered,
0 for ACK, a code of Table 8-8 otherwise; `sentTo` the module that message egress
has carried it to (R290). -/
structure Msg where
  id : Nat
  src : Nat
  esc : Bool
  dest : Nat
  tag : Nat
  words : List Word
  poison : Bool
  flag : Nat
  answer : Option Nat
  sentTo : Option Nat
  deriving DecidableEq, Repr

/-- The messages of the module. -/
structure Messages where
  fly : List Msg
  no : Nat
  deriving DecidableEq, Repr

/-- The states of a page (Table 9-2). -/
inductive PageSt where
  | home | promoting | resident | dirty | evicting
  deriving DecidableEq, Repr

/-- A page's entry in the migration directory (R213, R214): `emptyAt` is the Terrace cycle in which the pin set became empty, as `applyNo`
of `Mig` counts them (R217); `queued` is the partition of a promotion that waits for a frame or for the eviction's end. -/
structure Page where
  st : PageSt
  pins : List Nat
  keep : Bool
  evpend : Bool
  part : Nat
  frame : Nat
  emptyAt : Nat
  queued : Option Nat
  deriving DecidableEq, Repr

/-- A schedule entry (Table 9-5). -/
structure SchedEnt where
  ss : Nat
  first : Nat
  npages : Nat
  act : Nat
  part : Nat
  sid : Nat
  keep : Bool
  deriving DecidableEq, Repr

/-- The prefetch schedule (Table 9-4). -/
structure Sched where
  pro : List SchedEnt
  body : List SchedEnt
  start : Nat
  period : Nat
  deriving DecidableEq, Repr

/-- The migration engine (R213 to R223) and the MIG registers (Tables 9-12, 9-13). `fired`: the entries to apply, with the superstep that
fired them and the pages already applied; `waits`: frame-wait lists; `linger`: frames of HOME pages that feeds (tile and number) still read
(R215); `applyNo` counts the Terrace cycles in which entries were applied; `parts`: the partition numbering of R222. -/
structure Mig where
  pages : Sparse Page
  waits : Sparse (List Nat)
  linger : List (Nat × Nat × List (Nat × Nat))
  applyNo : Nat
  sched : Option Sched
  fired : List (Nat × SchedEnt × Nat)
  parts : List Nat
  halted : Bool
  sstep : Nat
  sstepHold : Option Word
  pquery : Nat
  errBacklog : Bool
  errPin : Bool
  errDirUe : Bool
  cnt : Sparse Word
  deriving DecidableEq, Repr

/-- A window (Table 9-9, R230 to R233): its declaration, holder, hand-overs, and the tiles of CONS whose WREL has been
issued and has taken effect in the present holding; `handed`: the partners that have sent HANDOVER (R323). -/
structure Win where
  base : Nat
  size : Nat
  side1 : Bool
  pset : Nat
  perm : Nat
  init1 : Bool
  aflag : Nat
  cons : Nat
  plume : Bool
  outside : Bool
  xfer : Nat
  issued : List Nat
  released : List Nat
  handed : List Nat
  deriving DecidableEq, Repr

/-- Memory: the device range with its poison and error states, windows, MEM counters (R205, R208, R236). -/
structure Mem where
  data : Sparse Byte
  pz : Sparse Bool
  ecc : Sparse Ecc
  wins : Sparse (Option Win)
  cnt : Sparse Word
  stall : Sparse Nat
  stallHold : Sparse (Option Word)
  deriving DecidableEq, Repr

/-- A node at rest. -/
def CalNode.reset : CalNode := ⟨[], 0, none, false, false, 0, 0, []⟩

/-- Caldera at reset (Table 8-13). -/
def Caldera.reset : Caldera := ⟨[], [], none, [], [], 0, false, 0, false, false, 0, 0, 0, []⟩

/-- The mesh at reset (Tables 7-13 to 7-15). -/
def Mesh.reset : Mesh := ⟨[], 0, false, false, false, 0, 0, none, 0, 0, 0, 0⟩

/-- A HOME page without pins (Table 9-2). -/
def Page.home : Page := ⟨.home, [], false, false, 0, 0, 0, none⟩

/-- The migration engine at reset (Table 9-13). -/
def Mig.reset : Mig := ⟨[], [], [], 0, none, [], [], false, 0, none, 0, false, false, false, []⟩

/-- Memory at reset: every byte zero with clear poison (Table 15-1, step 5d; log entry 7). -/
def Mem.reset : Mem := ⟨[], [], [], [], [], [], []⟩

end Sys2Proof.Machine
end

