-- ==== Sys2Proof/Machine/LinkState.lean ====
section
/-!
DEFINITION. The state of the ports, their arbiters, the collective engine and TXP (chapters 11 and 12).
-/
namespace Sys2Proof.Machine

/-- The states of a port (Table 11-2). -/
inductive PortSt where
  | disabled | training | up | held
  deriving DecidableEq, Repr

/-- A time stamp of the IEEE 1588 counter (R270). -/
structure Ptp where
  sec : Nat
  ns : Nat
  frac : Nat
  deriving DecidableEq, Repr

/-- An entry of PORTn.TSQ (Table 11-13). -/
structure Stamp where
  time : Ptp
  sent : Bool
  kind : Nat
  tag : Nat
  deriving DecidableEq, Repr

/-- A transfer at an arbiter (R275 to R278, R322): requester, request, attempt, segments sent, RESENDs answered, the cycle of the
request and that of the grant, the time at which its frame on the wire began (R270), whether it has been abandoned and only that
frame completes (R279), whether it begins again after an abort that R274 or R277 restarts (R293), the number of the session
that carries it, 0 in clear, and the cycle in which a pre-emption has just put it back among the pending ones (R280). -/
structure Grant where
  r : Requester
  x : XferReq
  att : Nat
  sent : Nat
  resends : Nat
  at' : Nat
  gat : Nat
  start : Ptp
  dead : Bool
  again : Bool
  sess : Nat
  cut : Option Nat
  deriving DecidableEq, Repr

/-- One port (R262 to R273, R291). `tryAt` is the cycle in which the training attempt began, `identAt` that in which training ended while
the DIRECT identification is awaited; `flaps` holds the cycle and the lanes of each flap; `replay` the unacknowledged DATA frames: LSEQ,
replays, bytes; `lnak` the ACKSEQ of the LNAK sent while the receiver discards; `tx` the frame that was sent last. -/
structure Port where
  st : PortSt
  cfg : Word
  rej : Bool
  heldLane : Nat
  laneUp : Nat
  tryAt : Nat
  identAt : Option Nat
  flaps : List (Nat × Nat)
  mac : Nat
  etype : Nat
  udpp : Nat
  ipcfg : Word
  ip6 : Nat
  txSeq : Nat
  replay : List (Nat × Nat × List Byte)
  rxSeq : Nat
  lnak : Option Nat
  holder : Option Grant
  pend : List Grant
  tsq : List Stamp
  tx : List Byte
  cnt : Sparse Word
  deriving DecidableEq, Repr

/-- A transfer that its requester keeps until it can be requested (R274, R301, R323): its number in this list, the grant it had, the port
it was on, whether it waits for T_WIN, and since when. -/
structure WaitXfer where
  id : Nat
  g : Grant
  port : Nat
  waitWin : Bool
  at' : Nat
  deriving DecidableEq, Repr

/-- Received progress of a transfer (R277): the sender, CLASS and XFER, the highest ATT, the segments of that attempt that have
arrived and where each belongs with its bytes, the number of its LAST segment, the RESENDs sent for it, and the time and the session of
its last segment. -/
structure RxXfer where
  dev : Nat
  cls : Nat
  xfer : Nat
  att : Nat
  segs : List Nat
  parts : List (SegDst × Nat)
  last : Option Nat
  complete : Bool
  resends : Nat
  at' : Nat
  sess : Nat
  deriving DecidableEq, Repr

/-- A collective declaration (R282, R366). -/
structure CollDecl where
  op : Nat
  rop : Nat
  record : Bool
  ifmt : Nat
  wfmt : Nat
  ofmt : Nat
  depth : Nat
  srcWin : Nat
  dstWin : Nat
  part : Nat
  pset : Nat
  root : Nat
  e : Nat
  rblk : Nat
  stageBase : Nat
  stageSize : Nat
  resBase : Nat
  resSize : Nat
  deriving DecidableEq, Repr

/-- A running collective (R283, R287): its step, the members by rank, this module's rank, its source vector in wire format with the
poison of each element (for BS8, of each block), the staged contributions (rank, block, offset, bytes), the result bytes received
(offset, bytes), the blocks summed provisionally and those released with the ranks they hold. -/
structure CollRun where
  step : Nat
  members : List Nat
  me : Nat
  own : List Byte
  ownPz : List Bool
  landed : List (Nat × Nat × Nat × Nat)
  got : List (Nat × Nat)
  provisional : List (Nat × List Nat)
  released : List (Nat × List Nat)
  srcDone : Bool
  dstDone : Bool
  deriving DecidableEq, Repr

/-- The collective engine: declarations, runs, what has landed before its run starts (CID, step, place, bytes), the collectives whose start
waits for a page (R218), and counters (Table 11-14). -/
structure Coll where
  decls : Sparse CollDecl
  runs : Sparse CollRun
  early : List (Nat × Nat × SegDst × Nat)
  waiting : List Nat
  cnt : Sparse Word
  deriving DecidableEq, Repr

/-- The states of a session (Table 12-4). -/
inductive SessSt where
  | closed | opening | up | lost
  deriving DecidableEq, Repr

/-- A session (R297 to R301, R421): the peer's incarnation, whether this module opened it, its 72-byte key material, the last SEQ
sent, the highest SEQ accepted and those accepted in its window, the times of tag failures, since when (the last authenticated
segment while it is UP, the moment it left UP otherwise), when it last sent, and when it entered
its present state. Times are nanoseconds of the
IEEE 1588 counter (R327). -/
structure Session where
  st : SessSt
  num : Nat
  inc : Nat
  opener : Bool
  okm : List Byte
  txSeq : Nat
  rxMax : Nat
  seen : List Nat
  fails : List Nat
  since : Nat
  txAt : Nat
  stAt : Nat
  port : Nat
  deriving DecidableEq, Repr

/-- An exchange of HELLO phases in progress (R299, R421): whether this module is the opener, the phase it has sent last, how often and
when, the draw of its keys, the peer's incarnation, the payloads so far, the last one sent, TH2, K, the peer's identity key. -/
structure Hand where
  opener : Bool
  phase : Nat
  sends : Nat
  at' : Nat
  draw : Nat
  inc : Nat
  msgs : List Byte
  last : List Byte
  th2 : List Byte
  k : List Byte
  key : List Byte
  port : Nat
  deriving DecidableEq, Repr

/-- An entry of the partner table (R299). -/
structure Partner where
  dev : Nat
  ports : Nat
  mac : Nat
  ip6 : Nat
  deriving DecidableEq, Repr

/-- A message that this module has handed to its session layer (Tables 12-1 and 12-2): receiver, MTYPE, its KIND, PHASE or reason,
the flags RETRY, FWD and TAKEOVER, SESSION, EPOCH, STEP, REF, and its payload: the fields it carries, or the bytes where the manual
lays them out. Its segments take their SEQ as they are sent (R297). -/
structure OutMsg where
  dev : Nat
  mtype : Nat
  kind : Nat
  retry : Bool
  fwd : Bool
  takeover : Bool
  session : Nat
  epoch : Nat
  step : Nat
  ref : Nat
  args : List Nat
  bytes : List Byte
  deriving DecidableEq, Repr

/-- A WATERMARK record of the ledger (R311, R316): the contribution, its watermark, the module that sent it and the SEQ of its message,
whether it came as a copy to this deputy, whether it is committed in the journal, whether its ACCEPT has been sent, how often it has been
copied to the present deputy, and when last (T_CONTRIB). -/
structure WmRec where
  c : ContribMsg
  wm : Nat
  from' : Nat
  ref : Nat
  fwd : Bool
  committed : Bool
  accepted : Bool
  copies : Nat
  copyAt : Nat
  deriving DecidableEq, Repr

/-- An outbound contribution (R308, R327): sends so far, the time of the last, and the settlement, `0` accepted, a REJECT code otherwise. -/
structure OutRec where
  c : ContribMsg
  sends : Nat
  at' : Nat
  settled : Option Nat
  deriving DecidableEq, Repr

/-- A CLOSE record (R314): the members by rank under its epoch, `made` once it is committed in the journal, `acked` once the host has
acknowledged it (R317), the members that have not answered this leader's FINAL, each with whether it has been sent to it, and CHAIN of the step
before where this module knew it (R325). -/
structure CloseRec where
  step : Nat
  epoch : Nat
  devs : List Nat
  included : List Nat
  excluded : Nat
  chain : List Byte
  made : Bool
  acked : Bool
  owed : List (Nat × Bool)
  prev : List Byte
  deriving DecidableEq, Repr

/-- The freeze in progress at the leader (R313): sends so far and the time of the last. -/
structure Freeze where
  sends : Nat
  at' : Nat
  answered : List Nat
  deriving DecidableEq, Repr

/-- The open step (R307, R312, R313). `committedDevs`: ABSENT members named in a FREEZE answer; `inclAt`: since when T_INCL runs; `told`: the
members to which this leader has sent STEP_OPEN. -/
structure StepSt where
  step : Nat
  epoch : Nat
  b : Nat
  tInclMs : Nat
  chain : List Byte
  committedDevs : List Nat
  inclAt : Option Nat
  freeze : Option Freeze
  told : List Nat
  deriving DecidableEq, Repr

/-- The audit in progress at this module (R324 to R326): its contribution, whether the deputy has been asked, the time of the REQ, the
REPLY, whether the recompute segment runs. -/
structure Audit where
  id : ContribId
  toDeputy : Bool
  at' : Nat
  reply : Option ContribMsg
  running : Bool
  deriving DecidableEq, Repr

/-- An audit case at the leader (R326): the contribution and the first report. -/
structure AuditCase where
  id : ContribId
  auditor : Nat
  odig : List Byte
  second : Nat
  deriving DecidableEq, Repr

/-- A TXP message that its receiver acts upon (Table 12-2), apart from HELLO, EPOCH and the payload of a transfer. -/
inductive TxpMsg where
  | join (vmaj : Nat) (j : JoinMsg)
  | leave
  | stepOpen (m : StepOpenMsg)
  | takeover
  | contrib (m : ContribMsg)
  | contribFwd (m : ContribMsg)
  | accept (m : AcceptMsg)
  | reject (m : RejectMsg)
  | resendXfer (cls xfer att : Nat)
  | resendContrib
  | resendList
  | resendEpoch
  | handover (win : Nat)
  | freeze
  | freezeAck (released : List Nat)
  | final (m : FinalMsg)
  | auditReq (id : ContribId)
  | auditReply (reply : Option ContribMsg) (id : ContribId)
  | auditReport (id : ContribId) (status : AuditStatus) (odig : List Byte)
  deriving DecidableEq, Repr

/-- TXP (chapter 12). `sessions`, `old` (closing behind a successor, R300) and `hands` are keyed by device id; `known` holds the highest
incarnation known of each device; `members` is the list in force at the open step, by rank; `epochs` every epoch that this module has
applied in this life, with its list, the newest first; `next` the epoch that waits for its step boundary; `stepHere` the step that the
module's own run is in, 0 before its first step boundary (R239); `parts` the parts of a full list received so far; `held` the CONTRIBs of
rule 4 of Table 12-7 with their sender and SEQ; `frozenStep` the step whose EARLY blocks this member releases no more (R313); `heldMsgs` the
messages that wait for their epoch (R305); `late` the parts (number, step, ODIG) whose contribution waits for CHAIN of the step before;
`joiners`, `leaves` (device, last step) and `suspend` what the leader's next epoch takes in; `votedFor` the proposer and the epoch of the
takeover that this module last accepted; `minorAt` since when the leader has had no majority (R319); `joinAt` when the last JOIN was sent or
failed; `xferNo` the next XFER of each CLASS; `sentX` the transfers sent to their LAST segment. -/
structure Txp where
  partners : List Partner
  known : List (Nat × Nat)
  sessions : Sparse Session
  old : Sparse Session
  hands : Sparse Hand
  drawNo : Nat
  epoch : Nat
  members : List Member
  epochs : List (EpochMsg × List Member)
  next : Option (EpochMsg × List Member)
  stepHere : Nat
  parts : List Member
  joiners : List Member
  leaves : List (Nat × Nat)
  suspend : List Nat
  leader : Nat
  deputy : Option Nat
  steppedDown : Bool
  minorAt : Option Nat
  open' : Option StepSt
  frozenStep : Option Nat
  heldMsgs : List (Nat × Seg × TxpMsg)
  lastClosed : Nat
  chain : List Byte
  closes : List CloseRec
  wms : List WmRec
  held : List (Nat × Nat × ContribMsg)
  outs : List OutRec
  late : List (Nat × Nat × List Byte)
  votes : List Nat
  voting : Bool
  votedFor : Option (Nat × Nat)
  fenced : List Nat
  joinSends : Nat
  joinAt : Nat
  joinMsg : Option JoinMsg
  joinPending : Bool
  audit : Option Audit
  cases : List AuditCase
  tSessMs : Nat
  tInclMs : Nat
  tLeadMs : Nat
  newTimers : Option (Nat × Nat × Nat)
  cnt : Sparse Nat
  out : List OutMsg
  rx : List RxXfer
  waiting : List WaitXfer
  waitNo : Nat
  xferNo : Sparse Nat
  sentX : List (Nat × Grant)
  deriving DecidableEq, Repr

/-- A port at reset: DISABLED, hop limit 64 (Tables 11-11, 11-12; log entry 6). -/
def Port.reset : Port where
  st := .disabled
  cfg := 0
  rej := false
  heldLane := 0
  laneUp := 0
  tryAt := 0
  identAt := none
  flaps := []
  mac := 0
  etype := 0
  udpp := 0
  ipcfg := 64
  ip6 := 0
  txSeq := 0
  replay := []
  rxSeq := 255
  lnak := none
  holder := none
  pend := []
  tsq := []
  tx := []
  cnt := []

/-- The collective engine at reset (Table 11-14). -/
def Coll.reset : Coll := ⟨[], [], [], [], []⟩

/-- A session that is CLOSED (Table 12-4). -/
def Session.closed : Session := ⟨.closed, 0, 0, false, [], 0, 0, [], [], 0, 0, 0, 0⟩

/-- TXP at reset: no partner, no session, no job; the timers of Table 12-10. -/
def Txp.reset : Txp where
  partners := []
  known := []
  sessions := []
  old := []
  hands := []
  drawNo := 0
  epoch := 0
  members := []
  epochs := []
  next := none
  stepHere := 0
  parts := []
  joiners := []
  leaves := []
  suspend := []
  leader := 0
  deputy := none
  steppedDown := false
  minorAt := none
  open' := none
  frozenStep := none
  heldMsgs := []
  lastClosed := 0
  chain := []
  closes := []
  wms := []
  held := []
  outs := []
  late := []
  votes := []
  voting := false
  votedFor := none
  fenced := []
  joinSends := 0
  joinAt := 0
  joinMsg := none
  joinPending := false
  audit := none
  cases := []
  tSessMs := 1000
  tInclMs := 30000
  tLeadMs := 3000
  newTimers := none
  cnt := []
  out := []
  rx := []
  waiting := []
  waitNo := 0
  xferNo := []
  sentX := []

end Sys2Proof.Machine
end

