-- ==== Sys2Proof/Machine/VentState.lean ====
section
/-!
DEFINITION. The state of Vent and its surroundings: the host interface, the loaded image, the journal and the flash,
the repair map, start-up, the error ledger, the always-on domain, security, JTAG and the sideband (chapters 13 to 17).
-/
namespace Sys2Proof.Machine

/-- DEV.STATE.STATE (Table 13-4). -/
inductive DevSt where
  | boot | dormant | idle | loaded | running | ended
  deriving DecidableEq, Repr

/-- A vector of the MSI-X table (R352; log entry 15). -/
structure MsixVec where
  addr : Nat
  data : Nat
  masked : Bool
  deriving DecidableEq, Repr

/-- A background command that runs (R341): its code, its address or mode, its length. -/
structure Bg where
  code : Nat
  addr : Nat
  len : Nat
  deriving DecidableEq, Repr

/-- The one HDM decoder behind BAR2, which supports 1-way interleave only (R331): its range, its control word, and whether it is committed. -/
structure HdmDecoder where
  base : Nat
  size : Nat
  control : Word
  committed : Bool
  refused : Bool
  deriving DecidableEq, Repr

/-- The CXL component registers behind BAR2 that the host sets (R331; log entry 81): the HDM decoder, and the RAS capability's status, mask and
severity words. -/
structure Bar2 where
  decoder : HdmDecoder
  rasUe : Word
  rasUeMask : Word
  rasUeSev : Word
  rasCe : Word
  rasCeMask : Word
  deriving DecidableEq, Repr

/-- BAR2 after a reset (R342; log entry 81). -/
def Bar2.reset : Bar2 := ⟨⟨0, 0, 0, false, false⟩, 0, 0, 0, 0, 0⟩

/-- The host interface (R331 to R352): the MBOX and EVQ registers of Table 13-3, the payload and event areas, MSI-X,
HBASE, the CXL link, the CXL event records, the counter shadows of R345. `lostPend` is the count of the
OVERFLOW event that is due; `bgDone` is a BG_DONE that waits for EVQ.CFG.EN after a reset of the function, which `bgHeld` remembers while the
command runs (R342); `msixOn` and `msixMask` are PCI Express's MSI-X Enable and Function Mask, `bars` the bases that the host gave the BARs
(log entries 15, 81); `inside` holds, oldest first, the commands in
progress whose response a reset discards (R342). -/
structure HostIface where
  cmd : Nat
  len : Nat
  go : Bool
  status : Nat
  werr : Bool
  rlen : Nat
  payload : Sparse Byte
  head : Nat
  tail : Nat
  lost : Nat
  lostPend : Nat
  en : Bool
  evq : Sparse Byte
  evSeq : Nat
  bgDone : Option (Nat × Nat × Nat)
  bgHeld : Bool
  msixOn : Bool
  msixMask : Bool
  bars : Sparse Nat
  msix : Sparse MsixVec
  pba : Sparse Bool
  signalled : Sparse Nat
  memActive : Bool
  hbase : Nat
  linkUp : Bool
  linkWidth : Nat
  linkSpeed : Nat
  cxlRecs : List Nat
  bg : Option Bg
  refused : Nat
  refusedWin : Nat
  refusedAt : Nat
  hbeat : Word
  shadow : Sparse Nat
  inside : List (Nat × List Byte)
  bar2 : Bar2
  deriving DecidableEq, Repr

/-- The manifest of an image (Table 14-4). -/
structure Manifest where
  grade : Nat
  cols : Nat
  rows : Nat
  tcver : Nat
  classes : Nat
  txpmaj : Nat
  wdog : Nat
  stepxpn : Nat
  parkxpn : Nat
  resumewin : Nat
  npart : Nat
  plumep : Nat
  b : Nat
  maxn : Nat
  deriving DecidableEq, Repr

/-- The AUDIT section (R368). -/
structure AuditSect where
  ain : Nat
  aout : Nat
  mask : Nat
  deriving DecidableEq, Repr

/-- The repair map (R386): FAILED tiles, lane-quad masks, FAILED routers by block, FAILED ports. -/
structure RepairMap where
  tiles : Sparse Bool
  quads : Sparse Nat
  routers : Sparse Bool
  ports : Sparse Bool
  deriving DecidableEq, Repr

/-- The loaded image: digest (R356), manifest, skipped block row of the placement (R369), slot table (R367), audit
section, and the repair map that held at load (R374). -/
structure Image where
  digest : List Byte
  man : Manifest
  skip : Option Nat
  slots : List (Nat × Bool)
  audit : Option AuditSect
  bound : RepairMap
  deriving DecidableEq, Repr

/-- The run of the image: hand interventions since start, the first tile that stopped under Table 3-1 with its code
and cycle (Table 14-8), the cycle of the start gate (R373), whether IMAGE_START waits, park state (R378), the
idle supersteps counted at start, the park release that WIN_ARRIVE scheduled. -/
structure Run where
  interventions : Nat
  firstStop : Option (Nat × Nat × Nat)
  gateAt : Option Nat
  starting : Bool
  seed : Dword
  parked : Bool
  idleAtStart : Nat
  deriving DecidableEq, Repr

/-- The states of a journal sector (R391). -/
inductive SecSt where
  | erased | opened | full | obsolete
  deriving DecidableEq, Repr

/-- A journal record (Table 15-3): type, payload, SEQ, whether its COMMIT is zero, and the CHECK it holds where that is
not the right one. -/
structure JRec where
  typ : Nat
  payload : List Byte
  seq : Nat
  committed : Bool
  badCheck : Option Dword
  deriving DecidableEq, Repr

/-- A journal sector (R391): its state, GEN and MARK, the check word that its header holds where that is not the right one, its records. -/
structure Sector where
  st : SecSt
  gen : Nat
  mark : Nat
  badCheck : Option Dword
  recs : List JRec
  deriving DecidableEq, Repr

/-- What follows once a record is committed (R305, R308, R311, R314, R320, R405, R418). -/
inductive JThen where
  | nothing
  | extendM3
  | closeEntry (i : Nat)
  | outbound (part : Nat)
  | watermark (id : ContribId)
  | epochMade (dev ref : Nat)
  | closeMade (ref : Nat)
  | takeover
  deriving DecidableEq, Repr

/-- A record that waits for the next batch (R392). -/
structure PendRec where
  typ : Nat
  payload : List Byte
  next : JThen
  deriving DecidableEq, Repr

/-- The journal (R390 to R397): the sectors, the OPEN one, the next SEQ, the batch, the SEQ of the base, the damage of
R397, whether it is mounted and whether JOURNAL_HIGH has been posted. -/
structure Journal where
  sectors : Sparse Sector
  cur : Nat
  nextSeq : Nat
  batch : List PendRec
  base : Nat
  damaged : Bool
  mounted : Bool
  highPosted : Bool
  deriving DecidableEq, Repr

/-- A copy of the sealed identity, as its sector holds it (R413): certificate, PUF helper data, nonce, ciphertext of the two private keys,
tag. -/
structure SealedId where
  cert : List Byte
  helper : List Byte
  nonce : List Byte
  cipher : List Byte
  tag : List Byte
  deriving DecidableEq, Repr

/-- The firmware image in flash (R350, R415): its bytes (an erased byte is not listed), and whether it has been written to and not verified since
(R385, R433; log entry 82); and the two identity sectors (Table 15-2). -/
structure Flash where
  fw : Sparse Byte
  stale : Bool
  ident : List SealedId
  deriving DecidableEq, Repr

/-- Start-up (Table 15-1): PLLs locked, Vent verified, the recovery monitor serving (R385), results of the five
self-tests, and whether the module is held in reset (R430, R431). -/
structure Startup where
  plls : Bool
  verified : Bool
  recovery : Bool
  tests : List SelfTest
  held : Bool
  deriving DecidableEq, Repr

/-- An error-ledger entry (Table 15-8) with its order and the cycles in which it became ACTIVE and CLOSED. -/
structure LEntry where
  code : Nat
  domain : Nat
  state : Nat
  loc : Nat
  esc : Bool
  action : Nat
  count : Nat
  time : Ptp
  detail : List Byte
  order : Nat
  at' : Nat
  deriving DecidableEq, Repr

/-- The error ledger (R405). -/
structure Ledger where
  entries : Sparse LEntry
  orderNo : Nat
  deriving DecidableEq, Repr

/-- Vent's own state. `refusals` holds the refusals that requesters have reported to it (R275), `authKeys` the debug authorities' public keys of
the running Vent image (R411). `shippedGrade`, `stepping` (1 A1, 2 B0) and `devId` come from the MANUFACTURE record. -/
structure Vent where
  dev : DevSt
  dcause : Nat
  devId : Nat
  shippedGrade : Nat
  stepping : Nat
  grade : Nat
  incarnation : Nat
  version : Nat
  authKeys : List (Option (List Byte))
  image : Option Image
  run : Run
  journal : Journal
  flash : Flash
  map : RepairMap
  retire : List (Nat × Nat × Nat)
  startup : Startup
  ledger : Ledger
  refusals : List (Nat × Requester)
  deriving DecidableEq, Repr

/-- One of the two filtered inputs (R403): accepted level (true is active), cycles of the edges of the last 10 ms, masked,
stuck, the cycle of the last edge to active. -/
structure InSt where
  active : Bool
  edges : List Nat
  masked : Bool
  stuck : Bool
  last : Option Nat
  deriving DecidableEq, Repr

/-- The always-on domain (R270, R271, R398 to R403, R430): the IEEE 1588 counter, the monitors' latest readings with
the cycle of each sensor's last change and its excess over a trip, pacing, the inputs and the pins. -/
structure Aon where
  power : Bool
  ptp : Ptp
  ptpFrac : Nat
  timeValid : Bool
  temps : Sparse Int
  tempAt : Sparse Nat
  tripAt : Sparse Nat
  volts : Sparse Nat
  oscs : Sparse Nat
  excluded : List Nat
  oscSeen : List Nat
  pace : Nat
  paceBelow : Option Nat
  paceIdle : Nat
  syncIn : InSt
  throttle : InSt
  syncOutUntil : Nat
  inputOn : Bool
  pwrOk : Bool
  resetLow : Bool
  perstLow : Bool
  thermAlert : Bool
  ks : Option (BitVec 256)
  deriving DecidableEq, Repr

/-- Identity, measurements and the debug session (R413, R417, R424, R425): its RIGHTS, the highest TOKNO opened, the first 32 bytes of
the digest of its token; what the doorbell of an ATTEST_QUOTE sampled (R419). -/
structure Sec where
  unsealed : Bool
  m0 : List Byte
  m1 : List Byte
  m2 : List Byte
  m3 : List Byte
  dbgCount : Nat
  session : Option Nat
  tokno : Option Nat
  tokDig : List Byte
  quote : Option (List Byte)
  deriving DecidableEq, Repr

/-- The JTAG instruction that the TAP holds (R426). -/
inductive JtagIr where
  | bypass | idcode | samplePreload | extest | regRead | syncfSet
  deriving DecidableEq, Repr

/-- The JTAG port (R426, R436): held in Test-Logic-Reset by TRST_N, the instruction, the bypass bit, the boundary
cells' preload, whether the cells drive the pins, the data register's content, TDO; the tile, flag and cycle of its last setting of a
sync flag (R348). -/
structure Jtag where
  trst : Bool
  ir : JtagIr
  bypass : Bool
  cells : List Bool
  driving : Bool
  dr : Word
  tdo : Bool
  lastSet : Option (Nat × Nat × Nat)
  deriving DecidableEq, Repr

/-- The SMBus sideband (R353, R354): its address and the PLDM sensor readings. -/
structure Sideband where
  addr : Nat
  sensors : Sparse Int
  deriving DecidableEq, Repr

/-- MSI-X after a reset (log entry 15): masked, address and data 0. -/
def MsixVec.reset : MsixVec := ⟨0, 0, true⟩

/-- The host interface at reset (Table 13-3). -/
def HostIface.reset : HostIface where
  cmd := 0
  len := 0
  go := false
  status := 0
  werr := false
  rlen := 0
  payload := []
  head := 0
  tail := 0
  lost := 0
  lostPend := 0
  en := false
  evq := []
  evSeq := 0
  inside := []
  bar2 := Bar2.reset
  bgDone := none
  bgHeld := false
  msixOn := false
  msixMask := false
  bars := []
  msix := []
  pba := []
  signalled := []
  memActive := false
  hbase := 0
  linkUp := false
  linkWidth := 0
  linkSpeed := 0
  cxlRecs := []
  bg := none
  refused := 0
  refusedWin := 0
  refusedAt := 0
  hbeat := 0
  shadow := []

/-- No image runs. -/
def Run.reset : Run := ⟨0, none, none, false, 0, false, 0⟩

/-- The repair map with nothing failed. -/
def RepairMap.good : RepairMap := ⟨[], [], [], []⟩

/-- An ERASED sector (R391). -/
def Sector.erased : Sector := ⟨.erased, 0, 0xFFFF, none, []⟩

/-- A free ledger entry. -/
def LEntry.free : LEntry := ⟨0, 0, 0, 0, false, 0, 0, ⟨0, 0, 0⟩, [], 0, 0⟩

/-- An input that is inactive. -/
def InSt.reset : InSt := ⟨false, [], false, false, none⟩

/-- The SMBus address of R353. -/
def Sideband.reset : Sideband := ⟨0x2C, []⟩

/-- The TAP after power-on (R436): Test-Logic-Reset, IDCODE (log entry 12). -/
def Jtag.reset : Jtag := ⟨false, .idcode, false, [], false, 0, false, none⟩

/-- Measurements after a module reset (Table 16-3). -/
def Sec.reset : Sec where
  unsealed := false
  m0 := List.replicate 32 0
  m1 := List.replicate 64 0
  m2 := List.replicate 32 0
  m3 := List.replicate 32 0
  dbgCount := 0
  session := none
  tokno := none
  tokDig := []
  quote := none

/-- Start-up at time 0 of Table 15-1. -/
def Startup.reset : Startup := ⟨false, false, false, [], false⟩

/-- The always-on domain of a module that has just had its first reset (log entry 12): powered, PWR_OK high, RESET_N
high, the counter at zero, TIMEVALID 0 (R271). -/
def Aon.reset : Aon where
  power := true
  ptp := ⟨0, 0, 0⟩
  ptpFrac := 0
  timeValid := false
  temps := []
  tempAt := []
  tripAt := []
  volts := []
  oscs := []
  excluded := []
  oscSeen := []
  pace := 0
  paceBelow := none
  paceIdle := 0
  syncIn := .reset
  throttle := .reset
  syncOutUntil := 0
  inputOn := true
  pwrOk := true
  resetLow := false
  perstLow := false
  thermAlert := false
  ks := some (Config.fuzzyExtract Config.pufReading (leBytes 2048 (Config.pufHelper 0).toNat))

end Sys2Proof.Machine
end

