-- ==== Sys2Proof/Machine/State.lean ====
section
/-!
DEFINITION. The state of the module: everything chapters 02 to 17 give it, the queue of waiting commands, the reasons
a step can stop, and the state right after a module reset.
-/
namespace Sys2Proof.Machine

/-- What the last read answered to its reader: its bytes, and the poison indication (R12, R335, R336; log entry 14). -/
structure Out where
  data : List Byte
  poison : Bool
  deriving DecidableEq, Repr

/-- The module. `pending` is the queue of commands, first in, first out; `cc` counts core cycles since reset (R8; log
entry 2); `free` numbers the free values (log entry 9). Tiles are held by virtual tile number, ports by 0 to 11. -/
structure State where
  pending : List Instr
  cc : Nat
  free : Nat
  out : Out
  tiles : Sparse Tile
  cal : Caldera
  mesh : Mesh
  msgs : Messages
  mem : Mem
  mig : Mig
  ports : Sparse Port
  masks : List Requester
  parbErr : Nat
  coll : Coll
  txp : Txp
  host : HostIface
  vent : Vent
  aon : Aon
  sec : Sec
  jtag : Jtag
  side : Sideband
  deriving DecidableEq, Repr

/-- Why a step stops with a fault. -/
inductive Fault where
  /-- Raised by a command that names a tile, port, sensor or other unit that no module has (R1, R13, R261; log entry
  8). Safe: no hardware takes a step there. -/
  | noSuchUnit (unit : Nat)
  deriving DecidableEq, Repr

/-- Why a command is refused. -/
inductive Refusal where
  /-- Raised by the dispatch for a command that has no meaning in this model yet. Safe: nothing runs. -/
  | notModelled (mnemonic : String)
  deriving DecidableEq, Repr

/-- The payload of the MANUFACTURE record (Table 15-4), from what the module's manufacture fixed. -/
def manufacturePayload : List Byte :=
  leBytes 2 (if Config.ships1536 then 1536 else 1408) ++ leBytes 1 (if Config.isB0 then 2 else 1)
    ++ leBytes 8 Config.deviceId.toNat ++ leBytes 64 Config.baselines.toNat

/-- The journal as it leaves the factory: one OPEN sector with the MANUFACTURE record (log entry 12). -/
def Journal.reset : Journal where
  sectors := [(0, ⟨.opened, 0, 0x5A53, none, [⟨0x13, manufacturePayload, 0, true, none⟩]⟩)]
  cur := 0
  nextSeq := 1
  batch := []
  base := 0
  damaged := false
  mounted := false
  highPosted := false

/-- The certificate as Varsis makes it (Table 16-2): FORMAT, device id, shipped grade, stepping, the public keys, the time, and the
signature over bytes 0 to 127. -/
def manufacturedCert : List Byte :=
  leBytes 2 1 ++ leBytes 2 0 ++ leBytes 8 Config.deviceId.toNat ++ leBytes 2 (if Config.ships1536 then 1536 else 1408)
    ++ leBytes 1 (if Config.isB0 then 2 else 1) ++ leBytes 1 0 ++ leBytes 64 Config.identityPublic.toNat ++ leBytes 32 Config.quotePublic.toNat
    ++ leBytes 8 Config.madeAt.toNat ++ leBytes 8 0 ++ leBytes 29792 Config.certSignature.toNat

/-- A copy of the sealed identity as it leaves the factory (R413; log entry 12). -/
def SealedId.reset (copy : Nat) : SealedId :=
  ⟨manufacturedCert, leBytes 2048 (Config.pufHelper copy).toNat, leBytes 12 (Config.sealNonce copy).toNat,
   leBytes 192 (Config.sealedKeys copy).toNat, leBytes 16 (Config.sealTag copy).toNat⟩

/-- The flash's firmware image as it leaves the factory (log entry 12). -/
def Flash.reset : Flash :=
  ⟨(List.range Config.factoryFw.length).zip Config.factoryFw, false, [SealedId.reset 0, SealedId.reset 1]⟩

/-- Vent right after a module reset: BOOT (Table 13-3), nothing loaded. -/
def Vent.reset : Vent where
  dev := .boot
  dcause := 0
  devId := Config.deviceId.toNat
  shippedGrade := if Config.ships1536 then 1536 else 1408
  stepping := if Config.isB0 then 2 else 1
  grade := if Config.ships1536 then 1536 else 1408
  incarnation := 0
  version := 0
  authKeys := []
  image := none
  run := Run.reset
  journal := Journal.reset
  flash := Flash.reset
  map := RepairMap.good
  retire := []
  startup := Startup.reset
  ledger := ⟨[], 0⟩
  refusals := []

/-- The module right after its first module reset: no command waits, DEV.STATE is BOOT, every register holds the value
that its table gives for reset, or the value log entries 6, 12 and 15 name where no table gives one. -/
def State.reset : State where
  pending := []
  cc := 0
  free := 0
  out := ⟨[], false⟩
  tiles := []
  cal := Caldera.reset
  mesh := Mesh.reset
  msgs := ⟨[], 0⟩
  mem := Mem.reset
  mig := Mig.reset
  ports := []
  masks := []
  parbErr := 0
  coll := Coll.reset
  txp := Txp.reset
  host := HostIface.reset
  vent := Vent.reset
  aon := Aon.reset
  sec := Sec.reset
  jtag := Jtag.reset
  side := Sideband.reset

end Sys2Proof.Machine
end

