-- ==== Sys2Proof/Machine/JournalOps.lean ====
section
/-!
DEFINITION. The journal flash (R390 to R396): record sizes and framing, appending records to the OPEN sector, the use
of the journal, the batch.
-/
namespace Sys2Proof.Machine

/-- The bytes of a record with a payload of `n` bytes (R392). -/
def recSize (n : Nat) : Nat := 32 + 16 * ceilDiv n 16

/-- The records of an ERASED sector are none. -/
def Sector.used (x : Sector) : Nat := 64 + (x.recs.map fun r => recSize r.payload.length).sum

/-- STATE in a sector's header (R391): each state clears one bit of the one before. -/
def SecSt.word : SecSt → Nat
  | .erased => 0xFFFF
  | .opened => 0xFFFE
  | .full => 0xFFFC
  | .obsolete => 0xFFF8

/-- The check of a sector's header: over bytes 0, 1 and 4 to 15 (R391). -/
def Sector.rightCheck (x : Sector) : List Byte := shake256 8 (leBytes 2 x.mark ++ List.replicate 4 0xFF ++ leBytes 8 x.gen)

/-- The 64 bytes of a sector's header (R391). -/
def Sector.header (x : Sector) : List Byte :=
  if x.st = .erased then List.replicate 64 0xFF
  else
    leBytes 2 x.mark ++ leBytes 2 x.st.word ++ List.replicate 4 0xFF ++ leBytes 8 x.gen
      ++ (match x.badCheck with
        | none => x.rightCheck
        | some v => leBytes 8 v.toNat)
      ++ List.replicate 40 0xFF

/-- A sector's header checks (R391, R393): its MARK, and the check word, which is the right one where no other stands there. -/
def Sector.headOk (x : Sector) : Bool :=
  x.mark == 0x5A53 && (match x.badCheck with
    | none => true
    | some v => leBytes 8 v.toNat == x.rightCheck)

/-- A sector's bytes. -/
def sectorBytes : Nat := 65536

/-- The journal's sectors (Table 15-2). -/
def sectorCount : Nat := 3584

/-- A record in the framing of Table 15-3. -/
def JRec.bytes (r : JRec) : List Byte :=
  let body := leBytes 2 0x5A4A ++ leBytes 2 r.typ ++ leBytes 4 r.payload.length ++ leBytes 8 r.seq
    ++ padTo (16 * ceilDiv r.payload.length 16) r.payload
  let chk := match r.badCheck with
    | none => shake256 8 body
    | some v => leBytes 8 v.toNat
  body ++ chk ++ List.replicate 8 (if r.committed then 0 else 0xFF)

/-- Sector i. -/
def Journal.sector (j : Journal) (i : Nat) : Sector := Sparse.get Sector.erased j.sectors i

/-- The sectors that are not ERASED. -/
def Journal.busy (j : Journal) : Nat := (j.sectors.filter fun p => p.2.st ≠ .erased).length

/-- The journal's use in percent, rounded down (R394). -/
def Journal.usePct (j : Journal) : Nat := 100 * j.busy / sectorCount

/-- Use has reached 95 % (R396). -/
def Journal.high (j : Journal) : Bool := decide (95 ≤ j.usePct)

/-- Use exceeds `p` percent. -/
def Journal.above (j : Journal) (p : Nat) : Bool := decide (p * sectorCount < 100 * j.busy)

/-- The next ERASED sector in ascending order from `i + 1`, wrapping (R392); `n` sectors are tried. -/
def Journal.nextErased (j : Journal) : Nat → Nat → Option Nat
  | 0, _ => none
  | n + 1, i =>
    let k := (i + 1) % sectorCount
    if (j.sector k).st = .erased then some k else Journal.nextErased j n k

/-- Writes and commits one record (R392): where it does not fit, the OPEN sector becomes FULL and the next ERASED one is
opened. `none` where no sector is left, or the journal is damaged (R397). -/
def Journal.append (j : Journal) (typ : Nat) (payload : List Byte) : Option Journal :=
  let r : JRec := ⟨typ, payload, j.nextSeq, true, none⟩
  if j.damaged then none
  else
    let cur := j.sector j.cur
    if cur.st = .opened ∧ cur.used + recSize payload.length ≤ sectorBytes then
      some { j with sectors := Sparse.put j.sectors j.cur { cur with recs := cur.recs ++ [r] }, nextSeq := j.nextSeq + 1 }
    else
      match j.nextErased sectorCount j.cur with
      | none => none
      | some k =>
        let sec := Sparse.put j.sectors j.cur { cur with st := if cur.st = .opened then .full else cur.st }
        some { j with sectors := Sparse.put sec k ⟨.opened, j.nextSeq, 0x5A53, none, [r]⟩, cur := k, nextSeq := j.nextSeq + 1 }

/-- Puts a record in the batch (R392). -/
def Journal.push (j : Journal) (typ : Nat) (payload : List Byte) (next : JThen) : Journal :=
  { j with batch := j.batch ++ [⟨typ, payload, next⟩] }

/-- The sectors in log order: OPEN and FULL by GEN (R393). -/
def Journal.logSectors (j : Journal) : List Sector :=
  let live := (j.sectors.map (·.2)).filter fun x => x.headOk && (decide (x.st = .opened) || decide (x.st = .full))
  sortOn (·.gen) live

/-- The committed records in log order. -/
def Journal.records (j : Journal) : List JRec := (j.logSectors.map fun x => x.recs.filter (·.committed)).flatten

/-- The committed records from the base on (R393). -/
def Journal.live (j : Journal) : List JRec := j.records.filter fun r => decide (j.base ≤ r.seq)

/-- The record is kept from use 95 % on (R396): every one but OUTBOUND and WATERMARK. -/
def jrnDeferred (typ : Nat) : Bool := typ == 0x42 || typ == 0x44

end Sys2Proof.Machine
end

