-- ==== Sys2Proof/Machine/VentOps.lean ====
section
/-!
DEFINITION. The named operations of Vent: events and MSI-X (R351, R352), mailbox completion (R339), the journal's batch,
the end and the halt of an image (R376, R377), entry into Dormant (R383), and the commands that act on one tile.
-/
namespace Sys2Proof.Machine

/-- Vector v is masked: by its own bit, or by the function's (R352; log entry 15). -/
def HostIface.vecMasked (h : HostIface) (v : Nat) : Bool := h.msixMask || (Sparse.get MsixVec.reset h.msix v).masked

/-- Signals MSI-X vector v while MSI-X is enabled: a message, or the pending bit where the vector is masked (R352; log entry 15). -/
def HostIface.msi (h : HostIface) (v : Nat) : HostIface :=
  if !h.msixOn then h
  else if h.vecMasked v then { h with pba := Sparse.set false h.pba v true }
  else { h with signalled := Sparse.set 0 h.signalled v (Sparse.get 0 h.signalled v + 1) }

/-- A vector that pends is signalled once nothing masks it (R352; log entry 15). -/
def HostIface.msiPending (h : HostIface) (v : Nat) : HostIface :=
  if Sparse.get false h.pba v && h.msixOn && !h.vecMasked v then ({ h with pba := Sparse.set false h.pba v false } : HostIface).msi v else h

/-- The host cannot reach the function: the module is held in reset, or PERST_N is low (R428, R431, R432). -/
def State.hostDown (s : State) : Bool := s.vent.startup.held || s.aon.perstLow

/-- The event queue is full (R351). -/
def HostIface.evqFull (h : HostIface) : Bool := decide ((h.tail + 1) % 256 = h.head)

/-- Writes one event entry (Table 13-8) at TAIL and signals vector 1 (R351). -/
def HostIface.writeEvent (h : HostIface) (p : Ptp) (typ : Nat) (detail : List Byte) : HostIface :=
  let e := leBytes 2 typ ++ leBytes 2 0 ++ leBytes 4 h.evSeq ++ leBytes 6 p.sec ++ leBytes 4 p.ns ++ padTo 14 detail
  ({ h with evq := Sparse.setRun 0 h.evq (32 * h.tail) e, tail := (h.tail + 1) % 256,
            evSeq := (h.evSeq + 1) % 2 ^ 32 } : HostIface).msi 1

/-- A dropped event: LOST counts it (R351). -/
def HostIface.loseEvent (h : HostIface) : HostIface :=
  { h with lost := satN 16 (h.lost + 1), lostPend := h.lostPend + 1, evSeq := (h.evSeq + 1) % 2 ^ 32 }

/-- Posts an event (R351): nothing with EN = 0; dropped on a full queue; the first post with room is preceded by
OVERFLOW. -/
def HostIface.post (h : HostIface) (p : Ptp) (typ : Nat) (detail : List Byte) : HostIface :=
  if !h.en then h
  else if h.evqFull then h.loseEvent
  else
    let h1 := if h.lostPend = 0 then h else { h.writeEvent p 0x0C (leBytes 4 h.lostPend) with lostPend := 0 }
    if h1.evqFull then h1.loseEvent else h1.writeEvent p typ detail

/-- Posts an event with the time of the IEEE 1588 counter. -/
def State.post (s : State) (typ : Nat) (detail : List Byte) : State :=
  { s with host := s.host.post s.aon.ptp typ detail }

/-- Posts a HEALTH event (R409). -/
def State.health (s : State) (code : Nat) (data : List Byte) : State :=
  s.post 0x03 (leBytes 2 code ++ padTo 12 data)

/-- The request payload (R339). -/
def HostIface.req (h : HostIface) : List Byte := Sparse.getRun 0 h.payload 0 h.len

/-- The foreground command in progress, its code and its request: the oldest one that a reset of the function has left inside Vent, or the
mailbox's own at its doorbell (R339, R342). -/
def HostIface.asked (h : HostIface) : Option (Nat × List Byte) :=
  match h.inside with
  | r :: _ => some r
  | [] => if h.go then some (h.cmd, h.req) else none

/-- Completes the command in progress: response, RLEN, STATUS, then GO and MSI-X vector 0 (R339). The response of a command that a reset left
inside Vent is discarded (R342). -/
def HostIface.complete (h : HostIface) (status : Nat) (resp : List Byte) : HostIface :=
  if !h.inside.isEmpty then { h with inside := h.inside.drop 1 }
  else
  ({ h with payload := Sparse.setRun 0 h.payload 0 resp, rlen := resp.length, status := status, go := false } : HostIface).msi 0

/-- Completes the mailbox. -/
def State.complete (s : State) (status : Nat) (resp : List Byte) : State :=
  { s with host := s.host.complete status resp }

/-- Completion status (Table 13-5). -/
def stOK : Nat := 0x0000
def stBG_STARTED : Nat := 0x0001
def stUNSUPPORTED : Nat := 0x0010
def stBAD_LENGTH : Nat := 0x0011
def stBAD_FIELD : Nat := 0x0012
def stBUSY : Nat := 0x0013
def stWRONG_STATE : Nat := 0x0020
def stNOT_QUIESCENT : Nat := 0x0021
def stCTX_MISMATCH : Nat := 0x0022
def stWIN_UNDECLARED : Nat := 0x0030
def stWIN_HELD : Nat := 0x0031
def stREFUSED : Nat := 0x0040
def stVERIFY_FAIL : Nat := 0x0041
def stNO_DEBUG : Nat := 0x0050
def stTOKEN_BAD : Nat := 0x0051
def stRANGE : Nat := 0x0060
def stPARTNER : Nat := 0x0061
def stPORT : Nat := 0x0062
def stINTERNAL : Nat := 0x00FF

/-- The DETAIL of BG_DONE (Table 13-9). -/
def bgDetail (code status refusal : Nat) : List Byte := leBytes 2 code ++ leBytes 2 status ++ leBytes 2 refusal

/-- The background command ends: BG_DONE is posted, or, where the function has been reset since the command began, kept until EVQ.CFG.EN is
set again (R341, R342); with EN = 0 for another reason it is not posted (R351). -/
def State.bgDone (s : State) (code status refusal : Nat) : State :=
  let s1 := { s with host := { s.host with bg := none, bgHeld := false } }
  if s.host.en then s1.post 0x01 (bgDetail code status refusal)
  else if s.host.bgHeld then { s1 with host := { s1.host with bgDone := some (code, status, refusal) } }
  else s1

/-- DEV.STATE.STATE as a number (Table 13-4). -/
def DevSt.code : DevSt → Nat
  | .boot => 0
  | .dormant => 1
  | .idle => 2
  | .loaded => 3
  | .running => 4
  | .ended => 5

/-- Puts a record in the journal's batch; a mounted, undamaged journal takes it (R397). -/
def State.journal (s : State) (typ : Nat) (payload : List Byte) (next : JThen) : State :=
  if s.vent.journal.damaged ∨ !s.vent.journal.mounted then s
  else { s with vent := { s.vent with journal := s.vent.journal.push typ payload next } }

/-- Extends M3 with a record's payload and counts the debug event (R418). -/
def Sec.extend (c : Sec) (payload : List Byte) : Sec :=
  { c with m3 := shake256 32 (c.m3 ++ payload), dbgCount := (c.dbgCount + 1) % 2 ^ 32 }

/-- Ledger entry i. -/
def Ledger.entry (l : Ledger) (i : Nat) : LEntry := Sparse.get LEntry.free l.entries i

/-- Writes ledger entry i. -/
def Ledger.put (l : Ledger) (i : Nat) (e : LEntry) : Ledger := { l with entries := Sparse.set LEntry.free l.entries i e }

/-- A ledger entry as GET_ERRLEDGER returns it (Table 15-8). -/
def LEntry.bytes (e : LEntry) : List Byte :=
  leBytes 2 e.code ++ leBytes 1 e.domain ++ leBytes 1 e.state ++ leBytes 2 e.loc ++ leBytes 1 (b2n e.esc)
    ++ leBytes 1 e.action ++ leBytes 4 e.count ++ leBytes 6 e.time.sec ++ leBytes 4 e.time.ns ++ padTo 8 e.detail
    ++ leBytes 2 0

/-- What follows the commit of a record in Vent itself: M3 (R418) and the closing of a ledger entry (R405). -/
def State.afterCommit (s : State) (p : PendRec) : State :=
  match p.next with
  | .extendM3 => { s with sec := s.sec.extend p.payload }
  | .closeEntry i =>
    let e := s.vent.ledger.entry i
    { s with vent := { s.vent with ledger := s.vent.ledger.put i { e with state := 3, at' := s.cc } } }
  | _ => s

/-- Commits one record of the batch; where no sector is left nothing is written. -/
def State.commitOne (s : State) (p : PendRec) : State :=
  match s.vent.journal.append p.typ p.payload with
  | none => s
  | some j => ({ s with vent := { s.vent with journal := j } } : State).afterCommit p

/-- A record of the batch waits: from use 95 % on OUTBOUND and WATERMARK are not written (R396). -/
def Journal.waits (j : Journal) (p : PendRec) : Bool := j.high && jrnDeferred p.typ

/-- Writes the batch record by record with a commit; the records that wait stay at its front (R392, R396). -/
def State.writeBatch (commit : State → PendRec → State) (s : State) : State :=
  let s0 := { s with vent := { s.vent with journal := { s.vent.journal with batch := [] } } }
  let r := s.vent.journal.batch.foldl (fun (a : State × List PendRec) p =>
    if a.1.vent.journal.waits p then (a.1, a.2 ++ [p]) else (commit a.1 p, a.2)) (s0, [])
  { r.1 with vent := { r.1.vent with journal := { r.1.vent.journal with batch := r.2 ++ r.1.vent.journal.batch } } }

/-- Commits the batch, without what its records start elsewhere (R383, item 4). -/
def State.flushBatch (s : State) : State := s.writeBatch State.commitOne

/-- JOURNAL_HIGH once, when use has reached 95 % (R396). -/
def State.noteHigh (s : State) : State :=
  let j := s.vent.journal
  if j.highPosted || !j.high then s
  else ({ s with vent := { s.vent with journal := { j with highPosted := true } } } : State).health 0x0040 (leBytes 1 j.usePct)

/-- Tile t by virtual tile number. -/
def State.tile (s : State) (t : Nat) : Tile := Sparse.get Tile.reset s.tiles t

/-- Writes tile t. -/
def State.setTile (s : State) (t : Nat) (x : Tile) : State := { s with tiles := Sparse.put s.tiles t x }

/-- Tiles of the loaded image's grid (R358); 0 where none is loaded. -/
def State.gridTiles (s : State) : Nat :=
  match s.vent.image with
  | none => 0
  | some im => im.man.rows * im.man.cols

/-- Tiles of the grid in a state. -/
def State.countSt (s : State) (st : TileSt) : Nat :=
  ((List.range s.gridTiles).filter fun t => (s.tile t).st = st).length

/-- The DETAIL of IMAGE_END (Table 14-8). -/
def State.endDetail (s : State) (reason : Nat) : List Byte :=
  let f := match s.vent.run.firstStop with
    | none => (0xFFFF, 0)
    | some (_, t, c) => (t, c)
  leBytes 1 reason ++ leBytes 1 0 ++ leBytes 2 (s.countSt .done) ++ leBytes 2 (s.countSt .stopped)
    ++ leBytes 4 s.mig.sstep ++ leBytes 2 f.1 ++ leBytes 1 f.2 ++ leBytes 1 0

/-- The image ends (R376): DEV.STATE becomes ENDED and IMAGE_END is posted. -/
def State.imageEnd (s : State) (reason : Nat) : State :=
  let s1 := { s with vent := { s.vent with dev := .ended, run := { s.vent.run with parked := false } },
                     cal := { s.cal with parked := none } }
  s1.post 0x02 (s1.endDetail reason)

/-- The image ends once every tile is DONE or STOPPED (R376). -/
def State.checkEnd (s : State) : State :=
  if s.vent.dev = .running ∧ (List.range s.gridTiles).all (fun t => (s.tile t).st = .done || (s.tile t).st = .stopped) then
    s.imageEnd (if s.countSt .stopped = 0 then 0 else 3)
  else s

/-- Records the first tile that stops under Table 3-1; in one cycle the lowest tile (Table 14-8). -/
def Run.noteStop (r : Run) (cc t code : Nat) : Run :=
  match r.firstStop with
  | none => { r with firstStop := some (cc, t, code) }
  | some (c, t', _) => if c = cc ∧ t < t' then { r with firstStop := some (cc, t, code) } else r

/-- Writes a tile after a command ran on it: a stop under Table 3-1 is noted, and the image may end. -/
def State.afterTile (s : State) (t : Nat) (x : Tile) : State :=
  if x.st = (s.tile t).st then s.setTile t x
  else
    let s1 := s.setTile t x
    let s2 := if x.st = .stopped then
        { s1 with vent := { s1.vent with run := s1.vent.run.noteStop s.cc t x.errCode.toNat } } else s1
    if x.st = .stopped ∨ x.st = .done then s2.checkEnd else s2

/-- A command on one tile: the module has tiles 0 to 1,535 (R13; log entry 8). -/
def onTile (t : Nat) (s : State) (f : Tile → Tile) : Host.Outcome State Fault Refusal :=
  if t < 1536 then .next (s.afterTile t (f (s.tile t))) else .fault (.noSuchUnit t)

/-- The requesters whose transfers belong to the image: collectives, windows, messages and plumes (Table 11-6). -/
def ofImage : Requester → Bool
  | .coll => true
  | .win => true
  | .plume => true
  | _ => false

/-- A port abandons the image's transfers (R377); the frame on the wire completes. -/
def Port.dropImage (p : Port) : Port :=
  { p with holder := p.holder.map (fun g => { g with dead := g.dead || ofImage g.r }), pend := p.pend.filter (fun g => !ofImage g.r) }

/-- Halts every tile of the image by items 1 to 4 of R47 (R377, R406). -/
def State.haltTiles (s : State) : State := { s with tiles := s.tiles.map fun p => (p.1, p.2.halt) }

/-- The halt of R377, MODE = 1: every tile, the schedule, the collectives and window transfers; IMAGE_END with the given
reason. It acts while an image runs. DESIGN CHOICE (log entry 89): an entry that has fired and is not applied is dropped. -/
def State.haltImage (s : State) (reason : Nat) : State :=
  if s.vent.dev ≠ .running then s
  else
    let s1 := s.haltTiles
    ({ s1 with mig := { s1.mig with halted := true, fired := [] }, coll := { s1.coll with runs := [], early := [], waiting := [] },
               ports := s1.ports.map (fun p => (p.1, p.2.dropImage)),
               txp := { s1.txp with waiting := s1.txp.waiting.filter (fun w => !ofImage w.g.r) } } : State).imageEnd reason

/-- Every port DISABLED (R382, R383, R431): its transfers are aborted and the replay ends. -/
def Port.disable (p : Port) : Port := { p with st := .disabled, laneUp := 0, holder := none, pend := [], replay := [] }

/-- Every port DISABLED. -/
def State.disablePorts (s : State) : State := { s with ports := s.ports.map fun p => (p.1, p.2.disable) }

/-- An IMAGE_START that waits for its gate ends: no tile starts any more, and the mailbox is free again (R384; log entry 87). -/
def State.endStart (s : State) (status : Nat) : State :=
  if !s.vent.run.starting then s
  else ({ s with vent := { s.vent with run := { s.vent.run with starting := false, gateAt := none } } } : State).complete status []

/-- Entry into Dormant (R383): tiles halted, ports DISABLED, HDM refused, the batch and a DORMANT record committed where
the journal can be written, then DEV.STATE, DCAUSE, vector 2 and the DORMANT event; M1 is cleared (R417). A module
that is Dormant already stays as it is. -/
def State.enterDormant (s0 : State) (cause : Nat) : State :=
  if s0.vent.dev = .dormant then s0
  else
    let s := s0.endStart stWRONG_STATE
    let s1 := s.haltTiles.disablePorts
    let s2 := { s1 with host := { s1.host with memActive := false },
                        mig := { s1.mig with halted := true, fired := [] }, coll := { s1.coll with runs := [], early := [], waiting := [] } }
    let s3 := s2.flushBatch
    let s4 := match (if s3.vent.journal.mounted then
          s3.vent.journal.append 0x03 (leBytes 2 cause ++ leBytes 6 s3.aon.ptp.sec ++ leBytes 4 s3.aon.ptp.ns) else none) with
      | none => s3
      | some j => ({ s3 with vent := { s3.vent with journal := j } } : State).noteHigh
    let s5 := { s4 with vent := { s4.vent with dev := .dormant, dcause := cause },
                        sec := { s4.sec with m1 := List.replicate 64 0 }, host := s4.host.msi 2 }
    s5.post 0x0B (leBytes 2 cause)

end Sys2Proof.Machine
end

