-- ==== Sys2Proof/Machine/LoadStore.lean ====
section
/-!
DEFINITION. Loads and stores through a handle (R51, R60, R65), the enqueue instructions (R54), and the tile register
instructions with the stall of a TILE.MQ_MODE write (R69, R117).
-/
namespace Sys2Proof.Machine

/-- The offset o of an access: s[rs] + imm × size as an unsigned 32-bit value (R48). -/
def memOff (b : Word) (imm : BitVec 10) (size : Nat) : Nat := (b + imm.signExtend 32 * w32 size).toNat

/-- The check of an access through handle h (R47): the stopping condition, or none. -/
def memCheck (h o size : Nat) (store : Bool) : Option Byte :=
  if !hValid h then some cHINVALID
  else if !hInBounds h o size then some cHBOUNDS
  else if store && hWp h then some cHWP
  else if o % size ≠ 0 then some cMISALIGN
  else none

/-- A load: the bytes at offset o of the handle, with the poison of their word (R51). `wr` writes the destination. -/
def loadOp (opc size : Nat) (t rd h rs : Nat) (imm : BitVec 10) (wr : Tile → Nat → Bool → Tile) (s : State) :
    Host.Outcome State Fault Refusal :=
  onTile t s fun x => x.issue s.cc (encM opc rd h rs imm.toNat) [rs] fun y =>
    let o := memOff (y.reg rs) imm size
    let y1 := y.ctrl (y.regPz rs)
    match memCheck (y.hndOf h) o size false with
    | some c => y1.stop c
    | none =>
      let a := hByteAddr (y.hndOf h) o
      let y2 := (y1.touch a size).ask .access [⟨banksOf a size, false⟩] (destsOf (encM opc rd h rs imm.toNat))
      (wr y2 (leNat (y2.seen a size)) (y2.anyPz a size)).advance s.cc

/-- Writes a loaded value to rd, ready four cycles after issue (Table 3-3). -/
def loadTo (cc rd : Nat) (f : Nat → Word) (y : Tile) (v : Nat) (pz : Bool) : Tile :=
  (y.setReg rd (f v) pz).setReady rd (cc + 4)

/-- A store of the low bytes of `v`: poisoned where the register is or the tile is tainted (R51, R52). -/
def storeOp (opc size : Nat) (t rsrc h rs : Nat) (imm : BitVec 10) (srcs : List Nat) (s : State) :
    Host.Outcome State Fault Refusal :=
  onTile t s fun x => x.issue s.cc (encM opc rsrc h rs imm.toNat) (rs :: srcs) fun y =>
    let o := memOff (y.reg rs) imm size
    let y1 := y.ctrl (y.regPz rs)
    match memCheck (y.hndOf h) o size true with
    | some c => y1.stop c
    | none =>
      let bs := (srcs.map fun r => leBytes 4 (y.reg r).toNat).flatten.take size
      let a := hByteAddr (y.hndOf h) o
      ((y1.write a bs (srcs.any y.regPz || y1.taint)).ask .access [⟨banksOf a size, false⟩] []).advance s.cc

/-- LD.B sign-extends (R439). -/
def execLdB (t : Nat) (rd : BitVec 5) (h : BitVec 6) (rs : BitVec 5) (imm : BitVec 10) (s : State) :=
  loadOp 0x20 1 t rd.toNat h.toNat rs.toNat imm (loadTo s.cc rd.toNat fun v => (BitVec.ofNat 8 v).signExtend 32) s
/-- LD.BU zero-extends (R439). -/
def execLdBu (t : Nat) (rd : BitVec 5) (h : BitVec 6) (rs : BitVec 5) (imm : BitVec 10) (s : State) :=
  loadOp 0x21 1 t rd.toNat h.toNat rs.toNat imm (loadTo s.cc rd.toNat w32) s
/-- LD.H sign-extends (R439). -/
def execLdH (t : Nat) (rd : BitVec 5) (h : BitVec 6) (rs : BitVec 5) (imm : BitVec 10) (s : State) :=
  loadOp 0x22 2 t rd.toNat h.toNat rs.toNat imm (loadTo s.cc rd.toNat fun v => (BitVec.ofNat 16 v).signExtend 32) s
/-- LD.HU zero-extends (R439). -/
def execLdHu (t : Nat) (rd : BitVec 5) (h : BitVec 6) (rs : BitVec 5) (imm : BitVec 10) (s : State) :=
  loadOp 0x23 2 t rd.toNat h.toNat rs.toNat imm (loadTo s.cc rd.toNat w32) s
/-- LD.W (R65). -/
def execLdW (t : Nat) (rd : BitVec 5) (h : BitVec 6) (rs : BitVec 5) (imm : BitVec 10) (s : State) :=
  loadOp 0x24 4 t rd.toNat h.toNat rs.toNat imm (loadTo s.cc rd.toNat w32) s
/-- LD.D loads the pair rd, rd + 1, the low word in the even register (R439). -/
def execLdD (t : Nat) (rd : BitVec 5) (h : BitVec 6) (rs : BitVec 5) (imm : BitVec 10) (s : State) :=
  loadOp 0x25 8 t rd.toNat h.toNat rs.toNat imm
    (fun y v pz => loadTo s.cc (rd.toNat + 1) (fun u => w32 (u / 2 ^ 32)) (loadTo s.cc rd.toNat w32 y v pz) v pz) s
/-- ST.B (R65). -/
def execStB (t : Nat) (rd : BitVec 5) (h : BitVec 6) (rs : BitVec 5) (imm : BitVec 10) (s : State) :=
  storeOp 0x26 1 t rd.toNat h.toNat rs.toNat imm [rd.toNat] s
/-- ST.H (R65). -/
def execStH (t : Nat) (rd : BitVec 5) (h : BitVec 6) (rs : BitVec 5) (imm : BitVec 10) (s : State) :=
  storeOp 0x27 2 t rd.toNat h.toNat rs.toNat imm [rd.toNat] s
/-- ST.W (R65). -/
def execStW (t : Nat) (rd : BitVec 5) (h : BitVec 6) (rs : BitVec 5) (imm : BitVec 10) (s : State) :=
  storeOp 0x28 4 t rd.toNat h.toNat rs.toNat imm [rd.toNat] s
/-- ST.D stores the pair rsrc, rsrc + 1 (R439). -/
def execStD (t : Nat) (rd : BitVec 5) (h : BitVec 6) (rs : BitVec 5) (imm : BitVec 10) (s : State) :=
  storeOp 0x29 8 t rd.toNat h.toNat rs.toNat imm [rd.toNat, rd.toNat + 1] s

/-- The four queues (Table 3-6). -/
inductive EQueue where
  | f | b | v | d
  deriving DecidableEq, Repr

def Tile.queue (x : Tile) : EQueue → List QEnt
  | .f => x.qf
  | .b => x.qb
  | .v => x.qv
  | .d => x.qd

def Tile.setQueue (x : Tile) (q : EQueue) (l : List QEnt) : Tile :=
  match q with
  | .f => { x with qf := l }
  | .b => { x with qb := l }
  | .v => { x with qv := l }
  | .d => { x with qd := l }

/-- The depth of a queue (Table 3-6). -/
def EQueue.depth : EQueue → Nat
  | .d => 32
  | _ => 16

/-- The FUNC field of a queue's ENQ (Table 3-2a). -/
def EQueue.func : EQueue → Nat
  | .f => 0
  | .b => 1
  | .v => 2
  | .d => 3

/-- Queue q has room for an entry. -/
def Tile.hasRoom (q : EQueue) (x : Tile) : Bool := decide ((x.queue q).length < q.depth)

/-- ENQ.x places s[rs1]:s[rs2] at the tail of queue x; at a full queue the core stalls (R54). -/
def enqOp (q : EQueue) (t rs1 rs2 : Nat) (s : State) : Host.Outcome State Fault Refusal :=
  onTile t s fun x => x.issueWhen s.cc (encR 0x2C 0 rs1 rs2 q.func) [rs1, rs2] (Tile.hasRoom q) fun y =>
    let z := y.ctrl (y.regPz rs1 || y.regPz rs2)
    (z.setQueue q (z.queue q ++ [⟨y.reg rs1 ++ y.reg rs2, y.pcHi, false⟩])).advance s.cc

/-- ENQ.F (R54). -/
def execEnqF (t : Nat) (rs1 rs2 : BitVec 5) (s : State) := enqOp .f t rs1.toNat rs2.toNat s
/-- ENQ.B (R54). -/
def execEnqB (t : Nat) (rs1 rs2 : BitVec 5) (s : State) := enqOp .b t rs1.toNat rs2.toNat s
/-- ENQ.V (R54). -/
def execEnqV (t : Nat) (rs1 rs2 : BitVec 5) (s : State) := enqOp .v t rs1.toNat rs2.toNat s
/-- ENQ.D (R54). -/
def execEnqD (t : Nat) (rs1 rs2 : BitVec 5) (s : State) := enqOp .d t rs1.toNat rs2.toNat s

/-- TRR: rd ← the tile register at byte offset 4 × off; a Vent-only register reads as zero (R69). -/
def execTrr (t : Nat) (rd : BitVec 5) (off : BitVec 10) (s : State) : Host.Outcome State Fault Refusal :=
  onTile t s fun x => x.issue s.cc (encI 0x2D rd.toNat 0 (4 * off.toNat)) [] fun y =>
    let o := 4 * off.toNat
    (y.readEffect o).retire s.cc rd.toNat (if ventOnly o then 0 else y.peek o) false 2

/-- TRW: the tile register at byte offset 4 × off ← s[rs1]; a write of TILE.MQ_MODE with a split out of range sets REJ,
any other stalls until the matrix engine has drained (R69, R117). -/
def execTrw (t : Nat) (rs1 : BitVec 5) (off : BitVec 10) (s : State) : Host.Outcome State Fault Refusal :=
  onTile t s fun x => x.issue s.cc (encI 0x2E 0 rs1.toNat (4 * off.toNat)) [rs1.toNat] fun y =>
    let v := y.reg rs1.toNat
    let z := y.ctrl (y.regPz rs1.toNat)
    if 4 * off.toNat = 0x500 then
      if !mqOk v.toNat then
        ({ z with mx := { z.mx with mqmode := z.mx.mqmode ||| 0x80000000 } } : Tile).advance s.cc
      else if z.mxDrained then (z.applyMq v).advance s.cc
      else { z with sleep := .mqApply v }
    else (z.poke (4 * off.toNat) v).advance s.cc

/-- MQ_MODE_APPLY: the stalled write takes effect once both queues are empty and the sub-units idle (R117). -/
def execMqModeApply (t : Nat) (s : State) : Host.Outcome State Fault Refusal :=
  onTile t s fun x =>
    match x.sleep with
    | .mqApply v =>
      if x.st = .run ∧ x.mxDrained then (({ x with sleep := .none } : Tile).applyMq v).advance s.cc else x
    | _ => x

end Sys2Proof.Machine
end

