-- ==== Sys2Proof/Machine/Matrix.lean ====
section
/-!
DEFINITION. The matrix engine (chapter 05): issue from the two queues, loads with the mirror path, products, slice
handoff, and their completions.
-/
namespace Sys2Proof.Machine

/-- `k` pieces of `n` elements each. -/
def chunks {α : Type} (n : Nat) : Nat → List α → List (List α)
  | 0, _ => []
  | k + 1, l => l.take n :: chunks n k (l.drop n)

/-- The queue of a matrix row. -/
def mqOf : MQueue → EQueue
  | .f => .f
  | .b => .b

/-- A slot or C-block number lies in its queue's range (R114). -/
def inRange (q : MQueue) (split n : Nat) : Bool :=
  match q with
  | .f => decide (n < split)
  | .b => decide (split ≤ n)

/-- Slots of a block (Table 5-2). -/
def slotsOf : Nat → Nat
  | 0 => 4
  | 1 => 2
  | 2 => 2
  | 8 => 2
  | _ => 1

/-- L of Table 5-5. -/
def mldCycles : Nat → Nat
  | 0 => 64
  | 1 => 32
  | 2 => 32
  | 5 => 9
  | 7 => 8
  | 8 => 17
  | _ => 16

/-- The fields of MLD (Table 5-4). -/
def mldMir (w : Nat) : Bool := bitAt w 42
def mldBuf (w : Nat) : Bool := bitAt w 41
def mldSlot (w : Nat) : Nat := fld w 40 36
def mldH (w : Nat) : Nat := fld w 35 30
def mldBlk (w : Nat) : Nat := fld w 29 20
def mldFmt (w : Nat) : Nat := fld w 19 16

/-- The fields of MMA (Table 5-6). -/
def mmaZero (w : Nat) : Bool := bitAt w 42
def mmaFacet (w : Nat) : Nat := fld w 41 40
def mmaCb (w : Nat) : Nat := fld w 39 36
def mmaAs (w : Nat) : Nat := fld w 35 32
def mmaBsl (w : Nat) : Nat := fld w 31 27
def mmaKb (w : Nat) : Nat := fld w 26 24 + 1
def mmaFa (w : Nat) : Nat := fld w 23 20
def mmaFb (w : Nat) : Nat := fld w 19 16
def mmaPscale (w : Nat) : Int := sext 8 (fld w 15 8)

/-- The fields of SLICE (Table 5-7). -/
def slDst (w : Nat) : Bool := bitAt w 42
def slClr (w : Nat) : Bool := bitAt w 41
def slCb (w : Nat) : Nat := fld w 40 37
def slR0 (w : Nat) : Nat := fld w 36 33
def slNr (w : Nat) : Nat := fld w 32 29 + 1
def slVd (w : Nat) : Nat := fld w 28 24
def slH (w : Nat) : Nat := fld w 23 18
def slBlk (w : Nat) : Nat := fld w 17 8

/-- The slots an MMA reads. -/
def mmaAEnd (w : Nat) : Nat := mmaAs w + mmaKb w * slotsOf (mmaFa w)
def mmaBEnd (w : Nat) : Nat := mmaBsl w + mmaKb w * slotsOf (mmaFb w)

/-- Reduction indices per cycle of a permitted operand pair, and the compute cycles of one K-block (Table 4-8, R108). -/
def pairClass (fa fb facet : Nat) : Option (Nat × Nat) :=
  let has (f : Nat) : Bool := fa == f || fb == f
  if facet ≠ 0 then
    if (fa == 0 && (fb == 0 || fb == 1)) || (fa == 1 && fb == 0) then some (1, 64 * facet) else none
  else if !fmtOk fa || !fmtOk fb || has 0 || has 9 then none
  else if fmtInt fa || fmtInt fb then
    if fmtInt fa && fmtInt fb then (if has 6 then some (2, 32) else some (4, 16)) else none
  else if has 1 || has 2 then some (1, 64)
  else if has 3 || has 4 || has 8 then some (2, 32)
  else some (4, 16)

/-- Two ranges of slots meet. -/
def overlap (a a' b b' : Nat) : Bool := decide (a < b') && decide (b < a')

/-- The sub-unit of the instruction is free (R113): the feeder, the array, the handoff unit. -/
def Tile.mxUnit (x : Tile) (cc w : Nat) : Bool :=
  match eOpc w with
  | 0x10 => x.mx.mld.isNone
  | 0x20 => x.mx.mmas.all fun m => decide (m.busyEnd ≤ cc)
  | 0x30 => x.mx.slices.all fun l => decide (l.readEnd ≤ cc)
  | _ => true

/-- The interlocks of the instruction are clear (Table 5-8). -/
def Tile.mxLocks (x : Tile) (cc w : Nat) : Bool :=
  match eOpc w with
  | 0x10 =>
    let n := mldSlot w + slotsOf (mldFmt w)
    x.mx.mmas.all fun m => decide (m.busyEnd ≤ cc) ||
      !(if mldBuf w then overlap m.bb0 m.bb1 (mldSlot w) n else overlap m.a0 m.a1 (mldSlot w) n)
  | 0x20 =>
    (match x.mx.mld with
        | none => true
        | some f => !(if f.buf then overlap f.slot (f.slot + f.nslots) (mmaBsl w) (mmaBEnd w)
            else overlap f.slot (f.slot + f.nslots) (mmaAs w) (mmaAEnd w)))
      && x.mx.slices.all fun l => decide (l.cb ≠ mmaCb w) || decide (l.readEnd ≤ cc)
  | 0x30 => x.mx.mmas.all fun m => decide (m.cb ≠ slCb w)
  | _ => true

/-- The sub-unit of the instruction is free and its interlocks are clear (R113). -/
def Tile.mxClear (x : Tile) (cc w : Nat) : Bool := x.mxUnit cc w && x.mxLocks cc w

/-- The wait of an engine instruction is satisfied: none, granted, or its flag could be granted now (R172). -/
def Tile.waitOk (x : Tile) (e : QEnt) : Bool :=
  let n := eWflag e.word.toNat
  n == 0x3F || e.granted || x.grantable n

/-- The head of a matrix queue is eligible (R113). -/
def Tile.mxEligible (x : Tile) (cc : Nat) (q : MQueue) : Bool :=
  match x.queue (mqOf q) with
  | [] => false
  | e :: _ => x.waitOk e && x.mxClear cc e.word.toNat && decide (x.mx.next ≤ cc)

/-- The queue the matrix engine issues from in this cycle (R115, R116). -/
def Tile.mxChoice (x : Tile) (cc : Nat) : Option MQueue :=
  if mqPaired x.mx.mqmode.toNat then
    let q := if x.mx.turn then MQueue.b else MQueue.f
    if x.mxEligible cc q then some q else none
  else if x.mxEligible cc .f then some .f
  else if x.mxEligible cc .b then some .b
  else none

/-- The issue of an instruction from its queue: it leaves the queue, and TE passes the turn (R113, R116). -/
def Tile.mxLeave (x : Tile) (cc : Nat) (q : MQueue) (w : Nat) : Tile :=
  let y := x.setQueue (mqOf q) ((x.queue (mqOf q)).drop 1)
  { y with mx := { y.mx with next := cc + 1, lastB := decide (q = .b),
                             turn := if mqPaired y.mx.mqmode.toNat && bitAt w 43 then !y.mx.turn else y.mx.turn } }

/-- The OPC values of Table 5-3. -/
def mxOpc (o : Nat) : Bool := o == 0x01 || o == 0x10 || o == 0x20 || o == 0x30

/-- The checks of an MLD, in the order of R57. DEDUCED (log entry 63): a BS block names H + 1 too, unless H is itself a scale handle (R80), so
the validity of both handles comes before any agreement with them, and H = 63, which has no H + 1, breaks a check on the instruction's own
fields. -/
def Tile.mldCheck (x : Tile) (q : MQueue) (w : Nat) : Option Byte :=
  let f := mldFmt w
  let n := slotsOf f
  let h := x.hndOf (mldH w)
  let mode := x.mx.mqmode.toNat
  let cap := if mldBuf w then 32 else 16
  let split := if mldBuf w then mqBsplit mode else mqAsplit mode
  if fld w 15 0 ≠ 0 ∨ !fmtOk f ∨ f = 9 ∨ mldSlot w % n ≠ 0 ∨ cap < mldSlot w + n
      ∨ !((List.range n).all fun i => inRange q split (mldSlot w + i)) then some cDESC
  else if fmtBS f ∧ mldH w = 63 ∧ !x.isScale 63 then some cDESC
  else if !hValid h ∨ (fmtBS f ∧ !x.isScale (mldH w) ∧ !hValid (x.hndOf (mldH w + 1))) then some cHINVALID
  else if hLayout h = 0 ∨ hLayout h = 3 ∨ hFmt h ≠ f ∨ x.isScale (mldH w)
      ∨ (fmtBS f ∧ hFmt (x.hndOf (mldH w + 1)) ≠ f) then some cDESC
  else if !hInBounds h (mldBlk w * (128 * fmtBits f)) (128 * fmtBits f)
      ∨ (fmtBS f ∧ !hInBounds (x.hndOf (mldH w + 1)) (32 * mldBlk w) 32) then some cHBOUNDS
  else none

/-- The bits of the element at tile-store address a; `hi` selects the high nibble of a 4-bit element. -/
def Tile.elemBits (x : Tile) (bits a : Nat) (hi : Bool) : Nat :=
  if bits = 4 then (let b := (x.seenByte a).toNat; if hi then b / 16 else b % 16)
  else leNat (x.seen a (bits / 8))

/-- Elements packed as the slots and the tile store hold them: two 4-bit elements a byte, the even one low (R77). -/
def packElems (bits : Nat) (l : List Nat) : List Byte :=
  if bits = 4 then (chunks 2 (l.length / 2) l).map fun p => BitVec.ofNat 8 (p.getD 0 0 % 16 + 16 * (p.getD 1 0 % 16))
  else (l.map (leBytes (bits / 8))).flatten

/-- The block that an MLD carries: the slot's elements in row order, mirrored or not (R104), then the scale bytes; and the
poison of each 64-bit slot word (R90). -/
def Tile.mldData (x : Tile) (w : Nat) : List Byte × List Bool :=
  let f := mldFmt w
  let bits := fmtBits f
  let h := x.hndOf (mldH w)
  let hs := x.hndOf (mldH w + 1)
  let k := mldBlk w
  let sAddr (r : Nat) : Nat := hByteAddr hs (32 * k + r)
  let els := (List.range 1024).map fun e =>
    let r := if mldMir w then e % 32 else e / 32
    let c := if mldMir w then e / 32 else e % 32
    let a := hElemAddr h (bits / 4) (1024 * k + 32 * r + c)
    (x.elemBits bits a (c % 2 == 1), x.wordPz (a / 8) || (fmtBS f && x.wordPz (sAddr r / 8)))
  let per := 64 / bits
  let pz := (chunks per (1024 / per) els).map fun g => g.any (·.2)
  if fmtBS f then
    let sc := (List.range 32).map fun r => x.seenByte (sAddr r)
    let spz := (List.range 4).map fun i => (List.range 8).any fun j => x.wordPz (sAddr (8 * i + j) / 8)
    (packElems bits (els.map (·.1)) ++ sc, pz ++ spz)
  else (packElems bits (els.map (·.1)), pz)

/-- The banks that an MLD reads from cycle to cycle (R67, R68, R105): 64 B of its block, which lies in one quad; last the scale bytes. -/
def Tile.mldNeeds (x : Tile) (w : Nat) : List BankNeed :=
  let f := mldFmt w
  let a := 64 * hBase (x.hndOf (mldH w)) + mldBlk w * (128 * fmtBits f)
  List.replicate (2 * fmtBits f) ⟨quadBanks (a / 65536), false⟩
    ++ (if fmtBS f then [⟨banksOf (hByteAddr (x.hndOf (mldH w + 1)) (32 * mldBlk w)) 32, false⟩] else [])

/-- MLD (R103 to R105): the reads at issue, the block in the feeder until `cc + L`. -/
def Tile.mld (cc : Nat) (q : MQueue) (x : Tile) (w : Nat) : Tile :=
  let f := mldFmt w
  let h := x.hndOf (mldH w)
  let y0 := x.touch (64 * hBase h + mldBlk w * (128 * fmtBits f)) (128 * fmtBits f)
  let y := if fmtBS f then y0.touch (hByteAddr (x.hndOf (mldH w + 1)) (32 * mldBlk w)) 32 else y0
  let d := y.mldData w
  let z := (y.mxLeave cc q w).ask .feeder (x.mldNeeds w) []
  { z with mx := { z.mx with mld := some ⟨cc + mldCycles f, mldBuf w, mldSlot w, slotsOf f, ⟨true, mldMir w, f⟩, d.1, d.2,
                                          eSflag w⟩ } }

/-- The slots take the block and its tag; the MLD signals (R103, R105). -/
def Tile.mldLand (x : Tile) (f : MldFly) : Tile :=
  let tags (m : Sparse Tag) : Sparse Tag :=
    (List.range f.nslots).foldl (fun m i => Sparse.set ⟨false, false, 0⟩ m (f.slot + i) f.tag) m
  let clean := (List.range f.pz.length).foldl (fun m i => Sparse.set Ecc.ok m (eccKey (if f.buf then 2 else 1) (128 * f.slot + i)) .ok) x.ecc
  let mx := if f.buf then
      { x.mx with mld := none, bbuf := Sparse.setRun 0 x.mx.bbuf (1024 * f.slot) f.data,
                  bpz := Sparse.setRun false x.mx.bpz (128 * f.slot) f.pz, btag := tags x.mx.btag }
    else
      { x.mx with mld := none, abuf := Sparse.setRun 0 x.mx.abuf (1024 * f.slot) f.data,
                  apz := Sparse.setRun false x.mx.apz (128 * f.slot) f.pz, atag := tags x.mx.atag }
  ({ x with mx := mx, ecc := clean } : Tile).signal f.sflag

/-- An operand element: its value, its poison (its own word's or its scale's), whether its block is a block-NaN. -/
structure El where
  v : Val
  pz : Bool
  bn : Bool

/-- Element (i, j) of the block in slots from `slot` of a buffer (Table 5-2, R79, R81): a scale byte applies to a row, or to
a column of a mirrored block. -/
def slotEl (buf : Sparse Byte) (pz : Sparse Bool) (slot f : Nat) (mir : Bool) (i j : Nat) : El :=
  let bits := fmtBits f
  let e := 32 * i + j
  let a := 1024 * slot + e * bits / 8
  let b := (Sparse.get 0 buf a).toNat
  let code := if bits = 4 then (if e % 2 = 1 then b / 16 else b % 16) else leNat (Sparse.getRun 0 buf a (bits / 8))
  let p := Sparse.get false pz (a / 8)
  if fmtInt f then ⟨intVal bits code, p, false⟩
  else if fmtBS f then
    let sa := 1024 * slot + 128 * bits + (if mir then j else i)
    let sc := (Sparse.get 0 buf sa).toNat
    let p' := p || Sparse.get false pz (sa / 8)
    if sc = 0xFF then ⟨.nan false, p', true⟩
    else
      match (ffOf f).decode code with
      | .fin n m ex => ⟨.fin n m (ex + sc - 127), p', false⟩
      | v => ⟨v, p', false⟩
  else ⟨(ffOf f).decode code, p, false⟩

/-- The facets of an operand (R95, R97): of an FP32 value its truncated parts; an infinity, a NaN has only the first; a BF16
operand's higher facets are zero. -/
def facets (n f : Nat) (v : Val) : List Val :=
  match v with
  | .fin _ _ _ =>
    if f = 0 then
      let cut (y : Val) : Val := ffBF16.decode (ffBF16.round .rtz 0 false y).1
      let a1 := cut v
      let r1 := (vadd v a1.negate).1
      let a2 := cut r1
      let a3 := cut (vadd r1 a2.negate).1
      [a1, a2, a3].take n
    else [v, .fin false 0 0, .fin false 0 0].take n
  | _ => [v]

/-- A value is an infinity or a NaN. -/
def Val.special : Val → Bool
  | .fin _ _ _ => false
  | _ => true

/-- The products of one reduction index, with their flags: one, or the facet products of Table 4-10; with an infinity or a NaN the product
of the first facets alone (R97). -/
def indexProducts (facet fa fb : Nat) (a b : El) : List (Val × Flg) :=
  if facet = 0 then [vmul a.v b.v]
  else if a.v.special || b.v.special then
    [vmul ((facets 1 fa a.v).headD a.v) ((facets 1 fb b.v).headD b.v)]
  else
    let la := facets facet fa a.v
    let lb := facets facet fb b.v
    ((List.range facet).map fun p => (List.range (p + 1)).filterMap fun i =>
      match la[i]?, lb[p - i]? with
      | some u, some v => some (vmul u v)
      | _, _ => none).flatten

/-- The exact sum of the terms of one step, whatever their order (R93, Table 4-9): a NaN with a NaN term, a NaN and NV with infinities of
both signs. -/
def sumTerms (l : List (Val × Flg)) : Val × Flg :=
  let has (v : Val) : Bool := l.any fun t => decide (t.1 = v)
  let fl := l.foldl (fun a t => a ||| t.2) 0
  let clash : Flg := if has (.inf false) && has (.inf true) then fNV else 0
  if clash ≠ 0 ∨ l.any (fun t => t.1.isNaN) then (.nan false, fl ||| clash)
  else
    match l with
    | [] => (.fin false 0 0, 0)
    | t :: ts => (ts.foldl (fun a b => (vadd a b.1).1) t.1, fl)

/-- A value scaled by a power of two. -/
def scaleVal (k : Int) : Val → Val
  | .fin n m e => .fin n m (e + k)
  | v => v

/-- One step of a float accumulation (R93, R107): `fresh` leaves the accumulator out. -/
def stepF (facet fa fb : Nat) (ps : Int) (fresh : Bool) (c : Word) (l : List (El × El)) : Word × Flg :=
  let terms := (l.map fun p => (indexProducts facet fa fb p.1 p.2).map fun t => (scaleVal ps t.1, t.2)).flatten
  let bn : Flg := if l.any fun p => p.1.bn || p.2.bn then fBN else 0
  let r := sumTerms (if fresh then terms else (f32 c, 0) :: terms)
  let q := rnd32 r
  (q.1, q.2 ||| bn)

/-- The integer of an element. -/
def El.int (a : El) : Int :=
  match a.v with
  | .fin n m _ => if n then -(m : Int) else m
  | _ => 0

/-- One step of an integer accumulation: exact, wrapping with OF (R93). -/
def stepI (fresh : Bool) (c : Word) (l : List (El × El)) : Word × Flg :=
  let s := (l.map fun p => p.1.int * p.2.int).sum + (if fresh then 0 else c.toInt)
  let r := BitVec.ofInt 32 s
  (r, if r.toInt = s then 0 else fOF)

/-- The accumulation of the two columns that share an accumulator word over all steps: values, the word's poison, flags
(R107, Table 4-9). A step with a poisoned operand or accumulator raises PZ only. -/
def stepPair (step : Bool → Word → List (El × El) → Word × Flg) :
    Bool → Word × Word × Bool × Flg → List (List (El × El) × List (El × El)) → Word × Word × Bool × Flg
  | _, r, [] => r
  | fresh, (c0, c1, pz, fl), (l0, l1) :: rest =>
    let bad (l : List (El × El)) : Bool := l.any fun p => p.1.pz || p.2.pz
    let r0 := step fresh c0 l0
    let r1 := step fresh c1 l1
    let prior := pz && !fresh
    let f0 := if prior || bad l0 then fPZ else r0.2
    let f1 := if prior || bad l1 then fPZ else r1.2
    stepPair step false (r0.1, r1.1, prior || bad l0 || bad l1, fl ||| f0 ||| f1) rest

/-- The checks of an MMA, all ENGINE_DESC (R106). DESIGN CHOICE (log entry 64): AS or BSL need be no multiple of the slot count; a block then
lies across two loaded ones, with the mirror bit of its first slot. -/
def Tile.mmaCheck (x : Tile) (q : MQueue) (w : Nat) : Bool :=
  let fa := mmaFa w
  let fb := mmaFb w
  let mode := x.mx.mqmode.toNat
  let int := fmtInt fa
  let tagOk (m : Sparse Tag) (f : Nat) (i : Nat) : Bool :=
    let t := Sparse.get ⟨false, false, 0⟩ m i
    t.valid && t.fmt == f
  let span (a b : Nat) : List Nat := (List.range (b - a)).map (a + ·)
  (pairClass fa fb (mmaFacet w)).isSome && fld w 7 0 == 0
    && decide (mmaAEnd w ≤ 16) && decide (mmaBEnd w ≤ 32)
    && ((span (mmaAs w) (mmaAEnd w)).all (inRange q (mqAsplit mode)))
    && ((span (mmaBsl w) (mmaBEnd w)).all (inRange q (mqBsplit mode))) && inRange q (mqCsplit mode) (mmaCb w)
    && ((span (mmaAs w) (mmaAEnd w)).all (tagOk x.mx.atag fa)) && ((span (mmaBsl w) (mmaBEnd w)).all (tagOk x.mx.btag fb))
    && (mmaZero w || decide (x.cst (mmaCb w) = .empty) || decide (x.cst (mmaCb w) = if int then CSt.int32 else CSt.fp32))
    && (!int || mmaPscale w == 0)

/-- A read of word w of a matrix store (region 1, 2 or 3): check bits, poison on an uncorrectable error, delivery count
(R99). -/
def Tile.mxTouch (region : Nat) (x : Tile) (w : Nat) : Tile :=
  let y := x.check region w fun z =>
    match region with
    | 1 => { z with mx := { z.mx with apz := Sparse.set false z.mx.apz w true } }
    | 2 => { z with mx := { z.mx with bpz := Sparse.set false z.mx.bpz w true } }
    | _ => { z with mx := { z.mx with accPz := Sparse.set false z.mx.accPz w true } }
  let pz := match region with
    | 1 => Sparse.get false y.mx.apz w
    | 2 => Sparse.get false y.mx.bpz w
    | _ => Sparse.get false y.mx.accPz w
  if pz then y.bump 0x818 1 else y

/-- The words of the slots from a to b. -/
def slotWords (a b : Nat) : List Nat := (List.range (128 * (b - a))).map (128 * a + ·)

/-- The product of an MMA on the accumulators (R107). -/
def Tile.mmaValues (x : Tile) (w p : Nat) : Tile :=
  let fa := mmaFa w
  let fb := mmaFb w
  let cb := mmaCb w
  let fresh := mmaZero w || decide (x.cst cb = .empty)
  let ks := (List.range (mmaKb w * 32))
  let tagA (qk : Nat) := (Sparse.get ⟨false, false, 0⟩ x.mx.atag (mmaAs w + qk * slotsOf fa)).mir
  let tagB (qk : Nat) := (Sparse.get ⟨false, false, 0⟩ x.mx.btag (mmaBsl w + qk * slotsOf fb)).mir
  let rowA (i : Nat) : List El := ks.map fun k =>
    slotEl x.mx.abuf x.mx.apz (mmaAs w + k / 32 * slotsOf fa) fa (tagA (k / 32)) i (k % 32)
  let colB (j : Nat) : List El := ks.map fun k =>
    slotEl x.mx.bbuf x.mx.bpz (mmaBsl w + k / 32 * slotsOf fb) fb (tagB (k / 32)) (k % 32) j
  let step := if fmtInt fa then stepI else stepF (mmaFacet w) fa fb (mmaPscale w)
  let cols := (List.range 32).map colB
  let n := mmaKb w * 32 / p
  let word (row : List El) (i m : Nat) : Word × Word × Bool × Flg :=
    let c (j : Nat) : Word := Sparse.get 0 x.mx.acc (1024 * cb + 32 * i + j)
    let l0 := chunks p n (row.zip (cols.getD (2 * m) []))
    let l1 := chunks p n (row.zip (cols.getD (2 * m + 1) []))
    stepPair step fresh (c (2 * m), c (2 * m + 1), Sparse.get false x.mx.accPz (512 * cb + 16 * i + m), 0) (l0.zip l1)
  (List.range 32).foldl (fun y i =>
    let row := rowA i
    (List.range 16).foldl (fun z m =>
      let r := word row i m
      let a := 1024 * cb + 32 * i + 2 * m
      { z with mx := { z.mx with acc := Sparse.set 0 (Sparse.set 0 z.mx.acc a r.1) (a + 1) r.2.1,
                                 accPz := Sparse.set false z.mx.accPz (a / 2) r.2.2.1, flags := z.mx.flags ||| r.2.2.2 } }) y) x

/-- MMA (R106 to R108). DESIGN CHOICE (log entry 65): it reads, and checks, every word of the slots that it names, the ones that Table 5-2
leaves unused included. -/
def Tile.mma (cc : Nat) (q : MQueue) (x : Tile) (w : Nat) : Tile :=
  match pairClass (mmaFa w) (mmaFb w) (mmaFacet w) with
  | none => x
  | some (p, per) =>
    let n := per * mmaKb w
    let cb := mmaCb w
    let fresh := mmaZero w || decide (x.cst cb = .empty)
    let y0 := (slotWords (mmaAs w) (mmaAEnd w)).foldl (Tile.mxTouch 1) x
    let y1 := (slotWords (mmaBsl w) (mmaBEnd w)).foldl (Tile.mxTouch 2) y0
    let y2 := if fresh then
        { y1 with ecc := (List.range 512).foldl (fun m i => Sparse.set Ecc.ok m (eccKey 3 (512 * cb + i)) .ok) y1.ecc }
      else ((List.range 512).map (512 * cb + ·)).foldl (Tile.mxTouch 3) y1
    let z := (y2.mmaValues w p).mxLeave cc q w
    { z with mx := { z.mx with
        cst := Sparse.set CSt.empty z.mx.cst cb (if fmtInt (mmaFa w) then .int32 else .fp32),
        mmas := z.mx.mmas ++ [⟨cc + n, cc + n + 6, cb, mmaAs w, mmaAEnd w, mmaBsl w, mmaBEnd w, eSflag w⟩] } }

/-- The checks of a SLICE, in the order of R57. -/
def Tile.sliceCheck (x : Tile) (q : MQueue) (w : Nat) : Option Byte :=
  let h := x.hndOf (slH w)
  let want := if x.cst (slCb w) = .int32 then 9 else 0
  if fld w 7 0 ≠ 0 ∨ 16 < slR0 w + slNr w ∨ !inRange q (mqCsplit x.mx.mqmode.toNat) (slCb w) then some cDESC
  else if !slDst w then
    if 32 < slVd w + slNr w ∨ fld w 23 8 ≠ 0 then some cDESC else none
  else if slVd w ≠ 0 then some cDESC
  else if !hValid h then some cHINVALID
  else if hLayout h = 0 ∨ hLayout h = 3 ∨ hFmt h ≠ want then some cDESC
  else if !hInBounds h (4096 * slBlk w) 4096 then some cHBOUNDS
  else if hWp h then some cHWP
  else none

/-- Accumulator (i, j) of C-block cb as a SLICE reads it: an EMPTY C-block reads as zero (R110). -/
def Tile.accOf (x : Tile) (cb i j : Nat) : Word × Bool :=
  if x.cst cb = .empty then (0, false)
  else (Sparse.get 0 x.mx.acc (1024 * cb + 32 * i + j), Sparse.get false x.mx.accPz (512 * cb + 16 * i + j / 2))

/-- Writes element e of vector register r with its poison; its check bits are new. -/
def Tile.setV (x : Tile) (r e : Nat) (v : Word) (pz : Bool) : Tile :=
  let k := 64 * r + e
  { x with vx := { x.vx with vreg := Sparse.set 0 x.vx.vreg k v, vpz := Sparse.set false x.vx.vpz k pz },
           ecc := Sparse.set Ecc.ok x.ecc (eccKey 4 k) .ok }

/-- The rows of a SLICE into vector registers (R110). -/
def Tile.sliceRegs (x : Tile) (w : Nat) : Tile :=
  (List.range (64 * slNr w)).foldl (fun y n =>
    let a := x.accOf (slCb w) (2 * slR0 w + n / 32) (n % 32)
    y.setV (slVd w + n / 64) (n % 64) a.1 a.2) x

/-- The rows of a SLICE into block BLK of the handle, whole words (R110); a tainted tile marks them (R52). -/
def Tile.sliceStore (x : Tile) (w : Nat) : Tile :=
  (List.range (32 * slNr w)).foldl (fun y n =>
    let r := 2 * slR0 w + n / 16
    let c := 2 * (n % 16)
    let a := x.accOf (slCb w) r c
    let b := x.accOf (slCb w) r (c + 1)
    y.write (hElemAddr (x.hndOf (slH w)) 8 (1024 * slBlk w + 32 * r + c)) (leBytes 4 a.1.toNat ++ leBytes 4 b.1.toNat)
      (a.2 || x.taint)) x

/-- C-block cb becomes EMPTY. -/
def Tile.clearC (x : Tile) (cb : Nat) : Tile :=
  { x with mx := { x.mx with cst := Sparse.set CSt.empty x.mx.cst cb .empty,
                             acc := x.mx.acc.filter (fun p => decide (p.1 / 1024 ≠ cb)),
                             accPz := x.mx.accPz.filter (fun p => decide (p.1 / 512 ≠ cb)) } }

/-- The registers that a SLICE writes. -/
def slRegs (w : Nat) : List Nat := if slDst w then [] else (List.range (slNr w)).map (slVd w + ·)

/-- Register elements whose value is undefined from now on (R112): `lvl` 1 until the vector engine has waited, 2 until a new write. -/
def Tile.undefine (lvl : Nat) (x : Tile) (ks : List Nat) : Tile :=
  { x with vx := { x.vx with und := ks.foldl (fun m k => Sparse.set 0 m k lvl) x.vx.und } }

/-- Element i of a handle as a write of value v finds it: its address and the bytes to write; a 4-bit element keeps its neighbour. -/
def Tile.elemBytes (x : Tile) (h w2 i v : Nat) : Nat × List Byte :=
  let a := hElemAddr h w2 i
  let b := (Sparse.get 0 x.store a).toNat
  (a, if w2 = 1 then [BitVec.ofNat 8 (if i % 2 = 1 then b % 16 + 16 * (v % 16) else b / 16 * 16 + v % 16)] else leBytes (w2 / 2) v)

/-- The run of elements that a vector instruction in flight writes takes free values (R112); no poison changes. -/
def Tile.freeRun (fr : Nat) (x : Tile) (r : Nat × Nat × Nat × Nat) : Tile :=
  (List.range r.2.2.2).foldl (fun y e =>
    let p := y.elemBytes r.1 r.2.1 (r.2.2.1 + e) (Config.freeElem fr (65536 + e) % 2 ^ 32)
    { y with store := Sparse.setRun 0 y.store p.1 p.2 }) x

/-- A SLICE into `regs` issues while vector instruction f is in flight (R112): what f writes of them is undefined, and where f reads them,
everything that f writes. -/
def Tile.sliceMeets (fr : Nat) (regs : List Nat) (x : Tile) (f : VFly) : Tile :=
  if f.use.rregs.any regs.contains then f.use.wruns.foldl (Tile.freeRun fr) (x.undefine 2 f.use.wels)
  else x.undefine 2 (f.use.wels.filter fun k => regs.contains (k / 64))

/-- The banks that a SLICE writes from cycle to cycle (R111): none into registers, where it writes one register each cycle. -/
def Tile.sliceNeeds (x : Tile) (w : Nat) : List BankNeed :=
  if slDst w then List.replicate (4 * slNr w) ⟨quadBanks ((64 * hBase (x.hndOf (slH w)) + 4096 * slBlk w) / 65536), false⟩
  else List.replicate (slNr w) ⟨[], true⟩

/-- SLICE (R109 to R112). -/
def Tile.slice (fr cc : Nat) (q : MQueue) (x : Tile) (w : Nat) : Tile :=
  let cb := slCb w
  let words := (List.range (32 * slNr w)).map (512 * cb + 32 * slR0 w + ·)
  let y0 := if x.cst cb = .empty then x else words.foldl (Tile.mxTouch 3) x
  let y1 := if slDst w then y0.sliceStore w else y0.sliceRegs w
  let y2 := if slClr w then y1.clearC cb else y1
  let regs := slRegs w
  let y3 := (x.vx.fly.filter fun f => decide (cc < f.due)).foldl (Tile.sliceMeets fr regs)
    (y2.undefine 1 ((List.range (64 * regs.length)).map (64 * slVd w + ·)))
  let z := (y3.mxLeave cc q w).ask .handoff (x.sliceNeeds w) []
  let len := if slDst w then 4 * slNr w else slNr w
  { z with mx := { z.mx with slices := z.mx.slices ++ [⟨cc + len, cc + len + 1, cb, regs, eSflag w⟩] } }

/-- Every check of R57 on a matrix instruction but those of its flag fields: the code of the first that fails. -/
def Tile.mxCheck (x : Tile) (q : MQueue) (w : Nat) : Option Byte :=
  match eOpc w with
  | 0x01 => if fld w 42 0 ≠ 0 then some cDESC else none
  | 0x10 => x.mldCheck q w
  | 0x20 => if x.mmaCheck q w then none else some cDESC
  | 0x30 => x.sliceCheck q w
  | _ => some cDESC

/-- A matrix row on the head of queue q (R57): the header's flag fields first; then, where the engine chooses this head, the other
checks; the row's own OPC runs `body` on the word once its wait is granted. -/
def Tile.mxRow (x : Tile) (cc : Nat) (q : MQueue) (opc : Nat) (body : Tile → Nat → Tile) : Tile :=
  match x.queue (mqOf q) with
  | [] => x
  | e :: _ =>
    let w := e.word.toNat
    if !flagOk (eWflag w) || !flagOk (eSflag w) then x.stopAt cSFRANGE e.pchi
    else if mxOpc (eOpc w) && eOpc w ≠ opc || x.mxChoice cc ≠ some q then x
    else
      match x.mxCheck q w with
      | some c => x.stopAt c e.pchi
      | none => if eWflag w = 0x3F ∨ e.granted then body x w else x

/-- MNOP (R102). -/
def execMnop (t : Nat) (q : MQueue) (s : State) : Host.Outcome State Fault Refusal :=
  onTile t s fun x => x.mxRow s.cc q 0x01 fun y w => (y.mxLeave s.cc q w).signal (eSflag w)
/-- MLD (R103). -/
def execMld (t : Nat) (q : MQueue) (s : State) : Host.Outcome State Fault Refusal :=
  onTile t s fun x => x.mxRow s.cc q 0x10 (Tile.mld s.cc q)
/-- MMA (R106). -/
def execMma (t : Nat) (q : MQueue) (s : State) : Host.Outcome State Fault Refusal :=
  onTile t s fun x => x.mxRow s.cc q 0x20 (Tile.mma s.cc q)
/-- SLICE (R109). -/
def execSlice (t : Nat) (q : MQueue) (s : State) : Host.Outcome State Fault Refusal :=
  onTile t { s with free := s.free + 1 } fun x => x.mxRow s.cc q 0x30 (Tile.slice s.free s.cc q)

/-- MLD_COMPLETE: from cycle t + L on, the slots are ready and SFLAG is signalled (R105). -/
def execMldComplete (t : Nat) (s : State) : Host.Outcome State Fault Refusal :=
  onTile t s fun x =>
    match x.mx.mld with
    | none => x
    | some f => if f.due ≤ s.cc then x.mldLand f else x

/-- MMA_COMPLETE: the oldest MMA completes at t + n + 6 and signals SFLAG (R108). -/
def execMmaComplete (t : Nat) (s : State) : Host.Outcome State Fault Refusal :=
  onTile t s fun x =>
    match x.mx.mmas with
    | [] => x
    | f :: rest => if f.due ≤ s.cc then ({ x with mx := { x.mx with mmas := rest } } : Tile).signal f.sflag else x

/-- SLICE_COMPLETE: the oldest SLICE completes and signals SFLAG (R111), on which the vector engine has still to wait (R112). -/
def execSliceComplete (t : Nat) (s : State) : Host.Outcome State Fault Refusal :=
  onTile t s fun x =>
    match x.mx.slices with
    | [] => x
    | f :: rest =>
      if f.due ≤ s.cc then
        let l := if f.vregs.isEmpty then x.mx.landed else x.mx.landed ++ [(f.vregs, f.sflag)]
        ({ x with mx := { x.mx with slices := rest, landed := l } } : Tile).signal f.sflag
      else x

end Sys2Proof.Machine
end

