-- ==== Sys2Proof/Machine/Transcend.lean ====
section
/-!
DEFINITION. The correctly rounded EXP2, LOG2, RCP, RSQRT and SQRT (R131, Table 6-5), and the random mixer (R141). RCP, RSQRT and
SQRT round an exact quotient or root with a sticky bit; EXP2 and LOG2 round both ends of an enclosure of the exact
result, and where a rounding boundary lies between them compare the exact result with it in whole numbers.
-/
namespace Sys2Proof.Machine

/-- The greatest r below 2^b · 2 with r² ≤ n, from the bits b − 1 down, above the partial root r. -/
def isqrtFrom (n : Nat) : Nat → Nat → Nat
  | 0, r => r
  | b + 1, r => if (r + 2 ^ b) * (r + 2 ^ b) ≤ n then isqrtFrom n b (r + 2 ^ b) else isqrtFrom n b r

/-- The whole part of the square root. -/
def isqrt (n : Nat) : Nat := isqrtFrom n (Nat.log2 n / 2 + 1) 0

/-- Rounds a positive magnitude m × 2^e known to be below the exact result by less than one unit, which is exact where
`exact`: a sticky bit stands for the rest. -/
def rndSticky (neg : Bool) (m : Nat) (e : Int) (exact : Bool) : Word × Flg :=
  rnd32 (.fin neg (2 * m + b2n (!exact)) (e - 1), 0)

/-- RCP (Table 6-5). -/
def fRcp (w : Word) : Word × Flg :=
  match f32 w with
  | .nan s => (nan32, if s then fNV else 0)
  | .inf n => (if n then 0x80000000 else 0, 0)
  | .fin n m e =>
    if m = 0 then (if n then 0xFF800000 else 0x7F800000, 0)
    else rndSticky n (2 ^ 80 / m) (-e - 80) (2 ^ 80 % m == 0)

/-- SQRT (Table 6-5). -/
def fSqrt (w : Word) : Word × Flg :=
  match f32 w with
  | .nan s => (nan32, if s then fNV else 0)
  | .inf n => if n then (nan32, fNV) else (w, 0)
  | .fin n m e =>
    if m = 0 then (w, 0)
    else if n then (nan32, fNV)
    else
      let odd := (e % 2).toNat
      let k := m * 2 ^ (80 + odd)
      let r := isqrt k
      rndSticky false r ((e - odd) / 2 - 40) (r * r == k)

/-- RSQRT (Table 6-5). -/
def fRsqrt (w : Word) : Word × Flg :=
  match f32 w with
  | .nan s => (nan32, if s then fNV else 0)
  | .inf n => if n then (nan32, fNV) else (0, 0)
  | .fin n m e =>
    if m = 0 then (if n then 0xFF800000 else 0x7F800000, 0)
    else if n then (nan32, fNV)
    else
      let odd := (e % 2).toNat
      let k := m * 2 ^ odd
      let r := isqrt (2 ^ 160 / k)
      rndSticky false r (-((e - odd) / 2) - 80) (r * r * k == 2 ^ 160)

/-- Rounds the exact result between `lo` and `hi`, which is no FP32 value and no boundary: where the ends round apart, `above m e` says
whether its magnitude exceeds the boundary m × 2^e between the two. -/
def rndBetween (lo hi : Val) (above : Nat → Int → Bool) : Word × Flg :=
  let a := rnd32 (lo, 0)
  let b := rnd32 (hi, 0)
  let mag (w : Word) : Nat := w.toNat % 2 ^ 31
  let near := if mag a.1 < mag b.1 then a else b
  let far := if mag a.1 < mag b.1 then b else a
  match f32 (w32 (mag near.1)) with
  | .fin _ m e => if a.1 ≠ b.1 ∧ above (2 * m + 1) (e - 1) then (far.1, far.2 ||| fNX) else (near.1, near.2 ||| fNX)
  | _ => (near.1, near.2 ||| fNX)

/-- 2^(p / 2^k) exceeds m × 2^e: both to the power 2^k. -/
def exp2Above (p : Int) (k m : Nat) (e : Int) : Bool :=
  let j := p - e * 2 ^ k
  decide (0 ≤ j) && decide (m ^ 2 ^ k < 2 ^ j.toNat)

/-- The magnitude of log2 of v × 2^i exceeds m × 2^e, where `neg` says that the logarithm is negative: both as powers of 2^(1 / 2^k). -/
def log2Above (v : Nat) (i : Int) (neg : Bool) (m : Nat) (e : Int) : Bool :=
  let k := (-e).toNat
  let b : Int := (m * 2 ^ e.toNat : Nat)
  let j := (if neg then -b else b) - i * 2 ^ k
  if neg then decide (0 ≤ j) && decide (v ^ 2 ^ k < 2 ^ j.toNat)
  else decide (j < 0) || decide (2 ^ j.toNat < v ^ 2 ^ k)

/-- The whole part of 2^160 × ln 2. -/
def ln2Q160 : Nat := 0xB17217F7D1CF79ABC9E3B39803F2F6AF40F34326

/-- 2^160 × (1 + t/1 (1 + t/2 (1 + …))) for t = q / 2^160, from term n down (the series of e^t). -/
def expSeries (q : Nat) : Nat → Nat → Nat
  | 0, _ => 2 ^ 160
  | n + 1, k => 2 ^ 160 + q * expSeries q n (k + 1) / (2 ^ 160 * (k + 1))

/-- EXP2 (Table 6-5). -/
def fExp2 (w : Word) : Word × Flg :=
  match f32 w with
  | .nan s => (nan32, if s then fNV else 0)
  | .inf n => (if n then 0 else 0x7F800000, 0)
  | .fin n m e =>
    if m = 0 then (0x3F800000, 0)
    else if geScaled m e 2 7 then
      -- |x| is at least 256: beyond the range either way
      rnd32 (.fin false 1 (if n then -400 else 400), 0)
    else if !geScaled m e 1 (-30) then (0x3F800000, fNX)
    else
      -- x = n + f / 2^60 with 0 ≤ f < 2^60, exactly
      let x : Int := (if n then -1 else 1) * (m * 2 ^ (e + 60).toNat : Nat)
      let i := x / 2 ^ 60
      let f := (x % 2 ^ 60).toNat
      if f = 0 then rnd32 (.fin false 1 i, 0)
      else
        let y := expSeries (f * ln2Q160 / 2 ^ 60) 40 0
        rndBetween (.fin false (y - 2 ^ 20) (i - 160)) (.fin false (y + 2 ^ 20) (i - 160)) (exp2Above x 60)

/-- The first bits of log2 of y / 2^256, 1 ≤ y / 2^256 < 2, by repeated squaring; `acc` holds the bits found. -/
def log2Bits : Nat → Nat → Nat → Nat
  | 0, _, acc => acc
  | n + 1, y, acc =>
    let z := y * y / 2 ^ 256
    if 2 ^ 257 ≤ z then log2Bits n (z / 2) (2 * acc + 1) else log2Bits n z (2 * acc)

/-- LOG2 (Table 6-5). -/
def fLog2 (w : Word) : Word × Flg :=
  match f32 w with
  | .nan s => (nan32, if s then fNV else 0)
  | .inf n => if n then (nan32, fNV) else (0x7F800000, 0)
  | .fin n m e =>
    if m = 0 then (0xFF800000, 0)
    else if n then (nan32, fNV)
    else
      let k := Nat.log2 m
      let i : Int := e + k
      if m = 2 ^ k then (if i = 0 then (0, 0) else rnd32 (.fin (decide (i < 0)) i.natAbs 0, 0))
      else
        -- log2 lies in [v, v + 2] / 2^100
        let v : Int := i * 2 ^ 100 + (log2Bits 100 (m * 2 ^ (256 - k)) 0 : Nat)
        let at100 (u : Int) : Val := .fin (decide (u < 0)) u.natAbs (-100)
        rndBetween (at100 v) (at100 (v + 2)) (log2Above m e (decide (v < 0)))

/-- The mixer of R141: the draw (y0, y1, y2, y3) of seed S, stream T and logical index I. -/
def mixer (seed t i : Nat) : Nat × Nat × Nat × Nat :=
  let m (a : Nat) : Nat := a % 2 ^ 32
  let round (x : Nat × Nat × Nat × Nat) (k : Nat) : Nat × Nat × Nat × Nat :=
    let (x0, x1, x2, x3) := x
    let x0 := m (x0 + x1 + k)
    let x3 := rotl32 (x3 ^^^ x0) 13
    let x2 := m (x2 + x3)
    let x1 := rotl32 (x1 ^^^ x2) 23
    let x0 := m (x0 + x1)
    let x3 := rotl32 (x3 ^^^ x0) 5
    let x2 := m (x2 + x3)
    let x1 := rotl32 (x1 ^^^ x2) 17
    (x0, x1, x2, x3)
  [0x6A1F3C5D, 0xB47E2A91, 0x3D95C4E7, 0xE2C85B1F].foldl round
    (fld seed 31 0, fld seed 63 32, fld i 31 0, m (t * 256) ||| fld i 39 32)

/-- The uniform value u of a draw, exact in FP32 (Table 6-9). -/
def uniform (y0 : Nat) : Word := (rnd32 (.fin false (2 * fld y0 31 9 + 1) (-24), 0)).1

end Sys2Proof.Machine
end

