-- ==== Sys2Proof/Machine/Vector.lean ====
section
/-!
DEFINITION. The vector engine's operands, order and timing (R123 to R133), shared by its instructions: specifiers, stream
slots, strips, conflicts, issue from the V-queue, completion.
-/
namespace Sys2Proof.Machine

/-- A resolved operand (R124 to R126): a register group; a stream of element width `w2` half-bytes from offset `off` of
handle `hn`, whose word is `h`; or none. -/
inductive VOp where
  | reg (x : Nat)
  | strm (slot hn h w2 off : Nat)
  | absent

/-- The fields of the element layout (Table 6-3). -/
def vN (w : Nat) : Nat := fld w 43 32 + 1
def vD (w : Nat) : Nat := fld w 31 26
def vA (w : Nat) : Nat := fld w 25 20
def vB (w : Nat) : Nat := fld w 19 14
def vC (w : Nat) : Nat := fld w 13 8
def vFn (w : Nat) : Nat := fld w 7 0

/-- The operand that a specifier names, of `n` elements: ENGINE_DESC (`none`) for a reserved one, an invalid slot, or a
register group that runs past v31 (R124, R125). -/
def Tile.vop (x : Tile) (spec n : Nat) : Option VOp :=
  if spec < 32 then (if spec + ceilDiv n 64 ≤ 32 then some (.reg spec) else none)
  else if spec < 36 then
    let l := x.vslot (spec - 32)
    if l.valid then some (.strm (spec - 32) l.h (x.hndOf l.h) (fmtBits (hFmt (x.hndOf l.h)) / 4) l.off) else none
  else if spec = 63 then some .absent
  else none

/-- The handle of a stream operand. -/
def VOp.hnd : VOp → Option Nat
  | .strm _ hn _ _ _ => some hn
  | _ => none

/-- The element format of a stream's handle; a register group carries FP32 or INT32. -/
def VOp.fmt : VOp → Nat
  | .strm _ _ h _ _ => hFmt h
  | _ => 0

def VOp.isReg : VOp → Bool
  | .reg _ => true
  | _ => false

def VOp.isNone : VOp → Bool
  | .absent => true
  | _ => false

/-- Registers of a group of n elements. -/
def VOp.regs (n : Nat) : VOp → List Nat
  | .reg x => (List.range (ceilDiv n 64)).map (x + ·)
  | _ => []

/-- Handles through which elements of an operand are reached: the stream's, and the scale handle of a BS operand (R80, R133). -/
def VOp.hnds : VOp → List Nat
  | .strm _ hn h _ _ => if fmtBS (hFmt h) then [hn, hn + 1] else [hn]
  | _ => []

/-- The run of n elements lies in its handle (R65, R126). -/
def VOp.inBounds (n : Nat) : VOp → Bool
  | .strm _ _ h w2 off => decide ((off + n) * w2 ≤ 128 * hLen h)
  | _ => true

/-- Checks 3 to 6 of R57 on the operands that an instruction names: validity, formats (`okFmt`) and pairing, bounds, write protection
of the destinations. The loader has refused every broken pair (R80), so the scale handle needs no validity check of its own. -/
def Tile.vopCheck (x : Tile) (n : Nat) (named dsts : List VOp) (okFmt : Bool) : Option Byte :=
  let hs := named.filterMap VOp.hnd
  if hs.any fun i => !hValid (x.hndOf i) then some cHINVALID
  else if !okFmt ∨ hs.any (fun i => hLayout (x.hndOf i) == 3) ∨ hs.any (fun i => fmtBS (hFmt (x.hndOf i)) && x.isScale i) then some cDESC
  else if named.any fun o => !o.inBounds n then some cHBOUNDS
  else if dsts.any fun o => o.hnds.any fun i => hWp (x.hndOf i) then some cHWP
  else none

/-- Stream operands of the arithmetic instructions carry FP32 or INT32 (R128). -/
def VOp.fmt32 (o : VOp) : Bool := o.fmt == 0 || o.fmt == 9

/-- The tile-store address of element e of a stream. -/
def strmAddr (h w2 off e : Nat) : Nat := hElemAddr h w2 (off + e)

/-- The address of the scale byte of element i of a BS handle (R80): byte i div 32 in element order either way. -/
def Tile.scaleAddr (x : Tile) (hn i : Nat) : Nat := hByteAddr (x.hndOf (hn + 1)) (i / 32)

/-- Register r receives a SLICE that has not completed: its content is undefined (R112). -/
def Tile.sliceInto (x : Tile) (r : Nat) : Bool := x.mx.slices.any fun l => l.vregs.contains r

/-- The 32-bit element k of the register file: the free value `fr` stands in where R112 leaves it undefined. -/
def Tile.vget (x : Tile) (fr k : Nat) : Word × Bool :=
  (if Sparse.get 0 x.vx.und k = 0 then Sparse.get 0 x.vx.vreg k else w32 (Config.freeElem fr k), Sparse.get false x.vx.vpz k)

/-- Element e of an operand: its bits and poison; a stream element is poisoned with its word or its scale's word (R90). -/
def Tile.vread (x : Tile) (fr : Nat) (o : VOp) (e : Nat) : Nat × Bool :=
  match o with
  | .reg r => let v := x.vget fr (64 * r + e); (v.1.toNat, v.2)
  | .strm _ hn h w2 off =>
    let a := strmAddr h w2 off e
    let sp := fmtBS (hFmt h) && x.wordPz (x.scaleAddr hn (off + e) / 8)
    (x.elemBits (4 * w2) a ((off + e) % 2 == 1), x.wordPz (a / 8) || sp)
  | .absent => (0, false)

/-- The words and register elements that a strip of operand elements reads, without repeats. -/
def Tile.vwords (x : Tile) (o : VOp) (es : List Nat) : List Nat :=
  match o with
  | .strm _ hn h w2 off =>
    let ws := es.map fun e => strmAddr h w2 off e / 8
    let sc := if fmtBS (hFmt h) then es.map fun e => x.scaleAddr hn (off + e) / 8 else []
    (ws ++ sc).eraseDups
  | _ => []

/-- The reads of a strip: check bits and deliveries (R59, R123). -/
def Tile.vtouch (x : Tile) (o : VOp) (es : List Nat) : Tile :=
  match o with
  | .reg r => es.foldl (fun y e => y.check 4 (64 * r + e) fun z =>
      { z with vx := { z.vx with vpz := Sparse.set false z.vx.vpz (64 * r + e) true } }) x
  | .strm _ _ _ _ _ => (x.vwords o es).foldl Tile.touchWord x
  | .absent => x

/-- A completed SLICE into register r on whose SFLAG the engine has not waited yet (R112). -/
def Tile.sliceUnwaited (x : Tile) (r : Nat) : Bool := x.mx.landed.any fun l => l.1.contains r

/-- The level at which an element of register r is undefined once the vector engine has written it (R112, log entry 70): 2 while a SLICE
writes the register, 1 from then until the engine has waited on its SFLAG. -/
def Tile.undAfter (x : Tile) (r : Nat) : Nat := if x.sliceInto r then 2 else if x.sliceUnwaited r then 1 else 0

/-- Writes element e of a destination: a register element, which R112 leaves undefined in a SLICE's time, or a stream
element as a partial write of its word (R60, R128), marked where the tile is tainted (R52). -/
def Tile.vwrite (x : Tile) (o : VOp) (e v : Nat) (pz : Bool) : Tile :=
  match o with
  | .reg r =>
    let k := 64 * r + e
    (x.setV (k / 64) (k % 64) (w32 v) pz).undefine (x.undAfter (k / 64)) [k]
  | .strm _ _ h w2 off =>
    let p := x.elemBytes h w2 (off + e) v
    x.write p.1 p.2 (pz || x.taint)
  | .absent => x

/-- Bytes, in half-bytes, that a strip of an operand moves in bank quad k (R132). DESIGN CHOICE (log entry 66): a run that two specifiers
name counts once for each. -/
def VOp.quadHalf (o : VOp) (sc : Nat → Nat) (es : List Nat) (k : Nat) : Nat :=
  match o with
  | .strm _ _ h w2 off =>
    let els := (es.filter fun e => decide (strmAddr h w2 off e / 65536 = k)).length * w2
    let ss := if fmtBS (hFmt h) then
        2 * ((es.filter fun e => decide ((off + e) % 32 = 0) && decide (sc (off + e) / 65536 = k)).length) else 0
    els + ss
  | _ => 0

/-- The elements of strip j of an n-element instruction (R127). -/
def stripEls (n j : Nat) : List Nat := (List.range (min 64 (n - 64 * j))).map (64 * j + ·)

/-- The cycles that strip j moves bytes in each of the six bank quads (R132). -/
def Tile.stripQuads (x : Tile) (n j : Nat) (ops : List VOp) : List Nat :=
  (List.range 6).map fun k =>
    ceilDiv ((ops.map fun o => o.quadHalf (match o.hnd with | some hn => x.scaleAddr hn | none => fun _ => 0) (stripEls n j) k).sum) 128

/-- T of strip j: max(C × F, M, 1) (R132). -/
def Tile.stripCycles (x : Tile) (n cost j : Nat) (ops : List VOp) : Nat :=
  max (max (cost * (if x.half then 2 else 1)) ((x.stripQuads n j ops).foldl max 0)) 1

/-- The cycles of all strips (R132). -/
def Tile.vcycles (x : Tile) (n cost : Nat) (ops : List VOp) : Nat := ((List.range (ceilDiv n 64)).map fun j => x.stripCycles n cost j ops).sum

/-- What an instruction asks for from cycle to cycle: in cycle i of a strip the banks of every quad that still moves bytes; a register
result is written in the last cycle of each strip j with `wreg j` (R62, R111; log entry 18). -/
def Tile.vNeeds (x : Tile) (n cost : Nat) (ops : List VOp) (wreg : Nat → Bool) : List BankNeed :=
  ((List.range (ceilDiv n 64)).map fun j =>
    let t := x.stripCycles n cost j ops
    let qs := (List.range 6).zip (x.stripQuads n j ops)
    (List.range t).map fun i =>
      (⟨((qs.filter fun q => decide (i < q.2)).map fun q => quadBanks q.1).flatten, wreg j && i + 1 == t⟩ : BankNeed)).flatten

/-- Stream slots that an instruction names advance by n, once each (R126). -/
def Tile.vadvance (x : Tile) (n : Nat) (ops : List VOp) : Tile :=
  let named := (ops.filterMap fun o => match o with
    | .strm s _ _ _ _ => some s
    | _ => none).eraseDups
  named.foldl (fun y s =>
    { y with vx := { y.vx with slots := Sparse.set ⟨false, 0, 0⟩ y.vx.slots s { y.vslot s with off := (y.vslot s).off + n } } }) x

/-- What an instruction of n elements uses: it reads `srcs`, writes `dsts`, and only names `idle` (R133). -/
def vUse (n : Nat) (srcs dsts idle : List VOp) : VUse where
  rregs := (srcs.map (VOp.regs n)).flatten
  wregs := (dsts.map (VOp.regs n)).flatten
  rhnd := ((srcs ++ idle).map VOp.hnds).flatten
  whnd := (dsts.map VOp.hnds).flatten
  wels := (dsts.map fun o => match o with
    | .reg r => (List.range n).map (64 * r + ·)
    | _ => []).flatten
  wruns := dsts.filterMap fun o => match o with
    | .strm _ _ h w2 off => some (h, w2, off, n)
    | _ => none

/-- The use of an instruction that reads and writes no elements. -/
def VUse.none : VUse := ⟨[], [], [], [], [], []⟩

/-- An instruction that has passed its checks: what it uses, what it asks of the banks in each cycle it occupies the engine, and the cycles
from then to its completion (R132). -/
structure VPlan where
  use : VUse
  need : List BankNeed
  tail : Nat

/-- The plan of an instruction that occupies one cycle and completes in the next (R132). -/
def VPlan.one (u : VUse) (banks : List Nat) : VPlan := ⟨u, [⟨banks, false⟩], 0⟩

/-- The instruction waits for an earlier one (R133). -/
def Tile.vconflict (x : Tile) (u : VUse) : Bool :=
  let meets (a b : List Nat) : Bool := a.any b.contains
  x.vx.fly.any fun f =>
    meets (u.rregs ++ u.wregs) f.use.wregs || meets u.wregs f.use.rregs || meets (u.rhnd ++ u.whnd) f.use.whnd
      || meets u.whnd f.use.rhnd

/-- The vector engine can take its next instruction (R132). -/
def Tile.vfree (x : Tile) (cc : Nat) : Bool := x.vx.fly.all fun f => decide (f.busyEnd ≤ cc)

/-- The OPC and FN that name a defined vector instruction (Tables 6-2, 6-4, 6-8, 6-9). -/
def vDefined (w : Nat) : Bool :=
  match eOpc w with
  | 0x01 => true
  | 0x10 => true
  | 0x11 => true
  | 0x12 => true
  | 0x13 => true
  | 0x20 => decide (vFn w ≤ 0x0C) || (decide (0x10 ≤ vFn w) && decide (vFn w ≤ 0x14))
  | 0x21 => decide (vFn w ≤ 0x0E)
  | 0x30 => true
  | 0x40 => true
  | 0x50 => decide (vFn w < 7)
  | 0x60 => decide (fld w 7 5 < 4)
  | _ => false

/-- A row on the V-queue head (R57): the header's flag fields first; then, with the engine free and the wait satisfied, an undefined
instruction stops with ENGINE_DESC, and one of the row's own (`mine`) is checked by `plan`; with its wait granted and no conflict (R133)
it leaves the queue, runs `body`, and occupies the engine. -/
def Tile.vRow (x : Tile) (cc : Nat) (mine : Nat → Bool) (plan : Tile → Nat → Except Byte VPlan) (body : Tile → Nat → Tile) : Tile :=
  match x.qv with
  | [] => x
  | e :: _ =>
    let w := e.word.toNat
    if !flagOk (eWflag w) || !flagOk (eSflag w) then x.stopAt cSFRANGE e.pchi
    else if !x.vfree cc || !x.waitOk e then x
    else if !vDefined w then x.stopAt cDESC e.pchi
    else if !mine w then x
    else
      match plan x w with
      | .error c => x.stopAt c e.pchi
      | .ok p =>
        if (eWflag w ≠ 0x3F && !e.granted) || x.vconflict p.use then x
        else
          let y := (body { x with qv := x.qv.drop 1 } w).ask .vector p.need []
          { y with vx := { y.vx with fly := y.vx.fly ++ [⟨cc + p.need.length, cc + p.need.length + p.tail, eSflag w, p.use⟩] } }

/-- The strips of an element-wise instruction (R127): per strip every source is read, then every result written. `g` gives
the results of element e from the tile as the strip finds it, each with its destination, and the flags. -/
def Tile.vstrips (n : Nat) (srcs : List VOp) (g : Tile → Nat → List (VOp × Nat × Bool) × Flg) (x : Tile) : Tile :=
  (List.range (ceilDiv n 64)).foldl (fun y j =>
    let es := stripEls n j
    let y1 := srcs.foldl (fun z o => z.vtouch o es) y
    let rs := es.map fun e => (e, g y1 e)
    rs.foldl (fun z r => (r.2.1.foldl (fun u d => u.vwrite d.1 r.1 d.2.1 d.2.2) z).addVx r.2.2) y1) x

/-- The instruction's flags for one element: PZ only with a poisoned operand (R91, Table 3-5). -/
def elFlags (fl : Flg) (pz : Bool) : Flg := if pz then fPZ else fl

/-- The operation of VOPF number FN (Table 6-4). DEDUCED (log entry 67): FSEL asks whether the bits of C are zero, so −0 selects A. -/
def vopf (fn : Nat) (a b c : Word) : Word × Flg :=
  let mask (r : Bool × Flg) : Word × Flg := (if r.1 then 0xFFFFFFFF else 0, r.2)
  match fn with
  | 0x00 => (a, 0)
  | 0x01 => fAdd a b
  | 0x02 => fSub a b
  | 0x03 => fMul a b
  | 0x04 => fMa a b c
  | 0x05 => fMin a b
  | 0x06 => fMax a b
  | 0x07 => (fAbs a, 0)
  | 0x08 => (fNeg a, 0)
  | 0x09 => mask (fCmp (fun p q => decide (p < q)) a b)
  | 0x0A => mask (fCmp (fun p q => decide (p ≤ q)) a b)
  | 0x0B => mask (fCmp (fun p q => decide (p = q)) a b)
  | 0x0C => (if c ≠ 0 then a else b, 0)
  | 0x10 => fExp2 a
  | 0x11 => fLog2 a
  | 0x12 => fRcp a
  | 0x13 => fRsqrt a
  | 0x14 => fSqrt a
  | _ => (a, 0)

/-- The operation of VOPI number FN (Table 6-4). -/
def vopi (fn : Nat) (a b c : Word) : Word :=
  match fn with
  | 0x00 => a
  | 0x01 => a + b
  | 0x02 => a - b
  | 0x03 => a * b
  | 0x04 => a &&& b
  | 0x05 => a ||| b
  | 0x06 => a ^^^ b
  | 0x07 => iShl a b
  | 0x08 => iShr a b
  | 0x09 => iSra a b
  | 0x0A => if a.toInt < b.toInt then a else b
  | 0x0B => if a.toInt < b.toInt then b else a
  | 0x0C => if c ≠ 0 then a else b
  | 0x0D => if a.toInt < b.toInt then 0xFFFFFFFF else 0
  | 0x0E => if a = b then 0xFFFFFFFF else 0
  | _ => a

/-- How many of A, B, C the VOPF operation uses; the cost per strip is 4 for the transcendentals (Table 6-4). -/
def vopfArity (fn : Nat) : Nat :=
  if fn = 4 ∨ fn = 0x0C then 3
  else if fn = 0 ∨ fn = 7 ∨ fn = 8 ∨ 0x10 ≤ fn then 1
  else 2

def vopfCost (fn : Nat) : Nat := if 0x10 ≤ fn then 4 else 1

/-- How many of A, B, C the VOPI operation uses. -/
def vopiArity (fn : Nat) : Nat := if fn = 0x0C then 3 else if fn = 0 then 1 else 2

/-- The operands D, A, B, C of an element-wise instruction. -/
def Tile.vDABC (x : Tile) (w : Nat) : Option (VOp × VOp × VOp × VOp) :=
  let n := vN w
  match x.vop (vD w) n, x.vop (vA w) n, x.vop (vB w) n, x.vop (vC w) n with
  | some d, some a, some b, some c => some (d, a, b, c)
  | _, _, _, _ => none

/-- The checks and the plan of an element-wise instruction with `k` sources out of A, B, C and destination D (R130). -/
def Tile.elemPlan (k cost : Nat) (x : Tile) (w : Nat) : Except Byte VPlan :=
  let n := vN w
  match x.vDABC w with
  | none => .error cDESC
  | some (d, a, b, c) =>
    let srcs := [a, b, c].take k
    if d.isNone || a.isNone || (b.isNone != decide (k < 2)) || (c.isNone != decide (k < 3)) then .error cDESC
    else
      match x.vopCheck n (d :: srcs) [d] ((d :: srcs).all VOp.fmt32) with
      | some cd => .error cd
      | none => .ok ⟨vUse n srcs [d] [], (x.vNeeds n cost (d :: srcs) fun _ => d.isReg), 6⟩

/-- What an element-wise instruction does (R127, R130). -/
def Tile.elemRun (fr k : Nat) (op : Word → Word → Word → Word × Flg) (x : Tile) (w : Nat) : Tile :=
  let n := vN w
  match x.vDABC w with
  | none => x
  | some (d, a, b, c) =>
    let srcs := [a, b, c].take k
    (x.vstrips n srcs (fun z i =>
      let u := z.vread fr a i
      let v := z.vread fr b i
      let t := z.vread fr c i
      let pz := u.2 || v.2 || t.2
      let r := op (w32 u.1) (w32 v.1) (w32 t.1)
      ([(d, r.1.toNat, pz)], elFlags r.2 pz))).vadvance n (d :: srcs)

/-- VOPF operation FN (Table 6-4). -/
def vopfRow (fn t : Nat) (s : State) : Host.Outcome State Fault Refusal :=
  onTile t { s with free := s.free + 1 } fun x =>
    x.vRow s.cc (fun w => eOpc w == 0x20 && vFn w == fn) (Tile.elemPlan (vopfArity fn) (vopfCost fn))
      (Tile.elemRun s.free (vopfArity fn) (vopf fn))

/-- VOPI operation FN (Table 6-4); it raises no flag but PZ. -/
def vopiRow (fn t : Nat) (s : State) : Host.Outcome State Fault Refusal :=
  onTile t { s with free := s.free + 1 } fun x =>
    x.vRow s.cc (fun w => eOpc w == 0x21 && vFn w == fn) (Tile.elemPlan (vopiArity fn) 1)
      (Tile.elemRun s.free (vopiArity fn) fun a b c => (vopi fn a b c, 0))

/-- VOPF MOV. -/
def execVopfMov (t : Nat) (s : State) := vopfRow 0x00 t s
/-- VOPF FADD. -/
def execVopfFadd (t : Nat) (s : State) := vopfRow 0x01 t s
/-- VOPF FSUB. -/
def execVopfFsub (t : Nat) (s : State) := vopfRow 0x02 t s
/-- VOPF FMUL. -/
def execVopfFmul (t : Nat) (s : State) := vopfRow 0x03 t s
/-- VOPF FMA. -/
def execVopfFma (t : Nat) (s : State) := vopfRow 0x04 t s
/-- VOPF FMIN. -/
def execVopfFmin (t : Nat) (s : State) := vopfRow 0x05 t s
/-- VOPF FMAX. -/
def execVopfFmax (t : Nat) (s : State) := vopfRow 0x06 t s
/-- VOPF FABS. -/
def execVopfFabs (t : Nat) (s : State) := vopfRow 0x07 t s
/-- VOPF FNEG. -/
def execVopfFneg (t : Nat) (s : State) := vopfRow 0x08 t s
/-- VOPF FCMP.LT. -/
def execVopfFcmpLt (t : Nat) (s : State) := vopfRow 0x09 t s
/-- VOPF FCMP.LE. -/
def execVopfFcmpLe (t : Nat) (s : State) := vopfRow 0x0A t s
/-- VOPF FCMP.EQ. -/
def execVopfFcmpEq (t : Nat) (s : State) := vopfRow 0x0B t s
/-- VOPF FSEL. -/
def execVopfFsel (t : Nat) (s : State) := vopfRow 0x0C t s
/-- VOPF EXP2 (R131). -/
def execVopfExp2 (t : Nat) (s : State) := vopfRow 0x10 t s
/-- VOPF LOG2 (R131). -/
def execVopfLog2 (t : Nat) (s : State) := vopfRow 0x11 t s
/-- VOPF RCP (R131). -/
def execVopfRcp (t : Nat) (s : State) := vopfRow 0x12 t s
/-- VOPF RSQRT (R131). -/
def execVopfRsqrt (t : Nat) (s : State) := vopfRow 0x13 t s
/-- VOPF SQRT (R131). -/
def execVopfSqrt (t : Nat) (s : State) := vopfRow 0x14 t s
/-- VOPI MOV. -/
def execVopiMov (t : Nat) (s : State) := vopiRow 0x00 t s
/-- VOPI IADD. -/
def execVopiIadd (t : Nat) (s : State) := vopiRow 0x01 t s
/-- VOPI ISUB. -/
def execVopiIsub (t : Nat) (s : State) := vopiRow 0x02 t s
/-- VOPI IMUL. -/
def execVopiImul (t : Nat) (s : State) := vopiRow 0x03 t s
/-- VOPI AND. -/
def execVopiAnd (t : Nat) (s : State) := vopiRow 0x04 t s
/-- VOPI OR. -/
def execVopiOr (t : Nat) (s : State) := vopiRow 0x05 t s
/-- VOPI XOR. -/
def execVopiXor (t : Nat) (s : State) := vopiRow 0x06 t s
/-- VOPI SHL. -/
def execVopiShl (t : Nat) (s : State) := vopiRow 0x07 t s
/-- VOPI SHR. -/
def execVopiShr (t : Nat) (s : State) := vopiRow 0x08 t s
/-- VOPI SRA. -/
def execVopiSra (t : Nat) (s : State) := vopiRow 0x09 t s
/-- VOPI IMIN. -/
def execVopiImin (t : Nat) (s : State) := vopiRow 0x0A t s
/-- VOPI IMAX. -/
def execVopiImax (t : Nat) (s : State) := vopiRow 0x0B t s
/-- VOPI ISEL. -/
def execVopiIsel (t : Nat) (s : State) := vopiRow 0x0C t s
/-- VOPI ICMP.LT. -/
def execVopiIcmpLt (t : Nat) (s : State) := vopiRow 0x0D t s
/-- VOPI ICMP.EQ. -/
def execVopiIcmpEq (t : Nat) (s : State) := vopiRow 0x0E t s

/-- The plan of an instruction of one cycle whose reserved bits are `bad`. -/
def planOne (bad : Nat → Bool) (_ : Tile) (w : Nat) : Except Byte VPlan := if bad w then .error cDESC else .ok (VPlan.one VUse.none [])

/-- VNOP: bits [43:0] are reserved (R129). -/
def execVnop (t : Nat) (s : State) : Host.Outcome State Fault Refusal :=
  onTile t s fun x => x.vRow s.cc (fun w => eOpc w == 0x01) (planOne fun w => fld w 43 0 != 0) fun y _ => y

/-- VSD sets stream slot S to handle H at offset OFF (R126). DEDUCED (log entry 68): it only records the handle, whose validity is checked
where an instruction names the slot. -/
def execVsd (t : Nat) (s : State) : Host.Outcome State Fault Refusal :=
  onTile t s fun x => x.vRow s.cc (fun w => eOpc w == 0x10) (planOne fun w => fld w 15 0 != 0) fun z w =>
    { z with vx := { z.vx with slots := Sparse.set ⟨false, 0, 0⟩ z.vx.slots (fld w 43 42) ⟨true, fld w 41 36, fld w 35 16⟩ } }

/-- The fields of PKLD (Table 6-3). -/
def pkH (w : Nat) : Nat := fld w 43 38
def pkOff (w : Nat) : Nat := fld w 37 18

/-- The checks of a PKLD, in the order of R57 (R138). -/
def pkldPlan (x : Tile) (w : Nat) : Except Byte VPlan :=
  let h := x.hndOf (pkH w)
  if fld w 17 0 ≠ 0 then .error cDESC
  else if !hValid h then .error cHINVALID
  else if hLayout h ≠ 0 ∨ (hFmt h ≠ 0 ∧ hFmt h ≠ 9) then .error cDESC
  else if !hInBounds h (4 * pkOff w) 32 then .error cHBOUNDS
  else .ok (VPlan.one { VUse.none with rhnd := [pkH w] } (banksOf (64 * hBase h + 4 * pkOff w) 32))

/-- The eight constants from OFF of handle H (R138). -/
def Tile.loadK (h off : Nat) (x : Tile) : Tile :=
  let a := 64 * hBase h + 4 * off
  (List.range 8).foldl (fun y i =>
    { y with vx := { y.vx with kc := Sparse.set 0 y.vx.kc i (w32 (leNat (y.seen (a + 4 * i) 4))),
                               kpz := Sparse.set false y.vx.kpz i (y.wordPz ((a + 4 * i) / 8)) } }) (x.touch a 32)

/-- PKLD (R138). -/
def execPkld (t : Nat) (s : State) : Host.Outcome State Fault Refusal :=
  onTile t s fun x => x.vRow s.cc (fun w => eOpc w == 0x11) pkldPlan fun y w => y.loadK (y.hndOf (pkH w)) (pkOff w)

/-- Random context c written. -/
def Tile.setCtx (x : Tile) (c : Nat) (v : RngCtx) : Tile := { x with vx := { x.vx with ctx := Sparse.set ⟨0, 0⟩ x.vx.ctx c v } }

/-- RNGSET.S sets the stream number and BASE[39:32] and clears BASE[31:0] (R142). -/
def execRngsetS (t : Nat) (s : State) : Host.Outcome State Fault Refusal :=
  onTile t s fun x => x.vRow s.cc (fun w => eOpc w == 0x12) (planOne fun w => fld w 10 0 != 0) fun z w =>
    z.setCtx (fld w 43 43) ⟨fld w 42 19, at' (fld w 18 11) 32⟩

/-- RNGSET.B sets BASE[31:0] (R142). -/
def execRngsetB (t : Nat) (s : State) : Host.Outcome State Fault Refusal :=
  onTile t s fun x => x.vRow s.cc (fun w => eOpc w == 0x13) (planOne fun w => fld w 42 32 != 0) fun z w =>
    let c := z.rngCtx (fld w 43 43)
    z.setCtx (fld w 43 43) ⟨c.stream, c.base / 2 ^ 32 * 2 ^ 32 + fld w 31 0⟩

/-- VECTOR_COMPLETE: an instruction whose completion is due signals its SFLAG and leaves the engine (R132). -/
def execVectorComplete (t : Nat) (s : State) : Host.Outcome State Fault Refusal :=
  onTile t s fun x =>
    match x.vx.fly.find? fun f => decide (f.due ≤ s.cc) with
    | none => x
    | some f => ({ x with vx := { x.vx with fly := x.vx.fly.erase f } } : Tile).signal f.sflag

end Sys2Proof.Machine
end

