-- ==== Sys2Proof/Machine/Convert.lean ====
section
/-!
DEFINITION. CVT (R82 to R90, R134): element values, rounding into each kind of destination, block scales, the strips of a
conversion.
-/
namespace Sys2Proof.Machine

/-- The fields of the convert layout (Table 6-3). -/
def cvSrc (w : Nat) : Nat := fld w 19 16
def cvDst (w : Nat) : Nat := fld w 15 12
def cvRnd (w : Nat) : Nat := fld w 11 10
def cvSat (w : Nat) : Bool := bitAt w 9
def cvRcx (w : Nat) : Nat := fld w 8 8
def cvAdv (w : Nat) : Bool := bitAt w 7

/-- The mode of an RND field (R84); 3 is refused before it is used. -/
def rndOf : Nat → Rnd
  | 0 => .rne
  | 1 => .rtz
  | _ => .sr

/-- The value of an element code of format `f`; a BS code takes scale byte `sc`, and 0xFF is the block-NaN (R79). -/
def elemVal (f code sc : Nat) : Val × Bool :=
  if fmtInt f then (intVal (fmtBits f) code, false)
  else if fmtBS f then
    if sc = 0xFF then (.nan false, true)
    else
      match (ffOf f).decode code with
      | .fin n m e => (.fin n m (e + sc - 127), false)
      | v => (v, false)
  else ((ffOf f).decode code, false)

/-- One element into a float or integer format (Table 4-7). -/
def cvtElem (dst : Nat) (mode : Rnd) (u : Nat) (sat : Bool) (v : Val) (bn : Bool) : Nat × Flg :=
  let b : Flg := if bn then fBN else 0
  if fmtInt dst then
    let r := roundInt (fmtBits dst) mode u v
    (r.1, r.2 ||| b)
  else
    let r := (ffOf dst).round mode u sat v
    (r.1, r.2 ||| nvOf v ||| b)

/-- m × 2^e is not below m' × 2^e' in magnitude; only finite values are asked. -/
def Val.geMag : Val → Val → Bool
  | .fin _ m e, .fin _ m' e' => geScaled m e m' e'
  | _, _ => false

/-- The exponent X of a block whose largest magnitude is `amax` (R82). -/
def blockExp (dst : Nat) (amax : Val) : Int :=
  match amax with
  | .fin _ m e =>
    if m = 0 then 0
    else min (max ((Nat.log2 m : Int) + e - (if dst = cBS4 then 2 else 8)) (-127)) 127
  | _ => 0

/-- A source block encoded (R82, R83): the element codes, the scale byte, the flags of each element. -/
def encodeBlock (dst : Nat) (mode : Rnd) (us : List Nat) (vs : List Val) : List (Nat × Flg) × Nat :=
  if vs.any fun v => v.isNaN || v.isInf then
    (vs.map fun v => (0, nvOf v ||| (if v.isInf then fNV else 0)), 0xFF)
  else
    let amax := vs.foldl (fun a v => if v.geMag a then v else a) (.fin false 0 0)
    let x := blockExp dst amax
    ((vs.zip us).map fun p => (ffOf dst).roundBS mode p.2 (scaleVal (-x) p.1), (x + 127).toNat)

/-- The 24 random bits of element e (R86). -/
def Tile.srBits (x : Tile) (c : RngCtx) (e : Nat) : Nat := (mixer x.vx.seed.toNat c.stream ((c.base + e) % 2 ^ 40)).1 % 2 ^ 24

/-- The value of element e of a conversion's source, its block-NaN and its poison (R90). -/
def Tile.cvtSrc (x : Tile) (fr f : Nat) (o : VOp) (e : Nat) : Val × Bool × Bool :=
  let r := x.vread fr o e
  let sc := match o with
    | .strm _ hn _ _ off => if fmtBS f then (x.seenByte (x.scaleAddr hn (off + e))).toNat else 0
    | _ => 0
  let v := elemVal f r.1 sc
  (v.1, v.2, r.2)

/-- The block that starts at element e0: its codes, its scale, its poison, its flags: PZ only with a poisoned element (Table 4-7). -/
def Tile.cvtBlock (x : Tile) (fr w : Nat) (o : VOp) (c : RngCtx) (e0 : Nat) : List Nat × Nat × Bool × Flg :=
  let es := (List.range 32).map (e0 + ·)
  let vs := es.map (x.cvtSrc fr (cvSrc w) o)
  let pz := vs.any (·.2.2)
  let r := encodeBlock (cvDst w) (rndOf (cvRnd w)) (es.map (x.srBits c)) (vs.map (·.1))
  let fl := r.1.foldl (fun a p => a ||| p.2) (if vs.any (·.2.1) then fBN else 0)
  (r.1.map (·.1), r.2, pz, if pz then fPZ else fl)

/-- Writes a block of a BS destination, and its scale byte. -/
def Tile.putBlock (d : VOp) (e0 : Nat) (x : Tile) (b : List Nat × Nat × Bool × Flg) : Tile :=
  let y := ((List.range 32).zip b.1).foldl (fun z p => z.vwrite d (e0 + p.1) p.2 b.2.2.1) x
  let z := match d with
    | .strm _ hn _ _ off => y.write (y.scaleAddr hn (off + e0)) [BitVec.ofNat 8 b.2.1] (b.2.2.1 || y.taint)
    | _ => y
  z.addVx b.2.2.2

/-- The strips of a conversion to a BS format (R127, R134). -/
def Tile.cvtBsStrips (fr w : Nat) (a d : VOp) (c : RngCtx) (x : Tile) : Tile :=
  (List.range (ceilDiv (vN w) 64)).foldl (fun y j =>
    let es := stripEls (vN w) j
    let y1 := y.vtouch a es
    let bs := (List.range (es.length / 32)).map fun k => (64 * j + 32 * k, y1.cvtBlock fr w a c (64 * j + 32 * k))
    bs.foldl (fun z b => Tile.putBlock d b.1 z b.2) y1) x

/-- Advances the base of context c by n (R134, R137, R143). -/
def Tile.advCtx (x : Tile) (c n : Nat) (adv : Bool) : Tile :=
  if adv then x.setCtx c ⟨(x.rngCtx c).stream, ((x.rngCtx c).base + n) % 2 ^ 40⟩ else x

/-- The fields of a CVT and its counts are as R84 and R134 lay down. DEDUCED (log entry 83): A or D = 0x3F, no operand, is a wrong field of the
instruction. -/
def cvtOk (w : Nat) (a d : VOp) : Bool :=
  let bs := fmtBS (cvSrc w) || fmtBS (cvDst w)
  fld w 6 0 == 0 && cvRnd w != 3 && fmtOk (cvSrc w) && fmtOk (cvDst w)
    && (cvRnd w == 2 || (cvRcx w == 0 && !cvAdv w)) && !a.isNone && !d.isNone
    && (!a.isReg || cvSrc w == 0 || cvSrc w == 9) && (!d.isReg || cvDst w == 0 || cvDst w == 9)
    && (!bs || vN w % 32 == 0)

/-- The formats of the stream operands of a CVT agree with their handles, and a BS run begins on a block (R134). -/
def cvtFmts (w : Nat) (a d : VOp) : Bool :=
  let one (o : VOp) (f : Nat) : Bool := match o with
    | .strm _ _ h _ off => hFmt h == f && (!fmtBS f || off % 32 == 0)
    | _ => true
  one a (cvSrc w) && one d (cvDst w)

/-- The operands A and D of a CVT. -/
def Tile.cvtAD (x : Tile) (w : Nat) : Option (VOp × VOp) :=
  match x.vop (vA w) (vN w), x.vop (vD w) (vN w) with
  | some a, some d => some (a, d)
  | _, _ => none

/-- The cost per strip of a CVT (R134). -/
def cvtCost (w : Nat) : Nat := if fmtBS (cvDst w) then 2 else 1

/-- The checks and the plan of a CVT (R134). -/
def cvtPlan (x : Tile) (w : Nat) : Except Byte VPlan :=
  let n := vN w
  match x.cvtAD w with
  | none => .error cDESC
  | some (a, d) =>
    if !cvtOk w a d then .error cDESC
    else
      match x.vopCheck n [a, d] [d] (cvtFmts w a d) with
      | some cd => .error cd
      | none => .ok ⟨vUse n [a] [d] [], (x.vNeeds n (cvtCost w) [a, d] fun _ => d.isReg), 6⟩

/-- What a CVT does (R134). -/
def Tile.cvtRun (fr : Nat) (x : Tile) (w : Nat) : Tile :=
  let n := vN w
  match x.cvtAD w with
  | none => x
  | some (a, d) =>
    let c := x.rngCtx (cvRcx w)
    let z := if fmtBS (cvDst w) then x.cvtBsStrips fr w a d c
      else x.vstrips n [a] (fun z i =>
        let v := z.cvtSrc fr (cvSrc w) a i
        let u := if cvRnd w = 2 then z.srBits c i else 0
        let r := cvtElem (cvDst w) (rndOf (cvRnd w)) u (cvSat w) v.1 v.2.1
        ([(d, r.1, v.2.2)], elFlags r.2 v.2.2))
    (z.vadvance n [a, d]).advCtx (cvRcx w) n (cvRnd w == 2 && cvAdv w)

/-- CVT (R134). -/
def execCvt (t : Nat) (s : State) : Host.Outcome State Fault Refusal :=
  onTile t { s with free := s.free + 1 } fun x => x.vRow s.cc (fun w => eOpc w == 0x30) cvtPlan (Tile.cvtRun s.free)

end Sys2Proof.Machine
end

