-- ==== Sys2Proof/Machine/Groups.lean ====
section
/-!
DEFINITION. The group tree over the virtual grid (R37 to R41), the small reductions (R186, R187), reports to the error summaries
(R404), and the pacing debt of the Caldera nodes (R402).
-/
namespace Sys2Proof.Machine

/-- Level and index of a GID (Table 2-7). -/
def gLevel (g : Nat) : Nat := fld g 15 12
def gIdx (g : Nat) : Nat := fld g 11 0
def gidOf (k i : Nat) : Nat := at' k 12 + i

/-- Columns and rows of the grid of level k over 32 × `rows` tiles (Table 2-6). -/
def lvCols (k : Nat) : Nat := if k = 5 then 1 else 32 / 2 ^ k
def lvRows (rows k : Nat) : Nat := if k = 5 then 1 else ceilDiv rows (2 ^ k)

/-- The GID names a group of the device's grid (R39). -/
def gExists (rows g : Nat) : Bool := decide (gLevel g ≤ 5) && decide (gIdx g < lvCols (gLevel g) * lvRows rows (gLevel g))

/-- The children of a group of level 1 to 5 in ascending rank (R38). -/
def gChildren (rows g : Nat) : List Nat :=
  let k := gLevel g
  let cs := lvCols (k - 1)
  let rs := lvRows rows (k - 1)
  if k = 5 then (List.range (cs * rs)).map (gidOf 4)
  else
    let c := 2 * (gIdx g % lvCols k)
    let r := 2 * (gIdx g / lvCols k)
    ([(c, r), (c + 1, r), (c, r + 1), (c + 1, r + 1)].filter fun p => decide (p.2 < rs)).map fun p =>
      gidOf (k - 1) (p.2 * cs + p.1)

/-- The group of level k that holds virtual tile t. -/
def gOfTile (k t : Nat) : Nat :=
  if k = 5 then 0x5000 else gidOf k (t / 32 / 2 ^ k * lvCols k + t % 32 / 2 ^ k)

/-- The parent of a group of level 0 to 4. -/
def gParent (g : Nat) : Nat :=
  let k := gLevel g
  if 4 ≤ k then 0x5000 else gidOf (k + 1) (gIdx g / lvCols k / 2 * lvCols (k + 1) + gIdx g % lvCols k / 2)

/-- The tiles of a group, ascending. -/
def gTiles (rows g : Nat) : List Nat := (List.range (32 * rows)).filter fun t => gOfTile (gLevel g) t == g

/-- The head tile: the lowest virtual tile number of the group (R191). -/
def gHead (rows g : Nat) : Nat := (gTiles rows g).headD 0

/-- Every node of the Caldera tree, levels 1 to 5. -/
def gNodes (rows : Nat) : List Nat :=
  ((List.range 5).map fun k => (List.range (lvCols (k + 1) * lvRows rows (k + 1))).map (gidOf (k + 1))).flatten

/-- Group `a` lies inside group `g` or is it. -/
def gWithin (a g : Nat) : Bool := gOfTile (gLevel g) (if gLevel a = 5 then 0 else
    let k := gLevel a; (gIdx a / lvCols k * 2 ^ k) * 32 + gIdx a % lvCols k * 2 ^ k) == g && decide (gLevel a ≤ gLevel g)

/-- Rows of the image's grid; those of grade 1536 where none is loaded. -/
def State.rows (s : State) : Nat :=
  match s.vent.image with
  | none => 48
  | some im => im.man.rows

/-- Contracted release latency of a scope (Table 8-3). -/
def barLatency : Nat → Nat
  | 1 => 8
  | 2 => 14
  | 3 => 22
  | 4 => 30
  | _ => 40

/-- A Caldera value: the value and its index. -/
abbrev CalVal := Word × Word

/-- The combine of two values by ROP (Table 8-4). -/
def calCombine (rop : Nat) (a b : CalVal) : CalVal :=
  let key (w : Word) : Int :=
    if isNaN32 w then 2 ^ 33 else if w.toNat < 2 ^ 31 then (w.toNat : Int) else -(w.toNat % 2 ^ 31 : Nat) - 1
  let pick (up : Bool) : CalVal :=
    if key a.1 = key b.1 then (if b.2.toNat < a.2.toNat then b else a)
    else if (if up then decide (key a.1 < key b.1) else decide (key b.1 < key a.1)) then b else a
  match rop with
  | 1 => ((fAdd a.1 b.1).1, 0)
  | 2 => ((fMax a.1 b.1).1, 0)
  | 3 => ((fMin a.1 b.1).1, 0)
  | 4 => (a.1 + b.1, 0)
  | 5 => (a.1 ||| b.1, 0)
  | 6 => pick true
  | 7 => pick false
  | _ => (0, 0)

/-- One round of the pairwise order (R187). -/
def pairRound (f : NVal → NVal → NVal) : List NVal → List NVal
  | a :: b :: l => f a b :: pairRound f l
  | l => l

/-- The pairwise order over at most 2^k values. -/
def pairAll (f : NVal → NVal → NVal) : Nat → List NVal → List NVal
  | 0, l => l
  | k + 1, l => pairAll f k (pairRound f l)

/-- The combine of two arrivals: values by ROP, marks by R188, the later arrival cycle. -/
def NVal.combine (a b : NVal) : NVal :=
  let r := calCombine a.rop (a.val, a.idx) (b.val, b.idx)
  { a with val := r.1, idx := r.2, pzVal := a.pzVal || b.pzVal, pzIdx := a.pzIdx || b.pzIdx, at' := max a.at' b.at' }

/-- The combined arrival of children in ascending rank (R187); there is at least one and at most six. -/
def combineChildren (l : List NVal) : Option NVal := (pairAll NVal.combine 3 l).head?

/-- Caldera node g. -/
def State.node (s : State) (g : Nat) : CalNode := Sparse.get CalNode.reset s.cal.nodes g

/-- Writes Caldera node g. -/
def State.setNode (s : State) (g : Nat) (n : CalNode) : State :=
  { s with cal := { s.cal with nodes := Sparse.set CalNode.reset s.cal.nodes g n } }

/-- A summary takes `n` further reports, or opens with them (R404). -/
def CalNode.add (x : CalNode) (code n src cc : Nat) : CalNode :=
  let u := Sparse.get (⟨0, 0, 0⟩ : Summary) x.sums code
  { x with sums := Sparse.put x.sums code (if u.count = 0 then ⟨min n (2 ^ 32 - 1), src, cc⟩ else { u with count := min (u.count + n) (2 ^ 32 - 1) }) }

/-- A report of a ledger code at node g from a source (R404). -/
def State.reportAt (s : State) (g code src : Nat) : State := s.setNode g ((s.node g).add code 1 src s.cc)

/-- The units of 1/16 cc that a node's debt grows by in one core cycle at pacing level p (R401). -/
def paceUnits : Nat → Nat
  | 0 => 0
  | 1 => 1
  | 2 => 2
  | 3 => 4
  | _ => 8

/-- A node's pacing debt in the present cycle, in units of 1/16 cc, at most 2^24 cc (R402). -/
def State.debt (s : State) (g : Nat) : Nat :=
  let n := s.node g
  min (n.debt + paceUnits s.aon.pace * (s.cc - n.debtAt)) (2 ^ 28)

/-- Sets the pacing level: every node's debt is counted up to this cycle, and is zero once the level is 0; an idle superstep that a scope
stands in still gathers none (R402). -/
def State.setPace (s : State) (p : Nat) : State :=
  if p = s.aon.pace then s
  else
    let s1 := (gNodes s.rows).foldl (fun (u : State) g =>
      let n := u.node g
      u.setNode g { n with debt := if p = 0 then 0 else s.debt g, debtAt := if p = 0 then n.debtAt else max s.cc n.debtAt }) s
    { s1 with aon := { s1.aon with pace := p } }

/-- The idle supersteps that node g inserts into the barrier it completes (R402). -/
def State.idleOf (s : State) (g : Nat) : Nat := min (s.debt g / 16 / 2048) 64

/-- Node g pays n idle supersteps; no node of its scope gathers debt in them (R402). -/
def State.payIdle (s : State) (g n : Nat) : State :=
  if n = 0 then s
  else (gNodes s.rows).foldl (fun (u : State) a =>
    if gWithin a g then
      u.setNode a { u.node a with debt := s.debt a - (if a = g then 16 * 2048 * n else 0), debtAt := s.cc + 2048 * n }
    else u) s

end Sys2Proof.Machine
end

