-- ==== Sys2Proof/Machine/MemOps.lean ====
section
/-!
DEFINITION. The device range and its tiers (R205 to R218): reads and writes with poison and error states, pages, frames and
evictions, windows (R230 to R233).
-/
namespace Sys2Proof.Machine

/-- The end of the image area and of the Vent region (Table 9-1). -/
def imageEndAddr : Nat := 0x01FFC0000000
def ventEndAddr : Nat := 0x020000000000

/-- The pages that n bytes from address a touch. -/
def pagesOf (a n : Nat) : List Nat :=
  if n = 0 then [] else (List.range ((a + n - 1) / 65536 - a / 65536 + 1)).map (a / 65536 + ·)

/-- Page p's entry. -/
def State.page (s : State) (p : Nat) : Page := Sparse.get Page.home s.mig.pages p

/-- Writes page p's entry; a HOME page without pins is not listed. -/
def State.setPage (s : State) (p : Nat) (x : Page) : State :=
  { s with mig := { s.mig with pages := Sparse.set Page.home s.mig.pages p x } }

/-- A MIG or MEM counter by register offset, saturating at 32 bits (R238). -/
def State.migBump (s : State) (off n : Nat) : State :=
  { s with mig := { s.mig with cnt := Sparse.set 0 s.mig.cnt off (sat32 (Sparse.get 0 s.mig.cnt off) n) } }
def State.memBump (s : State) (off n : Nat) : State :=
  { s with mem := { s.mem with cnt := Sparse.set 0 s.mem.cnt off (sat32 (Sparse.get 0 s.mem.cnt off) n) } }

/-- Word w of the device range lies in a Terrace frame (Table 9-2: the valid copy). -/
def State.inTerrace (s : State) (w : Nat) : Bool :=
  match (s.page (w / 8192)).st with
  | .home => false
  | .promoting => false
  | _ => true

/-- The poison bit of word w. -/
def Mem.wordPz (m : Mem) (w : Nat) : Bool := Sparse.get false m.pz w

/-- A read or rewrite of word w of the device range: a single-bit error is corrected and counted (R208). -/
def State.memCheckWord (s : State) (w : Nat) : State :=
  if Sparse.get Ecc.ok s.mem.ecc w = .ce then
    State.memBump { s with mem := { s.mem with ecc := Sparse.set Ecc.ok s.mem.ecc w .ok } } (if s.inTerrace w then 0x008 else 0x000) 1
  else s

/-- An uncorrectable word is still being read again (R208): its reader waits. -/
def State.memPending (s : State) (a n : Nat) : Bool :=
  (wordsOf a n).any fun w => Sparse.get Ecc.ok s.mem.ecc w ≠ .ok && Sparse.get Ecc.ok s.mem.ecc w ≠ .ce

/-- The reads of n bytes from address a. -/
def State.memTouch (s : State) (a n : Nat) : State := (wordsOf a n).foldl State.memCheckWord s

/-- The n bytes from address a. -/
def State.memBytes (s : State) (a n : Nat) : List Byte := Sparse.getRun 0 s.mem.data a n

/-- A word that n bytes from a touch is poisoned. -/
def State.memAnyPz (s : State) (a n : Nat) : Bool := (wordsOf a n).any s.mem.wordPz

/-- Word w keeps an uncorrectable error after its rereads (R208): it is delivered and written back poisoned, counted, and posted. -/
def State.memUe (s : State) (w : Nat) : State :=
  let tt := s.inTerrace w
  let s1 := { s with mem := { s.mem with ecc := Sparse.set Ecc.ok s.mem.ecc w .ok, pz := Sparse.set false s.mem.pz w true } }
  (s1.memBump (if tt then 0x00C else 0x004) 1).health (if tt then 0x0021 else 0x0020) (leBytes 8 (8 * w))

/-- A read of word w with all its rereads (R208). An error stored in the word fails each of them; whether one that arose on the read path is
gone in a reread is a free value (log entry 75). -/
def State.memSettle (s : State) (w : Nat) : State :=
  let lost (e : Ecc) : Bool := decide (e = .ue) || decide (e = .ue1) || Config.freeValue s.free % 2 == 0
  let e := Sparse.get Ecc.ok s.mem.ecc w
  if e = .ok ∨ e = .ce then s.memCheckWord w
  else if lost e then State.memUe { s with free := s.free + 1 } w
  else State.memBump { s with free := s.free + 1, mem := { s.mem with ecc := Sparse.set Ecc.ok s.mem.ecc w .ok } } 0x010 1

/-- The reads of n bytes from address a by an agent that takes them in one step (R206, R208): the collective engine, a copy, a loader. -/
def State.memRead (s : State) (a n : Nat) : State :=
  (s.mem.ecc.filter fun e => decide (0 < n ∧ 8 * e.1 < a + n ∧ a < 8 * e.1 + 8)).foldl (fun (u : State) e => u.memSettle e.1) s

/-- A word of n bytes from address a is poisoned, found among the marked words. -/
def Mem.rangePz (m : Mem) (a n : Nat) : Bool := m.pz.any fun e => e.2 && decide (0 < n ∧ 8 * e.1 < a + n ∧ a < 8 * e.1 + 8)

/-- The poison and the error state of word w after a write of n bytes from a with mark `pz` (R60, R208). -/
def Mem.writePz (a n : Nat) (pz : Nat → Bool) (m : Mem) (w : Nat) : Mem :=
  let whole : Bool := decide (a ≤ 8 * w) && decide (8 * w + 8 ≤ a + n)
  { m with pz := Sparse.set false m.pz w (pz w || (!whole && m.wordPz w)),
           ecc := Sparse.set Ecc.ok m.ecc w .ok }

/-- The pages written become DIRTY where a RESIDENT frame takes the write (Table 9-3). -/
def State.dirtyPage (s : State) (p : Nat) : State :=
  if (s.page p).st = .resident then s.setPage p { s.page p with st := .dirty } else s

/-- The reads that a partial write makes of its first and its last word (R60). -/
def State.memEdges (s : State) (a n : Nat) : State :=
  let s1 := if a % 8 = 0 ∧ 8 ≤ n then s else s.memRead a (min n (8 - a % 8))
  if (a + n) % 8 = 0 then s1 else s1.memRead (max a ((a + n) / 8 * 8)) 1

/-- Writes bytes at address a; `pz` marks the words (R60). -/
def State.memWrite (s0 : State) (a : Nat) (bs : List Byte) (pz : Nat → Bool) : State :=
  let s := if bs.isEmpty then s0 else s0.memEdges a bs.length
  let m1 := (wordsOf a bs.length).foldl (Mem.writePz a bs.length pz) s.mem
  let s1 := { s with mem := { m1 with data := Sparse.setRun 0 m1.data a bs } }
  (pagesOf a bs.length).foldl State.dirtyPage s1

/-- An access is held by Table 9-3: a page being promoted holds all, a page being evicted holds writes. -/
def State.pageHeld (s : State) (a n : Nat) (write : Bool) : Bool :=
  (pagesOf a n).any fun p =>
    match (s.page p).st with
    | .promoting => true
    | .evicting => write
    | _ => false

/-- Frames of a partition (R209). -/
def frameCount (part : Nat) : Nat := if part < 64 then 1365 else 1366

/-- Frame f of a partition holds a page, or is still read (R215). -/
def State.frameUsed (s : State) (part f : Nat) : Bool :=
  (s.mig.pages.any fun e => decide (e.2.st ≠ .home) && e.2.part == part && e.2.frame == f)
    || s.mig.linger.any fun l => l.1 == part && l.2.1 == f

/-- The lowest-numbered free frame of a partition (R217). -/
def State.freeFrame (s : State) (part : Nat) : Option Nat :=
  (List.range (frameCount part)).find? fun f => !s.frameUsed part f

/-- Free frames on the device (MIG.FREE). -/
def State.freeFrames (s : State) : Nat :=
  131072 - (s.mig.pages.filter fun e => decide (e.2.st ≠ .home)).length - s.mig.linger.length

/-- Page p takes frame f: its promotion starts. -/
def State.startPromotion (s : State) (p part f : Nat) : State :=
  (s.setPage p { s.page p with st := .promoting, part := part, frame := f, queued := none }).migBump 0x020 1

/-- The feeds (tile and number) that read page p. -/
def State.readersOf (s : State) (p : Nat) : List (Nat × Nat) :=
  (s.tiles.map fun e => (e.2.feeds.filter fun f => !f.out && (pagesOf f.daddr f.len).contains p).map fun f => (e.1, f.id)).flatten

/-- The frame of page p is given up for the equal copy in Basin: the errors of the frame's words go with it (R215). -/
def State.dropErrors (s : State) (p : Nat) : State :=
  { s with mem := { s.mem with ecc := s.mem.ecc.filter fun e => e.1 / 8192 != p } }

/-- Page p leaves Terrace (R215, R216): RESIDENT becomes HOME in the same cycle, DIRTY becomes EVICTING; KEEP and EVPEND are
cleared. -/
def State.evict (s : State) (p : Nat) : State :=
  let x := s.page p
  match x.st with
  | .resident =>
    let rs := s.readersOf p
    let s1 := if rs.isEmpty then s else { s with mig := { s.mig with linger := s.mig.linger ++ [(x.part, x.frame, rs)] } }
    ((s1.dropErrors p).setPage p { Page.home with pins := x.pins }).migBump 0x024 1
  | .dirty => (s.setPage p { x with st := .evicting, keep := false, evpend := false, emptyAt := 0 }).migBump 0x024 1
  | _ => s

/-- The unpin rule (R216). -/
def State.unpinRule (s : State) (p : Nat) : State :=
  let x := s.page p
  if x.pins.isEmpty && (decide (x.st = .resident) || decide (x.st = .dirty)) && (x.evpend || !x.keep) then s.evict p else s

/-- A kept page of a partition that the engine reclaims: the one empty longest, then the lowest number (R217). -/
def State.reclaimable (s : State) (part : Nat) : Option Nat :=
  let c := s.mig.pages.filter fun e =>
    (decide (e.2.st = .resident) || decide (e.2.st = .dirty)) && e.2.part == part && e.2.pins.isEmpty && e.2.keep && !e.2.evpend
  (sortOn (fun e => e.2.emptyAt) c).head?.map (·.1)

/-- The frame-wait list of a partition. -/
def State.waitList (s : State) (part : Nat) : List Nat := Sparse.get [] s.mig.waits part
def State.setWaitList (s : State) (part : Nat) (l : List Nat) : State :=
  { s with mig := { s.mig with waits := Sparse.set [] s.mig.waits part l } }

/-- Page p joins the wait list of a partition. -/
def State.joinWait (s : State) (p part : Nat) : State :=
  (s.setPage p { s.page p with queued := some part }).setWaitList part (s.waitList part ++ [p])

/-- A promotion of HOME page p into a partition takes a frame, reclaims one, or waits (R217). -/
def State.promoteInto (s : State) (p part : Nat) : State :=
  match (if (s.waitList part).isEmpty then s.freeFrame part else none) with
  | some f => s.startPromotion p part f
  | none =>
    match s.reclaimable part with
    | some k =>
      let s1 := (s.evict k).migBump 0x028 1
      match (if (s1.waitList part).isEmpty then s1.freeFrame part else none) with
      | some f => s1.startPromotion p part f
      | none => s1.joinWait p part
    | none => (s.joinWait p part).migBump 0x030 1

/-- A refused pin or unpin (R214). -/
def State.pinError (s : State) : State := State.migBump { s with mig := { s.mig with errPin := true } } 0x034 1

/-- PROMOTE of page p by user u into a partition with KEEP k (R214, Table 9-3). One by a user of the set changes nothing. -/
def State.promote (s : State) (p u part : Nat) (k : Bool) : State :=
  let x := s.page p
  if x.pins.contains u then s
  else if u = 0xFFF ∨ 15 ≤ x.pins.length then s.pinError
  else
    let s1 := s.setPage p { x with pins := x.pins ++ [u], keep := x.keep || k }
    match x.st with
    | .home => if x.queued.isSome then s1 else s1.promoteInto p part
    | .evicting => (s1.setPage p { s1.page p with queued := some (x.queued.getD part) }).migBump 0x02C 1
    | _ => s1

/-- UNPIN of page p by user u (R214, Table 9-3). -/
def State.unpin (s : State) (p u : Nat) : State :=
  let x := s.page p
  if !x.pins.contains u then s.pinError
  else
    let pins := x.pins.erase u
    let s2 := s.setPage p { x with pins := pins, emptyAt := if pins.isEmpty then s.mig.applyNo else x.emptyAt }
    match x.st with
    | .home =>
      if pins.isEmpty then
        let s3 := match x.queued with
          | some part => s2.setWaitList part ((s2.waitList part).erase p)
          | none => s2
        s3.setPage p { s3.page p with queued := none, emptyAt := 0 }
      else s2
    | .evicting => if pins.isEmpty then s2.setPage p { s2.page p with queued := none } else s2
    | _ => s2.unpinRule p

/-- EVICT of page p (Table 9-3). -/
def State.evictReq (s : State) (p : Nat) : State :=
  let x := s.page p
  match x.st with
  | .home => s.setPage p { x with keep := false }
  | .promoting => (s.setPage p { x with evpend := true }).migBump 0x02C 1
  | .evicting => s
  | _ =>
    let s1 := s.setPage p { x with keep := false }
    if x.pins.isEmpty then s1.evict p else (s1.setPage p { s1.page p with evpend := true }).migBump 0x02C 1

/-- The physical partition that PART names for page p (R222). -/
def State.partOf (s : State) (part p : Nat) : Nat := s.mig.parts.getD (if part = 0x7F then p % 96 else part) part

/-- One page of a schedule entry applied (R223). -/
def State.applyEntry (s : State) (e : SchedEnt) (p : Nat) : State :=
  match e.act with
  | 1 => s.promote p e.sid (s.partOf e.part p) e.keep
  | 2 => s.unpin p e.sid
  | _ => s.evictReq p

/-- The entries that fire at superstep n (R221). -/
def Sched.firing (c : Sched) (n : Nat) : List SchedEnt :=
  if n < c.start then c.pro.filter fun e => e.ss == n
  else c.body.filter fun e => decide (c.period ≠ 0) && (n - c.start) % c.period == e.ss

/-- The schedule entries of superstep n fire (R220, R223): later entries wait behind earlier ones, which sets BACKLOG. -/
def State.fireSchedule (s : State) (n : Nat) : State :=
  match s.mig.sched with
  | none => s
  | some c =>
    if s.mig.halted then s
    else
      let es := (c.firing n).map fun e => (n, e, 0)
      { s with mig := { s.mig with fired := s.mig.fired ++ es,
                                   errBacklog := s.mig.errBacklog || (!es.isEmpty && !s.mig.fired.isEmpty) } }

/-- Window w. -/
def State.win (s : State) (w : Nat) : Option Win := Sparse.get none s.mem.wins w
def State.setWin (s : State) (w : Nat) (x : Win) : State := { s with mem := { s.mem with wins := Sparse.put s.mem.wins w (some x) } }

/-- Bytes a to a + n − 1 meet a window. -/
def Win.meets (x : Win) (a n : Nat) : Bool := decide (a < x.base + x.size) && decide (x.base < a + n)

/-- The first window that the bytes meet. -/
def State.winAt (s : State) (a n : Nat) : Option (Nat × Win) :=
  s.mem.wins.findSome? fun e => match e.2 with
    | some x => if x.meets a n then some (e.1, x) else none
    | none => none

/-- A tile feed touches a window that the outside holds: it is held (R231). -/
def State.winHeld (s : State) (a n : Nat) : Bool :=
  s.mem.wins.any fun e => match e.2 with
    | some x => x.outside && x.meets a n
    | none => false

/-- An external access lies inside a window of the side that the outside holds, with its permission (R231). -/
def State.winServes (s : State) (side1 write : Bool) (a n : Nat) : Bool :=
  s.mem.wins.any fun e => match e.2 with
    | some x => x.outside && x.side1 == side1 && decide (x.base ≤ a) && decide (a + n ≤ x.base + x.size)
        && bitAt x.perm (if write then 1 else 0)
    | none => false

/-- A refused external access is counted (R231, R335). -/
def State.refuse (s : State) (a n : Nat) : State :=
  let s1 := s.memBump 0x014 1
  let w := match s.winAt a n with
    | some x => x.1
    | none => 0xFF
  { s1 with host := { s1.host with refusedWin := if s1.host.refused = 0 then w else s1.host.refusedWin,
                                   refused := s1.host.refused + 1 } }

/-- The arrival at window w (R232): it passes inside and AFLAG is signalled once at every tile of CONS. -/
def State.arriveWin (s : State) (w : Nat) : State :=
  match s.win w with
  | none => s
  | some x =>
    let s1 := s.setWin w { x with outside := false, xfer := (x.xfer + 1) % 2 ^ 16, issued := [], released := [], handed := [] }
    (gTiles s.rows x.cons).foldl (fun (u : State) t => u.setTile t ((u.tile t).incFlag x.aflag)) s1

end Sys2Proof.Machine
end

