-- ==== Sys2Proof/Machine/Prism.lean ====
section
/-!
DEFINITION. Prism programs (R135 to R138): micro-ops, their sources and costs, what the loader accepts, and PRISM.
-/
namespace Sys2Proof.Machine

/-- The fields of a micro-op (Table 6-6). -/
def uUop (m : Nat) : Nat := fld m 63 58
def uDt (m : Nat) : Nat := fld m 57 55
def uPort (m : Nat) : Nat := fld m 56 55
def uSa (m : Nat) : Nat := fld m 54 50
def uSb (m : Nat) : Nat := fld m 49 45
def uSc (m : Nat) : Nat := fld m 44 40
def uImm (m : Nat) : Nat := fld m 31 0

/-- The UOP is listed in Table 6-7. -/
def uopOk (u : Nat) : Bool :=
  decide (u ≤ 0x0D) || (decide (0x11 ≤ u) && decide (u ≤ 0x15)) || (decide (0x21 ≤ u) && decide (u ≤ 0x2F))
    || u == 0x30 || u == 0x31 || u == 0x38

/-- How many of the three sources a UOP uses. -/
def uopArity (u : Nat) : Nat :=
  if u = 0 then 0
  else if u ≤ 0x15 then vopfArity (u - 1)
  else if u ≤ 0x2F then vopiArity (u - 0x21)
  else 1

/-- The cost of a UOP per strip (Table 6-7). -/
def uopCost (u : Nat) : Nat :=
  if u = 0 then 0 else if u ≤ 0x15 then vopfCost (u - 1) else 1

/-- The source codes that a micro-op uses. -/
def uSrcs (m : Nat) : List Nat := [uSa m, uSb m, uSc m].take (uopArity (uUop m))

/-- The loader accepts the micro-op (R136). -/
def uopAccepted (m : Nat) : Bool :=
  uopOk (uUop m) && fld m 39 32 == 0 && ((uSrcs m).all fun c => decide (c ≤ 0x19))
    && (([uSa m, uSb m, uSc m].drop (uopArity (uUop m))).all fun c => c == 0)
    && (uUop m != 0x38 || !bitAt m 57) && (uUop m != 0 || fld m 57 0 == 0)

/-- The micro-ops of program p up to its first END, or through slot 31 (R135). -/
def Tile.program (x : Tile) (p : Nat) : List Nat := ((List.range 32).map (x.uop p)).takeWhile fun m => uUop m ≠ 0

/-- The ports that a program reads and writes (R137). -/
def progIns (prog : List Nat) : List Nat :=
  ((prog.map uSrcs).flatten.filterMap fun c => if 8 ≤ c ∧ c ≤ 0x0B then some (c - 8) else none).eraseDups

def progOuts (prog : List Nat) : List Nat :=
  (prog.filterMap fun m => if uUop m = 0x38 then some (uPort m) else none).eraseDups

/-- The program reads a random source. -/
def progRandom (prog : List Nat) : Bool := (prog.map uSrcs).flatten.any fun c => decide (0x15 ≤ c) && decide (c ≤ 0x19)

/-- One element's run of a program: the temporaries, the outputs, the flags. -/
structure PrismRun where
  temps : List (Word × Bool)
  outs : List (Nat × Word × Bool)
  fl : Flg

/-- The value and poison of source code c. -/
def PrismRun.src (r : PrismRun) (ports consts : List (Word × Bool)) (draw : Nat × Nat × Nat × Nat) (imm c : Nat) : Word × Bool :=
  if c < 8 then r.temps.getD c (0, false)
  else if c < 0x0C then ports.getD (c - 8) (0, false)
  else if c < 0x14 then consts.getD (c - 0x0C) (0, false)
  else if c = 0x14 then (w32 imm, false)
  else if c = 0x15 then (w32 draw.1, false)
  else if c = 0x16 then (w32 draw.2.1, false)
  else if c = 0x17 then (w32 draw.2.2.1, false)
  else if c = 0x18 then (w32 draw.2.2.2, false)
  else (uniform draw.1, false)

/-- The operation of a UOP on a, b, c (Table 6-7). -/
def uopVal (u : Nat) (a b c : Word) : Word × Flg :=
  if u ≤ 0x15 then vopf (u - 1) a b c
  else if u ≤ 0x2F then (vopi (u - 0x21) a b c, 0)
  else if u = 0x30 then rnd32 (intVal 32 a.toNat, 0)
  else (let r := roundInt 32 .rne 0 (f32 a); (w32 r.1, r.2))

/-- One micro-op (R137, R138): a result is poisoned when a source that it reads is, and PZ is raised. -/
def PrismRun.step (ports consts : List (Word × Bool)) (draw : Nat × Nat × Nat × Nat) (r : PrismRun) (m : Nat) : PrismRun :=
  let vs := (uSrcs m).map (r.src ports consts draw (uImm m))
  let pz := vs.any (·.2)
  let arg (i : Nat) : Word := (vs.getD i (0, false)).1
  if uUop m = 0x38 then
    { r with outs := Sparse.put r.outs (uPort m) (arg 0, pz), fl := r.fl ||| (if pz then fPZ else 0) }
  else
    let v := uopVal (uUop m) (arg 0) (arg 1) (arg 2)
    { r with temps := r.temps.set (uDt m) (v.1, pz), fl := r.fl ||| elFlags v.2 pz }

/-- The operands A, B, C, D of a PRISM, which are ports 0 to 3 (R137). -/
def Tile.prismPorts (x : Tile) (w : Nat) : Option (List VOp) := (x.vDABC w).map fun o => [o.2.1, o.2.2.1, o.2.2.2, o.1]

/-- The operands at ports `l`. -/
def atPorts (ps : List VOp) (l : List Nat) : List VOp := l.map fun i => ps.getD i .absent

/-- The checks and the plan of a PRISM (R126, R128, R133, R137): a stream slot at a port that the program does not use is named all the
same: its handle, format and run are checked, and it counts as read in R133. -/
def prismPlan (x : Tile) (w : Nat) : Except Byte VPlan :=
  let n := vN w
  let prog := x.program (fld w 7 5)
  match x.prismPorts w with
  | none => .error cDESC
  | some ps =>
    let ins := atPorts ps (progIns prog)
    let outs := atPorts ps (progOuts prog)
    if fld w 2 0 ≠ 0 ∨ (ins ++ outs).any VOp.isNone then .error cDESC
    else
      match x.vopCheck n ps outs (ps.all VOp.fmt32) with
      | some cd => .error cd
      | none => .ok ⟨vUse n ins outs ps, x.vNeeds n (prog.map fun m => uopCost (uUop m)).sum (ins ++ outs) (fun _ => outs.any VOp.isReg), 6⟩

/-- What a PRISM does (R137). DESIGN CHOICE (log entry 69): where two output ports name one register group or slot, the writes of an
element go in ascending port number. -/
def Tile.prismRun (fr : Nat) (x : Tile) (w : Nat) : Tile :=
  let n := vN w
  let prog := x.program (fld w 7 5)
  match x.prismPorts w with
  | none => x
  | some ps =>
    let ins := progIns prog
    let ctx := x.rngCtx (fld w 4 4)
    let consts := (List.range 8).map fun i => (Sparse.get (0 : Word) x.vx.kc i, Sparse.get false x.vx.kpz i)
    let z := x.vstrips n (atPorts ps ins) (fun u i =>
      let ports := (List.range 4).map fun k =>
        if ins.contains k then (let v := u.vread fr (ps.getD k .absent) i; (w32 v.1, v.2)) else (0, false)
      let draw := mixer u.vx.seed.toNat ctx.stream ((ctx.base + i) % 2 ^ 40)
      let r := prog.foldl (PrismRun.step ports consts draw) ⟨List.replicate 8 (0, false), [], 0⟩
      (r.outs.map fun o => (ps.getD o.1 .absent, o.2.1.toNat, o.2.2), r.fl))
    (z.vadvance n ps).advCtx (fld w 4 4) n (progRandom prog && bitAt w 3)

/-- PRISM (R137). -/
def execPrism (t : Nat) (s : State) : Host.Outcome State Fault Refusal :=
  onTile t { s with free := s.free + 1 } fun x => x.vRow s.cc (fun w => eOpc w == 0x40) prismPlan (Tile.prismRun s.free)

end Sys2Proof.Machine
end

