-- ==== Sys2Proof/Machine/Reduce.lean ====
section
/-!
DEFINITION. The reduction tree (R139, R140) and the random draws (R143).
-/
namespace Sys2Proof.Machine

/-- A partial result of a reduction: a value and its element number. -/
abbrev RedVal := Word × Nat

/-- The order of ARGMAX and ARGMIN as a key: −0 below +0, every NaN above every number (R140). -/
def argKey (w : Word) : Int :=
  if isNaN32 w then 2 ^ 33
  else if w.toNat < 2 ^ 31 then (w.toNat : Int) else -(w.toNat % 2 ^ 31 : Nat) - 1

/-- The one of two candidates that ARGMAX (`up`) or ARGMIN keeps; the lower element number between equals. -/
def argPick (up : Bool) (a b : RedVal) : RedVal :=
  let ka := argKey a.1
  let kb := argKey b.1
  if ka = kb then (if b.2 < a.2 then b else a)
  else if (if up then decide (ka < kb) else decide (kb < ka)) then b else a

/-- One combine of operation `op` of Table 6-8. -/
def redCombine (op : Nat) (a b : RedVal) : RedVal × Flg :=
  let one (r : Word × Flg) : RedVal × Flg := ((r.1, 0), r.2)
  match op with
  | 0 => one (fAdd a.1 b.1)
  | 1 => one (fAdd a.1 b.1)
  | 2 => one (fMax a.1 b.1)
  | 3 => one (fMin a.1 b.1)
  | 4 => (argPick true a b, nvOf (f32 a.1) ||| nvOf (f32 b.1))
  | 5 => (argPick false a b, nvOf (f32 a.1) ||| nvOf (f32 b.1))
  | _ => one (a.1 + b.1, 0)

/-- The next element of a lane: SUMSQ multiplies first and fuses later (R139). DEDUCED (log entry 83): NV comes from combinations (R140), so the
first element of a lane, taken alone, raises none, a signalling NaN included. -/
def redTake (op : Nat) (acc : Option RedVal) (v : RedVal) : RedVal × Flg :=
  match acc with
  | none => if op = 1 then (let r := fMul v.1 v.1; ((r.1, 0), r.2)) else (v, 0)
  | some a => if op = 1 then (let r := fMa v.1 v.1 a.1; ((r.1, 0), r.2)) else redCombine op a v

/-- A lane's or node's content: absent, or a value with its poison. -/
abbrev RedAcc := Option (RedVal × Bool)

/-- The flags of a combine: PZ only where SUM or SUMSQ reads poison (Table 3-5). -/
def redFlags (op : Nat) (pz : Bool) (fl : Flg) : Flg := if pz && decide (op < 2) then fPZ else fl

/-- Lane l takes its elements in ascending order. -/
def redLane (op : Nat) : RedAcc × Flg → List (RedVal × Bool) → RedAcc × Flg
  | r, [] => r
  | (acc, fl), (v, pz) :: rest =>
    let t := redTake op (acc.map (·.1)) v
    let pz' := pz || (acc.map (·.2)).getD false
    redLane op (some (t.1, pz'), fl ||| redFlags op pz' t.2) rest

/-- Combines two nodes of the tree; absent gives way. -/
def redNode (op : Nat) (a b : RedAcc) : RedAcc × Flg :=
  match a, b with
  | none, y => (y, 0)
  | x, none => (x, 0)
  | some x, some y =>
    let t := redCombine op x.1 y.1
    let pz := x.2 || y.2
    (some (t.1, pz), redFlags op pz t.2)

/-- One level of the tree over a list of even length. -/
def redLevel (op : Nat) : List RedAcc → List RedAcc × Flg
  | a :: b :: rest =>
    let r := redNode op a b
    let t := redLevel op rest
    (r.1 :: t.1, r.2 ||| t.2)
  | l => (l, 0)

/-- The six levels from 64 lanes to one. -/
def redTree (op : Nat) : Nat → List RedAcc × Flg → List RedAcc × Flg
  | 0, r => r
  | k + 1, r => (let t := redLevel op r.1; redTree op k (t.1, r.2 ||| t.2))

/-- The reduction of the elements: the result, its poison, the flags (R139, R140). -/
def reduceAll (op : Nat) (els : List (Word × Bool)) : RedVal × Bool × Flg :=
  let num := (els.zip (List.range els.length)).map fun p => ((p.1.1, p.2), p.1.2)
  let lane (l : Nat) : RedAcc × Flg := redLane op (none, 0) (num.filter fun p => p.1.2 % 64 == l)
  let ls := (List.range 64).map lane
  let r := redTree op 6 (ls.map (·.1), ls.foldl (fun a l => a ||| l.2) 0)
  let v := ((r.1.getD 0 none).getD ((0, 0), false)).1
  let pz := els.any (·.2)
  let val : Word := if op ≤ 3 ∧ isNaN32 v.1 then nan32 else v.1
  ((val, if op = 4 ∨ op = 5 then v.2 else 0), pz, r.2 ||| (if pz then fPZ else 0))

/-- The checks and the plan of a VRED (R139): its result is register D, which it writes once, in the last cycle of its last strip. -/
def vredPlan (x : Tile) (w : Nat) : Except Byte VPlan :=
  let n := vN w
  match x.vop (vA w) n with
  | none => .error cDESC
  | some a =>
    if a.isNone ∨ vB w ≠ 0x3F ∨ vC w ≠ 0x3F ∨ 32 ≤ vD w ∨ fld w 7 3 ≠ 0 then .error cDESC
    else
      match x.vopCheck n [a] [] a.fmt32 with
      | some cd => .error cd
      | none => .ok ⟨{ vUse n [a] [] [] with wregs := [vD w], wels := (List.range 64).map (64 * vD w + ·) },
                     x.vNeeds n 1 [a] (fun j => j + 1 == ceilDiv n 64), 12⟩

/-- What a VRED does (R139): D's elements 0 and 1 take the result, the others zero. -/
def Tile.vredRun (fr op : Nat) (x : Tile) (w : Nat) : Tile :=
  let n := vN w
  match x.vop (vA w) n with
  | none => x
  | some a =>
    let y1 := (List.range (ceilDiv n 64)).foldl (fun z j => z.vtouch a (stripEls n j)) x
    let r := reduceAll op ((List.range n).map fun i => let v := y1.vread fr a i; (w32 v.1, v.2))
    let d := VOp.reg (vD w)
    let y2 := (y1.vwrite d 0 r.1.1.toNat r.2.1).vwrite d 1 r.1.2 r.2.1
    let y3 := (List.range 62).foldl (fun z i => z.vwrite d (i + 2) 0 false) y2
    (y3.addVx r.2.2).vadvance n [a]

/-- VRED operation `op` (Table 6-8). -/
def vredRow (op t : Nat) (s : State) : Host.Outcome State Fault Refusal :=
  onTile t { s with free := s.free + 1 } fun x =>
    x.vRow s.cc (fun w => eOpc w == 0x50 && fld w 2 0 == op) vredPlan (Tile.vredRun s.free op)

/-- VRED SUM. -/
def execVredSum (t : Nat) (s : State) := vredRow 0 t s
/-- VRED SUMSQ. -/
def execVredSumsq (t : Nat) (s : State) := vredRow 1 t s
/-- VRED MAX. -/
def execVredMax (t : Nat) (s : State) := vredRow 2 t s
/-- VRED MIN. -/
def execVredMin (t : Nat) (s : State) := vredRow 3 t s
/-- VRED ARGMAX. -/
def execVredArgmax (t : Nat) (s : State) := vredRow 4 t s
/-- VRED ARGMIN. -/
def execVredArgmin (t : Nat) (s : State) := vredRow 5 t s
/-- VRED ISUM. -/
def execVredIsum (t : Nat) (s : State) := vredRow 6 t s

/-- The FP32 constant LN2 (R143). -/
def ln2 : Word := 0x3F317218

/-- The element of a draw (Table 6-9); `a` is A's element where A is used. -/
def rngElem (kind thr : Nat) (y : Nat × Nat × Nat × Nat) (a : Option Word) : Word × Flg :=
  match kind with
  | 0 => (w32 y.1, 0)
  | 1 => (uniform y.1, 0)
  | 2 => (if fld y.1 31 20 < thr then 0x3F800000 else 0, 0)
  | _ =>
    let s1 := fLog2 (uniform y.1)
    let s2 := fMul s1.1 ln2
    let s3 := fLog2 (fNeg s2.1)
    let s4 := fMul s3.1 ln2
    let g := fNeg s4.1
    let fl := s1.2 ||| s2.2 ||| s3.2 ||| s4.2
    match a with
    | none => (g, fl)
    | some v => (let r := fAdd v g; (r.1, fl ||| r.2))

/-- The operands D and A of an RNG. -/
def Tile.rngDA (x : Tile) (w : Nat) : Option (VOp × VOp) :=
  match x.vop (vD w) (vN w), x.vop (vA w) (vN w) with
  | some d, some a => some (d, a)
  | _, _ => none

/-- The checks and the plan of an RNG (R143). DEDUCED (log entry 83): D = 0x3F, no destination, is a wrong field of the instruction. -/
def rngPlan (kind : Nat) (x : Tile) (w : Nat) : Except Byte VPlan :=
  let n := vN w
  match x.rngDA w with
  | none => .error cDESC
  | some (d, a) =>
    if d.isNone ∨ (!a.isNone ∧ kind ≠ 3) ∨ (fld w 19 8 ≠ 0 ∧ kind ≠ 2) ∨ fld w 2 0 ≠ 0 then .error cDESC
    else
      match x.vopCheck n [a, d] [d] (d.fmt32 && a.fmt32) with
      | some cd => .error cd
      | none => .ok ⟨vUse n [a] [d] [], x.vNeeds n (if kind = 3 then (if a.isNone then 10 else 11) else 1) [a, d] (fun _ => d.isReg), 6⟩

/-- What an RNG does (R143). -/
def Tile.rngRun (fr kind : Nat) (x : Tile) (w : Nat) : Tile :=
  let n := vN w
  match x.rngDA w with
  | none => x
  | some (d, a) =>
    let c := x.rngCtx (fld w 4 4)
    let z := x.vstrips n [a] (fun u i =>
      let v := u.vread fr a i
      let r := rngElem kind (fld w 19 8) (mixer u.vx.seed.toNat c.stream ((c.base + i) % 2 ^ 40))
        (if a.isNone then none else some (w32 v.1))
      ([(d, r.1.toNat, v.2)], elFlags r.2 v.2))
    (z.vadvance n [a, d]).advCtx (fld w 4 4) n (bitAt w 3)

/-- RNG of kind `kind`. -/
def rngRow (kind t : Nat) (s : State) : Host.Outcome State Fault Refusal :=
  onTile t { s with free := s.free + 1 } fun x =>
    x.vRow s.cc (fun w => eOpc w == 0x60 && fld w 7 5 == kind) (rngPlan kind) (Tile.rngRun s.free kind)

/-- RNG.BITS. -/
def execRngBits (t : Nat) (s : State) := rngRow 0 t s
/-- RNG.UNIF. -/
def execRngUnif (t : Nat) (s : State) := rngRow 1 t s
/-- RNG.BERN. -/
def execRngBern (t : Nat) (s : State) := rngRow 2 t s
/-- RNG.GUMBEL. -/
def execRngGumbel (t : Nat) (s : State) := rngRow 3 t s

end Sys2Proof.Machine
end

