-- ==== Sys2Proof/Machine/Sync.lean ====
section
/-!
DEFINITION. The scalar sync instructions, the grant of a flag's decrement and the wake wire (R171 to R177), END and
DONE (R46), and the barrier arrival of a tile (R182).
-/
namespace Sys2Proof.Machine

/-- A head of the matrix engine waits for flag n, is the one that would issue, and has passed its checks (R173, R57). -/
def Tile.mxWants (x : Tile) (cc n : Nat) : Option MQueue :=
  match x.mxChoice cc with
  | none => none
  | some q =>
    match x.queue (mqOf q) with
    | [] => none
    | e :: _ => if eWflag e.word.toNat = n && flagOk (eSflag e.word.toNat) && !e.granted && (x.mxCheck q e.word.toNat).isNone then some q else none

/-- The plan of the vector instruction w, whichever it is. -/
def Tile.vPlan (x : Tile) (w : Nat) : Except Byte VPlan :=
  if !vDefined w then .error cDESC
  else match eOpc w with
    | 0x01 => planOne (fun v => fld v 43 0 != 0) x w
    | 0x10 => planOne (fun v => fld v 15 0 != 0) x w
    | 0x11 => pkldPlan x w
    | 0x12 => planOne (fun v => fld v 10 0 != 0) x w
    | 0x13 => planOne (fun v => fld v 42 32 != 0) x w
    | 0x20 => x.elemPlan (vopfArity (vFn w)) (vopfCost (vFn w)) w
    | 0x21 => x.elemPlan (vopiArity (vFn w)) 1 w
    | 0x30 => cvtPlan x w
    | 0x40 => prismPlan x w
    | 0x50 => vredPlan x w
    | _ => rngPlan (fld w 7 5) x w

/-- The V-queue head waits for flag n and starts once it has it: the engine is free, its checks pass, nothing conflicts (R133, R172). -/
def Tile.vWants (x : Tile) (cc n : Nat) : Bool :=
  match x.qv with
  | [] => false
  | e :: _ =>
    eWflag e.word.toNat == n && flagOk (eSflag e.word.toNat) && !e.granted && x.vfree cc &&
      (match x.vPlan e.word.toNat with
        | .error _ => false
        | .ok p => !x.vconflict p.use)

/-- The fields of FEED (Table 9-7). -/
def fdDh (w : Nat) : Nat := fld w 43 38
def fdIdx (w : Nat) : Nat := fld w 37 25

/-- Checks 1 and 2 of R226: the FEED's own fields, then its descriptor table; the address of the descriptor where they pass. -/
def Tile.feedTable (x : Tile) (w : Nat) : Except Byte Nat :=
  let dh := x.hndOf (fdDh w)
  if fld w 24 0 ≠ 0 then .error cDESC
  else if !hValid dh then .error cHINVALID
  else if hLayout dh ≠ 0 then .error cDESC
  else if !hInBounds dh (16 * fdIdx w) 16 then .error cHBOUNDS
  else .ok (64 * hBase dh + 16 * fdIdx w)

/-- Checks 3 and 4 of R226 on the descriptor at address a. -/
def Tile.feedDesc (x : Tile) (a : Nat) : Except Byte FeedDesc :=
  let w0 := leNat (x.seen a 8)
  let w1 := leNat (x.seen (a + 8) 8)
  let daddr := fld w0 47 0
  let n := 64 * fld w1 12 0
  let h := x.hndOf (fld w1 31 26)
  let off := 64 * fld w1 25 13
  if fld w0 63 60 ≠ 0 ∨ fld w1 63 33 ≠ 0 ∨ n = 0 ∨ 64 * 6144 < n ∨ daddr % 64 ≠ 0 ∨ imageEndAddr < daddr + n then .error cDESC
  else if !hValid h then .error cHINVALID
  else if !hInBounds h off n then .error cHBOUNDS
  else if !bitAt w1 32 && hWp h then .error cHWP
  else .ok ⟨fld w0 59 48, daddr, bitAt w1 32, fld w1 31 26, 64 * hBase h + off, n⟩

/-- The descriptor of the FEED w at the head: the one already read, or what its checks give now. -/
def Tile.feedCheck (x : Tile) (w : Nat) : Except Byte FeedDesc :=
  match x.fdesc with
  | some d => .ok d
  | none =>
    match x.feedTable w with
    | .error c => .error c
    | .ok a => x.feedDesc a

/-- Two feeds overlap (R227). -/
def feedsMeet (a : FeedDesc) (b : FeedFly) : Bool :=
  (decide (a.daddr < b.daddr + b.len) && decide (b.daddr < a.daddr + a.len) && (a.out || b.out))
    || (decide (a.ts < b.ts + b.len) && decide (b.ts < a.ts + a.len) && !(a.out && b.out))

/-- A FEED with descriptor d can start: fewer than 8 feeds in flight, none of which it overlaps (R227). -/
def Tile.feedFree (x : Tile) (d : FeedDesc) : Bool := decide (x.feeds.length < 8) && !x.feeds.any (feedsMeet d)

/-- The checks of the WREL w at tile t (R233). -/
def State.wrelOk (s : State) (t w : Nat) : Bool :=
  fld w 37 0 == 0 && (match s.win (fld w 43 38) with
    | none => false
    | some x => (gTiles s.rows x.cons).contains t && !x.outside && !x.issued.contains t)

/-- The D-queue head waits for flag n, has passed its checks (R57), a WREL those of `wrel`, and could start with the flag (R172). -/
def Tile.dWants (wrel : Nat → Bool) (x : Tile) (n : Nat) : Bool :=
  match x.qd with
  | [] => false
  | e :: _ =>
    let w := e.word.toNat
    eWflag w == n && flagOk (eSflag w) && !e.granted && (match eOpc w with
      | 0x01 => fld w 43 0 == 0
      | 0x20 => (match x.feedCheck w with
        | .error _ => false
        | .ok d => x.feedFree d)
      | 0x30 => wrel w
      | _ => false)

/-- Some engine head goes before the scalar core for flag n in this cycle (R173). -/
def Tile.headWants (wrel : Nat → Bool) (x : Tile) (cc n : Nat) : Bool := (x.mxWants cc n).isSome || x.vWants cc n || x.dWants wrel n

/-- The head of queue q has its wait granted. -/
def Tile.grantHead (x : Tile) (q : EQueue) : Tile :=
  match x.queue q with
  | [] => x
  | e :: l => x.setQueue q ({ e with granted := true } :: l)

/-- The vector engine has waited on flag n: the registers of the oldest completed SLICE that signalled it are defined, but for those that a
later SLICE has taken (R112; log entry 70). DEDUCED (log entry 70): a SLICE that names no SFLAG, or on whose SFLAG only the core waits,
leaves its registers undefined for good, because the vector engine has not waited. -/
def Tile.vWaited (x : Tile) (n : Nat) : Tile :=
  match x.mx.landed.find? fun l => l.2 == n with
  | none => x
  | some l =>
    let rest := x.mx.landed.erase l
    let rs := l.1.filter fun r => !(x.sliceInto r || rest.any fun m => m.1.contains r)
    { x with mx := { x.mx with landed := rest }, vx := { x.vx with und := x.vx.und.filter fun p => p.2 != 1 || !rs.contains (p.1 / 64) } }

/-- The grant of flag n in this cycle, to the first of the waiters in the order of R173. -/
def Tile.grant (wrel : Nat → Bool) (x : Tile) (cc n : Nat) : Tile :=
  if !x.grantable n then x
  else
    match x.mxWants cc n with
    | some q => (x.takeFlag n).grantHead (mqOf q)
    | none =>
      if x.vWants cc n then ((x.takeFlag n).grantHead .v).vWaited n
      else if x.dWants wrel n then (x.takeFlag n).grantHead .d
      else if x.sleep = .flag n then { x.takeFlag n with sleep := .granted n cc }
      else x

/-- SYNC_FLAG_GRANT (R172, R173). -/
def execSyncFlagGrant (t n : Nat) (s : State) : Host.Outcome State Fault Refusal := onTile t s fun x => x.grant (s.wrelOk t) s.cc n

/-- SF.WAIT n (R172, R176): it takes the decrement at issue, or the core sleeps. -/
def execSfWait (t : Nat) (n : BitVec 6) (s : State) : Host.Outcome State Fault Refusal :=
  onTile t s fun x => x.issue s.cc (encR 0x30 0 0 0 n.toNat) [] fun y =>
    if 48 ≤ n.toNat then y.stop cSFRANGE
    else if y.grantable n.toNat && !y.headWants (s.wrelOk t) s.cc n.toNat then (y.takeFlag n.toNat).advance s.cc
    else { y with st := .wait, sleep := .flag n.toNat }

/-- SF.SIG n (R172, R175). -/
def execSfSig (t : Nat) (n : BitVec 6) (s : State) : Host.Outcome State Fault Refusal :=
  onTile t s fun x => x.issue s.cc (encR 0x30 0 0 0 (at' 1 8 + n.toNat)) [] fun y =>
    if 48 ≤ n.toNat then y.stop cSFRANGE else (y.signal n.toNat).advance s.cc

/-- SF.READ rd, n (R176): the value at the start of the cycle. -/
def execSfRead (t : Nat) (rd : BitVec 5) (n : BitVec 6) (s : State) : Host.Outcome State Fault Refusal :=
  onTile t s fun x => x.issue s.cc (encR 0x30 rd.toNat 0 0 (at' 2 8 + n.toNat)) [] fun y =>
    if 48 ≤ n.toNat then y.stop cSFRANGE else y.retire s.cc rd.toNat (w32 (y.sflag n.toNat).val0) false 2

/-- The read of the header at the read pointer (R59). -/
def Tile.headTouch (x : Tile) : Tile := if x.ring.rd = x.ring.wr then x else x.touch (x.ringAddr x.ring.rd) 8

/-- The look of MSG.RECV and MSG.POLL at the ring (R199): a skip marker sends RD to 0; the record's
offset where there is one, the record being the program's to read from then on. -/
def Tile.ringLook (x : Tile) : Tile × Option Nat :=
  let u := x.headTouch
  let y := if u.ring.rd ≠ u.ring.wr ∧ bitAt u.ringHead 15 then { u with ring := { u.ring with rd := 0 } } else u
  if y.ring.rd = y.ring.wr then (y, none) else ({ y with ring := { y.ring with lent := true } }, some y.ring.rd)

/-- The sleeping core wakes: it issues its next instruction 3 cc after the firing cycle (R177). -/
def Tile.wake (x : Tile) (cyc : Nat) : Tile := { x with st := .run, sleep := .none, pc := x.pc + 4, issueAt := cyc + 3 }

/-- SCALAR_WAKE: a granted flag, or a message for a core in MSG.RECV (R177, R199). -/
def execScalarWake (t : Nat) (s : State) : Host.Outcome State Fault Refusal :=
  onTile t s fun x =>
    match x.sleep with
    | .granted _ c => x.wake c
    | .recv rd =>
      match x.ringLook with
      | (y, none) => y
      | (y, some o) => ((y.setReg rd.toNat (w32 o) false).setReady rd.toNat (s.cc + 2)).wake s.cc
    | _ => x

/-- END (R46): the core waits for its queues and engines. -/
def execEndProg (t : Nat) (s : State) : Host.Outcome State Fault Refusal :=
  onTile t s fun x => x.issue s.cc 0xFC000000 [] fun y => { y with sleep := .ending }

/-- Every engine queue is empty and every engine is idle, feeds and window releases included (R46). -/
def Tile.quiet (x : Tile) : Bool :=
  x.mxDrained && x.qv.isEmpty && x.qd.isEmpty && x.vx.fly.isEmpty && x.feeds.isEmpty && x.wrels.isEmpty

/-- TILE_DONE: the ending tile enters DONE and its ring closes (R46, R197). -/
def execTileDone (t : Nat) (s : State) : Host.Outcome State Fault Refusal :=
  onTile t s fun x =>
    if x.sleep = .ending ∧ x.st = .run ∧ x.quiet then
      { x with st := .done, sleep := .none, ring := { x.ring with opened := false } }
    else x

/-- LEVEL and LX of directory entry k (Table 7-2). -/
def Tile.dirEnt (x : Tile) (k : Nat) : Nat := (Sparse.get (0 : Dword) x.xdir k).toNat
def dirLevel (e : Nat) : Nat := fld e 38 36
def dirLx (e : Nat) : Nat := fld e 63 48
def dirCount (e : Nat) : Nat := fld e 20 10
def dirFirst (e : Nat) : Nat := fld e 9 0

/-- BAR.ARRIVE (R182, R183, R188): the arrival leaves for the L1 node, marked where its LEVEL is not that of the exchange program,
its value marked where a register is poisoned or the tile tainted; the core sleeps. -/
def execBarArrive (t : Nat) (rd rs1 : BitVec 5) (rop level : BitVec 3) (xpn : BitVec 8) (s : State) : Host.Outcome State Fault Refusal :=
  onTile t s fun x =>
    let pair := decide (6 ≤ rop.toNat)
    let srcs := if pair then [rs1.toNat, rs1.toNat + 1] else [rs1.toNat]
    x.issue s.cc (encR 0x31 rd.toNat rs1.toNat rop.toNat (at' level.toNat 8 + xpn.toNat)) srcs fun y =>
      let z := y.ctrl (srcs.any y.regPz)
      let pz := srcs.any y.regPz || z.taint
      { z with st := .wait, sleep := .barrier,
               arr := some ⟨xpn.toNat, level.toNat, rop.toNat, rd, y.reg rs1.toNat, if pair then y.reg (rs1.toNat + 1) else 0,
                            pz, pz, decide (dirLevel (y.dirEnt xpn.toNat) ≠ level.toNat), s.cc, false⟩ }

end Sys2Proof.Machine
end

