-- ==== Sys2Proof/Machine/Messages.lean ====
section
/-!
DEFINITION. Messages and rings (R190 to R201): the message instructions, the checks at the sender and the receiver, the ring
records, the answers.
-/
namespace Sys2Proof.Machine

/-- The list that governs a step: that of the newest epoch whose first step is not later (R303). -/
def Txp.listAt (x : Txp) (step : Nat) : List Member :=
  match x.epochs.find? fun e => decide (e.1.first ≤ step) with
  | some e => e.2
  | none => []

/-- The first step that the module's own run takes part in: that of its newest epoch, or the one after the last closed step. -/
def Txp.firstHere (x : Txp) : Nat := max (x.lastClosed + 1) (((x.epochs.head?).map (·.1.first)).getD 0)

/-- The step that the module's own run is in (R239). -/
def Txp.here (x : Txp) : Nat := if x.stepHere = 0 then x.firstHere else x.stepHere

/-- The members of a list in a group of level 6 to 14, by rank; 0xFFF is no group (R289). -/
def groupIn (l : List Member) (g : Nat) : List Member :=
  l.filter fun m => gIdx g != 0xFFF && m.coords.getD (gLevel g - 6) 0xFFF == gIdx g

/-- The members of a group under the list of the step in progress here (R289). -/
def State.groupOf (s : State) (g : Nat) : List Member := groupIn (s.txp.listAt s.txp.here) g

/-- The head module of a group of level 6 to 14 (R289). -/
def State.groupHead (s : State) (g : Nat) : Option Nat := (s.groupOf g).head?.map (·.dev)

/-- LEN of a tag word (Table 8-6). -/
def tagLen (w : Nat) : Nat := fld w 18 16 + 1

/-- DEST names a virtual tile or a group of the image's grid, or a group above the device (R191, R195). -/
def State.destOk (s : State) (esc : Bool) (d : Nat) : Bool :=
  if esc then
    if gLevel d ≤ 5 then gExists s.rows d else decide (gLevel d ≤ 14) && !(s.txp.listAt s.txp.here).isEmpty
  else decide (d < 2048) && decide (d < s.gridTiles)

/-- The tile of this module at which a message lands: a tile, the head tile of a group (R191), or virtual tile 0 where this
module heads a group above the device. -/
def State.msgTile (s : State) (esc : Bool) (d : Nat) : Option Nat :=
  if !esc then some d
  else if gLevel d ≤ 5 then some (gHead s.rows d)
  else if s.groupHead d = some s.vent.devId then some 0 else none

/-- The sender's own check: BADDEST (R195). -/
def State.badDest (s : State) (rp dw tw : Nat) : Bool :=
  let esc := bitAt dw 16
  let d := fld dw 15 0
  fld dw 31 17 != 0 || fld tw 31 19 != 0 || decide (32 < rp + tagLen tw) || !s.destOk esc d
    || (gLevel d ≤ 5 || !esc) && (match s.msgTile esc d with
        | some t => !(s.tile t).ring.present
        | none => false)

/-- The payload registers of a MSG.SEND from register rp with tag word `tw`. -/
def payRegs (rp tw : Nat) : List Nat := ((List.range (tagLen tw)).map (rp + ·)).filter fun r => decide (r < 32)

/-- A MSG.SEND does not stall: fewer than 8 sends are unanswered (R196), or its flag field stops the program. -/
def Tile.canSend (flag : Nat) (x : Tile) : Bool := !flagOk flag || decide (x.ring.outst < 8)

/-- MSG.SEND at the sender (R190, R196): stalls with 8 sends unanswered; otherwise the message leaves, or BADDEST answers it. -/
def execMsgSend (t : Nat) (rp rs1 rs2 : BitVec 5) (flag : BitVec 6) (s : State) : Host.Outcome State Fault Refusal :=
  if t < 1536 then
    let x := s.tile t
    let pay := payRegs rp.toNat (x.reg rs2.toNat).toNat
    let x1 := x.issueWhen s.cc (encR 0x32 rp.toNat rs1.toNat rs2.toNat flag.toNat) (rs1.toNat :: rs2.toNat :: pay) (Tile.canSend flag.toNat)
      fun y =>
        if !flagOk flag.toNat then y.stop cSFRANGE
        else
          let z := y.ctrl ((rs1.toNat :: rs2.toNat :: pay).any y.regPz)
          ({ z with ring := { z.ring with outst := z.ring.outst + 1 } } : Tile).bump 0x720 1 |>.advance s.cc
    let s1 := s.afterTile t x1
    if x1.ring.outst = x.ring.outst + 1 then
      let dw := (x.reg rs1.toNat).toNat
      let tw := (x.reg rs2.toNat).toNat
      let m : Msg := ⟨s.msgs.no, t, bitAt dw 16, fld dw 15 0, fld tw 15 0, pay.map x.reg, pay.any x.regPz || x1.taint, flag.toNat,
        if s.badDest rp.toNat dw tw then some 6 else none, none⟩
      .next { s1 with msgs := ⟨s1.msgs.fly ++ [m], s1.msgs.no + 1⟩ }
    else .next s1
  else .fault (.noSuchUnit t)

/-- MSG.RECV (R199). -/
def execMsgRecv (t : Nat) (rd : BitVec 5) (s : State) : Host.Outcome State Fault Refusal :=
  onTile t s fun x => x.issue s.cc (encR 0x32 rd.toNat 0 0 (at' 1 8)) [] fun y =>
    match y.ringLook with
    | (z, some o) => z.retire s.cc rd.toNat (w32 o) false 2
    | (z, none) => { z with st := .wait, sleep := .recv rd }

/-- MSG.POLL (R199). -/
def execMsgPoll (t : Nat) (rd : BitVec 5) (s : State) : Host.Outcome State Fault Refusal :=
  onTile t s fun x => x.issue s.cc (encR 0x32 rd.toNat 0 0 (at' 2 8)) [] fun y =>
    match y.ringLook with
    | (z, some o) => z.retire s.cc rd.toNat (w32 o) false 2
    | (z, none) => z.retire s.cc rd.toNat 0xFFFFFFFF false 2

/-- MSG.FREE (R199). -/
def execMsgFree (t : Nat) (s : State) : Host.Outcome State Fault Refusal :=
  onTile t s fun x => x.issue s.cc (encR 0x32 0 0 0 (at' 3 8)) [] fun y =>
    let u := y.headTouch
    let z := if u.ring.rd = u.ring.wr then u
      else { u with ring := { u.ring with
        rd := (u.ring.rd + recordBytes (fld u.ringHead 14 12 + 1)) % u.ring.bytes, lent := false } }
    z.advance s.cc

/-- MSG.CTL on the ring (R197). -/
def ctlOp (t func : Nat) (f : MsgRing → MsgRing) (s : State) : Host.Outcome State Fault Refusal :=
  onTile t s fun x => x.issue s.cc (encR 0x32 0 0 0 (at' 4 8 + func)) [] fun y =>
    ({ y with ring := f y.ring } : Tile).advance s.cc

/-- MSG.CTL CLOSE. -/
def execMsgCtlClose (t : Nat) (s : State) := ctlOp t 0 (fun r => { r with opened := false }) s
/-- MSG.CTL OPEN. -/
def execMsgCtlOpen (t : Nat) (s : State) := ctlOp t 1 (fun r => { r with opened := true }) s
/-- MSG.CTL EPOCH. -/
def execMsgCtlEpoch (t : Nat) (ep : BitVec 4) (s : State) :=
  ctlOp t (at' ep.toNat 4 + 2) (fun r => { r with epoch := ep.toNat }) s

/-- What a receiving tile sees of a message: the record's fields (Table 8-7). -/
structure Arrived where
  srcMod : Nat
  src : Nat
  esc : Bool
  dest : Nat
  tag : Nat
  words : List Word
  poison : Bool

/-- The record of a message: header, payload, padding (R192). -/
def Arrived.record (m : Arrived) : List Byte :=
  let w0 := at' m.tag 16 + at' (m.words.length - 1) 12 + at' (b2n m.esc) 11 + m.src % 2048
  let w1 := at' m.srcMod 16 + m.dest
  padTo (recordBytes m.words.length) (leBytes 4 w0 ++ leBytes 4 w1 ++ (m.words.map fun w => leBytes 4 w.toNat).flatten)

/-- Writes a record, or a skip marker, at offset o of the ring, a granule a cycle at rank 4 (R194). -/
def Tile.ringWrite (x : Tile) (o : Nat) (bs : List Byte) : Tile :=
  (x.write (x.ringAddr o) bs false).ask .feed (runNeeds (x.ringAddr o) bs.length 16) []

/-- The write of R194: the tile, and whether the message is accepted. -/
def Tile.ringPut (x : Tile) (rec : List Byte) : Tile × Bool :=
  let m := rec.length
  let n := x.ring.bytes
  let wr := x.ring.wr
  let rd := x.ring.rd
  let put (y : Tile) (o : Nat) : Tile × Bool :=
    let z := y.ringWrite o rec
    ({ z with ring := { z.ring with wr := (o + m) % n } }, true)
  if rd ≤ wr then
    if wr + m < n ∨ (wr + m = n ∧ rd ≠ 0) then put x wr
    else if rd = 0 then (x, false)
    else
      let y := x.ringWrite wr (leBytes 8 0x8000)
      let z := { y with ring := { y.ring with wr := 0 } }
      if m < rd then put z 0 else (z, false)
  else if wr + m < rd then put x wr
  else (x, false)

/-- A refusal by the ring (R202). -/
def Tile.ringRefuse (x : Tile) (code : Nat) : Tile :=
  let y := x.bump 0x728 1
  if code = 4 then y.bump 0x72C 1 else y

/-- The receiver's checks in the order of Table 8-8, and the write: the tile and the answer, 0 for ACK. A missing ring is the head module's to
answer, for a group of level 6 to 14 (R195, R290). -/
def Tile.receive (x : Tile) (m : Arrived) : Tile × Nat :=
  if !x.ring.present then (x, 6)
  else if x.st = .idle then (x, 3)
  else if !x.ring.opened then (x.ringRefuse 2, 2)
  else if m.poison then (x.ringRefuse 5, 5)
  else if fld m.tag 15 12 ≠ x.ring.epoch then (x.ringRefuse 4, 4)
  else
    match x.ringPut m.record with
    | (y, true) => (y.bump 0x724 1, 0)
    | (y, false) => (y.ringRefuse 1, 1)

/-- MESSAGE_ARRIVAL: a message that no earlier one of its sender to the same ring precedes (R198) reaches a ring of this module
(R194, R195). -/
def execMessageArrival (id : Nat) (s : State) : Host.Outcome State Fault Refusal :=
  match s.msgs.fly.find? fun m => m.id == id && m.answer.isNone && m.sentTo.isNone with
  | none => .next s
  | some m =>
    match s.msgTile m.esc m.dest with
    | none => .next s
    | some t =>
      let earlier := s.msgs.fly.any fun k =>
        k.src == m.src && decide (k.id < m.id) && k.answer.isNone && s.msgTile k.esc k.dest == some t
      if earlier then .next s
      else
        let r := (s.tile t).receive ⟨0xFFFF, m.src, m.esc, m.dest, m.tag, m.words, m.poison⟩
        let fly := s.msgs.fly.map fun k => if k.id = id then { k with answer := some r.2 } else k
        .next { s.setTile t r.1 with msgs := { s.msgs with fly := fly } }

/-- The answer at the sender (R196): the flag, and a NACK entry for a refusal. -/
def Tile.answered (x : Tile) (m : Msg) (code : Nat) : Tile :=
  let y := { x with ring := { x.ring with outst := x.ring.outst - 1 } }
  let z := y.signal m.flag
  if code = 0 then z
  else if z.ring.nack.length < 4 then { z with ring := { z.ring with nack := z.ring.nack ++ [⟨code, m.tag, m.dest⟩] } }
  else { z with ring := { z.ring with novf := satN 8 (z.ring.novf + 1) } }

/-- MESSAGE_ANSWER (R196). -/
def execMessageAnswer (id : Nat) (s : State) : Host.Outcome State Fault Refusal :=
  match s.msgs.fly.find? fun m => m.id == id with
  | none => .next s
  | some m =>
    match m.answer with
    | none => .next s
    | some c =>
      .next { s.setTile m.src ((s.tile m.src).answered m c) with
        msgs := { s.msgs with fly := s.msgs.fly.filter fun k => k.id != id } }

/-- The answer to a message of this module, by egress (R290). -/
def State.answerMsg (s : State) (id code : Nat) : State :=
  { s with msgs := { s.msgs with fly := s.msgs.fly.map fun k =>
      if k.id = id ∧ k.answer.isNone then { k with answer := some code } else k } }

end Sys2Proof.Machine
end

