-- ==== Sys2Proof/Machine/Wire.lean ====
section
/-!
DEFINITION. The bytes of a frame (R265 to R269, R296 to R298): carriage header, segment header, link header, CRC-32, the Ethernet, IPv6 and
UDP headers, the protection of a segment.
-/
namespace Sys2Proof.Machine

/-- The number whose bytes are given most significant first (R10). -/
def beNat (l : List Byte) : Nat := leNat l.reverse

/-- n bytes of a list from offset o. -/
def slice (l : List Byte) (o n : Nat) : List Byte := (l.drop o).take n

/-- The 64 bits of a carriage header (Table 11-3). -/
def carriageBits (c : Carriage) : Nat :=
  at' (c.cver % 16) 60 + at' (c.cls % 8) 57 + at' (b2n c.pm) 56 + at' (b2n c.ts) 55 + at' (b2n c.last) 54 + at' (c.att % 16) 50
    + at' (c.xfer % 65536) 34 + at' (c.segno % 4096) 22

/-- A carriage header on the wire (R265). -/
def carriageBytes (c : Carriage) : List Byte := beBytes 8 (carriageBits c)

/-- The carriage header that 64 bits spell (Table 11-3). -/
def carriageOf (w : Nat) : Carriage :=
  ⟨fld w 63 60, fld w 59 57, bitAt w 56, bitAt w 55, bitAt w 54, fld w 53 50, fld w 49 34, fld w 33 22⟩

/-- The carriage header at the front of a frame's body. -/
def bodyCar (b : List Byte) : Carriage := carriageOf (beNat (b.take 8))

/-- A segment header on the wire (Table 12-1): version 1.0 (R295) and LEN. -/
def segBytes (g : Seg) (len : Nat) : List Byte :=
  beBytes 2 0x0100 ++ beBytes 1 g.mtype
    ++ beBytes 1 (at' (b2n g.retry) 7 + at' (b2n g.fwd) 6 + at' (b2n g.takeover) 5 + at' (b2n g.handover) 4) ++ beBytes 4 (at' len 20)
    ++ beBytes 4 g.session ++ beBytes 8 g.seq ++ beBytes 4 g.epoch ++ beBytes 6 g.step ++ beBytes 2 g.ref

/-- The segment header of a message in clear text: its MTYPE, STEP and REF; the session fills in the rest. -/
def msgHead (mtype step ref : Nat) : Seg := ⟨mtype, 0, 0, 0, step, ref % 65536, false, false, false, false, false⟩

/-- The MTYPEs of Table 12-2. -/
def mtypeKnown (n : Nat) : Bool :=
  [0x00, 0x01, 0x02, 0x03, 0x04, 0x10, 0x11, 0x12, 0x13, 0x14, 0x15, 0x20].contains n

/-- The 32 bytes of a poison mask: bit i for 64-bit word i (R265), bits 255 to 248 first (R10). -/
def maskBytes (pz : List Bool) : List Byte := (padTo 32 (bitsToBytes pz)).reverse

/-- One bit of the CRC-32 of IEEE 802.3, least significant bit first. -/
def crcBit : Nat → Nat → Nat
  | 0, r => r
  | n + 1, r => crcBit n (if r % 2 = 1 then Nat.xor (r / 2) 0xEDB88320 else r / 2)

/-- The CRC-32 of IEEE 802.3 over a list of bytes (R266, R268; log entry 76). -/
def crc32 (l : List Byte) : Nat := Nat.xor (l.foldl (fun r b => crcBit 8 (Nat.xor r b.toNat)) 0xFFFFFFFF) 0xFFFFFFFF

/-- The 64 bits of a DIRECT link header (Table 11-4). -/
def linkHeader (ftype lseq ackseq len : Nat) : Nat := at' ftype 56 + at' (lseq % 256) 48 + at' (ackseq % 256) 40 + at' (len % 4096) 28

/-- A DIRECT frame (R266): link header, body, CRC-32, each most significant byte first (R10). -/
def directFrame (ftype lseq ackseq : Nat) (body : List Byte) : List Byte :=
  let h := beBytes 8 (linkHeader ftype lseq ackseq body.length)
  h ++ body ++ beBytes 4 (crc32 (h ++ body))

/-- The sum of the 16-bit words of a list, an odd last byte padded with zero. -/
def sum16 : List Byte → Nat
  | a :: b :: l => 256 * a.toNat + b.toNat + sum16 l
  | [a] => 256 * a.toNat
  | [] => 0

/-- The Internet checksum of a list of bytes. -/
def inetSum (l : List Byte) : Nat :=
  let n := sum16 l
  let m := n / 65536 + n % 65536
  let k := m / 65536 + m % 65536
  0xFFFF - (k / 65536 + k % 65536) % 65536

/-- A UDP datagram over IPv6 with its checksum, which is never sent as zero (R268). -/
def udpBytes (src dst : List Byte) (sport dport : Nat) (body : List Byte) : List Byte :=
  let n := 8 + body.length
  let head := beBytes 2 sport ++ beBytes 2 dport ++ beBytes 2 n
  let c := inetSum (src ++ dst ++ beBytes 4 n ++ [0, 0, 0, 17] ++ head ++ [0, 0] ++ body)
  head ++ beBytes 2 (if c = 0 then 0xFFFF else c) ++ body

/-- PORTn.CFG.MODE, ENCAP and the MAXPAY cap in bytes (Table 11-12, R269). -/
def Port.mode (x : Port) : Nat := fld x.cfg.toNat 1 0
def Port.encap (x : Port) : Nat := fld x.cfg.toNat 9 8
def Port.maxpay (x : Port) : Nat :=
  match fld x.cfg.toNat 27 26 with
  | 1 => 1024
  | 2 => 512
  | _ => 2048

/-- An Ethernet II frame from this port to a MAC address, from its EtherType on (R268). -/
def Port.etherFrame (x : Port) (mac : Nat) (pay : List Byte) : List Byte :=
  let tag := if bitAt x.cfg.toNat 25 then beBytes 2 0x8100 ++ beBytes 2 (at' (fld x.cfg.toNat 12 10) 13 + fld x.cfg.toNat 24 13) else []
  let f := beBytes 6 mac ++ beBytes 6 x.mac ++ tag ++ pay
  f ++ leBytes 4 (crc32 f)

/-- An ETH frame of module traffic to a peer's addresses, for a session of a number (R268). -/
def Port.ethFrame (x : Port) (mac ip6 num : Nat) (body : List Byte) : List Byte :=
  x.etherFrame mac (
    if x.encap = 0 then beBytes 2 x.etype ++ body
    else
      let u := udpBytes (beBytes 16 x.ip6) (beBytes 16 ip6) (0xC000 + num % 16384) x.udpp body
      beBytes 2 0x86DD ++ beBytes 4 (at' 6 28 + at' (fld x.ipcfg.toNat 13 8) 22 + num % 2 ^ 20) ++ beBytes 2 u.length
        ++ [17, BitVec.ofNat 8 (fld x.ipcfg.toNat 7 0)] ++ beBytes 16 x.ip6 ++ beBytes 16 ip6 ++ u)

/-- The key and the salt of the direction in which this module sends (R421). -/
def Session.sendKey (x : Session) : List Byte × List Byte :=
  if x.opener then (slice x.okm 0 32, slice x.okm 64 4) else (slice x.okm 32 32, slice x.okm 68 4)

/-- A segment in a session that is UP (R297): the payload encrypted, both headers authenticated, the nonce salt and SEQ, the tag. -/
def Session.protect (x : Session) (c : Carriage) (g : Seg) (pay : List Byte) : List Byte :=
  let h := segBytes g pay.length
  let k := x.sendKey
  let r := Config.gcmSeal k.1 (k.2 ++ beBytes 8 g.seq) (carriageBytes c ++ h) pay
  h ++ padTo pay.length r.1 ++ leBytes 16 r.2.toNat

/-- A segment of HELLO phases 1 to 3 in clear, with the tag of R298. -/
def clearSegment (c : Carriage) (g : Seg) (pay : List Byte) : List Byte :=
  let h := segBytes g pay.length
  h ++ pay ++ (shake256 32 (carriageBytes c ++ h ++ pay)).take 16

/-- The 64-bit words of a request that segment `k` of `n` bytes carries, with their marks. -/
def reqPart (x : XferReq) (n k : Nat) : List Byte × List Bool := (slice x.data (n * k) n, (x.pz.drop (n / 8 * k)).take (n / 8))

/-- The segments of a request at a port whose MAXPAY is n bytes (R269): one at least. -/
def reqSegs (x : XferReq) (n : Nat) : Nat := max 1 (ceilDiv x.data.length n)

/-- The carriage header of a transfer's next segment (R265). -/
def Grant.car (g : Grant) (n : Nat) : Carriage :=
  ⟨1, g.x.cls, (reqPart g.x n g.sent).2.any id, g.x.ts, decide (reqSegs g.x n ≤ g.sent + 1), g.att, g.x.xfer, g.sent⟩

/-- The body of a frame: carriage header, the mask where PM is set, the segment (R265, R266). -/
def Grant.body (g : Grant) (n : Nat) (x : Option Session) (h : Seg) : List Byte :=
  let c := g.car n
  let p := reqPart g.x n g.sent
  carriageBytes c ++ (if c.pm then maskBytes p.2 else []) ++ (match x with
    | some y => y.protect c h p.1
    | none => clearSegment c h p.1)

end Sys2Proof.Machine
end

