-- ==== Sys2Proof/Machine/Ports.lean ====
section
/-!
DEFINITION. Ports and their arbiters (R261 to R280, R291, R292): frames in and out, link replay, time stamps, training, retrain and
hold-down, the grants of Table 11-6.
-/
namespace Sys2Proof.Machine

/-- Core cycles in one second and in one millisecond (R8, at 1.8 GHz). -/
def ccPerSec : Nat := 1800000000
def ccPerMs : Nat := 1800000

/-- The IEEE 1588 counter in nanoseconds: the time by which TXP's timers run (R327). -/
def State.now (s : State) : Nat := 1000000000 * s.aon.ptp.sec + s.aon.ptp.ns

/-- Nanoseconds in one millisecond and in one second. -/
def nsPerMs : Nat := 1000000
def nsPerSec : Nat := 1000000000

/-- Port p. -/
def State.port (s : State) (p : Nat) : Port := Sparse.get Port.reset s.ports p

/-- Writes port p. -/
def State.setPort (s : State) (p : Nat) (x : Port) : State := { s with ports := Sparse.put s.ports p x }

/-- A port counter by register offset (R292). -/
def Port.bump (x : Port) (off n : Nat) : Port := { x with cnt := Sparse.set 0 x.cnt off (sat32 (Sparse.get 0 x.cnt off) n) }

/-- A command on one port: the module has P0 to P11 (R261; log entry 8). -/
def onPort (p : Nat) (s : State) (f : State → State) : Host.Outcome State Fault Refusal :=
  if p < 12 then .next (f s) else .fault (.noSuchUnit p)

/-- PORTn.STAT.STATE as a number. -/
def PortSt.code : PortSt → Nat
  | .disabled => 0
  | .training => 1
  | .up => 2
  | .held => 3

/-- The rank, the largest transfer and the right to lock of a requester (Table 11-6). -/
def reqRank : Requester → Nat
  | .mgmt => 4
  | .coll => 3
  | .win => 2
  | .msg => 2
  | .plume => 1
def reqLimit : Requester → Nat
  | .mgmt => 65536
  | .coll => 1048576
  | .win => 1048576
  | .msg => 2048
  | .plume => 262144
def reqMayLock : Requester → Bool
  | .msg => false
  | .plume => false
  | _ => true

/-- The request keeps Table 11-6 and R278, at a port whose MAXPAY is n bytes (R269). -/
def reqAllowed (r : Requester) (n : Nat) (x : XferReq) : Bool :=
  decide (x.data.length ≤ reqLimit r) && (decide (r ≠ .msg) || decide (reqSegs x n = 1))
    && (!x.lock || (reqMayLock r && decide (reqSegs x n ≤ 16)))

/-- Grant `a` goes before `b` (R276): rank, then the earlier request, then message egress. -/
def Grant.before (a b : Grant) : Bool :=
  decide (reqRank b.r < reqRank a.r)
    || (decide (reqRank a.r = reqRank b.r) && (decide (a.at' < b.at') || (decide (a.at' = b.at') && a.r = .msg && b.r ≠ .msg)))

/-- The pending transfer that is granted next. -/
def bestGrant : List Grant → Option Grant
  | [] => none
  | g :: l => some (l.foldl (fun a b => if b.before a then b else a) g)

/-- A free grant goes to the next pending transfer of a port that is UP, and its first frame begins (R276). -/
def Port.arbitrate (x : Port) (cc : Nat) (t : Ptp) : Port :=
  match x.holder with
  | some _ => x
  | none =>
    if x.st ≠ .up then x
    else
      match bestGrant x.pend with
      | none => x
      | some g => { x with holder := some { g with gat := cc, sent := 0, start := t, cut := none }, pend := x.pend.erase g }

/-- A transfer is requested. One granted in this same cycle that has sent nothing competes again (R280), ahead of every request of its rank
that came after it (R276). -/
def Port.request (x : Port) (cc : Nat) (t : Ptp) (g : Grant) : Port :=
  let y := { x with pend := x.pend ++ [g] }
  match y.holder with
  | some h => if h.gat = cc ∧ h.sent = 0 ∧ !h.dead then ({ y with holder := none, pend := h :: y.pend } : Port).arbitrate cc t else y
  | none => y.arbitrate cc t

/-- An LACK (FTYPE 2) or LNAK (3) leaves the port: no body, ACKSEQ, and LSEQ 0, which only a DATA frame has (R266, R292). -/
def Port.linkFrame (x : Port) (ftype : Nat) : Port := ({ x with tx := directFrame ftype 0 x.rxSeq [] } : Port).bump 0x60 1

/-- A DATA frame of the replay buffer as it is sent again: with the ACKSEQ of now (R266). -/
def Port.again (x : Port) (seq : Nat) (bs : List Byte) : List Byte := directFrame 0x01 seq x.rxSeq ((bs.drop 8).take (bs.length - 12))

/-- A DIRECT port sends no new DATA frame while 64 are unacknowledged (R267). -/
def Port.replayFull (x : Port) : Bool := x.mode == 1 && decide (64 ≤ x.replay.length)

/-- A stamp enters PORTn.TSQ, or is lost and counted (R270). -/
def Port.stamp (x : Port) (t : Ptp) (sent : Bool) (kind tag : Nat) : Port :=
  if x.tsq.length < 64 then { x with tsq := x.tsq ++ [⟨t, sent, kind, tag⟩] } else x.bump 0x84 1

/-- The session with a device. -/
def State.sess (s : State) (dev : Nat) : Session := Sparse.get Session.closed s.txp.sessions dev

/-- The session with a device is UP. -/
def State.sessUp (s : State) (dev : Nat) : Bool := (s.sess dev).st = .up

/-- The partner-table entry of a device (R299). -/
def State.partner (s : State) (dev : Nat) : Option Partner := s.txp.partners.find? fun q => q.dev == dev

/-- The next UP port of a partner's port set after port p, in ascending order, wrapping (R274). -/
def State.nextPort (s : State) (dev p : Nat) : Option Nat :=
  match s.partner dev with
  | none => none
  | some q => ((List.range 12).map fun i => (p + 1 + i) % 12).find? fun k => bitAt q.ports k && (s.port k).st = .up

/-- A transfer under a new XFER number of its CLASS with ATT = 0 (R301, R322). -/
def State.freshXfer (s : State) (g : Grant) : State × Grant :=
  let n := Sparse.get 0 s.txp.xferNo g.x.cls
  ({ s with txp := { s.txp with xferNo := Sparse.set 0 s.txp.xferNo g.x.cls ((n + 1) % 65536) } },
    { g with x := { g.x with xfer := n }, att := 0, sent := 0, resends := 0, dead := false })

/-- A transfer waits for its restart, or for its first request, at its requester. -/
def State.park' (s : State) (p : Nat) (g : Grant) (waitWin : Bool) : State :=
  { s with txp := { s.txp with waiting := s.txp.waiting ++ [⟨s.txp.waitNo, g, p, waitWin, s.now⟩], waitNo := s.txp.waitNo + 1 } }

/-- A transfer is kept for restart: with the next ATT, or `fresh`, or after its sixteenth abort, under a new XFER (R277, R322). -/
def State.holdXfer (s : State) (p : Nat) (g : Grant) (fresh waitWin : Bool) : State :=
  let r := if fresh || decide (15 ≤ g.att) then s.freshXfer g else (s, { g with att := g.att + 1, sent := 0, dead := false })
  r.1.park' p r.2 waitWin

/-- What a session's loss leaves of a transfer: the collective engine and window DMA restart theirs, the other requesters' are dropped
(R301). -/
def State.keepXfer (s : State) (p : Nat) (g : Grant) (fresh waitWin : Bool) : State :=
  if g.r ≠ .coll ∧ g.r ≠ .win then s else s.holdXfer p g fresh waitWin

/-- A transfer that failed with its port or at its sixteenth abort: its engine restarts it (R274, R277); management is recovered by the timers of
Table 12-10. DEDUCED (log entries 44 and 77): plume export and message egress restart theirs too. -/
def State.recover (s : State) (p : Nat) (g : Grant) (fresh : Bool) : State :=
  if g.r = .mgmt then s else s.holdXfer p { g with again := true } fresh false

/-- The transfers sent to their LAST segment whose frames stand unacknowledged in the replay buffer of port p (R267). -/
def State.unacked (s : State) (p : Nat) : List (Nat × Grant) :=
  let cars := (s.port p).replay.map fun e => bodyCar (e.2.2.drop 8)
  s.txp.sentX.filter fun e => e.1 == p && decide (e.2.r ≠ .mgmt) && cars.any fun c => c.cls == e.2.x.cls && c.xfer == e.2.x.xfer

/-- The message that a transfer of message egress carries, and not the answer to one. -/
def Grant.msgId (g : Grant) : Option Nat := if g.r = .msg ∧ 16 < g.x.data.length then some (beNat (g.x.data.take 4)) else none

/-- An abandoned message is answered ABSENT (R196, R279; log entry 77). -/
def State.msgLost (s : State) (g : Grant) : State :=
  match g.msgId with
  | some id => if s.msgs.fly.any fun m => m.id == id && m.sentTo.isSome then s.answerMsg id 3 else s
  | none => s

/-- A port's state changes; Vent posts PORT (Table 13-9). -/
def State.portTo (s : State) (p : Nat) (st : PortSt) : State :=
  if (s.port p).st = st then s
  else (s.setPort p { s.port p with st := st }).post 0x07 (leBytes 1 p ++ leBytes 1 st.code)

/-- The counter at `off` without its last n events. -/
def Port.unbump (x : Port) (off n : Nat) : Port :=
  { x with cnt := Sparse.set 0 x.cnt off (Sparse.get 0 x.cnt off - BitVec.ofNat 32 n) }

/-- What leaving UP does to a port's transfers (R274): the one in progress is aborted, queued frames are discarded, pending requests
wait for UP, and so does one granted in this very cycle that has sent nothing (R280). A transfer that a pre-emption of this cycle has cut
off is aborted by R274 instead, and not counted as pre-empted (Table 11-7). What the emptied replay buffer held is recovered (R267). -/
def State.portDown (s : State) (p : Nat) : State :=
  let x := s.port p
  let isCut (g : Grant) : Bool := g.cut == some s.cc
  let cut := x.pend.filter isCut
  let pend := x.pend.filter fun g => !isCut g
  let lost := s.unacked p
  let s1 := s.setPort p ({ x with holder := none, replay := [], lnak := none, pend := pend } : Port)
  let s2 := if cut.isEmpty then s1 else s1.setPort p ((s1.port p).unbump 0x7C cut.length)
  let s3 := cut.foldl (fun (u : State) g => u.park' p g false)
    { s2 with txp := { s2.txp with sentX := s2.txp.sentX.filter fun e => !lost.contains e } }
  let s4 := lost.foldl (fun (u : State) e => u.recover p e.2 false) s3
  match x.holder with
  | some g =>
    if g.dead then s4.msgLost g
    else if g.gat = s.cc ∧ g.sent = 0 then s4.setPort p { s4.port p with pend := pend ++ [g] }
    else s4.recover p g false
  | none => s4

/-- A port in UP retrains as a flap (R272); the fourth flap within 60 s holds it down (R273). -/
def State.flap (s : State) (p lanes : Nat) : State :=
  let x := s.port p
  if x.st ≠ .up then s
  else
    let fl := (x.flaps.filter fun f => decide (s.cc < f.1 + 60 * ccPerSec)) ++ [(s.cc, lanes)]
    let s1 := (s.portDown p)
    let y := s1.port p
    let s2 := s1.setPort p ({ y with flaps := fl, laneUp := y.laneUp &&& (15 ^^^ lanes), tryAt := s.cc, identAt := none } : Port)
    let s3 := (s2.setPort p ((s2.port p).bump 0x80 1)).portTo p .training
    if 4 ≤ fl.length then
      let hl := fl.foldl (fun a f => a ||| f.2) 0
      ((s3.setPort p { s3.port p with heldLane := hl, laneUp := 0 }).portTo p .held).health 0x0030 (leBytes 1 p ++ leBytes 1 hl)
    else s3

/-- ARBITER_REQUEST: refused at request where it breaks Table 11-6, with PARB.ERR and the requester's report to Vent; ignored from a masked
requester (R275, R279). -/
def State.request (s : State) (p : Nat) (r : Requester) (x : XferReq) : State :=
  if s.masks.contains r then s
  else if !reqAllowed r (s.port p).maxpay x then
    { s with parbErr := if bitAt s.parbErr 0 then s.parbErr else at' p 1 + 1,
             vent := { s.vent with refusals := s.vent.refusals ++ [(p, r)] } }
  else
    let s1 := { s with txp := { s.txp with xferNo := Sparse.set 0 s.txp.xferNo x.cls ((x.xfer + 1) % 65536) } }
    s1.setPort p ((s1.port p).request s.cc s.aon.ptp ⟨r, x, 0, 0, 0, s.cc, 0, s.aon.ptp, false, false, (s.sess x.dev).num, none⟩)

/-- ARBITER_REQUEST (R275, R278). -/
def execArbiterRequest (p : Nat) (r : Requester) (x : XferReq) (s : State) : Host.Outcome State Fault Refusal :=
  onPort p s fun u => if u.vent.startup.held then u else u.request p r x

/-- A grant under the session that it was requested in, or without one: HELLO phases 1 to 3 and the answers to them (R298), and IEEE 1588
event messages (R270). -/
def Grant.clear (g : Grant) : Bool := g.x.ev.isSome || (g.sess == 0 && (g.x.head.mtype == 0x01 || g.x.head.mtype == 0x13))

/-- The session that carries a grant: the one with its device while it is UP, or was when the frame of an abandoned transfer began (R279,
R301), or the one that closes behind it (R300). -/
def State.carrier (s : State) (g : Grant) : Option Session :=
  let x := s.sess g.x.dev
  if g.clear then none
  else if x.num = g.sess ∧ (x.st = .up ∨ g.dead) then some x
  else (s.txp.old.find? fun e => e.1 == g.x.dev && e.2.num == g.sess).map (·.2)

def State.setSess (s : State) (dev : Nat) (x : Session) : State :=
  { s with txp := { s.txp with sessions := Sparse.put s.txp.sessions dev x } }

/-- SEQ rises by one with every segment that the carrier of a grant sends (R297). -/
def State.seqUsed (s : State) (g : Grant) : State :=
  match s.carrier g with
  | none => s
  | some x =>
    let y := { x with txSeq := x.txSeq + 1, txAt := s.now }
    if (s.sess g.x.dev).num = g.sess then s.setSess g.x.dev y
    else { s with txp := { s.txp with old := Sparse.put s.txp.old g.x.dev y } }

/-- The bytes of the frame that a grant has on the wire (R265 to R268, R296 to R298). DESIGN CHOICE (log entry 85): an IEEE 1588 event
message leaves as a bare Ethernet frame of EtherType 0x88F7, on a port of either mode. -/
def State.frameBytes (s : State) (p : Nat) (g : Grant) : List Byte :=
  let x := s.port p
  let c := s.carrier g
  let q := (s.partner g.x.dev).getD ⟨g.x.dev, 0, 0, 0⟩
  let num := (c.map (·.num)).getD 0
  let h := { g.x.head with session := num, seq := (c.map (·.txSeq + 1)).getD 0, epoch := s.txp.epoch }
  if g.x.ev.isSome then x.etherFrame q.mac (beBytes 2 0x88F7 ++ (reqPart g.x x.maxpay g.sent).1)
  else if x.mode = 1 then directFrame 0x01 x.txSeq x.rxSeq (g.body x.maxpay c h)
  else x.ethFrame q.mac q.ip6 num (g.body x.maxpay c h)

/-- The transmitted frame itself: counted, kept for replay in DIRECT mode (R267), stamped with the time at which it began (R270). -/
def Port.sentFrame (x : Port) (g : Grant) (bs : List Byte) : Port :=
  let y := ({ x with tx := bs } : Port).bump 0x60 1
  let y1 := if x.mode = 1 then { y with replay := y.replay ++ [(y.txSeq, 0, bs)], txSeq := (y.txSeq + 1) % 256 } else y
  let y2 := if g.x.ts then y1.stamp g.start true 0 g.x.xfer else y1
  match g.x.ev with
  | some n => y2.stamp g.start true 1 n
  | none => y2

/-- The frame of a grant leaves port p: its session's SEQ, the port's part, and PCOLL.CNT_RESTART at the first frame of a restart (R293). -/
def State.sendFrame (s : State) (p : Nat) (g : Grant) : State :=
  let s1 := (s.seqUsed g).setPort p ((s.port p).sentFrame g (s.frameBytes p g))
  if g.r = .coll ∧ g.sent = 0 ∧ g.again ∧ !g.dead then
    { s1 with coll := { s1.coll with cnt := Sparse.set 0 s1.coll.cnt 0x00C (sat32 (Sparse.get 0 s1.coll.cnt 0x00C) 1) } }
  else s1

/-- FRAME_TX_END on port p: the holder's frame has left (R276, R277, R279). A transfer whose session is gone sends nothing (R301). -/
def State.frameEnd (s : State) (p : Nat) : State :=
  let x := s.port p
  match x.holder with
  | none => s
  | some g =>
    if x.st ≠ .up ∨ x.replayFull then s
    else if !g.clear ∧ (s.carrier g).isNone then
      let s1 := s.setPort p (({ x with holder := none } : Port).arbitrate s.cc s.aon.ptp)
      if g.dead then s1 else s1.keepXfer p g true false
    else
      let s0 := s.sendFrame p g
      let y := s0.port p
      if g.dead then s0.setPort p (({ y with holder := none } : Port).arbitrate s.cc s.aon.ptp)
      else if reqSegs g.x x.maxpay ≤ g.sent + 1 then
        let s1 := s0.setPort p (({ y with holder := none } : Port).arbitrate s.cc s.aon.ptp)
        { s1 with txp := { s1.txp with sentX := (s1.txp.sentX.filter fun e => e.2.x.cls != g.x.cls || e.2.x.xfer != g.x.xfer)
                                                  ++ [(p, { g with sent := g.sent + 1 })] } }
      else if !g.x.lock ∧ y.pend.any (fun h => decide (reqRank g.r < reqRank h.r)) then
        let z := y.bump 0x7C 1
        if g.att < 15 then
          s0.setPort p (({ z with holder := none, pend := z.pend ++ [{ g with att := g.att + 1, sent := 0, again := true, cut := some s.cc }] } : Port).arbitrate
            s.cc s.aon.ptp)
        else (s0.setPort p (({ z with holder := none } : Port).arbitrate s.cc s.aon.ptp)).recover p g true
      else s0.setPort p { y with holder := some { g with sent := g.sent + 1, again := false, start := s.aon.ptp } }

/-- REQUESTER_MASK at one port: pending requests are lost; a held transfer is abandoned once its frame is off the wire (R279). -/
def Port.maskOut (x : Port) (r : Requester) (cc : Nat) (t : Ptp) : Port :=
  let y := { x with pend := x.pend.filter fun g => g.r ≠ r }
  match y.holder with
  | some g =>
    if g.r ≠ r then y
    else if y.replayFull then ({ y with holder := none } : Port).arbitrate cc t
    else { y with holder := some { g with dead := true } }
  | none => y

/-- The transfers of message egress that a mask takes from a port before a frame of theirs has begun. -/
def Port.maskLost (x : Port) (r : Requester) : List Grant :=
  if r ≠ .msg then []
  else x.pend.filter (fun g => g.r = .msg) ++ (x.holder.filter fun g => g.r = .msg && !g.dead && x.replayFull).toList

/-- REQUESTER_MASK (R279). A message whose request the mask takes is not lost: it waits at message egress until the mask is off, because every
MSG.SEND is answered (R196; log entry 77). Arbiters that are held in reset take no mask (R431). -/
def execRequesterMask (r : Requester) (masked : Bool) (s : State) : Host.Outcome State Fault Refusal :=
  if s.vent.startup.held then .next s
  else if masked then
    let s1 := { s with masks := if s.masks.contains r then s.masks else s.masks ++ [r],
                       ports := s.ports.map fun e => (e.1, e.2.maskOut r s.cc s.aon.ptp) }
    .next ((s.ports.map fun e => (e.2.maskLost r).map fun g => (e.1, g)).flatten.foldl (fun (u : State) e => u.park' e.1 e.2 false) s1)
  else .next { s with masks := s.masks.filter fun q => q ≠ r }

/-- An acknowledgement frees every frame up to ACKSEQ (R267); a sender that the full replay buffer has held begins its next frame. -/
def Port.ack (x : Port) (n : Nat) (t : Ptp) : Port :=
  if x.replay.any fun e => e.1 == n then
    { x with replay := (x.replay.dropWhile fun e => e.1 != n).drop 1,
             holder := if x.replayFull then x.holder.map fun g => { g with start := t } else x.holder }
  else x

/-- The FEC codewords that a frame's arrival reports (R292). -/
def Port.fec (x : Port) (cw uc : Nat) : Port := (x.bump 0x68 cw).bump 0x6C uc

/-- A received frame's stamp (R270). -/
def Port.rxStamp (x : Port) (t : Ptp) (c : Carriage) : Port := if c.ts then x.stamp t false 0 c.xfer else x

/-- The CRC-32 of a DIRECT frame holds, and LEN counts its body (R266). -/
def frameOk (f : DFrame) : Bool := crc32 (beBytes 8 f.hdr ++ f.body) == f.crc && fld f.hdr 39 28 == f.body.length

/-- A DIRECT frame at an UP port (R265 to R267). A frame of a reserved FTYPE, of another CVER or of a reserved CLASS is dropped and counted.
DEDUCED (log entry 42): each DATA frame in sequence is acknowledged at once with an LACK. -/
def Port.directRx (x : Port) (t : Ptp) (f : DFrame) : Port :=
  if !frameOk f then (({ x with lnak := some x.rxSeq } : Port).bump 0x70 1).linkFrame 3
  else
    let y := (x.ack (fld f.hdr 47 40) t).bump 0x64 1
    let n := fld f.hdr 55 48
    let c := bodyCar f.body
    if fld f.hdr 63 56 ≠ 1 then y.bump 0x78 1
    else if n = (y.rxSeq + 1) % 256 then
      let z := ({ y with rxSeq := n, lnak := none } : Port).linkFrame 2
      if c.cver ≠ 1 ∨ 5 ≤ c.cls then z.bump 0x78 1 else z.rxStamp t c
    else if y.lnak.isSome ∨ (y.rxSeq + 256 - n) % 256 < 128 then y
    else ({ y with lnak := some y.rxSeq } : Port).linkFrame 3

/-- DIRECT_DATA_FRAME (R267). -/
def execDirectDataFrame (p : Nat) (f : DFrame) (s : State) : Host.Outcome State Fault Refusal :=
  onPort p s fun u =>
    let x := u.port p
    if x.st = .up ∧ x.mode = 1 then u.setPort p (((x.fec f.feccw f.fecuc).directRx u.aon.ptp f).arbitrate u.cc u.aon.ptp) else u

/-- LACK (R267), a frame received (R292). -/
def execLack (p ackseq : Nat) (s : State) : Host.Outcome State Fault Refusal :=
  onPort p s fun u =>
    let x := u.port p
    if x.st = .up ∧ x.mode = 1 then u.setPort p ((x.ack ackseq u.aon.ptp).bump 0x64 1) else u

/-- LNAK, a frame received (R292): a replay from ACKSEQ + 1, each frame with the ACKSEQ of now (R266); the eighth replay of one LSEQ retrains
the port (R267). -/
def execLnak (p ackseq : Nat) (s : State) : Host.Outcome State Fault Refusal :=
  onPort p s fun u =>
    let x := ((u.port p).ack ackseq u.aon.ptp).bump 0x64 1
    if (u.port p).st ≠ .up ∨ (u.port p).mode ≠ 1 then u
    else
      match x.replay.getLast? with
      | none => u.setPort p x
      | some e =>
        let y := (({ x with replay := x.replay.map fun d => (d.1, d.2.1 + 1, x.again d.1 d.2.2), tx := x.again e.1 e.2.2 } : Port).bump 0x60
          x.replay.length).bump 0x74 1
        let u1 := u.setPort p y
        if y.replay.any fun e => decide (8 ≤ e.2.1) then u1.flap p 0 else u1

/-- An IPv6 packet that a port takes: no extension header, no fragment, a good checksum (R268). -/
def plainIp6 (i : Ip6Part) : Bool := !i.extHdr && !i.fragment && i.csumOk

/-- The frame is an IEEE 1588 event message in one of its two carriages (R270). -/
def eventFrame (f : EFrame) : Bool :=
  f.ev1588.isSome && (f.etype == 0x88F7 || (f.etype == 0x86DD && (match f.ip6 with
    | some i => i.udpPort == 319 && plainIp6 i
    | none => false)))

/-- The frame carries module traffic that this port takes (R263, R265, R268). -/
def Port.ethTakes (x : Port) (f : EFrame) : Bool :=
  f.dmac == x.mac && (bodyCar f.body).cver == 1 && decide ((bodyCar f.body).cls < 5) && (match x.encap with
    | 0 => f.etype == x.etype && f.ip6.isNone
    | _ => f.etype == 0x86DD && (match f.ip6 with
        | some i => i.dst == x.ip6 && plainIp6 i && i.udpPort == x.udpp
        | none => false))

/-- ETH_FRAME (R268). -/
def execEthFrame (p : Nat) (f : EFrame) (s : State) : Host.Outcome State Fault Refusal :=
  onPort p s fun u =>
    let x := u.port p
    if x.st ≠ .up ∨ x.mode ≠ 2 then u
    else
      let y := (x.fec f.feccw f.fecuc).bump 0x64 1
      u.setPort p (
        if !f.fcsOk then (y.bump 0x70 1).bump 0x78 1
        else if f.unsupported then y.bump 0x78 1
        else if eventFrame f then y.stamp u.aon.ptp false 1 (f.ev1588.getD 0)
        else if y.ethTakes f then y.rxStamp u.aon.ptp (bodyCar f.body)
        else y.bump 0x78 1)

/-- The lengths of a training attempt and of the wait for the DIRECT identification, in core cycles (R272, R263). -/
def attemptCc : Nat := 150 * ccPerMs
def identCc : Nat := 10 * ccPerMs

/-- PORT_TRAINED: training ends, and in DIRECT mode the identification has been exchanged (R263, R264). ETYPE = 0 keeps ENCAP = 0 from
UP (Table 11-11). An attempt lasts 150 ms, and the identification follows within 10 ms of training. -/
def execPortTrained (p : Nat) (ident : Bool) (s : State) : Host.Outcome State Fault Refusal :=
  onPort p s fun u =>
    let x := u.port p
    if x.st ≠ .training ∨ x.tryAt + attemptCc < u.cc ∨ (x.identAt.any fun a => decide (a + identCc < u.cc)) then u
    else
      let u1 := u.setPort p { x with laneUp := 15, identAt := if x.mode = 1 then some (x.identAt.getD u.cc) else none }
      if (x.mode = 1 ∧ !ident) ∨ (x.mode = 2 ∧ x.encap = 0 ∧ x.etype = 0) then u1
      else
        let u2 := (u1.setPort p { u1.port p with txSeq := 0, replay := [], rxSeq := 255, lnak := none, identAt := none }).portTo p .up
        u2.setPort p ((u2.port p).arbitrate u.cc u.aon.ptp)

/-- LANE_LOCK_LOSS (R272). -/
def execLaneLockLoss (p lane : Nat) (s : State) : Host.Outcome State Fault Refusal :=
  onPort p s fun u => if lane < 4 then u.flap p (2 ^ lane) else u

/-- FEC_BURST: the 65th uncorrectable codeword of one millisecond (R272). -/
def execFecBurst (p lane : Nat) (s : State) : Host.Outcome State Fault Refusal :=
  onPort p s fun u =>
    if lane < 4 ∧ (u.port p).st = .up then (u.setPort p ((u.port p).bump 0x6C 65)).flap p (2 ^ lane) else u

/-- A further training attempt, which the hardware starts and counts (R263, R272). -/
def State.retry (s : State) (p : Nat) : State :=
  if (s.port p).st = .training then s.setPort p ({ s.port p with laneUp := 0, tryAt := s.cc, identAt := none }.bump 0x80 1) else s

/-- RETRAIN_ATTEMPT_TIMEOUT: an attempt of 150 ms ends (R272). -/
def execRetrainAttemptTimeout (p : Nat) (s : State) : Host.Outcome State Fault Refusal :=
  onPort p s fun u => if (u.port p).tryAt + attemptCc ≤ u.cc then u.retry p else u

/-- DIRECT_IDENT_TIMEOUT: training has ended, and 10 ms later no identification has come (R263). -/
def execDirectIdentTimeout (p : Nat) (s : State) : Host.Outcome State Fault Refusal :=
  onPort p s fun u => if (u.port p).mode = 1 ∧ ((u.port p).identAt.any fun a => decide (a + identCc ≤ u.cc)) then u.retry p else u

/-- TRANSFER_RESTART: the transfer is requested again on the next UP port of the partner's set (R274, R301, R322). DEDUCED (log entry 44):
so it is after each RESEND, the first fourteen included. -/
def State.restart (s : State) (id : Nat) : State :=
  match s.txp.waiting.find? fun w => w.id == id with
  | none => s
  | some w =>
    if w.waitWin ∨ !s.sessUp w.g.x.dev ∨ s.masks.contains w.g.r then s
    else
      match s.nextPort w.g.x.dev w.port with
      | none => s
      | some q =>
        let s1 := { s with txp := { s.txp with waiting := s.txp.waiting.filter fun v => v.id != id } }
        s1.setPort q ((s1.port q).request s.cc s.aon.ptp { w.g with at' := s.cc, sess := (s.sess w.g.x.dev).num, cut := none })

/-- TRANSFER_RESTART (R274). -/
def execTransferRestart (id : Nat) (s : State) : Host.Outcome State Fault Refusal := .next (s.restart id)

/-- The CFG bits that are not reserved (Table 11-12). -/
def cfgMask : Word := 0x0FFFFF03

/-- The write names a reserved MODE, ENCAP or MAXPAY (R11). -/
def cfgReserved (v : Word) : Bool := fld v.toNat 1 0 == 3 || decide (2 ≤ fld v.toNat 9 8) || fld v.toNat 27 26 == 3

/-- PORTn.CFG with MODE = 0: the port is disabled (R262, R264); one that names a reserved code is ignored with REJ (R11). -/
def State.cfgDisable (s : State) (p : Nat) (v : Word) : State :=
  if cfgReserved v then s.setPort p { s.port p with rej := true }
  else
    let s1 := if (s.port p).st = .up then s.portDown p else s
    (s1.setPort p { s1.port p with cfg := v &&& cfgMask, laneUp := 0, identAt := none }).portTo p .disabled

/-- PORTn.CFG with a non-zero MODE: ignored with REJ where it changes one mode to another; otherwise training starts and a hold-down
ends (R262, R273). A FAILED port stays DISABLED (R388), and so does every port before IDLE and in Dormant (R382, R383). -/
def State.cfgEnable (s : State) (p : Nat) (v : Word) : State :=
  let x := s.port p
  if (x.mode ≠ 0 ∧ x.mode ≠ fld v.toNat 1 0) ∨ cfgReserved v then s.setPort p { x with rej := true }
  else
    let s1 := if x.st = .up then s.portDown p else s
    let s2 := s1.setPort p { s1.port p with cfg := v &&& cfgMask, flaps := [], heldLane := 0, laneUp := 0, tryAt := s.cc, identAt := none }
    if Sparse.get false s.vent.map.ports p ∨ s.vent.dev = .boot ∨ s.vent.dev = .dormant then s2 else s2.portTo p .training

/-- PORTN_CFG_WRITE_DISABLE (R262). -/
def execPortnCfgWriteDisable (p : Nat) (v : Word) (s : State) : Host.Outcome State Fault Refusal :=
  onPort p s fun u => if fld v.toNat 1 0 = 0 ∧ !u.vent.startup.held then u.cfgDisable p v else u

/-- PORTN_CFG_WRITE_ENABLE (R262, R273). -/
def execPortnCfgWriteEnable (p : Nat) (v : Word) (s : State) : Host.Outcome State Fault Refusal :=
  onPort p s fun u => if fld v.toNat 1 0 ≠ 0 ∧ !u.vent.startup.held then u.cfgEnable p v else u

end Sys2Proof.Machine
end

