-- ==== Sys2Proof/Machine/TxpOps.lean ====
section
/-!
DEFINITION. What every part of TXP shares (R294 to R301, R305, R310): counters, messages out, segments in, sessions and their set-up,
membership.
-/
namespace Sys2Proof.Machine

/-- A counter of Table 12-13, by its place in the table: 64 bits, saturating (R330). -/
def State.txpBump (s : State) (k n : Nat) : State :=
  { s with txp := { s.txp with cnt := Sparse.set 0 s.txp.cnt k (satN 64 (Sparse.get 0 s.txp.cnt k + n)) } }

/-- The members' device ids by rank, and a member's rank (R302). -/
def Txp.devs (x : Txp) : List Nat := x.members.map (·.dev)
def State.rankOf (s : State) (dev : Nat) : Nat := (s.txp.devs.idxOf? dev).getD s.txp.members.length

/-- The rank of a device under the list of a step. -/
def State.rankAt (s : State) (step dev : Nat) : Nat :=
  (((s.txp.listAt step).map (·.dev)).idxOf? dev).getD (s.txp.listAt step).length

/-- The member of a device in the list in force. -/
def State.member (s : State) (dev : Nat) : Option Member := s.txp.members.find? fun m => m.dev == dev

/-- The device is suspended or fenced (R329). -/
def State.suspended (s : State) (dev : Nat) : Bool :=
  s.txp.fenced.contains dev || (match s.member dev with
    | some m => m.suspended
    | none => false)

/-- The members that are not suspended, by rank. -/
def State.standing (s : State) : List Nat := s.txp.devs.filter fun d => !s.suspended d

/-- The lowest slot of the image's slot table (R302). -/
def State.firstSlot (s : State) : Option Nat :=
  match s.vent.image with
  | some im => ((sortOn (·.1) im.slots).head?).map (·.1)
  | none => none

/-- Before a job's first epoch, the module that asks for the lowest slot leads (log entry 78). -/
def State.founder (s : State) : Bool :=
  s.txp.epoch == 0 && s.txp.joinPending && (s.txp.joinMsg.any fun j => s.firstSlot == some j.slot)

/-- This module leads the open step (R307, R319). -/
def State.isLeader (s : State) : Bool :=
  s.founder || (s.txp.leader == s.vent.devId && !s.txp.steppedDown && s.txp.devs.contains s.vent.devId)

/-- The number of the step in progress at this module (R307). -/
def State.stepNo (s : State) : Nat :=
  match s.txp.open' with
  | some o => o.step
  | none => s.txp.lastClosed + 1

/-- The leader's count of its UP sessions, itself counted: since when they are fewer than half of the standing members (R319). -/
def State.leadCheck (s : State) : State :=
  let up := (s.standing.filter fun d => d == s.vent.devId || s.sessUp d).length
  { s with txp := { s.txp with minorAt := if s.isLeader && decide (2 * up < s.standing.length) then some (s.txp.minorAt.getD s.now) else none } }

/-- A message of MTYPE `mt` with KIND, PHASE or reason `kind`, about `step`; the session layer fills in the rest. -/
def outMsg (dev mt kind step : Nat) (args : List Nat) (bytes : List Byte) : OutMsg :=
  ⟨dev, mt, kind, false, false, false, 0, 0, step, 0, args, bytes⟩

/-- HELLO phases 1 to 3. -/
def OutMsg.isHello (m : OutMsg) : Bool := m.mtype == 0x01 && decide (m.kind ≤ 3)

/-- The payload of a message: as Tables 12-5, 12-6 and 16-5 and R310 lay it out, or what the manual leaves open (log entry 20). -/
def OutMsg.payload (m : OutMsg) : List Byte :=
  if m.isHello || [0x02, 0x04, 0x11, 0x13].contains m.mtype then m.bytes else Config.txpPayload m.mtype m.kind m.args m.bytes

/-- The header fields of a message (Table 12-1). -/
def OutMsg.head (m : OutMsg) : Seg :=
  { msgHead m.mtype m.step m.ref with retry := m.retry, fwd := m.fwd, takeover := m.takeover }

/-- A list in pieces of n, the last one shorter; k pieces at most. -/
def pieces {α : Type} (n : Nat) : Nat → List α → List (List α)
  | 0, _ => []
  | k + 1, l => if l.length ≤ n then [l] else l.take n :: pieces n k (l.drop n)

/-- The port that traffic for a device takes: the preferred one where it is UP, else the next UP port of the device's set, else the first
port of the set, where it waits. An unlisted device is answered on the port it came by. -/
def State.outPort (s : State) (dev p : Nat) : Option Nat :=
  match s.partner dev with
  | none => some p
  | some q =>
    if bitAt q.ports p ∧ (s.port p).st = .up then some p
    else
      match s.nextPort dev p with
      | some k => some k
      | none => (List.range 12).find? fun k => bitAt q.ports k

/-- A transfer is requested at a port; a masked requester's request is ignored (R279). -/
def State.queueAt (s : State) (p : Nat) (g : Grant) : State :=
  if s.masks.contains g.r then s else s.setPort p ((s.port p).request s.cc s.aon.ptp g)

/-- A message in the session of a number, as MGMT transfers at a port (Table 11-6): HELLO phases and the leader's copies as locked transfers of
at most 16 segments, filled to MAXPAY (R298, R311, R423). -/
def State.mgmt (s : State) (p : Nat) (m : OutMsg) (num : Nat) : State :=
  let lock := m.isHello || m.fwd
  let n := if lock then 16 * (s.port p).maxpay else 65536
  (pieces n (m.payload.length / n + 1) m.payload).foldl (fun (u : State) d =>
    let r := u.freshXfer ⟨.mgmt, ⟨m.dev, 0, 0, lock, false, none, m.head, none, d, []⟩, 0, 0, 0, u.cc, 0, u.aon.ptp, false, false, num, none⟩
    r.1.queueAt p r.2) s

/-- A message leaves by the port that its session, or the phase it answers, came by; it is noted in `out`. -/
def State.emit (s : State) (p : Nat) (m : OutMsg) : State :=
  let s1 := { s with txp := { s.txp with out := s.txp.out ++ [m] } }
  match s1.outPort m.dev p with
  | some q => s1.mgmt q m m.session
  | none => s1

/-- Bytes 0 to 15 of a HELLO payload (R420). -/
def State.helloHead (s : State) : List Byte :=
  beBytes 8 s.vent.devId ++ beBytes 4 s.vent.incarnation ++ List.replicate 4 0

/-- A certificate verifies and names the device (R412, R422). -/
def certOk (cert : List Byte) (dev : Nat) : Bool :=
  Config.verify256 Config.productionKey (cert.take 128) (cert.drop 128) && leAt cert 4 8 == dev

/-- A copy of the sealed identity qualifies (R413): its certificate verifies, names the module, and its ciphertext unseals. -/
def SealedId.ok (c : SealedId) (dev : Nat) (ks : Option (BitVec 256)) : Bool :=
  certOk c.cert dev && (match ks with
    | some k => Config.unseals k c.nonce c.cipher c.tag
    | none => false)

/-- The first copy that qualifies (R413). -/
def State.identity (s : State) : Option SealedId := s.vent.flash.ident.find? fun c => c.ok s.vent.devId s.aon.ks

/-- The module's certificate (R412): that of the copy in use, or of the first copy where none qualifies (log entry 24). -/
def State.certBytes (s : State) : List Byte := ((s.identity.or s.vent.flash.ident.head?).map (·.cert)).getD []

/-- The first n bytes of a free secret value. -/
def drawBytes (n v : Nat) : List Byte := leBytes n v

/-- The exchange in progress with a device. -/
def State.hand (s : State) (dev : Nat) : Option Hand := (s.txp.hands.find? fun e => e.1 == dev).map (·.2)
def State.setHand (s : State) (dev : Nat) (h : Hand) : State := { s with txp := { s.txp with hands := Sparse.put s.txp.hands dev h } }
def State.dropHand (s : State) (dev : Nat) : State := { s with txp := { s.txp with hands := Sparse.del s.txp.hands dev } }

/-- SESSION states as numbers, in the order of Table 12-4. -/
def SessSt.code : SessSt → Nat
  | .closed => 0
  | .opening => 1
  | .up => 2
  | .lost => 3

/-- A session changes its state; Vent posts SESSION (Table 13-9). -/
def State.sessTo (s : State) (dev : Nat) (st : SessSt) : State :=
  if (s.sess dev).st = st then s
  else (s.setSess dev { s.sess dev with st := st, stAt := s.now }).leadCheck.post 0x08 (leBytes 8 dev ++ leBytes 1 st.code)

/-- A HELLO phase leaves in clear with SESSION = 0 (R298), with RETRY where it repeats an earlier one. -/
def State.sendHello (s : State) (p dev phase : Nat) (retry : Bool) (payload : List Byte) : State :=
  s.emit p { outMsg dev 0x01 phase 0 [] payload with retry := retry }

/-- OFFER: the opener's first phase (R299, R420). A session that is UP stays so: the exchange makes its successor (R300). -/
def State.offer (s : State) (dev : Nat) : State :=
  let n := s.txp.drawNo
  let q := (s.sess dev).port
  let p := s.helloHead ++ drawBytes 32 (Config.nonce n).toNat ++ drawBytes 1568 (Config.kemKey n).toNat ++ s.certBytes
  let s1 := { s with txp := { s.txp with drawNo := n + 1 } }
  let s2 := (s1.setHand dev ⟨true, 1, 1, s.now, n, 0, p, p, [], [], [], q⟩).sendHello q dev 1 false p
  if s2.sessUp dev then s2 else s2.sessTo dev .opening

/-- An exchange with a device is under way: CONFIRM has not been sent (R299). -/
def State.handBusy (s : State) (dev : Nat) : Bool :=
  match s.hand dev with
  | some h => decide (h.phase ≤ 2)
  | none => false

/-- A transfer or message needs a peer: a CLOSED session to a listed device opens (Table 12-4). -/
def State.needPeer (s : State) (dev : Nat) : State :=
  if (s.sess dev).st = .closed ∧ (s.partner dev).isSome ∧ !s.handBusy dev then s.offer dev else s

/-- The grants of a port that `mine` names, those of a session that ends, are abandoned (R301). -/
def State.abandonAt (mine : Grant → Bool) (s : State) (p : Nat) : State :=
  let x := s.port p
  let gone := (match x.holder with
      | some g => if mine g ∧ !g.dead then [g] else []
      | none => []) ++ x.pend.filter mine
  let h := x.holder.map fun g => if mine g then { g with dead := true } else g
  if gone.isEmpty then s
  else gone.foldl (fun (u : State) g => u.keepXfer p g true false)
    (s.setPort p { x with holder := h, pend := x.pend.filter fun g => !mine g })

/-- The transfers that wait for a session to come back do so under new XFER numbers; messages to the device are answered ABSENT (R290, R301). -/
def State.renewWaits (s : State) (dev : Nat) : State :=
  let ws := s.txp.waiting.filter fun w => !(w.g.x.dev == dev && w.g.r = .msg)
  let s1 := ws.foldl (fun (u : State) w =>
    if w.g.x.dev = dev then
      let r := u.freshXfer w.g
      { r.1 with txp := { r.1.txp with waiting := r.1.txp.waiting ++ [{ w with g := r.2 }] } }
    else { u with txp := { u.txp with waiting := u.txp.waiting ++ [w] } }) { s with txp := { s.txp with waiting := [] } }
  (s1.msgs.fly.filter fun m => m.sentTo == some dev).foldl (fun (u : State) m => u.answerMsg m.id 3) s1

/-- A session leaves UP (R301): its transfers are abandoned, to restart under new XFER numbers, and the partial progress of those it
received is discarded. -/
def State.sessDown (s : State) (dev : Nat) (st : SessSt) : State :=
  if !s.sessUp dev then s.sessTo dev st
  else
    let s1 := ((List.range 12).foldl (State.abandonAt fun g => g.x.dev == dev) s).renewWaits dev
    let s2 := { s1 with txp := { s1.txp with rx := s1.txp.rx.filter (fun r => r.dev != dev || r.complete),
                                             old := Sparse.del s1.txp.old dev } }
    (s2.setSess dev { s2.sess dev with since := s.now }).sessTo dev st

/-- The session has carried 2^34 segments in one direction, or stood for 24 hours (R300). -/
def Session.spent (x : Session) (now : Nat) : Bool :=
  decide (2 ^ 34 ≤ x.txSeq) || decide (2 ^ 34 ≤ x.rxMax) || decide (x.stAt + 86400 * nsPerSec ≤ now)

/-- An UP session that has reached a limit of R300 ends. -/
def State.endSpent (s : State) (dev : Nat) : State :=
  if s.sessUp dev ∧ (s.sess dev).spent s.now then s.sessDown dev .closed else s

/-- The session that closes behind a successor ends at once where it reaches a limit of R300: its transfers are abandoned, the partial
progress of those received on it is discarded (R301). -/
def State.endOld (s : State) (dev : Nat) : State :=
  match s.txp.old.find? fun e => e.1 == dev with
  | none => s
  | some e =>
    if !e.2.spent s.now then s
    else
      let s1 := (List.range 12).foldl (State.abandonAt fun g => g.x.dev == dev && g.sess == e.2.num) s
      { s1 with txp := { s1.txp with old := Sparse.del s1.txp.old dev,
                                     rx := s1.txp.rx.filter fun r => r.dev != dev || r.complete || r.sess != e.2.num } }

/-- A message through an UP session (R297). Where the session is not UP nothing is sent, and the session opens. -/
def State.send (s : State) (m : OutMsg) : State :=
  let u := s.endSpent m.dev
  let x := u.sess m.dev
  if x.st = .up then u.emit x.port { m with session := x.num, epoch := s.txp.epoch } else u.needPeer m.dev

/-- A message to each of several devices, this module left out. -/
def State.sendAll (s : State) (devs : List Nat) (m : OutMsg) : State :=
  devs.foldl (fun (u : State) d => if d = s.vent.devId then u else u.send { m with dev := d }) s

/-- A contribution id on the wire (Table 12-6, bytes 0 to 19). -/
def idBytes (i : ContribId) : List Byte := beBytes 8 i.dev ++ beBytes 4 i.inc ++ beBytes 6 i.step ++ beBytes 2 i.seq

/-- The CONTRIB payload (Table 12-6). -/
def contribBytes (c : ContribMsg) : List Byte :=
  idBytes c.id ++ beBytes 2 c.npart ++ [0, 0] ++ beBytes 8 c.sfirst ++ beBytes 4 c.scount ++ [0, 0, 0, 0] ++ padTo 32 c.idig ++ padTo 32 c.odig

/-- The REJECT payload (R310). -/
def rejectBytes (code : Nat) (id : Option ContribId) (detail : Nat) : List Byte :=
  let i := match id with
    | some i => idBytes i
    | none => List.replicate 20 0
  [BitVec.ofNat 8 code, 0, 0, 0] ++ i ++ beBytes 8 detail

/-- REJECT with a reason code to a message of SEQ `ref` (R310); counted. -/
def State.reject (s : State) (dev code : Nat) (id : Option ContribId) (detail ref : Nat) : State :=
  (s.txpBump 6 1).send { outMsg dev 0x13 code 0 [detail] (rejectBytes code id detail) with ref := ref % 65536 }

/-- REJECT of a takeover message (R319, R329): an answer with TAKEOVER = 1 (Table 12-1). -/
def State.rejectTakeover (s : State) (dev code step ref : Nat) : State :=
  (s.txpBump 6 1).send { outMsg dev 0x13 code step [0] (rejectBytes code none 0) with takeover := true, ref := ref % 65536 }

/-- REJECT of an OFFER, in clear: no session exists (R299, Table 12-3). -/
def State.rejectHello (s : State) (p dev code : Nat) : State :=
  (s.txpBump 6 1).emit p (outMsg dev 0x13 code 0 [0] (rejectBytes code none 0))

/-- The highest incarnation known of a device (Table 12-3). -/
def State.knownInc (s : State) (dev : Nat) : Nat := ((s.txp.known.find? fun e => e.1 == dev).map (·.2)).getD 0
def State.setKnown (s : State) (dev inc : Nat) : State :=
  { s with txp := { s.txp with known := (s.txp.known.filter fun e => e.1 != dev) ++ [(dev, inc)] } }

/-- The session keys stand: the session is UP (R299, R421). An UP session of the same life becomes the old one that closes when its
transfers are complete (R300). -/
def State.establish (s : State) (dev inc : Nat) (opener : Bool) (num : Nat) (okm : List Byte) (port : Nat) : State :=
  let x := s.sess dev
  let s1 := if x.st = .up then { s with txp := { s.txp with old := Sparse.put s.txp.old dev x } } else s
  let y : Session := ⟨x.st, num, inc, opener, okm, 0, 0, [], [], s.now, s.now, s.now, port⟩
  let s2 := ((s1.setKnown dev inc).setSess dev y).txpBump 0 1
  s2.sessTo dev .up

/-- HELLO phase 6 in a session that ends and carries nothing else any more (R299, R300). -/
def State.sendClose (s : State) (dev : Nat) (x : Session) : State :=
  ({ s with txp := { s.txp with old := Sparse.put s.txp.old dev { x with st := .closed } } } : State).emit x.port
    { outMsg dev 0x01 6 0 [] [] with session := x.num, epoch := s.txp.epoch }

/-- The old session closes with phase 6 once its transfers are complete, those that arrive too (R300), and is gone once that has left. -/
def State.closeOld (s : State) (dev : Nat) : State :=
  match s.txp.old.find? fun e => e.1 == dev with
  | none => s
  | some e =>
    let mine (g : Grant) : Bool := g.x.dev == dev && g.sess == e.2.num && !g.dead
    let busy := (s.ports.any fun q => (q.2.pend.any mine) || (match q.2.holder with
        | some g => mine g
        | none => false)) || (s.txp.waiting.any fun w => mine w.g)
      || s.txp.rx.any fun r => r.dev == dev && !r.complete && r.sess == e.2.num
    if busy then s
    else if e.2.st = .closed then { s with txp := { s.txp with old := Sparse.del s.txp.old dev } }
    else s.sendClose dev e.2

/-- FRAME_TX_END (R276): the arbiter's step; an old session whose last transfer has left then closes, and one that has reached its limit ends
(R300). -/
def execFrameTxEnd (p : Nat) (s : State) : Host.Outcome State Fault Refusal :=
  onPort p s fun u =>
    let v := u.frameEnd p
    let w := (v.txp.old.map (·.1)).foldl State.closeOld v
    match (u.port p).holder with
    | some g => (w.endOld g.x.dev).endSpent g.x.dev
    | none => w

/-- The session accepts a segment of this SEQ (R297). -/
def Session.fresh (x : Session) (n : Nat) : Bool := !x.seen.contains n && decide (x.rxMax < n + 1024)

/-- SEQ n accepted at a time (R297). -/
def Session.took (x : Session) (n now : Nat) : Session :=
  let m := max x.rxMax n
  { x with rxMax := m, seen := (n :: x.seen).filter (fun k => decide (m < k + 1024)), since := now }

/-- An authenticated segment arrives: one of a reserved MTYPE, or with a reserved header field that is not zero, is dropped and counted (R296,
R330); it is accepted on the UP session, or the old one
that its number names, and not on a SEQ that has been accepted or is too old, which is dropped and counted (R297). -/
def State.recvSeg (s : State) (dev : Nat) (g : Seg) : State × Bool :=
  let x := s.sess dev
  if !mtypeKnown g.mtype ∨ g.rsv then (s.txpBump 3 1, false)
  else if x.st = .up ∧ x.num = g.session then
    if x.spent s.now then (s.sessDown dev .closed, false)
    else if x.fresh g.seq then (s.setSess dev (x.took g.seq s.now), true)
    else (s.txpBump 2 1, false)
  else
    match s.txp.old.find? fun e => e.1 == dev with
    | none => (s, false)
    | some e =>
      if e.2.num ≠ g.session ∨ e.2.st ≠ .up then (s, false)
      else if e.2.spent s.now then (s.endOld dev, false)
      else if e.2.fresh g.seq then ({ s with txp := { s.txp with old := Sparse.put s.txp.old dev (e.2.took g.seq s.now) } }, true)
      else (s.txpBump 2 1, false)

/-- The receiver knows an epoch number: its own, or that of the epoch which waits for its boundary. -/
def State.knowsEpoch (s : State) (n : Nat) : Bool :=
  decide (n ≤ s.txp.epoch) || (match s.txp.next with
    | some e => e.1.epoch == n
    | none => false)

/-- RESEND (R305, R320, R322): KIND 0 XFER, 1 LIST, 2 EPOCH, 3 CONTRIB. -/
def State.resend (s : State) (dev kind : Nat) (args : List Nat) : State := s.send (outMsg dev 0x14 kind 0 args [])

/-- A new life of a device was offered: every session of the old life ends (Table 12-3). -/
def State.newLife (s : State) (dev inc : Nat) : State :=
  let s1 := if s.knownInc dev < inc then (s.sessDown dev .closed).dropHand dev else s
  s1.setKnown dev (max inc (s.knownInc dev))

end Sys2Proof.Machine
end

