-- ==== Sys2Proof/Machine/TxpSteps.lean ====
section
/-!
DEFINITION. Steps, contributions and closing at the leader, the deputy and a member (R302 to R321): the operations that the rows of
chapter 12 share.
-/
namespace Sys2Proof.Machine

/-- A membership record of 40 bytes (Table 12-5). -/
def memberBytes (m : Member) : List Byte :=
  beBytes 8 m.dev ++ beBytes 4 m.inc ++ beBytes 2 m.slot ++ [0, 0] ++ padTo 18 (m.coords.map (beBytes 2)).flatten ++ List.replicate 6 0

/-- LDIG of a list sorted by slot (Table 12-5). -/
def listDigest (l : List Member) : List Byte := shake256 32 (l.map memberBytes).flatten

/-- The EPOCH payload (Table 12-5). -/
def epochBytes (m : EpochMsg) : List Byte :=
  beBytes 4 m.epoch ++ beBytes 6 m.first ++ beBytes 2 m.count ++ beBytes 2 m.joiners.length ++ beBytes 2 m.leavers.length
    ++ padTo 32 m.ldig ++ (m.joiners.map memberBytes).flatten
    ++ (m.leavers.map fun x => beBytes 8 x.dev ++ beBytes 4 x.inc ++ beBytes 2 x.slot ++ beBytes 2 (b2n x.suspended)).flatten

/-- The list that an epoch makes of the one before it (R303, R304): leavers go, those marked SUSPENDED stay so marked, joiners take their
slots. -/
def applyEpoch (m : EpochMsg) (l : List Member) : List Member :=
  let kept := l.filter fun x => !(m.leavers.any fun y => y.dev == x.dev && !y.suspended) && !(m.joiners.any fun y => y.dev == x.dev)
  let marked := kept.map fun x => if m.leavers.any fun y => y.dev == x.dev && y.suspended then { x with suspended := true } else x
  sortOn (·.slot) (marked ++ m.joiners)

/-- The leader of a list: its lowest-ranked member that is not suspended (R307). -/
def leaderOf (l : List Member) : Nat := ((l.find? fun m => !m.suspended).map (·.dev)).getD 0

/-- A list by rank as a bitmap, bit r for rank r, as the journal holds it; and as TXP sends it, most significant byte first (R10). -/
def rankMap (n : Nat) (rs : List Nat) : List Byte := bitsToBytes ((List.range n).map rs.contains)
def rankMapTx (n : Nat) (rs : List Nat) : List Byte := (rankMap n rs).reverse

/-- Parts of a member that the ledger holds for a step (R311), and those accepted. -/
def State.watermark (s : State) (dev step : Nat) : Nat :=
  (s.txp.wms.filter fun w => w.c.id.dev == dev && w.c.id.step == step && w.committed).length
def State.acceptedParts (s : State) (dev step : Nat) : Nat :=
  (s.txp.wms.filter fun w => w.c.id.dev == dev && w.c.id.step == step && w.accepted).length

/-- Parts per member per step (R308). -/
def State.npart (s : State) : Nat :=
  match s.vent.image with
  | some im => im.man.npart
  | none => 0

/-- COMPLETE and ABSENT in the open step (Table 12-8). A part whose record stands in the journal or its batch goes before the close record,
so its member is not ABSENT (R314). -/
def State.complete? (s : State) (o : StepSt) (dev : Nat) : Bool := decide (s.npart ≤ s.acceptedParts dev o.step)
def State.absent? (s : State) (o : StepSt) (dev : Nat) : Bool :=
  !(s.txp.wms.any fun w => w.c.id.dev == dev && w.c.id.step == o.step) && !o.committedDevs.contains dev

/-- The close record of a step, once it is journaled or on its way to the journal (rule 9 of Table 12-7). -/
def State.closeOf (s : State) (step : Nat) : Option CloseRec := s.txp.closes.find? fun c => c.step == step

/-- The payload of a CLOSE record (Table 12-9). -/
def closeBytes (n : Nat) (c : CloseRec) : List Byte :=
  leBytes 6 c.step ++ leBytes 4 c.epoch ++ rankMap n c.included ++ leBytes 2 c.excluded ++ padTo 32 c.chain

/-- CHAIN of a step (R315). -/
def State.chainOf (s : State) (o : StepSt) (included : List Nat) : List Byte :=
  let ms := (s.txp.members.zip (List.range s.txp.members.length)).filter fun p => included.contains p.2
  let parts := (ms.map fun p => sortOn (fun (w : WmRec) => w.c.id.seq)
    (s.txp.wms.filter fun w => w.c.id.dev == p.1.dev && w.c.id.step == o.step && w.accepted)).flatten
  shake256 32 (o.chain ++ beBytes 6 o.step ++ beBytes 4 o.epoch ++ listDigest s.txp.members ++ rankMapTx s.txp.members.length included
    ++ (parts.map fun w => padTo 32 w.c.idig ++ padTo 32 w.c.odig).flatten)

/-- The leader fixes the record of the open step and journals it (R314, item 1). -/
def State.closeStep (s : State) (o : StepSt) : State :=
  let rs := (List.range s.txp.members.length).filter fun r => !s.absent? o (s.txp.devs.getD r 0)
  let c : CloseRec := ⟨o.step, o.epoch, s.txp.devs, rs, s.txp.members.length - rs.length, s.chainOf o rs, false, false, [], o.chain⟩
  ({ s with txp := { s.txp with closes := s.txp.closes ++ [c] } } : State).journal 0x45 (closeBytes s.txp.members.length c) (.closeMade 0)

/-- The leader closes the open step once every member is COMPLETE, or once the freeze is answered and every member that is not ABSENT is
COMPLETE (R312, R313). -/
def State.tryClose (s : State) : State :=
  match s.txp.open' with
  | none => s
  | some o =>
    let answered := match o.freeze with
      | some f => s.standing.all fun d => d == s.vent.devId || f.answered.contains d
      | none => false
    if !s.isLeader ∨ (s.closeOf o.step).isSome then s
    else if s.txp.devs.all (s.complete? o) || (answered && s.txp.devs.all fun d => s.absent? o d || s.complete? o d) then s.closeStep o
    else s

/-- The outcome of one of this module's contributions: journaled as SETTLED (R308, Table 12-9). -/
def State.settle (s : State) (id : ContribId) (outcome : Nat) : State :=
  if s.txp.outs.any fun o => o.c.id = id ∧ o.settled.isNone then
    let os := s.txp.outs.map fun o => if o.c.id = id then { o with settled := some outcome } else o
    ({ s with txp := { s.txp with outs := os } } : State).journal 0x43 (idBytes id ++ leBytes 1 outcome) .nothing
  else s

/-- ACCEPT kinds, numbered by the model: 0 CONTRIB, 1 CONTRIB with FWD, 2 JOIN, 3 LEAVE, 4 EPOCH, 5 CLOSE, 6 TAKEOVER. -/
def acceptMsg (dev kind : Nat) (args : List Nat) (bytes : List Byte) : OutMsg := outMsg dev 0x12 kind 0 args bytes

/-- The ACCEPT of a contribution: KIND = CONTRIB, the id, the watermark; or its own part settled without a message (R311). -/
def State.sendAccept (s : State) (id : ContribId) (dst wm ref : Nat) : State :=
  if id.dev = s.vent.devId then s.settle id 0 else s.send { acceptMsg dst 0 [wm] (idBytes id) with step := id.step, ref := ref % 65536 }

/-- The contribution counts as accepted (R311, R330): its member may be COMPLETE now, and T_INCL then runs (R313). -/
def State.markAccepted (s : State) (id : ContribId) : State :=
  if s.txp.wms.any fun w => decide (w.c.id = id) && !w.accepted then
    let ws := s.txp.wms.map fun v => if v.c.id = id then { v with accepted := true } else v
    let s1 := ({ s with txp := { s.txp with wms := ws } } : State).txpBump 4 1
    match s1.txp.open' with
    | some o =>
      if o.inclAt.isNone ∧ o.step = id.step ∧ s1.complete? o id.dev then
        { s1 with txp := { s1.txp with open' := some { o with inclAt := some s.now } } }
      else s1
    | none => s1
  else s

/-- The contribution is accepted (R311, item 4): the contributor is answered, and the step may close. A record that came as a copy answers no
message of its contributor's. -/
def State.acceptWm (s : State) (id : ContribId) : State :=
  match s.txp.wms.find? fun w => w.c.id = id with
  | none => s
  | some w => ((s.markAccepted id).sendAccept id id.dev w.wm (if w.fwd then 0 else w.ref)).tryClose

/-- CONTRIB to the deputy with FWD = 1 (R311, item 2), while its session is UP; T_CONTRIB runs from it. -/
def State.copyTo (s : State) (d : Nat) (w : WmRec) : State :=
  if !s.sessUp d then s
  else
    let ws := s.txp.wms.map fun v => if v.c.id = w.c.id then { v with copies := w.copies + 1, copyAt := s.now } else v
    ({ s with txp := { s.txp with wms := ws } } : State).send
      { outMsg d 0x11 0 w.c.id.step [w.wm] (contribBytes w.c) with fwd := true, retry := decide (1 ≤ w.copies) }

/-- STEP_CLOSE PHASE = FINAL of a CLOSE record (R314). -/
def finalMsg (d : Nat) (c : CloseRec) : OutMsg := outMsg d 0x15 2 c.step [c.excluded] (rankMapTx c.devs.length c.included ++ c.chain)

/-- The CLOSE record to the deputy (R314, item 2). -/
def State.copyClose (s : State) (d : Nat) (retry : Bool) (c : CloseRec) : State :=
  s.send { finalMsg d c with fwd := true, retry := retry }

/-- What a deputy must hold of the open step: its WATERMARK records (R320, R321), or of them those that `only` names. -/
def State.copyStep (s : State) (d : Nat) (only : WmRec → Bool) : State :=
  (s.txp.wms.filter fun w => w.committed && w.c.id.step == s.stepNo && only w).foldl (fun (u : State) w => u.copyTo d w) s

/-- The leader names a deputy (R307, R321): the next standing member with an UP session, which gets the open step's WATERMARK records;
with none, the contributions that wait are accepted without one. -/
def State.nameDeputy (s : State) : State :=
  match s.standing.find? fun d => d != s.vent.devId && s.sessUp d with
  | some d =>
    let ws := s.txp.wms.map fun w => if w.c.id.step = s.stepNo then { w with copies := 0 } else w
    ({ s with txp := { s.txp with deputy := some d, wms := ws } } : State).copyStep d fun _ => true
  | none =>
    let s1 := { s with txp := { s.txp with deputy := none } }
    (s1.txp.wms.filter fun w => w.committed && !w.accepted && w.c.id.step == s1.stepNo).foldl (fun (u : State) w => u.acceptWm w.c.id) s1

/-- A FAULT record at the leader: journaled, posted and counted; the device is suspended from the next epoch (R326, rule 3 of Table
12-7). -/
def State.faultRecord (s : State) (id : ContribId) (dev : Nat) (bytes : List Byte) : State :=
  let s1 := (s.journal 0x46 (idBytes id ++ bytes) .nothing).txpBump 12 1
  let s2 := { s1 with txp := { s1.txp with suspend := if s1.txp.suspend.contains dev then s1.txp.suspend else s1.txp.suspend ++ [dev] } }
  s2.post 0x0A (leBytes 8 dev ++ leBytes 4 id.step)

/-- Two contributions under one id carry the same digests. -/
def sameDigests (a b : ContribMsg) : Bool := a.idig == b.idig && a.odig == b.odig

/-- A record of the open step waits for the deputy's copy (R311, item 3; R321, item 3). -/
def State.copyAwaited (s : State) (w : WmRec) : Bool := !w.accepted && s.txp.deputy.isSome && w.c.id.step == s.stepNo

/-- Rules 2 and 3 of Table 12-7 for a contribution whose record the ledger holds. One that waits for the deputy's copy has its answer with that
copy (R311). -/
def State.ledgered (s : State) (dev : Nat) (c : ContribMsg) (w : WmRec) (ref : Nat) : State :=
  if !sameDigests c w.c then
    (s.faultRecord c.id c.id.dev (padTo 32 w.c.idig ++ padTo 32 w.c.odig ++ padTo 32 c.idig ++ padTo 32 c.odig)).reject dev 0x07 (some c.id) 0 ref
  else if s.copyAwaited w then
    let ws := s.txp.wms.map fun v => if v.c.id = c.id then { v with from' := dev, ref := ref, fwd := false } else v
    { s with txp := { s.txp with wms := ws } }
  else (((s.markAccepted c.id).txpBump 5 1).sendAccept c.id dev w.wm ref).tryClose

/-- A CONTRIB is refused (Table 12-7): by a REJECT, or, where it is this module's own, without a message; it is settled unless it is tried
again (R308, R311). -/
def State.refuseContrib (s : State) (dev code : Nat) (id : ContribId) (detail ref : Nat) : State :=
  if dev ≠ s.vent.devId then s.reject dev code (some id) detail ref
  else if code = 0x04 ∨ code = 0x06 ∨ code = 0x11 then s
  else s.settle id code

/-- The checks of Table 12-7 in their order, and rule 12 (R310, R311). A module that does not lead refuses a fenced member's CONTRIB as such
(R329). -/
def State.leaderContrib (s : State) (dev : Nat) (c : ContribMsg) (ref : Nat) : State :=
  let id := c.id
  let no (code detail : Nat) : State := s.refuseContrib dev code id detail ref
  if !s.isLeader then (if s.suspended id.dev then no 0x10 0 else no 0x03 s.txp.leader)
  else
    match s.txp.wms.find? fun w => w.c.id = id with
    | some w =>
      if w.committed then s.ledgered dev c w ref
      else { s with txp := { s.txp with held := s.txp.held ++ [(dev, ref, c)] } }
    | none =>
      if !((s.txp.listAt id.step).any fun m => m.dev == id.dev && m.inc == id.inc) then no 0x08 0
      else if id.inc < s.knownInc id.dev then no 0x01 0
      else if s.suspended id.dev then no 0x10 0
      else if s.txp.lastClosed < id.step ∧ (s.txp.open'.map (·.step)) ≠ some id.step then no 0x04 0
      else if id.step ≤ s.txp.lastClosed ∨ (s.closeOf id.step).isSome then no 0x05 0
      else if id.seq ≠ s.watermark id.dev id.step then no 0x06 (s.watermark id.dev id.step)
      else if s.vent.journal.high ∨ s.vent.journal.damaged ∨ !s.vent.journal.mounted then no 0x11 0
      else
        let wm := id.seq + 1
        let s1 := { s with txp := { s.txp with wms := s.txp.wms ++ [(⟨c, wm, dev, ref, false, false, false, 0, 0⟩ : WmRec)] } }
        s1.journal 0x44 (contribBytes c ++ leBytes 2 wm) (.watermark id)

/-- An outbound contribution goes to the leader, to every member it can reach while it knows none, or through the leader's own steps
(R308, R311); with RETRY where it has been sent before. -/
def State.sendContrib (s : State) (c : ContribMsg) : State :=
  let retry := s.txp.outs.any fun o => decide (o.c.id = c.id) && decide (1 ≤ o.sends)
  let os := s.txp.outs.map fun o => if o.c.id = c.id then { o with sends := o.sends + 1, at' := s.now } else o
  let s1 := { s with txp := { s.txp with outs := os } }
  let m : OutMsg := { outMsg s.txp.leader 0x11 0 c.id.step [] (contribBytes c) with retry := retry }
  if s.isLeader then s1.leaderContrib s.vent.devId c 0
  else if s.txp.leader = 0 then s1.sendAll (s.txp.partners.map (·.dev)) m
  else s1.send m

/-- IDIG (R309). DEDUCED (log entry 47): the rank takes 4 bytes. -/
def idigOf (digest : List Byte) (step epoch : Nat) (chain : List Byte) (rank sfirst scount : Nat) (sdig : List Byte) : List Byte :=
  shake256 32 (digest.take 32 ++ beBytes 6 step ++ beBytes 4 epoch ++ padTo 32 chain ++ beBytes 4 rank ++ beBytes 8 sfirst
    ++ beBytes 4 scount ++ sdig)

/-- CHAIN of the step before, where this module knows it: from STEP_OPEN, the last step closed, or the CLOSE record of the step before or of the
step itself (R307, R315). -/
def State.chainBefore (s : State) (step : Nat) : Option (List Byte) :=
  match s.txp.open'.filter fun o => o.step == step with
  | some o => some o.chain
  | none =>
    if step = s.txp.lastClosed + 1 then some s.txp.chain
    else
      match (s.closeOf (step - 1)).filter (·.made) with
      | some c => some c.chain
      | none => ((s.closeOf step).filter fun c => !c.prev.isEmpty).map (·.prev)

/-- The epoch that governs a step. -/
def Txp.epochAt (x : Txp) (step : Nat) : Nat := ((x.epochs.find? fun e => decide (e.1.first ≤ step)).map (·.1.epoch)).getD x.epoch

/-- Vent creates the contribution of a part and journals its outbound record (R308). The first sample and the samples, by which their digest is
fixed, are the data pool's (R309, R325). -/
def State.formContribution (s : State) (part step : Nat) (odig chain : List Byte) : State :=
  match s.vent.image with
  | none => s
  | some im =>
    let me := s.vent.devId
    let first := Config.firstSample im.digest me step % 2 ^ 64
    let sdig := shake256 32 (Config.samples im.digest first im.man.b)
    let idig := idigOf im.digest step (s.txp.epochAt step) chain (s.rankAt step me) first im.man.b sdig
    let c : ContribMsg := ⟨⟨me, s.vent.incarnation, step, part⟩, im.man.npart, first, im.man.b, idig, odig⟩
    ({ s with txp := { s.txp with outs := s.txp.outs ++ [(⟨c, 0, s.now, none⟩ : OutRec)] } } : State).journal 0x42 (contribBytes c) (.outbound part)

/-- The parts of a step whose contributions have waited for CHAIN of the step before are created. -/
def State.formLate (s : State) (step : Nat) : State :=
  match s.chainBefore step with
  | none => s
  | some chain =>
    (s.txp.late.filter fun e => e.2.1 == step).foldl (fun (u : State) e => u.formContribution e.1 step e.2.2 chain)
      { s with txp := { s.txp with late := s.txp.late.filter fun e => e.2.1 != step } }

/-- The contributions of the steps up to one that have not been sent leave (R308): their step is open, or has closed meanwhile. -/
def State.sendUnsent (s : State) (step : Nat) : State :=
  (s.txp.outs.filter fun o => o.settled.isNone && o.sends == 0 && decide (o.c.id.step ≤ step)).foldl (fun u o => u.sendContrib o.c) s

/-- A step opens: every contribution of it that is not settled is sent, and what an earlier step has left unsent. -/
def State.sendOuts (s0 : State) (step : Nat) : State :=
  let s := s0.formLate step
  (s.txp.outs.filter fun o => o.settled.isNone && (o.c.id.step == step || (o.sends == 0 && decide (o.c.id.step < step)))).foldl
    (fun u o => u.sendContrib o.c) s

/-- Timers that the host has set take effect (R349). -/
def State.takeTimers (s : State) : State :=
  match s.txp.newTimers with
  | some (a, b, c) => { s with txp := { s.txp with tSessMs := a, tInclMs := b, tLeadMs := c, newTimers := none } }
  | none => s

/-- STEP_OPEN of a step (R307). -/
def State.openMsg (s : State) (d : Nat) (o : StepSt) : OutMsg :=
  outMsg d 0x10 0 o.step [o.epoch, s.txp.members.length, o.b, o.tInclMs] o.chain

/-- The leader opens a step (R307). -/
def State.openStep (s : State) (n : Nat) : State :=
  let s0 := s.takeTimers
  let b := match s0.vent.image with
    | some im => im.man.b
    | none => 0
  let o : StepSt := ⟨n, s0.txp.epoch, b, s0.txp.tInclMs, s0.txp.chain, [], none, none, s0.txp.devs.filter s0.sessUp⟩
  let s1 := { s0 with txp := { s0.txp with open' := some o, leader := s0.vent.devId } }
  (s1.sendAll s1.txp.devs (s1.openMsg 0 o)).nameDeputy.sendOuts n

/-- The epoch that waits for its boundary is in force from the step on (R303). -/
def State.boundary (s : State) (step : Nat) : State :=
  match s.txp.next with
  | some e =>
    if e.1.first ≤ step then
      ({ s with txp := { s.txp with epoch := e.1.epoch, members := e.2, next := none, fenced := [], leader := leaderOf e.2,
                                    steppedDown := false } } : State).leadCheck
    else s
  | none => s

/-- A module that an epoch has just made the leader opens the step (R307). -/
def State.openIfNew (s : State) (was : Bool) (step : Nat) : State := if s.isLeader && !was then s.openStep step else s

/-- The leader's next epoch after step n (R303, R304, R329): journaled, sent to the old and the new members, and in force. -/
def State.newEpoch (s : State) (n : Nat) : State :=
  let x := s.txp
  let due (d : Nat) : Bool := x.leaves.any (fun e => e.1 == d && decide (e.2 ≤ n)) || s.suspended d
  let out := x.members.filter fun m => due m.dev && !(x.joiners.any fun j => j.dev == m.dev)
  let susp := x.members.filter fun m => x.suspend.contains m.dev && !due m.dev
  if x.joiners.isEmpty ∧ out.isEmpty ∧ susp.isEmpty then s
  else
    let lv := (out.map fun m => { m with suspended := false }) ++ susp.map fun m => { m with suspended := true }
    let e0 : EpochMsg := ⟨x.epoch + 1, n + 1, 0, [], x.joiners, lv, false, false⟩
    let l := applyEpoch e0 x.members
    let e := { e0 with count := l.length, ldig := listDigest l }
    let s1 := (s.journal 0x41 (epochBytes e ++ e.ldig) .nothing).sendAll
      (x.devs ++ (x.joiners.map (·.dev)).filter fun d => !x.devs.contains d) (outMsg 0 0x04 0 0 [] (epochBytes e))
    ({ s1 with txp := { s1.txp with epoch := e.epoch, members := l, epochs := (e, l) :: s1.txp.epochs, joiners := [], suspend := [],
                                    fenced := [], leaves := s1.txp.leaves.filter (fun p => decide (n < p.2)),
                                    leader := leaderOf l } } : State).leadCheck

/-- The founding module makes epoch 1 once every OWNER slot of the image has its joiner, and opens the job's first step (R303, R307; log
entry 78). -/
def State.found (s : State) : State :=
  match s.vent.image with
  | none => s
  | some im =>
    if s.founder ∧ im.slots.all (fun e => !e.2 || s.txp.joiners.any fun m => m.slot == e.1) then
      let s1 := s.newEpoch s.txp.lastClosed
      ({ s1 with txp := { s1.txp with joinPending := false, joinSends := 0 } } : State).openStep (s.txp.lastClosed + 1)
    else s

/-- A CLOSE record is committed: the step is closed here, and Vent posts STEP_CLOSED (R314, Table 13-9). -/
def State.stepClosed (s : State) (c : CloseRec) : State :=
  let s1 := { s with txp := { s.txp with lastClosed := max s.txp.lastClosed c.step, chain := c.chain,
                                         wms := s.txp.wms.filter (fun w => decide (c.step < w.c.id.step + 64)) } }
  (s1.txpBump 7 c.excluded).post 0x09 (leBytes 6 c.step ++ leBytes 2 c.excluded)

/-- The leader's close is complete: FINAL to every member, the next epoch, the next step (R314, R307). A member that no session reaches gets its
FINAL when one does. -/
def State.finishClose (s : State) (c : CloseRec) : State :=
  let owed := (s.txp.devs.filter fun d => d != s.vent.devId).map fun d => (d, s.sessUp d)
  let cs := s.txp.closes.map fun k => if k.step = c.step then { k with owed := owed } else k
  let s1 := ({ s with txp := { s.txp with closes := cs } } : State).sendAll s.txp.devs (finalMsg 0 c)
  let s2 := ({ s1 with txp := { s1.txp with open' := none } } : State).newEpoch c.step
  if s2.isLeader then s2.openStep (c.step + 1) else s2

/-- FREEZE to members (R313). -/
def State.sendFreeze (s : State) (o : StepSt) (retry : Bool) (dst : List Nat) : State :=
  s.sendAll dst { outMsg 0 0x15 0 o.step [] [] with retry := retry }

/-- Ranks whose contributions this module has released in EARLY blocks of a step (R313). -/
def State.releasedRanks (s : State) (step : Nat) : List Nat :=
  ((s.coll.runs.map fun e =>
    match s.coll.decls.find? fun d => d.1 == e.1 with
    | some d => if !d.2.record && e.2.step == step then (e.2.released.map (·.2)).flatten else []
    | none => []).flatten).eraseDups

/-- The members that a FREEZE answer names are COMMITTED where they were ABSENT (R313). -/
def StepSt.commit (o : StepSt) (devs : List Nat) : StepSt :=
  { o with committedDevs := o.committedDevs ++ devs.filter fun d => !o.committedDevs.contains d }

/-- The leader starts the freeze (R313); its own releases count as an answer. -/
def State.startFreeze (s : State) (o : StepSt) : State :=
  let mine := (s.releasedRanks o.step).filterMap fun r => s.txp.devs[r]?
  let o1 := { o.commit mine with freeze := some ⟨1, s.now, []⟩ }
  (({ s with txp := { s.txp with open' := some o1, frozenStep := some o.step } } : State).sendFreeze o1 false s.standing).tryClose

/-- The deputy journals TAKEOVER (R319). -/
def State.takeover (s : State) : State :=
  s.journal 0x47 (leBytes 4 (s.txp.epoch + 1) ++ leBytes 6 s.stepNo ++ leBytes 8 s.txp.leader) .takeover

/-- Every contribution of this module that is not settled goes out again (R320). -/
def State.resendOuts (s : State) : State :=
  (s.txp.outs.filter fun o => o.settled.isNone).foldl (fun (u : State) o => u.sendContrib o.c) s

/-- TAKEOVER is committed: the takeover epoch, and what the new leader does before it accepts anything (R319, R320). What the old leader copied
is accepted with the new deputy's copy, or at once without a deputy. A CLOSE record that it copied is sent on as FINAL; without one the close
begins again from FREEZE where it had begun, and the step closes at once where every member is COMPLETE. -/
def State.doTakeover (s : State) : State :=
  let old := s.txp.leader
  let n := s.stepNo
  let ms := s.txp.members.map fun m => if m.dev = old then { m with suspended := true } else m
  let e : EpochMsg := ⟨s.txp.epoch + 1, n, ms.length, listDigest ms, [], ms.filter (fun m => m.dev == old), false, true⟩
  let s1 := { s with txp := { s.txp with epoch := e.epoch, members := ms, epochs := (e, ms) :: s.txp.epochs, leader := s.vent.devId,
                                         steppedDown := false, voting := false, votes := [], next := none } }
  let s2 := (s1.journal 0x41 (epochBytes e ++ e.ldig) .nothing).txpBump 8 1
  let s3 := s2.sendAll s2.txp.devs { outMsg 0 0x04 0 0 [] (epochBytes e) with takeover := true }
  let s5 := s3.nameDeputy
  let s6 := (s5.sendAll s5.txp.devs (outMsg 0 0x14 3 n [] [])).resendOuts
  match s6.txp.open' with
  | none =>
    match s6.closeOf s6.txp.lastClosed with
    | some c => s6.finishClose c
    | none => s6.openStep n
  | some o =>
    match s6.closeOf o.step with
    | some c => if c.made then s6.finishClose c else s6
    | none => if s6.txp.frozenStep = some o.step then s6.startFreeze o else s6.tryClose

/-- A WATERMARK record is committed (R311): the deputy answers with FWD = 1; the leader copies it, or accepts without a deputy; held
duplicates get rule 2. -/
def State.watermarkMade (s : State) (id : ContribId) : State :=
  match s.txp.wms.find? fun w => w.c.id = id with
  | none => s
  | some w =>
    let ws := s.txp.wms.map fun v => if v.c.id = id then { v with committed := true } else v
    let hs := s.txp.held.filter fun h => h.2.2.id = id
    let s1 := { s with txp := { s.txp with wms := ws, held := s.txp.held.filter (fun h => h.2.2.id ≠ id) } }
    let s2 := if w.fwd ∧ !s1.isLeader then
        s1.send { acceptMsg w.from' 1 [w.wm] (idBytes id) with fwd := true, step := id.step, ref := w.ref % 65536 }
      else match s1.txp.deputy with
        | some d => s1.copyTo d { w with committed := true }
        | none => s1.acceptWm id
    hs.foldl (fun (u : State) h =>
      match u.txp.wms.find? fun v => v.c.id = id with
      | some v => u.ledgered h.1 h.2.2 v h.2.1
      | none => u) s2

/-- A member's CLOSE record is committed: it answers FINAL, the step is over, parts of it that have not been sent leave, and it opens the
next one where the next epoch makes it the leader (R307, R308, R314). -/
def State.memberClosed (s : State) (ref : Nat) (c : CloseRec) : State :=
  let s1 := s.send { acceptMsg s.txp.leader 5 [] [] with step := c.step, ref := ref % 65536 }
  let s2 := { s1 with txp := { s1.txp with open' := s1.txp.open'.filter fun o => decide (c.step < o.step) } }
  let s3 := (s2.sendUnsent c.step).formLate (c.step + 1)
  (s3.boundary (c.step + 1)).openIfNew s3.isLeader (c.step + 1)

/-- A CLOSE record is committed (R314): the leader copies it to its deputy and waits, or goes on without one; a member answers the FINAL of SEQ
`ref`. -/
def State.closeMade (s : State) (ref : Nat) : State :=
  match s.txp.closes.find? fun c => !c.made with
  | none => s
  | some c =>
    let cs := s.txp.closes.map fun d => if d.step = c.step then { d with made := true } else d
    let s1 := ({ s with txp := { s.txp with closes := cs } } : State).stepClosed c
    if s1.isLeader then
      match s1.txp.deputy with
      | some d => s1.copyClose d false c
      | none => s1.finishClose c
    else s1.memberClosed ref c

/-- What the commit of a record starts in TXP (R305, R308, R311, R314, R320). -/
def State.afterCommitTxp (s : State) (p : PendRec) : State :=
  match p.next with
  | .outbound part =>
    (s.txp.outs.filter fun o => o.settled.isNone && o.c.id.seq == part && o.sends == 0
        && (decide (o.c.id.step ≤ s.txp.lastClosed) || s.txp.open'.any fun p => decide (o.c.id.step ≤ p.step))).foldl
      (fun (u : State) o => u.sendContrib o.c) s
  | .watermark id => s.watermarkMade id
  | .epochMade d ref => s.send { acceptMsg d 4 [] [] with ref := ref % 65536 }
  | .closeMade ref => s.closeMade ref
  | .takeover => s.doTakeover
  | _ => s

/-- The CLOSE record of the open step that waits for the deputy's copy (R314). -/
def State.closeWaiting (s : State) : Option CloseRec :=
  match s.txp.open' with
  | some o => (s.closeOf o.step).filter (·.made)
  | none => none

/-- A member that its session reaches again gets the FINALs that it has not answered, in the order of their steps (R314). -/
def State.resendFinals (s : State) (dev : Nat) : State :=
  (s.txp.closes.filter fun c => c.owed.any fun e => e.1 == dev).foldl (fun (u : State) c =>
    let cs := u.txp.closes.map fun k => if k.step = c.step then { k with owed := k.owed.map fun e => if e.1 = dev then (dev, true) else e } else k
    ({ u with txp := { u.txp with closes := cs } } : State).send { finalMsg dev c with retry := c.owed.contains (dev, true) }) s

/-- A member that its session reaches again gets the STEP_OPEN of the open step (R307). -/
def State.resendOpen (s : State) (dev : Nat) : State :=
  match s.txp.open' with
  | none => s
  | some o =>
    if !s.txp.devs.contains dev then s
    else
      let o1 := { o with told := if o.told.contains dev then o.told else o.told ++ [dev] }
      ({ s with txp := { s.txp with open' := some o1 } } : State).send { s.openMsg dev o with retry := o.told.contains dev }

/-- A session of the leader has come UP: the member gets the FINALs and the STEP_OPEN that it may have missed; the deputy gets the copies that it
has not acknowledged (R311, R314); a leader that accepts without a deputy names one (R321). -/
def State.sessionUp (s0 : State) (dev : Nat) : State :=
  if !s0.isLeader then s0
  else
    let s := (s0.resendFinals dev).resendOpen dev
    if s.txp.open'.isNone then s
    else if s.txp.deputy = some dev then
      let s1 := s.copyStep dev fun w => !w.accepted
      match s1.closeWaiting with
      | some c => s1.copyClose dev true c
      | none => s1
    else if s.txp.deputy.isNone ∧ s.standing.contains dev then s.nameDeputy
    else s

end Sys2Proof.Machine
end

