-- ==== Sys2Proof/Machine/Egress.lean ====
section
/-!
DEFINITION. Message egress (R289, R290): a message to a group above the device goes to the head module, one from another module lands
at virtual tile 0, an answer comes back.
-/
namespace Sys2Proof.Machine

/-- A transfer to a device is requested on the first UP port of its set, counted from port 0 up; while its session or every port of the set is
down it waits at its requester for TRANSFER_RESTART, and a CLOSED session opens (R274, R301, Table 12-4). -/
def State.launch (s : State) (r : Requester) (x : XferReq) : State :=
  let q := s.freshXfer ⟨r, x, 0, 0, 0, s.cc, 0, s.aon.ptp, false, false, (s.sess x.dev).num, none⟩
  match (if s.sessUp x.dev then s.nextPort x.dev 11 else none) with
  | some p => q.1.queueAt p q.2
  | none => (q.1.park' 11 q.2 false).needPeer x.dev

/-- The bytes of a message: its ids, GID, tag word and payload (log entry 20), or its answer. -/
def msgBytes (args : List Nat) : List Byte := (args.map (beBytes 4)).flatten

/-- One segment of CLASS MSG to a device: the message in the session, its fields `args`, and the request at the port. -/
def State.egress (s : State) (dev : Nat) (args : List Nat) (pz : Bool) : State :=
  let m : OutMsg := { outMsg dev 0x00 3 0 args [] with session := (s.sess dev).num, epoch := s.txp.epoch }
  let s1 := { s with txp := { s.txp with out := s.txp.out ++ [m] } }
  s1.launch .msg ⟨dev, 3, 0, false, false, none, m.head, none, msgBytes args, List.replicate (ceilDiv args.length 2) pz⟩

/-- The message waits for egress to a group above the device (R290). -/
def Msg.outward (m : Msg) : Bool := m.answer.isNone && m.sentTo.isNone && m.esc && decide (6 ≤ gLevel m.dest)

/-- An earlier message of the same tile to the same head module has no answer yet: the messages to one ring are written in order, whatever port
they leave by (R198). DEDUCED (log entry 77): the later one waits for that answer. -/
def State.egressEarlier (s : State) (m : Msg) : Bool :=
  s.msgs.fly.any fun k => k.src == m.src && decide (k.id < m.id) && k.answer.isNone && k.esc && decide (6 ≤ gLevel k.dest)
    && s.groupHead k.dest == s.groupHead m.dest

/-- A message of this module that waits for egress leaves: answered ABSENT where no member is in the group or the session to the head is
down; to virtual tile 0 of this module where it is the head itself (R290). -/
def State.egressSend (s : State) (id : Nat) : State :=
  match s.msgs.fly.find? fun m => m.id == id && m.outward with
  | none => s
  | some m =>
    match s.groupHead m.dest with
    | none => s.answerMsg id 3
    | some d =>
      if d = s.vent.devId ∨ s.egressEarlier m then s
      else if !s.sessUp d then (s.answerMsg id 3).needPeer d
      else if s.masks.contains .msg then s
      else
        let fly := s.msgs.fly.map fun k => if k.id = id then { k with sentTo := some d } else k
        ({ s with msgs := { s.msgs with fly := fly } } : State).egress d
          ([m.id, m.src, m.dest, m.tag, b2n m.poison] ++ m.words.map (·.toNat)) m.poison

/-- A message of another module at this head module: checked by R195, landed at virtual tile 0, answered (R290). While
message egress is masked (R279) the message waits. -/
def State.egressIn (s : State) (dev : Nat) (m : RMsg) : State :=
  if !s.sessUp dev ∨ s.masks.contains .msg then s
  else
    let x := s.tile 0
    let r : Tile × Nat :=
      if s.groupHead m.dest ≠ some s.vent.devId then (x, 3)
      else x.receive ⟨s.rankOf dev, m.src, true, m.dest, m.tag, m.words, m.poison⟩
    (s.setTile 0 r.1).egress dev [m.src, m.dest, m.tag, r.2] false

/-- MESSAGE_EGRESS (R290). -/
def execMessageEgress (e : EgressEv) (s : State) : Host.Outcome State Fault Refusal :=
  match e with
  | .send id => .next (s.egressSend id)
  | .incoming dev m => .next (s.egressIn dev m)
  | .answer id code =>
    .next (if s.msgs.fly.any fun m => m.id == id && m.sentTo.isSome then s.answerMsg id code else s)

end Sys2Proof.Machine
end

