-- ==== Sys2Proof/Machine/Collective.lean ====
section
/-!
DEFINITION. The collective engine (R281 to R288), received DATA (R265, R277, R323), the birth of a contribution (R308, R309).
-/
namespace Sys2Proof.Machine

/-- Bytes of n elements of a format in a window or on the wire: a BS8 block is 32 elements and its scale byte (log entry 21). -/
def vecBytes (f n : Nat) : Nat :=
  if f = cBS8 then 33 * ceilDiv n 32 else if f = cBS4 then 17 * ceilDiv n 32 else ceilDiv (n * fmtBits f) 8

/-- Chunk c of E elements over n members (R284). -/
def chunkLo (e n c : Nat) : Nat := 32 * (c * e / (32 * n))
def chunkHi (e n c : Nat) : Nat := if c + 1 = n then e else 32 * ((c + 1) * e / (32 * n))

/-- Elements of a reduction block (R282): as many whole elements, or whole BS8 blocks, as RBLK wire bytes hold. -/
def CollDecl.per (d : CollDecl) : Nat := if d.wfmt = cBS8 then 32 * (d.rblk / 33) else d.rblk / (fmtBits d.wfmt / 8)

/-- A collective that reduces: REDUCESCATTER or ALLREDUCE. -/
def CollDecl.reduces (d : CollDecl) : Bool := d.op == 1 || d.op == 3

/-- The base of a window; 0 where it is not declared. -/
def State.winBase (s : State) (w : Nat) : Nat :=
  match s.win w with
  | some x => x.base
  | none => 0

/-- The FP32 bits of a BF16, FP32 or INT32 code (R285). -/
def widen (f code : Nat) : Word := if f = cBF16 then w32 (code * 65536) else w32 code

/-- FP32 bits in a collective's format (R285): BF16 by RNE. -/
def narrow (f : Nat) (w : Word) : List Byte :=
  if f = cBF16 then leBytes 2 (ffBF16.round .rne 0 false (f32 w)).1 else leBytes 4 w.toNat

/-- The source elements of a vector with their poison (R60): n elements of format f from address a. -/
def State.sourceVec (s : State) (f a n : Nat) : List (Word × Bool) :=
  let k := fmtBits f / 8
  (List.range n).map fun i => (widen f (leNat (s.memBytes (a + k * i) k)), s.memAnyPz (a + k * i) k)

/-- Error feedback on one block of 32 (R286): y = x + r, the BS8 code q, and r' = y − decode(q), +0 for a block-NaN or a poisoned y. DESIGN
CHOICE (log entry 21): on the wire and in staging the 32 codes of a block stand before its scale byte, block after block. -/
def feedbackBlock (xs : List ((Word × Bool) × (Word × Bool))) : List Byte × List Bool × List (Word × Bool) :=
  let ys := xs.map fun p => ((fAdd p.1.1 p.2.1).1, p.1.2 || p.2.2)
  let vs := padTo' 32 (ys.map fun y => f32 y.1)
  let q := encodeBlock cBS8 .rne (List.replicate 32 0) vs
  let rs := (ys.zip q.1).map fun p =>
    if q.2 = 0xFF ∨ p.1.2 then ((0 : Word), p.1.2)
    else ((rnd32 (vadd (f32 p.1.1) (elemVal cBS8 p.2.1 q.2).1.negate)).1, false)
  ((q.1.map fun c => BitVec.ofNat 8 c.1) ++ [BitVec.ofNat 8 q.2], ys.map (·.2), rs)
where
  padTo' (n : Nat) (l : List Val) : List Val := l ++ List.replicate (n - l.length) (.fin false 0 0)

/-- The mark of device-range word w where elements of k bytes with marks `l` lie from address a on (R60). -/
def wordMark (a k : Nat) (l : List Bool) (w : Nat) : Bool :=
  (l.zip (List.range l.length)).any fun p => p.1 && decide (a + k * p.2 < 8 * w + 8) && decide (8 * w < a + k * p.2 + k)

/-- Writes elements of k bytes with their marks from address a on. -/
def State.writeElems (s : State) (a k : Nat) (l : List (List Byte × Bool)) : State :=
  s.memWrite a (l.map (·.1)).flatten (wordMark a k (l.map (·.2)))

/-- One source element in wire format (Table 11-10): converted only from FP32. -/
def CollDecl.wire (d : CollDecl) (x : Word) : List Byte :=
  if d.ifmt = cBF16 then leBytes 2 (x.toNat / 65536) else if d.wfmt = cBF16 then narrow cBF16 x else leBytes 4 x.toNat

/-- The source vector in wire format with the marks of its elements, and the residuals written back (R285, R286). -/
def State.wireVec (s0 : State) (d : CollDecl) : State × List Byte × List Bool :=
  let s := s0.memRead (s0.winBase d.srcWin) (vecBytes d.ifmt d.e)
  let xs := s.sourceVec d.ifmt (s.winBase d.srcWin) d.e
  if d.wfmt ≠ cBS8 then (s, (xs.map fun x => d.wire x.1).flatten, xs.map (·.2))
  else
    let u := s.memRead d.resBase (4 * d.e)
    let rs := u.sourceVec cFP32 d.resBase d.e
    let bs := (chunks 32 (ceilDiv d.e 32) (xs.zip rs)).map feedbackBlock
    let s1 := u.writeElems d.resBase 4 ((bs.map fun b => b.2.2).flatten.map fun r => (leBytes 4 r.1.toNat, r.2))
    (s1, (bs.map fun b => b.1).flatten, (bs.map fun b => b.2.1).flatten)

/-- The raw bytes of n elements of format f from address a, with the marks of their bytes. -/
def State.rawVec (s : State) (f a n : Nat) : List Byte × List Bool :=
  let k := vecBytes f n
  (s.memBytes a k, (List.range k).map fun i => s.memAnyPz (a + i) 1)

/-- The marks of the wire bytes of elements: a BS8 scale byte bears the mark of any element of its block. -/
def byteMarks (f : Nat) (l : List Bool) : List Bool :=
  if f = cBS8 then ((pieces 32 (l.length / 32 + 1) l).map fun b => b ++ List.replicate (32 - b.length) false ++ [b.any id]).flatten
  else (l.map (List.replicate (fmtBits f / 8))).flatten

/-- The poison bit of each 64-bit word of bytes with marks (R265). -/
def wordMarks (l : List Bool) : List Bool := (pieces 8 (l.length / 8 + 1) l).map fun b => b.any id

/-- A gather in one window ends a step: it runs under the list of the step that begins (R246, R303). -/
def CollDecl.oneWindow (d : CollDecl) : Bool := d.op == 2 && d.srcWin == d.dstWin

/-- The members of a collective by rank in a run of a step (R281, R289): its partner set's, or this module alone outside a job. -/
def State.collMembers (s : State) (d : CollDecl) (step : Nat) : List Nat :=
  let l := (groupIn (s.txp.listAt (if d.oneWindow then step + 1 else step)) d.pset).map (·.dev)
  if l.contains s.vent.devId then l else [s.vent.devId]

/-- The run of a collective before anything has been read or has landed. -/
def State.freshRun (s : State) (d : CollDecl) (step : Nat) : CollRun :=
  let ms := s.collMembers d step
  ⟨step, ms, (ms.idxOf? s.vent.devId).getD 0, [], [], [], [], [], [], false, false⟩

/-- A collective's declaration and its run. -/
def State.collOf (s : State) (cid : Nat) : Option (CollDecl × CollRun) :=
  match s.coll.decls.find? fun e => e.1 == cid, s.coll.runs.find? fun e => e.1 == cid with
  | some d, some r => some (d.2, r.2)
  | _, _ => none
def State.setRun (s : State) (cid : Nat) (r : CollRun) : State := { s with coll := { s.coll with runs := Sparse.put s.coll.runs cid r } }

/-- A PCOLL counter by register offset (R293). -/
def State.collBump (s : State) (off n : Nat) : State :=
  { s with coll := { s.coll with cnt := Sparse.set 0 s.coll.cnt off (sat32 (Sparse.get 0 s.coll.cnt off) n) } }

/-- The bounds of this module's chunk. -/
def CollRun.lo (r : CollRun) (d : CollDecl) : Nat := chunkLo d.e r.members.length r.me
def CollRun.hi (r : CollRun) (d : CollDecl) : Nat := chunkHi d.e r.members.length r.me

/-- The reduction blocks of this module's chunk. -/
def CollRun.blocks (r : CollRun) (d : CollDecl) : Nat := ceilDiv (r.hi d - r.lo d) d.per

/-- Result bytes that this module receives from others (R283). -/
def CollRun.awaited (r : CollRun) (d : CollDecl) : Nat :=
  let n := r.members.length
  let others (f : Nat) : Nat := (((List.range n).filter fun c => c != r.me).map fun c => vecBytes f (chunkHi d.e n c - chunkLo d.e n c)).sum
  match d.op with
  | 2 => others d.ofmt
  | 3 => others d.ofmt
  | 4 => if r.me = d.root then 0 else vecBytes d.ofmt d.e
  | _ => 0

/-- Every result element of this module is written (R283): DSTWIN's arrival. Where it is SRCWIN too, the arrival waits for the sends. -/
def State.collCheck (s : State) (cid : Nat) : State :=
  match s.collOf cid with
  | none => s
  | some (d, r) =>
    let own := !d.reduces || r.released.length == r.blocks d
    if r.dstDone ∨ !own ∨ (r.got.map (·.2)).sum < r.awaited d ∨ (d.oneWindow ∧ !r.srcDone) then s
    else (s.setRun cid { r with dstDone := true }).arriveWin d.dstWin

/-- A transfer of the collective engine in a step (R281). -/
def collReq (step : Nat) (dst : SegDst) (data : List Byte) (pz : List Bool) : XferReq :=
  ⟨0, 1, 0, false, false, none, msgHead 0 step 0, some dst, data, pz⟩

/-- The transfers of each rank of a run other than this module's own are requested. -/
def State.toOthers (s : State) (r : CollRun) (f : Nat → List XferReq) : State :=
  (List.range r.members.length).foldl (fun (u : State) k =>
    if k = r.me then u else (f k).foldl (fun (v : State) x => v.launch .coll { x with dev := r.members.getD k 0 }) u) s

/-- This module's contribution to block b of the chunk of rank c, for its owner. -/
def CollRun.contrib (r : CollRun) (d : CollDecl) (cid c b : Nat) : XferReq :=
  let a0 := chunkLo d.e r.members.length c + b * d.per
  let n := min (chunkHi d.e r.members.length c) (a0 + d.per) - a0
  collReq r.step (.coll cid r.me b 0) (slice r.own (vecBytes d.wfmt a0) (vecBytes d.wfmt n))
    (wordMarks (((byteMarks d.wfmt r.ownPz).drop (vecBytes d.wfmt a0)).take (vecBytes d.wfmt n)))

/-- Result bytes from an offset of DSTWIN on, in transfers of at most 1 MiB (Table 11-6). -/
def resultReqs (step w off : Nat) (data : List Byte) (marks : List Bool) : List XferReq :=
  let ps := pieces 1048576 (data.length / 1048576 + 1) data
  (ps.zip (List.range ps.length)).map fun p =>
    collReq step (.win w (off + 1048576 * p.2)) p.1 (wordMarks ((marks.drop (1048576 * p.2)).take 1048576))

/-- One element of a reduction block in FP32 or INT32 bits, from the wire bytes of the block (R285). -/
def wireElem (f : Nat) (bs : List Byte) (i : Nat) : Word :=
  if f = cBS8 then
    w32 (ffFP32.round .rne 0 false (elemVal cBS8 (leAt bs (33 * (i / 32) + i % 32) 1) (leAt bs (33 * (i / 32) + 32) 1)).1).1
  else widen f (leAt bs (fmtBits f / 8 * i) (fmtBits f / 8))

/-- The bytes on the wire that element i of a block depends on: offset and length. -/
def wireSpan (f i : Nat) : List (Nat × Nat) :=
  if f = cBS8 then [(33 * (i / 32) + i % 32, 1), (33 * (i / 32) + 32, 1)] else [(fmtBits f / 8 * i, fmtBits f / 8)]

/-- The staging address of a rank's contribution to a block (R288; log entry 21). -/
def State.stageAddr (s : State) (d : CollDecl) (rank blk : Nat) : Nat :=
  let maxn := match s.vent.image with
    | some im => im.man.maxn
    | none => 1
  d.stageBase + (blk % d.depth * maxn + rank) * d.rblk

/-- The mark of element i of this module's own part of a block that starts at element a0: in BS8 that of any element under its scale (R90). -/
def CollRun.ownMark (r : CollRun) (d : CollDecl) (a0 i : Nat) : Bool :=
  if d.wfmt = cBS8 then ((r.ownPz.drop (a0 + i / 32 * 32)).take 32).any id else r.ownPz.getD (a0 + i) false

/-- A rank's contribution to element i of a block that starts at element a0: its bits and its mark. -/
def State.contribElem (s : State) (d : CollDecl) (r : CollRun) (blk a0 n rank i : Nat) : Word × Bool :=
  if rank = r.me then
    (wireElem d.wfmt ((r.own.drop (vecBytes d.wfmt a0)).take (vecBytes d.wfmt n)) i, r.ownMark d a0 i)
  else
    let a := s.stageAddr d rank blk
    (wireElem d.wfmt (s.memBytes a (vecBytes d.wfmt n)) i, (wireSpan d.wfmt i).any fun p => s.memAnyPz (a + p.1) p.2)

/-- The sum of one element over ranks in ascending order (R285), with its mark (R188). -/
def foldRanks (rop : Nat) (l : List (Word × Bool)) : Word × Bool :=
  match l with
  | [] => (0, false)
  | x :: xs => xs.foldl (fun a b => ((calCombine rop (a.1, 0) (b.1, 0)).1, a.2 || b.2)) x

/-- The staging of one block is read (R208, R285). -/
def State.readStage (s : State) (d : CollDecl) (r : CollRun) (blk n : Nat) (need : List Nat) : State :=
  need.foldl (fun (u : State) k => if k = r.me then u else u.memRead (u.stageAddr d k blk) (vecBytes d.wfmt n)) s

/-- A reduction block is summed over `need` and written into DSTWIN (R285, R287); the owner of an ALLREDUCE sends the result to every other
member. -/
def State.sumBlock (s0 : State) (cid : Nat) (d : CollDecl) (r : CollRun) (blk : Nat) (need : List Nat) : State :=
  let lo := r.lo d
  let a0 := lo + blk * d.per
  let n := min (r.hi d) (a0 + d.per) - a0
  let k := fmtBits d.ofmt / 8
  let s := s0.readStage d r blk n need
  let es := (List.range n).map fun i =>
    let v := foldRanks d.rop (need.map (s.contribElem d r blk a0 n · i))
    (if d.ofmt = cINT32 then leBytes 4 v.1.toNat else narrow d.ofmt v.1, v.2)
  let off := if d.op = 1 then a0 - lo else a0
  let s1 := s.writeElems (s.winBase d.dstWin + k * off) k es
  let again := r.provisional.any fun p => p.1 == blk && p.2 != need
  let s2 := (if again then s1.collBump 0x008 1 else s1).collBump 0x004 1
  let s3 := if d.op = 3 then
      s2.toOthers r fun _ => resultReqs r.step d.dstWin (k * off) (es.map (·.1)).flatten (byteMarks d.ofmt (es.map (·.2)))
    else s2
  (s3.setRun cid { r with released := r.released ++ [(blk, need)] }).collCheck cid

/-- What a completed part of a step means to the collective engine: a contribution, or result bytes; kept where the run has not started. -/
def State.partDone (step : Nat) (s : State) (p : SegDst × Nat) : State :=
  let cids : List Nat := match p.1 with
    | .coll cid _ _ _ => [cid]
    | .win w _ => (s.coll.decls.filter fun e => e.2.dstWin == w).map (·.1)
  cids.foldl (fun (u : State) cid =>
    match u.collOf cid with
    | some (_, r) =>
      if r.step ≠ step then { u with coll := { u.coll with early := u.coll.early ++ [(cid, step, p)] } }
      else
        match p.1 with
        | .coll _ rank blk off =>
          let l := (rank, blk, off, p.2)
          if r.landed.contains l then u else u.setRun cid { r with landed := r.landed ++ [l] }
        | .win _ off =>
          if r.got.contains (off, p.2) ∨ r.dstDone then u else (u.setRun cid { r with got := r.got ++ [(off, p.2)] }).collCheck cid
    | none => { u with coll := { u.coll with early := u.coll.early ++ [(cid, step, p)] } }) s

/-- What has landed for a run before it started counts from its start on. -/
def State.takeEarly (s : State) (cid step : Nat) : State :=
  let mine (e : Nat × Nat × SegDst × Nat) : Bool := e.1 == cid && e.2.1 == step
  (s.coll.early.filter mine).foldl (fun (u : State) e => State.partDone step u e.2.2)
    { s with coll := { s.coll with early := s.coll.early.filter fun e => !mine e } }

/-- A collective starts when its SRCWIN passes to the outside (R283): the source is read and put in wire format, and what the other members
receive of it is requested (Table 11-9); over one member the whole is done here. -/
def State.startColl (s : State) (cid : Nat) (d : CollDecl) : State :=
  let step := s.txp.here
  let q := s.freshRun d step
  let n := q.members.length
  if d.reduces then
    let w := s.wireVec d
    let r := { q with own := w.2.1, ownPz := w.2.2 }
    let s1 := (w.1.setRun cid r).toOthers r fun c =>
      (List.range (ceilDiv (chunkHi d.e n c - chunkLo d.e n c) d.per)).map (r.contrib d cid c)
    let s2 := if n ≠ 1 then s1
      else (List.range (r.blocks d)).foldl (fun (u : State) b =>
        match u.collOf cid with
        | some (_, q) => u.sumBlock cid d q b [0]
        | none => u) s1
    (s2.takeEarly cid step).collCheck cid
  else
    let lo := chunkLo d.e n q.me
    let k := if d.op = 2 then chunkHi d.e n q.me - lo else if q.me = d.root then d.e else 0
    let off := if d.op = 2 then vecBytes d.ofmt lo else 0
    let a := s.winBase d.srcWin + (if d.oneWindow then off else 0)
    let u := s.memRead a (vecBytes d.ifmt k)
    let raw := u.rawVec d.ifmt a k
    let s1 := if k = 0 ∨ d.oneWindow then u
      else u.writeElems (s.winBase d.dstWin + off) 1 ((raw.1.zip raw.2).map fun p => ([p.1], p.2))
    let s2 := (s1.setRun cid { q with own := raw.1, ownPz := raw.2 }).toOthers q fun _ =>
      if k = 0 then [] else resultReqs step d.dstWin off raw.1 raw.2
    (s2.takeEarly cid step).collCheck cid

/-- The bytes of a window lie in a page that takes no access now (Table 9-4). -/
def State.winPageHeld (s : State) (w : Nat) (write : Bool) : Bool :=
  match s.win w with
  | some x => s.pageHeld x.base x.size write
  | none => false

/-- A collective's start waits (R218, R233; log entry 79): for the pages of its windows and of its residual, for the end of its run before, or,
where it writes DSTWIN at once, for DSTWIN to be outside. -/
def State.collHeld (s : State) (cid : Nat) (d : CollDecl) : Bool :=
  s.winPageHeld d.srcWin false || s.winPageHeld d.dstWin true || (d.wfmt == cBS8 && s.pageHeld d.resBase (4 * d.e) true)
    || (match s.collOf cid with
      | some (_, r) => !(r.srcDone && r.dstDone)
      | none => false)
    || ((!d.reduces || (s.collMembers d s.txp.here).length == 1) && !d.oneWindow && (match s.win d.dstWin with
      | some x => !x.outside
      | none => false))

/-- The collectives whose start has waited begin where nothing holds them any more. -/
def State.retryColl (s : State) : State :=
  s.coll.waiting.foldl (fun (u : State) cid =>
    match u.coll.decls.find? fun e => e.1 == cid with
    | some e =>
      if u.collHeld cid e.2 then u
      else ({ u with coll := { u.coll with waiting := u.coll.waiting.filter fun k => k != cid } } : State).startColl cid e.2
    | none => u) s

/-- The collectives whose source is window w start (R283). -/
def State.startCollectives (s : State) (w : Nat) : State :=
  let ids := (s.coll.decls.filter fun e => e.2.srcWin == w).map (·.1)
  State.retryColl { s with coll := { s.coll with waiting := s.coll.waiting ++ ids.filter fun k => !s.coll.waiting.contains k } }

/-- A contribution to a block has landed whole (R287). -/
def CollRun.hasBlock (r : CollRun) (d : CollDecl) (rank blk : Nat) : Bool :=
  let a0 := r.lo d + blk * d.per
  let n := min (r.hi d) (a0 + d.per) - a0
  rank == r.me || decide (vecBytes d.wfmt n ≤ ((r.landed.filter fun l => l.1 == rank && l.2.1 == blk).map fun l => l.2.2.2).sum)

/-- The ranks of a collective that a close record includes. -/
def CloseRec.includedIn (c : CloseRec) (r : CollRun) : List Nat :=
  (List.range r.members.length).filter fun k =>
    match c.devs.idxOf? (r.members.getD k 0) with
    | some q => c.included.contains q
    | none => k == r.me

/-- The ranks that a block needs for its release now (R287, R313, R314): those of the step's inclusion record once it is journaled; every
member for EARLY before that, while this member has not been frozen; none yet for RECORD. -/
def State.needed (s : State) (d : CollDecl) (r : CollRun) : Option (List Nat) :=
  match s.closeOf r.step with
  | some c => if c.made then some (c.includedIn r) else none
  | none =>
    if d.record || s.txp.frozenStep == some r.step then none else some (List.range r.members.length)

/-- DSTWIN takes the result of a block: it is outside, and its pages take a write (R218, R231). -/
def State.dstOpen (s : State) (d : CollDecl) : Bool :=
  !s.winPageHeld d.dstWin true && !s.pageHeld d.stageBase d.stageSize false && (match s.win d.dstWin with
    | some x => x.outside
    | none => true)

/-- REDUCTION_BLOCK_RELEASE (R287): the release, or the provisional sum of a RECORD block whose contributions have all landed. -/
def execReductionBlockRelease (cid blk : Nat) (s : State) : Host.Outcome State Fault Refusal :=
  match s.collOf cid with
  | none => .next s
  | some (d, r) =>
    if !d.reduces ∨ r.blocks d ≤ blk ∨ (r.released.any fun p => p.1 == blk) then .next s
    else
      let all := List.range r.members.length
      match s.needed d r with
      | some need => .next (if (need.all fun k => r.hasBlock d k blk) ∧ s.dstOpen d then (s.sumBlock cid d r blk need).retryColl else s)
      | none =>
        .next (if (all.all fun k => r.hasBlock d k blk) ∧ !(r.provisional.any fun p => p.1 == blk) then
          s.setRun cid { r with provisional := r.provisional ++ [(blk, all)] } else s)

/-- A segment of a transfer lands in its progress (R277). -/
def RxXfer.take (x : RxXfer) (c : Carriage) (dst : SegDst) (n : Nat) : RxXfer :=
  { x with segs := if x.segs.contains c.segno then x.segs else x.segs ++ [c.segno], parts := x.parts ++ [(dst, n)],
           last := if c.last then some c.segno else x.last }

/-- Segments 0 to LAST of one attempt have arrived (R277). -/
def RxXfer.whole (x : RxXfer) : Bool :=
  match x.last with
  | some n => (List.range (n + 1)).all x.segs.contains
  | none => false

/-- The progress of a transfer, and its write back. -/
def State.rxOf (s : State) (dev cls xfer : Nat) : Option RxXfer :=
  s.txp.rx.find? fun r => r.dev == dev && r.cls == cls && r.xfer == xfer
def State.setRx (s : State) (x : RxXfer) : State :=
  let rest := s.txp.rx.filter fun r => r.dev != x.dev || r.cls != x.cls || r.xfer != x.xfer
  { s with txp := { s.txp with rx := rest ++ [x] } }

/-- A health event whose code no table gives is a free value (log entry 9). -/
def State.freeHealth (s : State) (data : List Byte) : State :=
  State.health { s with free := s.free + 1 } (Config.freeValue s.free % 65536) data

/-- The run of a collective in a step: the one that has started, or what a member that has not started it knows of it. -/
def State.runIn (s : State) (cid : Nat) (d : CollDecl) (step : Nat) : CollRun :=
  match s.coll.runs.find? fun e => e.1 == cid && e.2.step == step with
  | some e => e.2
  | none => s.freshRun d step

/-- The run of a collective in progress here is of a later step, or of an earlier one that is not finished. -/
def State.runLater (s : State) (cid step : Nat) : Bool := s.coll.runs.any fun e => e.1 == cid && decide (step < e.2.step)
def State.runBusy (s : State) (cid step : Nat) : Bool :=
  match s.collOf cid with
  | some (d, r) => decide (r.step < step) && !(r.dstDone && (!d.reduces || r.released.length == r.blocks d))
  | none => false

/-- The staging slot of a block is free for it: every earlier block of that slot has been released (R288). -/
def CollRun.slotFree (r : CollRun) (d : CollDecl) (blk : Nat) : Bool :=
  (List.range blk).all fun b => b % d.depth != blk % d.depth || r.released.any fun p => p.1 == b

/-- Where a segment's bytes land: the address, or the REJECT code of R323, or nothing for data that the owner drops (R314, R329). -/
def State.landing (s : State) (dev cls step : Nat) (dst : SegDst) (n : Nat) : Except (Option Nat) Nat :=
  match dst with
  | .win w off =>
    match s.win w with
    | none => .error (some 0x0E)
    | some x =>
      let mine := (s.groupOf x.pset).any fun m => m.dev == dev
      if !x.side1 ∨ x.size < off + n ∨ !bitAt x.perm 1 ∨ !mine then .error (some 0x0E)
      else if !x.outside then .error (some 0x0D)
      else .ok (x.base + off)
  | .coll cid rank blk off =>
    match s.coll.decls.find? fun e => e.1 == cid with
    | none => .error none
    | some (_, d) =>
      let r := s.runIn cid d step
      let out : Bool := match s.closeOf step with
        | some c => c.made && !(c.includedIn r).contains rank
        | none => false
      if !d.reduces ∨ cls ≠ 1 ∨ r.members[rank]? ≠ some dev ∨ rank = r.me ∨ d.rblk < off + n ∨ out ∨ s.runLater cid step
          ∨ (r.released.any fun p => p.1 == blk) then .error none
      else .ok (s.stageAddr d rank blk + off)

/-- A DATA segment waits at its engine (log entry 79): while a page of its bytes takes no write (R218), while an earlier run of its collective is
not finished, or while its staging slot is not free (R288). -/
def State.segWaits (s : State) (dev cls step : Nat) (dst : SegDst) (n : Nat) : Bool :=
  match s.landing dev cls step dst n with
  | .error _ => false
  | .ok a =>
    s.pageHeld a n true || (match dst with
      | .win w _ => cls == 1 && s.coll.decls.any fun e => e.2.dstWin == w && s.runBusy e.1 step
      | .coll cid _ blk _ => s.runBusy cid step || (match s.coll.decls.find? fun e => e.1 == cid with
        | some (_, d) => !(s.runIn cid d step).slotFree d blk
        | none => false))

/-- The XFER numbers of a sender and CLASS wrap (R277; log entry 80): a complete transfer far from the number that arrives is forgotten, and
so is one that the attempt it completed with begins again. -/
def State.retireRx (s : State) (dev cls xfer att : Nat) : State :=
  let old (r : RxXfer) : Bool := r.dev == dev && r.cls == cls && r.complete
    && (if r.xfer = xfer then r.att == att else decide (16384 ≤ (xfer + 65536 - r.xfer) % 65536) && decide ((xfer + 65536 - r.xfer) % 65536 < 49152))
  { s with txp := { s.txp with rx := s.txp.rx.filter fun r => !old r } }

/-- The bytes of a segment land with its mask, and with the last of them its transfer is complete (R265, R277). -/
def State.landBytes (s : State) (step : Nat) (x : RxXfer) (a : Nat) (data : List Byte) (mask : List Bool) : State :=
  let s1 := s.memWrite a data (wordMark a 8 mask)
  if x.whole then (x.parts.foldl (State.partDone step) (s1.setRx { x with complete := true })).retryColl else s1.setRx x

/-- A DATA segment that its session has accepted (R265, R277, R323): its attempt compared, landed with its mask, the transfer completed at
LAST. -/
def State.landSegment (s0 : State) (p dev : Nat) (c : Carriage) (g : Seg) (dst : SegDst) (data : List Byte) (mask : List Bool) : State :=
  let s := s0.retireRx dev c.cls c.xfer c.att
  let drop : State := s.setPort p ((s.port p).bump 0x78 1)
  let x := (s.rxOf dev c.cls c.xfer).getD ⟨dev, c.cls, c.xfer, c.att, [], [], none, false, 0, s.now, g.session⟩
  if c.cver ≠ 1 ∨ c.att < x.att then drop
  else if c.cls = 0 ∨ 5 ≤ c.cls ∨ 2048 < data.length then s.txpBump 3 1
  else
    match s.landing dev c.cls g.step dst data.length with
    | .error none => s
    | .error (some code) =>
      let a := match dst with
        | .win w off => s.winBase w + off
        | _ => 0
      let s1 := (s.refuse a data.length).reject dev code none c.xfer g.seq
      if code = 0x0E then s1.freeHealth (leBytes 8 dev) else s1
    | .ok a =>
      let x1 := if x.att < c.att then { x with att := c.att, segs := [], parts := [], last := none, complete := false } else x
      s.landBytes g.step { x1.take c dst data.length with at' := s.now, sess := g.session } a data (if c.pm then mask else [])

/-- A DATA segment of an older epoch is refused with STALE_EPOCH (R305); the detail names the transfer above the epoch (log entry 46). -/
def State.rejectStale (s : State) (dev : Nat) (c : Carriage) (ref : Nat) : State :=
  s.reject dev 0x02 none (s.txp.epoch + 2 ^ 32 * (c.xfer % 65536 + 65536 * c.cls)) ref

/-- DATA_SEGMENT (R265, R277, R305, R323). One of an epoch that this module does not have makes it ask for the epoch, and waits at its engine. -/
def execDataSegment (p dev : Nat) (c : Carriage) (g : Seg) (dst : SegDst) (data : List Byte) (mask : List Bool) (s : State) :
    Host.Outcome State Fault Refusal :=
  onPort p s fun u =>
    if (u.port p).st ≠ .up ∨ u.segWaits dev c.cls g.step dst data.length then u
    else
      let r := u.recvSeg dev g
      if !r.2 then r.1
      else if g.epoch ≠ 0 ∧ g.epoch < u.txp.epoch then r.1.rejectStale dev c g.seq
      else if !u.knowsEpoch g.epoch then u.resend dev 2 [g.epoch]
      else (r.1.landSegment p dev c g dst data mask).closeOld dev

/-- A window that a collective serves (R282). -/
def State.collServes (s : State) (w : Nat) : Bool := s.coll.decls.any fun e => e.2.srcWin == w || e.2.dstWin == w

/-- HANDOVER: a partner ends its part in the present holding of a window; the last one of PSET performs the arrival (R323). -/
def State.onHandover (s : State) (dev win : Nat) (g : Seg) : State :=
  match s.win win with
  | none => (s.reject dev 0x0E none 0 g.seq).freeHealth (leBytes 8 dev)
  | some x =>
    let ms := ((s.groupOf x.pset).map (·.dev)).filter fun d => d != s.vent.devId
    if !x.side1 ∨ !ms.contains dev then (s.reject dev 0x0E none 0 g.seq).freeHealth (leBytes 8 dev)
    else if !x.outside then s.reject dev 0x0D none 0 g.seq
    else
      let h := if x.handed.contains dev then x.handed else x.handed ++ [dev]
      let s1 := s.setWin win { x with handed := h }
      if !s.collServes win ∧ ms.all h.contains then s1.arriveWin win else s1

/-- ODIG: the wire bytes of every collective of a part in ascending CID (R309). -/
def State.odigOf (s : State) (part : Nat) : List Byte :=
  shake256 32 ((s.coll.decls.filter fun e => e.2.part == part).map fun e => ((s.collOf e.1).map fun x => x.2.own).getD []).flatten

/-- A part of this module's output for a step is complete: its contribution is created, or waits for CHAIN of the step before (R308, R309). -/
def State.makeContribution (s : State) (part step : Nat) : State :=
  match s.vent.image with
  | none => s
  | some im =>
    if im.man.txpmaj = 0 ∨ !((s.txp.listAt step).any fun m => m.dev == s.vent.devId) then s
    else State.formLate { s with txp := { s.txp with late := s.txp.late ++ [(part, step, s.odigOf part)] } } step

/-- A transfer that reads SRCWIN of a collective. -/
def CollDecl.readsSrc (d : CollDecl) (cid : Nat) (g : Grant) : Bool :=
  g.r = .coll && !g.dead && (match g.x.dst with
    | some (.coll c _ _ _) => c == cid
    | some (.win w _) => !d.reduces && w == d.dstWin
    | none => false)

/-- A transfer that reads SRCWIN waits or is on a port. -/
def State.srcBusy (s : State) (cid : Nat) (d : CollDecl) : Bool :=
  (s.ports.any fun e => (e.2.pend.any (d.readsSrc cid)) || e.2.holder.any (d.readsSrc cid)) || s.txp.waiting.any fun w => d.readsSrc cid w.g

/-- SRCWIN_ARRIVAL: every transfer that reads SRCWIN has completed at its receivers (R283), none is left to send, and none will be asked for
again; the last collective of a part makes its contribution (R308). -/
def execSrcwinArrival (cid : Nat) (s : State) : Host.Outcome State Fault Refusal :=
  match s.collOf cid with
  | none => .next s
  | some (d, r) =>
    if r.srcDone ∨ s.srcBusy cid d then .next s
    else
      let s0 := s.setRun cid { r with srcDone := true }
      let s1 := { s0 with txp := { s0.txp with sentX := s0.txp.sentX.filter fun e => !d.readsSrc cid e.2 } }
      let s2 := if d.oneWindow then s1.collCheck cid else s1.arriveWin d.srcWin
      let all := (s2.coll.decls.filter fun e => e.2.part == d.part).all fun e =>
        match s2.collOf e.1 with
        | some (_, q) => q.srcDone && q.step == r.step
        | none => false
      .next (if d.part < 16 ∧ all then (s2.makeContribution d.part r.step).retryColl else s2.retryColl)

end Sys2Proof.Machine
end

