-- ==== Sys2Proof/Machine/Audits.lean ====
section
/-!
DEFINITION. Audits (R324 to R326): requests, replies and reports, the audit input and output windows; and the release of a window to the
outside (R233), which starts collectives, ends an audit, or is posted to the host.
-/
namespace Sys2Proof.Machine

/-- An AUDIT message: PHASE 0 REQ, 1 REPLY, 2 REPORT. -/
def auditMsg (dev phase : Nat) (args : List Nat) (bytes : List Byte) : OutMsg := outMsg dev 0x20 phase 0 args bytes

/-- STATUS of a report, numbered by the model. -/
def auditCode : AuditStatus → Nat
  | .matched => 0
  | .mismatch => 1
  | .unable => 2

/-- The accepted contribution of a closed step that an audit request names, in the ledger of the leader or the deputy (R324). -/
def State.auditRecord (s : State) (id : ContribId) : Option WmRec :=
  s.txp.wms.find? fun w => decide (w.c.id = id) && w.committed && (w.accepted || w.fwd) && decide (id.step ≤ s.txp.lastClosed)

/-- The part can be audited here: the image has an AUDIT section that marks it as auditable (R325, R368). -/
def State.auditable (s : State) (id : ContribId) : Bool :=
  match s.vent.image.bind (·.audit) with
  | some a => bitAt a.mask id.seq
  | none => false

/-- The REPLY has come: Vent asks the host for the audit's input (R325, item 1). -/
def State.auditInput (s : State) (a : Audit) (c : ContribMsg) : State :=
  ({ s with txp := { s.txp with audit := some { a with reply := some c } } } : State).post 0x0E (leBytes 6 a.id.step ++ leBytes 8 c.sfirst)

/-- An auditable part is audited here (R324, R325): the leader is asked for its record, or is this module. One audit runs at a time. -/
def State.beginAudit (s : State) (id : ContribId) : State :=
  if s.txp.audit.isSome then s
  else
    let a : Audit := ⟨id, false, s.now, none, false⟩
    if s.isLeader then
      match s.auditRecord id with
      | some w => s.auditInput a w.c
      | none => s
    else ({ s with txp := { s.txp with audit := some a } } : State).send { auditMsg s.txp.leader 0 [] (idBytes id) with step := id.step }

/-- The next-ranked standing member after a device, those named left out (R326); this module where it can audit now. -/
def State.nextAuditor (s : State) (id : ContribId) (dev : Nat) (out : List Nat) : Option Nat :=
  let ds := s.txp.devs
  let k := s.rankOf dev
  ((List.range ds.length).map fun i => ds.getD ((k + 1 + i) % ds.length) 0).find? fun d =>
    d != dev && !out.contains d && !s.suspended d && (d != s.vent.devId || (s.auditable id && (s.chainBefore id.step).isSome && s.txp.audit.isNone))

/-- The leader asks a member to audit, or audits itself. -/
def State.assignAudit (s : State) (id : ContribId) (dst : Option Nat) : State :=
  match dst with
  | some d => if d = s.vent.devId then s.beginAudit id else s.send { auditMsg d 0 [] (idBytes id) with step := id.step }
  | none => s

/-- The recorded contribution. -/
def State.recorded (s : State) (id : ContribId) : List Byte × List Byte :=
  match s.txp.wms.find? fun w => w.c.id = id with
  | some w => (padTo 32 w.c.idig, padTo 32 w.c.odig)
  | none => ([], [])

/-- The second report on a case (R316, R326): two equal digests that differ from the recorded one are the contributor's fault; otherwise the
first auditor is named, and this leader and both auditors raise health events; a REJECT tells an auditor (log entry 49). The record holds
the recorded pair, the pair of the audit, and the reports. -/
def State.secondReport (s : State) (c : AuditCase) (dev : Nat) (status : AuditStatus) (odig : List Byte) : State :=
  let s1 := { s with txp := { s.txp with cases := s.txp.cases.filter (fun k => decide (k.id ≠ c.id)) } }
  let q := s1.recorded c.id
  let bytes := q.1 ++ q.2 ++ q.1 ++ padTo 32 c.odig ++ leBytes 8 c.auditor ++ leBytes 1 (auditCode .mismatch) ++ padTo 32 c.odig
    ++ leBytes 8 dev ++ leBytes 1 (auditCode status) ++ padTo 32 odig
  if status = .mismatch ∧ padTo 32 odig = padTo 32 c.odig ∧ padTo 32 odig ≠ q.2 then s1.faultRecord c.id c.id.dev bytes
  else
    let s2 := (s1.journal 0x46 (idBytes c.id ++ bytes) .nothing).txpBump 12 1
    let s3 := ((s2.post 0x0A (leBytes 8 c.auditor ++ leBytes 4 c.id.step)).health 0x0034 (leBytes 8 c.auditor)).health 0x0034 (leBytes 8 dev)
    [c.auditor, dev].foldl (fun (u : State) d => if d = u.vent.devId then u else u.reject d 0x07 (some c.id) 0 0) s3

/-- A report at the leader (R326). -/
def State.auditReported (s : State) (dev : Nat) (id : ContribId) (status : AuditStatus) (odig : List Byte) : State :=
  match s.txp.cases.find? fun k => decide (k.id = id) with
  | some c =>
    if dev ≠ c.second then s
    else if status = .unable then
      let n := s.nextAuditor id dev [id.dev, c.auditor]
      let cs := s.txp.cases.map fun k => if k.id = id then { k with second := n.getD 0 } else k
      ({ s with txp := { s.txp with cases := cs } } : State).assignAudit id n
    else s.secondReport c dev status odig
  | none =>
    match status with
    | .matched => s
    | .unable => s.assignAudit id (s.nextAuditor id dev [id.dev])
    | .mismatch =>
      let n := s.nextAuditor id dev [id.dev]
      let k : AuditCase := ⟨id, dev, odig, n.getD 0⟩
      ({ s with txp := { s.txp with cases := s.txp.cases ++ [k] } } : State).assignAudit id n

/-- REPORT to the leader (R326), or the leader's own; `ref` is the SEQ of the assignment that an UNABLE answers. -/
def State.report (s : State) (id : ContribId) (st : AuditStatus) (odig : List Byte) (ref : Nat) : State :=
  if s.isLeader then s.auditReported s.vent.devId id st odig
  else s.send { auditMsg s.txp.leader 2 [auditCode st] (idBytes id ++ odig) with step := id.step, ref := ref % 65536 }

/-- The audit in progress is over; one that reported is counted (R330). -/
def State.endAudit (s : State) (id : ContribId) (st : AuditStatus) (odig : List Byte) : State :=
  (({ s with txp := { s.txp with audit := none } } : State).txpBump 11 1).report id st odig 0

/-- This module is to audit a contribution, of its own accord or by the leader's assignment: UNABLE without an AUDIT section or for a part
that it does not mark as auditable (R324, R325). DEDUCED (log entry 49): UNABLE too where CHAIN of the step before, which IDIG takes in, is
not known here. -/
def State.startAudit (s : State) (id : ContribId) (ref : Nat) : State :=
  if s.auditable id && (s.chainBefore id.step).isSome then s.beginAudit id else s.report id .unable [] ref

/-- AUDIT PHASE = REQ: the leader or the deputy answers with the WATERMARK payload, or EXPIRED (R324); at another module, and at the deputy
from the leader, it is the leader's assignment (R326). -/
def State.onAuditReq (s : State) (dev : Nat) (g : Seg) (id : ContribId) : State :=
  if !s.isLeader ∧ dev = s.txp.leader then s.startAudit id g.seq
  else if !s.isLeader ∧ s.txp.deputy ≠ some s.vent.devId then s.reject dev 0x03 none s.txp.leader g.seq
  else
    match s.auditRecord id with
    | some w => s.send { auditMsg dev 1 [0, w.wm] (contribBytes w.c ++ beBytes 2 w.wm) with step := id.step, ref := g.seq % 65536 }
    | none => s.send { auditMsg dev 1 [1] (idBytes id) with step := id.step, ref := g.seq % 65536 }

/-- AUDIT PHASE = REPLY: the audit goes on; EXPIRED ends it. -/
def State.onAuditReply (s : State) (reply : Option ContribMsg) (id : ContribId) : State :=
  match s.txp.audit with
  | none => s
  | some a =>
    if a.id ≠ id ∨ a.reply.isSome then s
    else
      match reply with
      | none => { s with txp := { s.txp with audit := none } }
      | some c => if c.id ≠ id then s else s.auditInput a c

/-- AUDIT PHASE = REPORT (R326). -/
def State.onAuditReport (s : State) (dev : Nat) (g : Seg) (id : ContribId) (status : AuditStatus) (odig : List Byte) : State :=
  if !s.isLeader then s.reject dev 0x03 none s.txp.leader g.seq else s.auditReported dev id status odig

/-- T_AUDIT_EXPIRY: after 600 s the deputy is asked; then the audit is given up (Table 12-10). -/
def execTAuditExpiry (s : State) : Host.Outcome State Fault Refusal :=
  match s.txp.audit with
  | none => .next s
  | some a =>
    if a.reply.isSome ∨ s.now < a.at' + 600 * nsPerSec then .next s
    else
      match (if a.toDeputy then none else s.txp.deputy) with
      | none => .next { s with txp := { s.txp with audit := none } }
      | some d =>
        .next (({ s with txp := { s.txp with audit := some { a with toDeputy := true, at' := s.now } } } : State).send
          { auditMsg d 0 [] (idBytes a.id) with step := a.id.step })

/-- The AINWIN or AOUTWIN of the image is window w. -/
def State.isAin (s : State) (w : Nat) : Bool := ((s.vent.image.bind (·.audit)).map (·.ain)) == some w
def State.isAout (s : State) (w : Nat) : Bool := ((s.vent.image.bind (·.audit)).map (·.aout)) == some w

/-- The reads of the header and the samples of an audit that has its REPLY (R208, R325). -/
def State.auditRead (s : State) (w : Nat) : State :=
  match s.txp.audit.bind (·.reply), s.vent.image, s.win w with
  | some c, some im, some x => s.memRead x.base (64 + Config.sampleBytes im.digest c.scount)
  | _, _, _ => s

/-- WIN_ARRIVE for AINWIN (R325, item 3), once its bytes have been read: `none` where no audit is pending or the header or the digest does
not match. DEDUCED (log entry 86): a poisoned byte matches nothing, here and in the output. -/
def State.auditArrive (s : State) (w : Nat) : Option State :=
  match s.txp.audit, s.vent.image, s.win w with
  | some a, some im, some x =>
    match a.reply, s.chainBefore a.id.step with
    | none, _ => none
    | _, none => none
    | some c, some chain =>
      let h := s.memBytes x.base 64
      let sd := shake256 32 (s.memBytes (x.base + 64) (Config.sampleBytes im.digest c.scount))
      if a.running ∨ leAt h 0 8 ≠ c.id.step ∨ leAt h 8 4 ≠ s.rankAt c.id.step c.id.dev ∨ leAt h 16 8 ≠ c.sfirst ∨ leAt h 24 4 ≠ c.scount
          ∨ (h.drop 32).take 32 ≠ sd ∨ s.mem.rangePz x.base (64 + Config.sampleBytes im.digest c.scount) then none
      else if idigOf im.digest c.id.step (s.txp.epochAt c.id.step) chain (s.rankAt c.id.step c.id.dev) c.sfirst c.scount sd = padTo 32 c.idig then
        some (({ s with txp := { s.txp with audit := some { a with running := true } } } : State).arriveWin w)
      else some ((s.endAudit a.id .mismatch []).post 0x05 (leBytes 1 w))
  | _, _, _ => none

/-- AOUTWIN has passed to the outside (R325, item 5): the output digest over the bytes that its length counts, the arrival, the report. -/
def State.auditFinish (s : State) (w : Nat) : State :=
  match s.txp.audit, s.win w with
  | some a, some x =>
    match a.reply with
    | none => s
    | some c =>
      let s1 := s.memRead x.base 8
      let n := leNat (s1.memBytes x.base 8)
      let u := s1.memRead (x.base + 8) n
      let od := shake256 32 (u.memBytes (x.base + 8) n)
      (u.arriveWin w).endAudit a.id (if od = padTo 32 c.odig ∧ !u.mem.rangePz x.base (8 + n) then .matched else .mismatch) od
  | _, _ => s

/-- Tile t of CONS has released window w; with the last one it passes to the outside (R233): its collectives start (R283), an audit ends
(R325), or WIN_RELEASE is posted (R346). -/
def State.releaseWin (s : State) (w t : Nat) : State :=
  match s.win w with
  | none => s
  | some x =>
    let rel := if x.released.contains t then x.released else x.released ++ [t]
    if (gTiles s.rows x.cons).all rel.contains then
      let s1 := s.setWin w { x with outside := true, xfer := (x.xfer + 1) % 2 ^ 16, issued := [], released := [], handed := [] }
      if x.side1 then (s1.startCollectives w).retryColl
      else if s1.isAout w ∧ (s1.txp.audit.any fun a => a.running) then s1.auditFinish w
      else s1.post 0x05 (leBytes 1 w)
    else s.setWin w { x with released := rel }

end Sys2Proof.Machine
end

