-- ==== Sys2Proof/Machine/Caldera.lean ====
section
/-!
DEFINITION. Barriers through the Caldera tree (R183 to R189), the release and the exchange phase (R22 to R27), the watchdog,
the park (R378).
-/
namespace Sys2Proof.Machine

/-- An error in CAL.ERR; ERRLOC is loaded when CAL.ERR leaves all-zero (R203). -/
def State.calError (s : State) (mismatch : Bool) (gid : Nat) : State :=
  let c := s.cal
  { s with cal := { c with errLoc := if c.errMismatch || c.errUe then c.errLoc else gid,
                           errMismatch := c.errMismatch || mismatch, errUe := c.errUe || !mismatch } }

/-- What child `c` of a node holds out to it: a tile's arrival, or the combined arrival of a lower node. DEDUCED (log entry 73): a tile that an
engine stops after BAR.ARRIVE has executed its arrival (R23), and the barrier completes with it. -/
def State.childArrival (s : State) (c : Nat) : Option (NVal × Bool) :=
  if gLevel c = 0 then
    match (s.tile (gIdx c)).arr with
    | some a => if a.taken then none
        else some (⟨a.xpn, a.level, a.rop, a.val, a.idx, a.pzVal, a.pzIdx, a.at'⟩, a.bad)
    | none => none
  else (s.node c).fwd.map fun v => (v, false)

/-- The node takes the child's arrival from it. -/
def State.takeChild (s : State) (c : Nat) : State :=
  if gLevel c = 0 then
    let x := s.tile (gIdx c)
    s.setTile (gIdx c) { x with arr := x.arr.map fun a => { a with taken := true } }
  else s.setNode c { s.node c with fwd := none }

/-- A node holds the barrier: it does not release, and reports XP_MISMATCH with its GID (R183). -/
def State.holdNode (s : State) (gid : Nat) : State :=
  ((s.setNode gid { s.node gid with held := true }).calError true gid).reportAt gid 0x0302 gid

/-- The park program's barrier completes at the L5 node: it holds the release (R378). -/
def State.park (s : State) (v : NVal) : State :=
  let s1 := { s with cal := { s.cal with parked := some v }, vent := { s.vent with run := { s.vent.run with parked := true } } }
  s1.post 0x02 (s1.endDetail 2)

/-- PARKXPN of the image; 0xFFFF none. -/
def State.parkXpn (s : State) : Nat :=
  match s.vent.image with
  | none => 0xFFFF
  | some im => im.man.parkxpn

/-- Schedules the release of gid after an arrival in cycle `last` (R184, R27). -/
def State.schedRelease (s : State) (gid last : Nat) (v : NVal) : State :=
  let n := s.idleOf gid
  let s1 := s.payIdle gid n
  { s1 with cal := { s1.cal with releases := s1.cal.releases ++ [⟨gid, last + barLatency (gLevel gid) + 2048 * n, n, v⟩] } }

/-- Every child of node gid has arrived: the barrier completes here, or the combined arrival waits for the parent (R183). -/
def State.completeNode (s : State) (gid : Nat) (v : NVal) : State :=
  let s1 := s.setNode gid { s.node gid with got := [], expired := false }
  if v.level = gLevel gid then
    if gid = 0x5000 ∧ s.parkXpn ≠ 0xFFFF ∧ v.xpn = s.parkXpn then s1.park v else s1.schedRelease gid v.at' v
  else s1.setNode gid { s1.node gid with fwd := some v }

/-- A node finds an uncorrectable error in a value that it holds (R188). -/
def State.valueUe (s : State) (gid : Nat) : State :=
  let blk := gOfTile 2 (gHead s.rows gid)
  (s.calError false gid).reportAt blk 0x0202 blk

/-- CALDERA_ARRIVAL: node gid takes the arrival of the child of rank `rank`, with an uncorrectable error in its value where `ue`
(R183, R185, R187, R188). -/
def execCalderaArrival (gid rank : Nat) (ue : Bool) (s : State) : Host.Outcome State Fault Refusal :=
  let kids := gChildren s.rows gid
  if gLevel gid = 0 ∨ !gExists s.rows gid then .next s
  else
    match kids[rank]? with
    | none => .next s
    | some c =>
      match s.childArrival c with
      | none => .next s
      | some (v0, bad) =>
        let err := ue && decide (v0.rop ≠ 0)
        let v := if err then { v0 with pzVal := true, pzIdx := true } else v0
        let n := s.node gid
        let s1 := s.takeChild c
        let s2 := if err then s1.valueUe gid else s1
        let got := insertOn (·.1) (rank, v) n.got
        let s3 := s2.setNode gid { s2.node gid with got := got, firstAt := if n.got.isEmpty then s.cc else n.firstAt }
        let agree := n.got.all fun a => a.2.xpn == v.xpn && a.2.level == v.level && a.2.rop == v.rop
        if n.held then .next s3
        else if bad || !agree then .next (s3.holdNode gid)
        else if got.length < kids.length then .next s3
        else
          match combineChildren (got.map (·.2)) with
          | none => .next s3
          | some r => .next (s3.completeNode gid r)

/-- The release at one tile (R182): rd, and rd + 1 for a pair, receive the result while the core still waits. -/
def Tile.release (v : NVal) (cyc : Nat) (x : Tile) : Tile :=
  match x.arr with
  | none => x
  | some a =>
    if x.sleep ≠ .barrier then x
    else
      let y := (x.setReg a.rd.toNat v.val v.pzVal).setReady a.rd.toNat cyc
      if 6 ≤ v.rop then (y.setReg (a.rd.toNat + 1) v.idx v.pzIdx).setReady (a.rd.toNat + 1) cyc else y

/-- Changes every tile of a group. -/
def State.mapTiles (s : State) (gid : Nat) (f : Tile → Tile) : State :=
  (gTiles s.rows gid).foldl (fun (u : State) t => u.setTile t (f (u.tile t))) s

/-- The device-wide release: CAL.CNT_BAR, MIG.SSTEP and the schedule of the superstep that begins (R203, R220). -/
def State.deviceRelease (s : State) : State :=
  let n := s.mig.sstep + 1
  let s1 := { s with cal := { s.cal with cntBar := sat32 s.cal.cntBar 1 }, mig := { s.mig with sstep := n } }
  s1.fireSchedule n

/-- The device-wide release of the step program is a step boundary: the module's own run enters its next step (R239). -/
def State.stepBoundary (s : State) (xpn : Nat) : State :=
  match s.vent.image with
  | none => s
  | some im =>
    if xpn = im.man.stepxpn then
      { s with txp := { s.txp with stepHere := if s.txp.stepHere = 0 then s.txp.firstHere else s.txp.stepHere + 1 } }
    else s

/-- The release r reaches every tile of its scope, and the exchange phase begins in this cycle, never in an earlier one (R184, R24). -/
def State.release (s : State) (r : Release) : State :=
  let cyc := max r.at' s.cc
  let lx := dirLx ((s.tile (gHead s.rows r.gid)).dirEnt r.v.xpn)
  let s1 := s.mapTiles r.gid (Tile.release r.v cyc)
  let s2 := { s1 with
    cal := { s1.cal with releases := s1.cal.releases.erase r, phases := s1.cal.phases ++ [⟨r.gid, r.v.xpn, cyc, lx, []⟩],
                         idleSs := s1.cal.idleSs + r.idle },
    mem := { s1.mem with stall := Sparse.set 0 s1.mem.stall 6 (Sparse.get 0 s1.mem.stall 6 + r.idle) },
    aon := { s1.aon with paceIdle := s1.aon.paceIdle + r.idle } }
  if r.gid = 0x5000 then s2.deviceRelease.stepBoundary r.v.xpn else s2

/-- BARRIER_RELEASE: the release that is due at gid. -/
def execBarrierRelease (gid : Nat) (s : State) : Host.Outcome State Fault Refusal :=
  match s.cal.releases.find? fun r => r.gid == gid && decide (r.at' ≤ s.cc) with
  | none => .next s
  | some r => .next (s.release r)

/-- The releases that no command of their cycle has made happen in it (R184). -/
def State.releaseCycle (s : State) : State := (s.cal.releases.filter fun r => decide (r.at' ≤ s.cc)).foldl State.release s

/-- Tiles of a group whose TILE.STATUS is not WAIT (R189). -/
def State.notWaiting (s : State) (gid : Nat) : List Nat := (gTiles s.rows gid).filter fun t => (s.tile t).st ≠ .wait

/-- BARRIER_WATCHDOG_EXPIRY (R189): once for a node that has held a first arrival beyond the limit. -/
def execBarrierWatchdogExpiry (gid : Nat) (s : State) : Host.Outcome State Fault Refusal :=
  let n := s.node gid
  if s.cal.wdog = 0 ∨ n.got.isEmpty ∨ n.expired ∨ s.cc ≤ n.firstAt + 65536 * s.cal.wdog then .next s
  else
    let s1 := s.setNode gid { n with expired := true }
    let c := s1.cal
    let s2 := { s1 with cal := { c with wdFired := true, wdGid := if c.wdFired then c.wdGid else gid } }
    .next (s2.post 0x04 (leBytes 2 gid ++ leBytes 2 (s.notWaiting gid).length))

end Sys2Proof.Machine
end

