-- ==== Sys2Proof/Machine/Routes.lean ====
section
/-!
DEFINITION. Placement and routes: virtual and physical blocks, tiles and routers (R149, R369, R370), path variants and native
latencies (R161, R164), the fields of a send entry (Table 7-3).
-/
namespace Sys2Proof.Machine

/-- The physical row of block row `by` when block row `skip` is left unused (R369). -/
def physBlockRow (skip : Option Nat) (by' : Nat) : Nat :=
  match skip with
  | none => by'
  | some r => if by' < r then by' else by' + 1

/-- The virtual block row that physical block row `r` serves. -/
def virtBlockRow (skip : Option Nat) (r : Nat) : Option Nat :=
  match skip with
  | none => some r
  | some k => if r < k then some r else if r = k then none else some (r - 1)

/-- The skipped block row of the present image. -/
def State.skipRow (s : State) : Option Nat :=
  match s.vent.image with
  | none => none
  | some im => im.skip

/-- The physical column and row of the position that serves virtual tile t. -/
def physPos (skip : Option Nat) (t : Nat) : Nat × Nat :=
  (t % 32, 4 * physBlockRow skip (t / 128) + t / 32 % 4)

/-- The physical block and the position in it of virtual tile t. -/
def physBlock (skip : Option Nat) (t : Nat) : Nat × Nat :=
  let p := physPos skip t
  (p.2 / 4 * 8 + p.1 / 4, p.2 % 4 * 4 + p.1 % 4)

/-- A spare serves virtual tile t (R370). -/
def spared (map : RepairMap) (skip : Option Nat) (t : Nat) : Bool :=
  let b := physBlock skip t
  Sparse.get false map.tiles (17 * b.1 + b.2)

/-- The physical tile of virtual tile t: its position, or the block's spare (R370). -/
def physTile (map : RepairMap) (skip : Option Nat) (t : Nat) : Nat :=
  let b := physBlock skip t
  17 * b.1 + (if spared map skip t then 16 else b.2)

/-- The virtual tile at a physical column and row, in a grid of `rows` rows. -/
def virtTile (skip : Option Nat) (rows x y : Nat) : Option Nat :=
  match virtBlockRow skip (y / 4) with
  | some b => if 4 * b + y % 4 < rows ∧ x < 32 then some ((4 * b + y % 4) * 32 + x) else none
  | none => none

/-- The quad router of a physical position. -/
def routerOf (p : Nat × Nat) : Nat × Nat := (p.1 / 2, p.2 / 2)

/-- The location of a physical block in reports: its L2 GID, or 0xF000 + p where it holds no virtual group (Table 15-8). -/
def State.blockLoc (s : State) (p : Nat) : Nat :=
  match s.vent.image with
  | none => 0xF000 + p
  | some im =>
    match virtBlockRow im.skip (p / 8) with
    | some b => if 4 * b < im.man.rows then gidOf 2 (b * 8 + p % 8) else 0xF000 + p
    | none => 0xF000 + p

/-- The Caldera node that takes reports from a physical block: its L2 node, or the device node. -/
def State.blockNode (s : State) (p : Nat) : Nat := (let g := s.blockLoc p; if g < 0xF000 then g else 0x5000)

/-- The positions that the hops along one axis end at, from a to b; `ex` allows express hops of two quads (Table 7-9). -/
def axisHops (ex : Bool) : Nat → Nat → Nat → List (Bool × Nat)
  | 0, _, _ => []
  | k + 1, a, b =>
    if a = b then []
    else
      let d := if a < b then b - a else a - b
      let st := if ex ∧ 2 ≤ d then 2 else 1
      let n := if a < b then a + st else a - st
      (decide (st = 2), n) :: axisHops ex k n b

/-- The hops of path variant v between two routers: whether express, and the router that the hop ends at (R164). -/
def routeHops (v : Nat) (a b : Nat × Nat) : List (Bool × Nat × Nat) :=
  let ex := decide (v < 2)
  let xs (y : Nat) := (axisHops ex 24 a.1 b.1).map fun h => (h.1, h.2, y)
  let ys (x : Nat) := (axisHops ex 24 a.2 b.2).map fun h => (h.1, x, h.2)
  if v % 2 = 0 then xs a.2 ++ ys b.1 else ys a.1 ++ xs b.2

/-- The native latency of a route (R161): hops, spare ends, and the stepping (1 A1, 2 B0). -/
def nativeLat (stepping spares : Nat) (hops : List (Bool × Nat × Nat)) : Nat :=
  let e := (hops.filter (·.1)).length
  4 + 2 * (hops.length - e) + 3 * e + 2 * spares + (if 0 < e ∧ stepping = 2 then 1 else 0)

/-- The contracted latency of a class (Table 7-5). -/
def classLat : Nat → Nat
  | 0 => 6
  | 1 => 12
  | 2 => 24
  | 3 => 44
  | _ => 72

/-- The class of a route between virtual tiles (R160): the lowest level that holds both, less one. -/
def routeClass (a b : Nat) : Nat := ((List.range 4).find? fun k => gOfTile (k + 1) a == gOfTile (k + 1) b).getD 4

/-- The fields of a send entry (Table 7-3). -/
def seT (e : Nat) : Nat := fld e 127 112
def seN (e : Nat) : Nat := fld e 111 104 + 1
def seTrk (e : Nat) : Nat := fld e 103 102
def seSh (e : Nat) : Nat := fld e 101 96
def seSoff (e : Nat) : Nat := fld e 95 81
def seSpad (e : Nat) : Nat := fld e 80 74
def seLpad (e : Nat) : Nat := fld e 73 67
def seCls (e : Nat) : Nat := fld e 66 64
def seDh (e : Nat) : Nat := fld e 63 58
def seDoff (e : Nat) : Nat := fld e 57 43
def seDqx (e : Nat) : Nat := fld e 42 39
def seDqy (e : Nat) : Nat := fld e 38 34
def seDt (e : Nat) : Nat := fld e 33 32
def seRoute (e : Nat) : Nat := fld e 31 30

/-- The virtual destination that a physical send entry names. -/
def seDst (skip : Option Nat) (rows e : Nat) : Option Nat :=
  virtTile skip rows (2 * seDqx e + seDt e % 2) (2 * seDqy e + seDt e / 2)

end Sys2Proof.Machine
end

