-- ==== Sys2Proof/Machine/Exchange.lean ====
section
/-!
DEFINITION. The packets of an exchange phase (R155 to R168): the send read, the injection, the routers, the landing.
-/
namespace Sys2Proof.Machine

/-- The phase in progress whose scope holds tile t. -/
def State.phaseOf (s : State) (t : Nat) : Option Phase := s.cal.phases.find? fun p => gOfTile (gLevel p.gid) t == p.gid

/-- The input by which a hop from router a to router b enters b (Table 7-15); row 0 is the northern one (log entry 72). -/
def inLink (ex : Bool) (a b : Nat × Nat) : Nat :=
  (if a.2 < b.2 then 0 else if b.1 < a.1 then 1 else if b.2 < a.2 then 2 else 3) + (if ex then 4 else 0)

/-- The routers of a path that a packet passes, from router a at cycle c on: an ordinary hop takes 2 cycles, an express hop 3, the first of
them after the retiming `x` (R155, R161). -/
def hopsFrom : Nat → Nat → Nat × Nat → Nat → List (Bool × Nat × Nat) → List Hop
  | c, _, a, inp, [] => [⟨a.1, a.2, inp, c⟩]
  | c, x, a, inp, h :: l =>
    ⟨a.1, a.2, inp, c⟩ :: hopsFrom ((if h.1 then c + x + 3 else c + 2)) (if h.1 then 0 else x) h.2 (inLink h.1 a h.2) l

/-- The spare of its block serves the tile. -/
def Tile.spare (x : Tile) : Bool := x.phys % 17 == 16

/-- The packet j of send entry `e` that tile t sends in a phase (R155, R167): a send read returns what the words hold. -/
def State.makePacket (s : State) (t e j : Nat) (p : Phase) (dst : Nat) : Packet :=
  let x := s.tile t
  let a := 64 * hBase (x.hndOf (seSh e)) + 16 * (seSoff e + j)
  let src := routerOf (physPos s.skipRow t)
  let r := p.start + seT e + j
  { id := s.mesh.pktNo, src := t, dst := dst, addr := 64 * hBase ((s.tile dst).hndOf (seDh e)) + 16 * (seDoff e + j),
    r := r, c := classLat (seCls e), spad := seSpad e, lpad := seLpad e, trk := seTrk e, st := .sendBuf,
    path := hopsFrom (r + 2 + seSpad e + (if x.spare then 2 else 0)) (if s.vent.stepping = 2 then 1 else 0) src
      (if x.spare then 8 else 9) (routeHops (seRoute e) src (seDqx e, seDqy e)),
    prev := none, w0 := BitVec.ofNat 64 (leNat (x.bytes a 8)), w1 := BitVec.ofNat 64 (leNat (x.bytes (a + 8) 8)),
    pz0 := x.wordPz (a / 8) || x.taint, pz1 := x.wordPz (a / 8 + 1) || x.taint }

/-- The packets that tile t has still to read in phase p: send entry and number (R155). -/
def State.unsent (s : State) (p : Phase) (t : Nat) : List (Nat × Nat) :=
  let x := s.tile t
  let d := x.dirEnt p.xpn
  ((List.range (dirCount d)).map fun i =>
    let k := dirFirst d + i
    ((List.range (seN (Sparse.get 0 x.xent k))).filter fun j => !p.sent.contains (t, k, j)).map fun j => (k, j)).flatten

/-- Tile t reads packet j of send entry k in phase p, at bank rank 1 (R155, R156). -/
def State.sendRead (p : Phase) (t : Nat) (s : State) (kj : Nat × Nat) : State :=
  let x := s.tile t
  let e := Sparse.get 0 x.xent kj.1
  let a := 64 * hBase (x.hndOf (seSh e)) + 16 * (seSoff e + kj.2)
  let s1 := s.setTile t ((x.touch a 16).ask .arrival [⟨banksOf a 16, false⟩] [])
  let cal := { s1.cal with phases := s1.cal.phases.map fun u =>
    if u.gid = p.gid ∧ u.start = p.start then { u with sent := u.sent ++ [(t, kj.1, kj.2)] } else u }
  match seDst s.skipRow s.rows e with
  | none => { s1 with cal := cal }
  | some dst =>
    { s1 with cal := cal, mesh := { s1.mesh with pkts := s1.mesh.pkts ++ [s1.makePacket t e kj.2 p dst], pktNo := s1.mesh.pktNo + 1 } }

/-- The read of packet (k, j) of tile t in phase p is due (R155). -/
def State.sendDue (s : State) (p : Phase) (t : Nat) (kj : Nat × Nat) : Bool :=
  decide (p.start + seT (Sparse.get 0 (s.tile t).xent kj.1) + kj.2 ≤ s.cc)

/-- PACKET_SEND_READ (R155): packet j of send entry k of tile t, in cycle T + j of the phase. -/
def execPacketSendRead (t k j : Nat) (s : State) : Host.Outcome State Fault Refusal :=
  if 1536 ≤ t then .fault (.noSuchUnit t)
  else
    match s.phaseOf t with
    | none => .next s
    | some p => .next (if (s.unsent p t).contains (k, j) ∧ s.sendDue p t (k, j) then s.sendRead p t (k, j) else s)

/-- Packet `id`. -/
def Mesh.pkt (m : Mesh) (id : Nat) : Option Packet := m.pkts.find? fun p => p.id == id

/-- Replaces packet `id`. -/
def Mesh.setPkt (m : Mesh) (p : Packet) : Mesh := { m with pkts := m.pkts.map fun q => if q.id = p.id then p else q }

/-- Drops packet `id`. -/
def Mesh.drop (m : Mesh) (id : Nat) : Mesh := { m with pkts := m.pkts.filter fun q => q.id != id }

/-- A packet enters its send track at cycle T + j + 1 + SPAD (R155). -/
def Packet.inject (cc : Nat) (p : Packet) : Packet :=
  if p.st = .sendBuf ∧ p.r + 1 + p.spad ≤ cc then { p with st := .onTrack } else p

/-- A router passes the packet in its cycle (R151, R155). -/
def Packet.pass (cc : Nat) (p : Packet) : Packet :=
  match p.path with
  | [] => p
  | h :: rest => if p.st = .onTrack ∧ h.cyc ≤ cc then { p with path := rest, prev := some h } else p

/-- A packet past its last router enters the landing buffer LPAD + 1 cycles before it lands (R155, R157). -/
def Packet.enter (cc : Nat) (p : Packet) : Packet :=
  if p.st = .onTrack ∧ p.path = [] ∧ p.r + p.c ≤ cc + p.lpad + 1 then { p with st := .landingBuf } else p

/-- PACKET_INJECT (R155). -/
def execPacketInject (id : Nat) (s : State) : Host.Outcome State Fault Refusal :=
  match s.mesh.pkt id with
  | none => .next s
  | some p => .next (if (p.inject s.cc).st = p.st then s else { s with mesh := s.mesh.setPkt (p.inject s.cc) })

/-- XCH.ERR and XCH.ERRLOC: `k` is the bit of Table 7-15; the location is loaded when XCH.ERR leaves all-zero. -/
def Mesh.error (m : Mesh) (k loc : Nat) : Mesh :=
  { m with errLoc := if m.errOvf || m.errHdrUe || m.errDataUe then m.errLoc else loc,
           errOvf := m.errOvf || k == 2, errHdrUe := m.errHdrUe || k == 1, errDataUe := m.errDataUe || k == 0 }

/-- The output link that a packet for tile `dst` takes at the first router of `l`, with the cycle of that (R155): the input of the next router
and the cycle in which it passes there, which the hop's kind puts a fixed time later; at the last router the link to its tile. -/
def linkOf (dst : Nat) : List Hop → Option (Hop × Nat)
  | _ :: n :: _ => some (n, 0)
  | [h] => some ({ h with inp := 16 }, dst + 1)
  | [] => none

/-- The router at which the packet takes output link `k`: the one before it, or the one that it has passed last. -/
def Packet.takes (k : Option (Hop × Nat)) (q : Packet) : Option Hop :=
  if q.st ≠ .onTrack ∨ k.isNone then none
  else if linkOf q.dst q.path = k then q.path.head?
  else match q.prev with
    | some g => if linkOf q.dst (g :: q.path) = k then some g else none
    | none => none

/-- The packet that a router with too few tracks drops (Table 7-10), with its pass of the router: of those that take the output link of packet p
in the same cycle, the last in ascending order of input. DESIGN CHOICE (log entry 84): of several that enter by that input, the one read last. -/
def Mesh.lastAt (m : Mesh) (h : Hop) (p : Packet) : Packet × Hop :=
  let here := m.pkts.filterMap fun q => (q.takes (linkOf p.dst p.path)).map fun g => (q, g)
  (sortOn (fun q => q.2.inp) here).getLast?.getD (p, h)

/-- The response of the router at `h` to one error of packet `id` (Table 7-10). A packet that is gone stays gone. -/
def State.routerError (h : Hop) (id : Nat) (s : State) (e : PktErr) : State :=
  let loc (g : Hop) : Nat := at' g.qx 20 + at' g.qy 15 + at' g.inp 11
  let blk := h.qy / 2 * 8 + h.qx / 2
  match s.mesh.pkt id with
  | none => s
  | some p =>
    let m := s.mesh
    match e with
    | .dataCe _ => { s with mesh := { m with cntCe := sat32 m.cntCe 1 } }
    | .dataUe w =>
      let q := if w = 0 then { p with pz0 := true } else { p with pz1 := true }
      let s1 := { s with mesh := Mesh.error { m.setPkt q with cntUe := sat32 m.cntUe 1 } 0 (loc h) }
      s1.reportAt (s1.blockNode blk) 0x0201 (s1.blockLoc blk)
    | .hdrCe => { s with mesh := { m with cntHdrCe := sat32 m.cntHdrCe 1 } }
    | .hdrUe =>
      let s1 := { s with mesh := Mesh.error { m.drop id with cntHdrUe := sat32 m.cntHdrUe 1 } 1 (loc h) }
      s1.reportAt (s1.blockNode blk) 0x0301 (s1.blockLoc blk)
    | .overflow =>
      let q := m.lastAt h p
      let s1 := { s with mesh := Mesh.error { m.drop q.1.id with cntHdrUe := sat32 m.cntHdrUe 1 } 2 (loc q.2) }
      s1.reportAt (s1.blockNode blk) 0x0301 (s1.blockLoc blk)

/-- PACKET_ROUTER_PASS: the next router on its path, which the packet enters by input `link` as Table 7-15 numbers it, passes it in its cycle,
with the errors that it finds (R168). The packet enters by no other port. -/
def execPacketRouterPass (id link : Nat) (errs : List PktErr) (s : State) : Host.Outcome State Fault Refusal :=
  match s.mesh.pkt id with
  | none => .next s
  | some p =>
    match p.path with
    | [] => .next s
    | h :: _ =>
      if p.st ≠ .onTrack ∨ s.cc < h.cyc ∨ link ≠ h.inp then .next s
      else
        let s1 := errs.foldl (State.routerError h id) s
        .next (match s1.mesh.pkt id with
          | none => s1
          | some q => { s1 with mesh := s1.mesh.setPkt (q.pass s.cc) })

/-- A packet lands: the two words are written with their poison, at bank rank 1 (R156, R157, R167). -/
def State.land (s : State) (p : Packet) : State :=
  let x := s.tile p.dst
  let y := (x.write p.addr (leBytes 8 p.w0.toNat) p.pz0).write (p.addr + 8) (leBytes 8 p.w1.toNat) p.pz1
  let s1 := s.setTile p.dst (y.ask .arrival [⟨banksOf p.addr 16, false⟩] [])
  { s1 with mesh := { s1.mesh.drop p.id with cntPkt := (s1.mesh.cntPkt + 1) % 2 ^ 64 } }

/-- The landing of a packet is due, at cycle T + j + C (R155). -/
def Packet.landDue (cc : Nat) (p : Packet) : Bool := decide (p.st = .landingBuf) && decide (p.r + p.c ≤ cc)

/-- PACKET_LANDING (R155, R157). -/
def execPacketLanding (id : Nat) (s : State) : Host.Outcome State Fault Refusal :=
  match s.mesh.pkt id with
  | none => .next s
  | some p => .next (if p.landDue s.cc then s.land p else s)

/-- What the mesh does in a cycle that no command has done in it (R151, R155): nothing runs late. The reads that are due, the send tracks,
the routers, the landing buffers, the landings. -/
def State.meshCycle (s : State) : State :=
  let s1 := s.cal.phases.foldl (fun (u : State) p => (gTiles s.rows p.gid).foldl (fun (v : State) t =>
    ((v.unsent p t).filter (v.sendDue p t)).foldl (State.sendRead p t) v) u) s
  let s2 := { s1 with mesh := { s1.mesh with pkts := s1.mesh.pkts.map fun p => Packet.enter s.cc (Packet.pass s.cc (Packet.inject s.cc p)) } }
  (s2.mesh.pkts.filter (Packet.landDue s.cc)).foldl State.land s2

/-- Every packet of the phase has been read and has landed, or was dropped (R158). -/
def State.phaseDone (s : State) (p : Phase) : Bool :=
  (gTiles s.rows p.gid).all (fun t => (s.unsent p t).isEmpty) &&
    !(s.mesh.pkts.any fun k => gOfTile (gLevel p.gid) k.src == p.gid)

/-- The end of the phase at one tile (R24, R26): its superstep number increments, and a core that waits resumes. -/
def Tile.phaseEnd (cyc : Nat) (x : Tile) : Tile :=
  match x.arr with
  | none => x
  | some _ =>
    let y := { x with arr := none, ssn := x.ssn + 1 }
    if x.sleep = .barrier then { y with st := .run, sleep := .none, pc := x.pc + 4, issueAt := cyc } else y

/-- EXCHANGE_PHASE_END (R24): at release + L_x, by which every packet has landed (R158). -/
def execExchangePhaseEnd (gid : Nat) (s : State) : Host.Outcome State Fault Refusal :=
  match s.cal.phases.find? fun p => p.gid == gid && decide (p.start + p.lx ≤ s.cc) with
  | none => .next s
  | some p =>
    if !s.phaseDone p then .next s
    else
      let s1 := s.mapTiles gid (Tile.phaseEnd (p.start + p.lx))
      .next { s1 with cal := { s1.cal with phases := s1.cal.phases.erase p } }

end Sys2Proof.Machine
end

