-- ==== Sys2Proof/Machine/Feeds.lean ====
section
/-!
DEFINITION. The D-queue (R225 to R233): DNOP, FEED and WREL at the head, the completions; the scrubber (R61); the migration
engine's own steps (R215 to R223) and Basin's retries (R208).
-/
namespace Sys2Proof.Machine

/-- A row on the D-queue head (R57): the header's flag fields; then, with its wait granted or its flag ready, an OPC outside Table
9-6 stops with ENGINE_DESC, and the row's own runs `body`, which is told whether it may start. -/
def Tile.dRow (x : Tile) (opc : Nat) (body : Tile → QEnt → Nat → Bool → Tile) : Tile :=
  match x.qd with
  | [] => x
  | e :: _ =>
    let w := e.word.toNat
    let go := eWflag w == 0x3F || e.granted
    if !flagOk (eWflag w) || !flagOk (eSflag w) then x.stopAt cSFRANGE e.pchi
    else if !go && !x.grantable (eWflag w) then x
    else if eOpc w ≠ 0x01 ∧ eOpc w ≠ 0x20 ∧ eOpc w ≠ 0x30 then x.stopAt cDESC e.pchi
    else if eOpc w = opc then body x e w go
    else x

/-- The D-queue's head leaves. -/
def Tile.dLeave (x : Tile) : Tile := { x with qd := x.qd.drop 1 }

/-- DNOP (R225). -/
def execDnop (t : Nat) (s : State) : Host.Outcome State Fault Refusal :=
  onTile t s fun x => x.dRow 0x01 fun y e w go =>
    if fld w 43 0 ≠ 0 then y.stopAt cDESC e.pchi
    else if go then y.dLeave.signal (eSflag w)
    else y

/-- The start of the FEED w at the head with descriptor d, once its wait is granted and it overlaps no feed in flight (R227). -/
def Tile.feedStart (x : Tile) (w : Nat) (go : Bool) (d : FeedDesc) : Tile :=
  if !go || !x.feedFree d then { x with fdesc := some d }
  else
    { x.dLeave with fdesc := none, feeds := x.feeds ++ [⟨x.feedNo, d.sid, d.daddr, d.out, d.ts, d.len, eSflag w⟩],
                    feedNo := x.feedNo + 1 }

/-- FEED (R226, R227): the table's checks; the read of the descriptor, once, which taints the tile where it is poisoned; the descriptor's
checks; the start. -/
def Tile.feedBody (x : Tile) (e : QEnt) (w : Nat) (go : Bool) : Tile :=
  match x.fdesc with
  | some d => x.feedStart w go d
  | none =>
    match x.feedTable w with
    | .error c => x.stopAt c e.pchi
    | .ok a =>
      let u := (x.touch a 16).ask .feed [⟨banksOf a 16, false⟩] []
      let y := u.ctrl (u.anyPz a 16)
      match y.feedDesc a with
      | .error c => y.stopAt c e.pchi
      | .ok d => y.feedStart w go d

/-- FEED. -/
def execFeed (t : Nat) (s : State) : Host.Outcome State Fault Refusal := onTile t s fun x => x.dRow 0x20 Tile.feedBody

/-- A frame of a HOME page that feed (t, id) was the last to read is freed (R215). -/
def State.feedGone (s : State) (t id : Nat) : State :=
  let l := (s.mig.linger.map fun e => (e.1, e.2.1, e.2.2.filter fun r => r != (t, id))).filter fun e => !e.2.2.isEmpty
  { s with mig := { s.mig with linger := l } }

/-- The feed is held: by a window of the outside (R231), by a page (Table 9-3), or by a retry (R208). -/
def State.feedHeld (s : State) (f : FeedFly) : Bool :=
  s.winHeld f.daddr f.len || s.pageHeld f.daddr f.len f.out || (!f.out && s.memPending f.daddr f.len)

/-- The bytes of an inbound feed land word by word, each with its poison bit (R227). -/
def Tile.landWords (data : List Byte) (pz : Nat → Bool) (ts : Nat) : Nat → Tile → Tile
  | 0, x => x
  | n + 1, x =>
    let y := Tile.landWords data pz ts n x
    y.write (ts + 8 * n) ((data.drop (8 * n)).take 8) (pz n)

/-- FEED_COMPLETE: feed `id` of tile t has moved its bytes (R228); its SFLAG is signalled. -/
def execFeedComplete (t id : Nat) (s : State) : Host.Outcome State Fault Refusal :=
  if 1536 ≤ t then .fault (.noSuchUnit t)
  else
    match (s.tile t).feeds.find? fun f => f.id == id with
    | none => .next s
    | some f =>
      if s.feedHeld f then .next s
      else
        let x := s.tile t
        let gone (y : Tile) : Tile := ({ y with feeds := y.feeds.filter fun g => g.id != id } : Tile).signal f.sflag
        let s1 := if f.out then
            let y := (x.touch f.ts f.len).ask .feed (runNeeds f.ts f.len 64) []
            let bs := y.seen f.ts f.len
            (s.setTile t (gone y)).memWrite f.daddr bs fun w => y.taint || y.wordPz (f.ts / 8 + (w - f.daddr / 8))
          else
            let s0 := s.memTouch f.daddr f.len
            let bs := s0.memBytes f.daddr f.len
            s0.setTile t (gone (Tile.landWords bs (fun n => s0.mem.wordPz (f.daddr / 8 + n)) f.ts (f.len / 8)
              (x.ask .feed (runNeeds f.ts f.len 64) [])))
        .next (s1.feedGone t id)

/-- WREL: its checks at the head, and its issue (R233). -/
def execWrel (t : Nat) (s : State) : Host.Outcome State Fault Refusal :=
  if 1536 ≤ t then .fault (.noSuchUnit t)
  else
    let x := s.tile t
    let y := x.dRow 0x30 fun z e w go =>
      if !s.wrelOk t w then z.stopAt cDESC e.pchi
      else if go then
        { z.dLeave with wrels := z.wrels ++ [⟨fld w 43 38, eSflag w, z.feeds.map (·.id)⟩] }
      else z
    let s1 := s.afterTile t y
    if x.wrels.length < y.wrels.length then
      match y.wrels.getLast? with
      | none => .next s1
      | some r =>
        match s1.win r.win with
        | none => .next s1
        | some v => .next (s1.setWin r.win { v with issued := v.issued ++ [t] })
    else .next s1

/-- WREL_TAKE_EFFECT: the tile's oldest issued WREL, once every earlier feed has completed (R233). -/
def execWrelTakeEffect (t : Nat) (s : State) : Host.Outcome State Fault Refusal :=
  if 1536 ≤ t then .fault (.noSuchUnit t)
  else
    let x := s.tile t
    match x.wrels with
    | [] => .next s
    | r :: rest =>
      if x.feeds.any fun f => r.after.contains f.id then .next s
      else
        let s1 := s.setTile t (({ x with wrels := rest } : Tile).signal r.sflag)
        .next (s1.releaseWin r.win t)

/-- TILE_STORE_SCRUB: the scrubber reads and corrects one word of the tile store, in a cycle in which no requester claims its bank (R61). -/
def execTileStoreScrub (t word : Nat) (s : State) : Host.Outcome State Fault Refusal :=
  onTile t s fun x => if word < 49152 ∧ !x.claimed (bankOf (8 * word)) then x.checkWord word else x

/-- SCHEDULE_ENTRY_APPLY: up to n pages, at most four, of the fired entries in order (R223). -/
def State.applyPages : Nat → State → State
  | 0, s => s
  | n + 1, s =>
    match s.mig.fired with
    | [] => s
    | (ss, e, done) :: rest =>
      let s1 := s.applyEntry e (e.first + done)
      let l := if done + 1 < e.npages then (ss, e, done + 1) :: rest else rest
      State.applyPages n { s1 with mig := { s1.mig with fired := l } }

/-- SCHEDULE_ENTRY_APPLY: what one Terrace cycle applies (R223). The pin sets that become empty in it tie (R217). -/
def execScheduleEntryApply (n : Nat) (s : State) : Host.Outcome State Fault Refusal :=
  .next (if s.vent.startup.held then s else State.applyPages (min n 4) { s with mig := { s.mig with applyNo := s.mig.applyNo + 1 } })

/-- PROMOTION_COMPLETE: the copy has read every word of the page (R208); the page becomes RESIDENT; then the unpin rule (R218);
the collectives that the page held go on. -/
def execPromotionComplete (page : Nat) (s : State) : Host.Outcome State Fault Refusal :=
  let x := s.page page
  if x.st = .promoting then
    .next (State.retryColl (((s.memRead (65536 * page) 65536).setPage page { x with st := .resident }).unpinRule page))
  else .next s

/-- WRITE_BACK_COMPLETE: the copy has read every word of the frame; the page becomes HOME, its frame is freed, and a queued promotion starts
(R215, R218). -/
def execWriteBackComplete (page : Nat) (s : State) : Host.Outcome State Fault Refusal :=
  let x := s.page page
  if x.st ≠ .evicting then .next s
  else
    let rs := s.readersOf page
    let s1 := if rs.isEmpty then s else { s with mig := { s.mig with linger := s.mig.linger ++ [(x.part, x.frame, rs)] } }
    let s2 := (s1.memRead (65536 * page) 65536).setPage page { x with st := .home, part := 0, frame := 0, emptyAt := 0, queued := none }
    match x.queued with
    | some part => if x.pins.isEmpty then .next s2.retryColl else .next (s2.promoteInto page part).retryColl
    | none => .next s2.retryColl

/-- FRAME_WAIT_GRANT: the oldest promotion on the list takes the lowest free frame of the partition (R217). -/
def execFrameWaitGrant (part : Nat) (s : State) : Host.Outcome State Fault Refusal :=
  match s.waitList part, s.freeFrame part with
  | p :: rest, some f => .next ((s.setWaitList part rest).startPromotion p part f)
  | _, _ => .next s

/-- BASIN_READ_RETRY: the controller rereads word w, in which a read has found an uncorrectable error (R208): up to twice in Basin, once in
Terrace. An error that arose on the read path may be gone (`ok`); a stored one fails every reread. On a word without a recorded error the
error is the read path's own (log entry 75). -/
def execBasinReadRetry (word : Nat) (ok : Bool) (s : State) : Host.Outcome State Fault Refusal :=
  let set (e : Ecc) : State := { s with mem := { s.mem with ecc := Sparse.set Ecc.ok s.mem.ecc word e } }
  let tt := s.inTerrace word
  if s.vent.startup.held then .next s
  else match Sparse.get Ecc.ok s.mem.ecc word with
  | .ok => .next (if ok then s.memBump 0x010 1 else if tt then s.memUe word else set .path1)
  | .ce => .next (if ok then (s.memCheckWord word).memBump 0x010 1 else if tt then s.memUe word else set .path1)
  | .ue => .next (if tt then s.memUe word else set .ue1)
  | .ue1 => .next (s.memUe word)
  | .path => .next (if ok then (set .ok).memBump 0x010 1 else if tt then s.memUe word else set .path1)
  | .path1 => .next (if ok then (set .ok).memBump 0x010 1 else s.memUe word)

/-- START_GATE_SET: once every tile waits on SF44, it is set at every tile in one cycle, and superstep 0's entries fire (R373). -/
def execStartGateSet (s : State) : Host.Outcome State Fault Refusal :=
  let n := s.gridTiles
  if s.vent.run.starting ∧ s.vent.run.gateAt.isNone ∧ 0 < n
      ∧ (List.range n).all (fun t => (s.tile t).st = .wait && (s.tile t).sleep = .flag 44) then
    let s1 := (List.range n).foldl (fun (u : State) t => u.setTile t ((u.tile t).incFlag 44)) s
    .next (State.fireSchedule { s1 with vent := { s1.vent with run := { s1.vent.run with gateAt := some s.cc } } } 0)
  else .next s

end Sys2Proof.Machine
end

