-- ==== Sys2Proof/Machine/Repair.lean ====
section
/-!
DEFINITION. The repair map and the grade (R386 to R389, R408, R417): usable blocks, retirement, the journal's REPAIR and GRADE records.
-/
namespace Sys2Proof.Machine

/-- Physical tiles and blocks of the die (R1). -/
def physTiles : Nat := 1632
def physBlocks : Nat := 96

/-- The entries of the repair map (R386). -/
def RepairMap.tileBad (m : RepairMap) (t : Nat) : Bool := Sparse.get false m.tiles t
def RepairMap.quadMask (m : RepairMap) (t : Nat) : Nat := Sparse.get 0 m.quads t
def RepairMap.routerBad (m : RepairMap) (b : Nat) : Bool := Sparse.get false m.routers b
def RepairMap.portBad (m : RepairMap) (p : Nat) : Bool := Sparse.get false m.ports p

/-- A tile runs at half rate: a quad of one half is retired (R145, R387). -/
def halfRate (mask : Nat) : Bool := mask != 0
/-- Both halves hold a retired quad (R145). -/
def bothHalves (mask : Nat) : Bool := mask % 256 != 0 && mask / 256 != 0

/-- A block is usable (R387). -/
def RepairMap.usable (m : RepairMap) (b : Nat) : Bool :=
  !m.routerBad b && decide (((List.range 17).filter fun i => m.tileBad (17 * b + i)).length ≤ 1)

/-- The block rows that hold an unusable block. -/
def RepairMap.badRows (m : RepairMap) : List Nat :=
  (List.range 12).filter fun r => (List.range 8).any fun c => !m.usable (8 * r + c)

/-- The current grade of a map (R388); none where unusable blocks lie in two or more block rows. -/
def RepairMap.gradeOf (m : RepairMap) (shipped : Nat) : Option Nat :=
  match m.badRows with
  | [] => some shipped
  | [_] => some 1408
  | _ => none

/-- A change of the map: kind 0 a tile, 1 a tile's lane quads, 2 a block's routers, 3 a port; index; status or mask (Table 15-4). -/
abbrev RepairChange := Nat × Nat × Nat

/-- The changes that one change stands for: a tile with retired quads in both halves is FAILED (R387). -/
def RepairMap.expand (m : RepairMap) (c : RepairChange) : List RepairChange :=
  if c.1 = 1 then
    let k := (m.quadMask c.2.1 ||| c.2.2) % 65536
    [(1, c.2.1, k)] ++ (if bothHalves k then [(0, c.2.1, 1)] else [])
  else [(c.1, c.2.1, 1)]

/-- The map already says so. -/
def RepairMap.holds (m : RepairMap) (c : RepairChange) : Bool :=
  match c.1 with
  | 0 => m.tileBad c.2.1
  | 1 => m.quadMask c.2.1 == c.2.2
  | 2 => m.routerBad c.2.1
  | _ => m.portBad c.2.1

/-- The map with a change; nothing ever returns (R386). -/
def RepairMap.apply (m : RepairMap) (c : RepairChange) : RepairMap :=
  match c.1 with
  | 0 => { m with tiles := Sparse.set false m.tiles c.2.1 true }
  | 1 => { m with quads := Sparse.set 0 m.quads c.2.1 c.2.2 }
  | 2 => { m with routers := Sparse.set false m.routers c.2.1 true }
  | _ => { m with ports := Sparse.set false m.ports c.2.1 true }

/-- The payload of a REPAIR or RETIRE_PENDING record (Table 15-4). -/
def repairBytes (c : RepairChange) : List Byte := leBytes 1 c.1 ++ leBytes 2 c.2.1 ++ leBytes 2 c.2.2

/-- One change of the map, journaled as REPAIR where it is one (R388). -/
def State.repairOne (s : State) (c : RepairChange) : State :=
  (s.vent.map.expand c).foldl (fun (u : State) d =>
    if u.vent.map.holds d then u
    else ({ u with vent := { u.vent with map := u.vent.map.apply d } } : State).journal 0x10 (repairBytes d) .nothing) s

/-- M2 over the repair map and the grade (R417). -/
def mapDigest (m : RepairMap) (grade : Nat) : List Byte :=
  shake256 32 (((List.range physTiles).map fun t => leBytes 1 (b2n (m.tileBad t))).flatten
    ++ ((List.range physTiles).map fun t => leBytes 2 (m.quadMask t)).flatten
    ++ ((List.range physBlocks).map fun b => leBytes 1 (b2n (m.routerBad b))).flatten
    ++ ((List.range 12).map fun p => leBytes 1 (b2n (m.portBad p))).flatten ++ leBytes 2 grade)

/-- The current grade of the last GRADE record, journaled or in the batch; the shipped grade where there is none (R388). -/
def State.lastGrade (s : State) : Nat :=
  let j := s.vent.journal
  let l := (j.live.filter fun r => r.typ == 0x11).map (·.payload) ++ (j.batch.filter fun p => p.typ == 0x11).map (·.payload)
  (l.getLast?.map fun p => leAt p 2 2).getD s.vent.shippedGrade

/-- The grade that the map leaves; where it differs from the last one journaled, GRADE is journaled and GRADE_DROP posted (R388, R389). -/
def State.regrade (s : State) : State :=
  match s.vent.map.gradeOf s.vent.shippedGrade with
  | none => s
  | some g0 =>
    let g := min g0 s.vent.grade
    let old := s.lastGrade
    let s1 := { s with vent := { s.vent with grade := g } }
    if g = old then s1
    else (s1.journal 0x11 (leBytes 2 s.vent.shippedGrade ++ leBytes 2 g) .nothing).health 0x0012 (leBytes 2 old ++ leBytes 2 g)

/-- M2 is set anew (R417). -/
def State.measureMap (s : State) : State := { s with sec := { s.sec with m2 := mapDigest s.vent.map s.vent.grade } }

/-- One pending retirement is applied: REPAIR, HEALTH RETIRE (R408). -/
def State.retireOne (s : State) (c : RepairChange) : State :=
  (s.repairOne c).health 0x0011 (leBytes 1 c.1 ++ leBytes 2 c.2.1)

/-- The pending retirements are applied; the module goes Dormant where no placement remains (R408, R389). -/
def State.applyRetirements (s : State) : State :=
  if s.vent.retire.isEmpty then s
  else
    let s1 := s.vent.retire.foldl State.retireOne { s with vent := { s.vent with retire := [] } }
    let s2 := s1.regrade.measureMap
    if (s2.vent.map.gradeOf s2.vent.shippedGrade).isNone then s2.enterDormant 0x0303 else s2

/-- A part is retired, once: RETIRE_PENDING; applied at once in IDLE and LOADED (R408). -/
def State.retirePart (s : State) (c : RepairChange) : State :=
  let s1 := ({ s with vent := { s.vent with retire := s.vent.retire ++ [c] } } : State).journal 0x12 (repairBytes c) .nothing
  if s.vent.retire.contains c || s.vent.map.holds c then s
  else if s1.vent.dev = .idle ∨ s1.vent.dev = .loaded then s1.applyRetirements else s1

/-- A port is FAILED at once (R388, R408): out of service, DISABLED; M2 is set anew (R417). -/
def State.failPort (s : State) (p : Nat) : State :=
  let c : RepairChange := (3, p, 1)
  let s1 := ((s.journal 0x12 (repairBytes c) .nothing).retireOne c).measureMap
  let s2 := if (s1.port p).st = .up then s1.portDown p else s1
  s2.portTo p .disabled

end Sys2Proof.Machine
end

