-- ==== Sys2Proof/Machine/Sessions.lean ====
section
/-!
DEFINITION. Session set-up, keepalive and close (R297 to R301, R420 to R423), and the timers of a session (Table 12-10).
-/
namespace Sys2Proof.Machine

/-- A signature by this module's identity key (R411). -/
def idSign (m : List Byte) : List Byte := leBytes 29792 (Config.signIdentity m).toNat

/-- ANSWER to an OFFER payload (R421): encapsulate, form TH2, sign it. -/
def State.answer (s : State) (p dev : Nat) (payload : List Byte) : State :=
  let n := s.txp.drawNo
  let e := Config.kemEncaps (slice payload 48 1568) n
  let p2 := s.helloHead ++ drawBytes 32 (Config.nonce n).toNat ++ drawBytes 1568 e.2.toNat ++ s.certBytes
  let th2 := shake256 64 (shake256 64 payload ++ p2)
  let all := p2 ++ idSign th2
  let h : Hand := ⟨false, 2, 1, s.now, n, beNat (slice payload 8 4), payload ++ all, all, th2, leBytes 32 e.1.toNat, slice payload (1616 + 16) 64, p⟩
  let s1 := ({ s with txp := { s.txp with drawNo := n + 1 } } : State).setHand dev h
  let s2 := s1.sendHello p dev 2 false all
  if s2.sessUp dev then s2 else s2.sessTo dev .opening

/-- HELLO_OFFER (R299, R300, R422): NOTLISTED, then the certificate, then crossing OFFERs, then the incarnation of Table 12-3. -/
def execHelloOffer (p dev vmaj vmin : Nat) (payload : List Byte) (s : State) : Host.Outcome State Fault Refusal :=
  onPort p s fun u =>
    if u.vent.startup.held then u
    else if vmaj ≠ 1 ∨ 256 ≤ vmin then u.txpBump 3 1
    else if (u.partner dev).isNone then u.rejectHello p dev 0x0F
    else if payload.length ≠ 31536 ∨ beNat (slice payload 0 8) ≠ dev ∨ !certOk (slice payload 1616 29920) dev then u.txpBump 2 1
    else
      let inc := beNat (slice payload 8 4)
      let mine : Bool := match u.hand dev with
        | some h => h.opener && h.phase == 1
        | none => false
      if mine ∧ u.vent.devId < dev then u
      else if inc < u.knownInc dev then u.rejectHello p dev 0x01
      else
        match u.hand dev with
        | some h =>
          if !h.opener ∧ h.msgs.take payload.length = payload then u.sendHello p dev 2 true h.last
          else (u.newLife dev inc).answer p dev payload
        | none => (u.newLife dev inc).answer p dev payload

/-- KC, TH3 and OKM from K and TH2 (R421). -/
def keyConfirm (k th2 : List Byte) : List Byte := shake256 32 (k ++ th2)
def transcript3 (k th2 : List Byte) : List Byte := shake256 64 (th2 ++ keyConfirm k th2)
def sessionKeys (k th2 : List Byte) : List Byte := shake256 72 (k ++ transcript3 k th2)

/-- SESSION: the first 32 bits of SHAKE256 over the three phases (R299). -/
def sessionNumber (phases : List Byte) : Nat := beNat (shake256 4 phases)

/-- HELLO_ANSWER: the opener verifies it, derives the keys, sends CONFIRM, and the session is UP (R421, Table 12-4). A repeated ANSWER
has its CONFIRM sent again. -/
def execHelloAnswer (p dev : Nat) (payload : List Byte) (s : State) : Host.Outcome State Fault Refusal :=
  onPort p s fun u =>
    match u.hand dev with
    | none => u
    | some h =>
      if !h.opener then u
      else if h.phase = 3 then (if h.msgs = payload then u.sendHello p dev 3 true h.last else u)
      else
        let body := payload.take 31536
        let cert := slice payload 1616 29920
        let th2 := shake256 64 (shake256 64 h.last ++ body)
        if payload.length ≠ 61328 ∨ beNat (slice payload 0 8) ≠ dev ∨ !certOk cert dev
            ∨ !Config.verify256 (slice cert 16 64) th2 (payload.drop 31536) then u.txpBump 2 1
        else
          let k := leBytes 32 (Config.kemDecaps h.draw (slice payload 48 1568)).toNat
          let p3 := u.helloHead ++ keyConfirm k th2 ++ idSign (transcript3 k th2)
          let inc := beNat (slice payload 8 4)
          let v := (u.newLife dev inc).sendHello p dev 3 false p3
          let w := v.setHand dev { h with phase := 3, msgs := payload, last := p3, th2 := [], k := [], inc := inc }
          ((w.establish dev inc true (sessionNumber (h.last ++ payload ++ p3)) (sessionKeys k th2) p).closeOld dev).sessionUp dev

/-- HELLO_CONFIRM: the peer verifies KC and the signature, and the session is UP (R421). -/
def execHelloConfirm (p dev : Nat) (payload : List Byte) (s : State) : Host.Outcome State Fault Refusal :=
  onPort p s fun u =>
    match u.hand dev with
    | none => u
    | some h =>
      if h.opener ∨ h.phase ≠ 2 then u
      else if payload.length ≠ 29840 ∨ slice payload 16 32 ≠ keyConfirm h.k h.th2
          ∨ !Config.verify256 h.key (transcript3 h.k h.th2) (payload.drop 48) then u.txpBump 2 1
      else
        (((u.dropHand dev).establish dev h.inc false (sessionNumber (h.msgs ++ payload)) (sessionKeys h.k h.th2) p).closeOld dev).sessionUp dev

/-- HELLO_PING: answered with PONG (R301). -/
def execHelloPing (dev : Nat) (g : Seg) (s : State) : Host.Outcome State Fault Refusal :=
  let r := s.recvSeg dev g
  .next (if r.2 then r.1.send { outMsg dev 0x01 5 0 [] [] with ref := g.seq % 65536 } else r.1)

/-- HELLO_PONG (R301). -/
def execHelloPong (dev : Nat) (g : Seg) (s : State) : Host.Outcome State Fault Refusal := .next (s.recvSeg dev g).1

/-- HELLO_CLOSE: phase 6 closes the session that carries it (R300, Table 12-4). -/
def execHelloClose (dev : Nat) (g : Seg) (s : State) : Host.Outcome State Fault Refusal :=
  let r := s.recvSeg dev g
  if !r.2 then .next r.1
  else if (r.1.sess dev).num = g.session then .next (r.1.sessDown dev .closed)
  else .next { r.1 with txp := { r.1.txp with old := Sparse.del r.1.txp.old dev } }

/-- SEGMENT_AUTH_FAIL: dropped and counted; the sixteenth tag failure within 1 s closes the session and is reported (R297). -/
def execSegmentAuthFail (dev : Nat) (why : AuthFail) (s : State) : Host.Outcome State Fault Refusal :=
  let s1 := s.txpBump 2 1
  let x := s.sess dev
  if s.vent.startup.held then .next s
  else if x.st ≠ .up ∨ why ≠ .badTag then .next s1
  else
    let fl := (x.fails.filter fun c => decide (s.now < c + nsPerSec)) ++ [s.now]
    let s2 := s1.setSess dev { x with fails := fl }
    if fl.length < 16 then .next s2
    else .next ((s2.sessDown dev .closed).reportAt 0x5000 0x0501 dev)

/-- T_HS_EXPIRY: the phase is sent again, at most four times; then CLOSED (R327, Table 12-4). -/
def execTHsExpiry (dev : Nat) (s : State) : Host.Outcome State Fault Refusal :=
  match s.hand dev with
  | none => .next s
  | some h =>
    if 3 ≤ h.phase ∨ s.now < h.at' + 2 * nsPerSec then .next s
    else if h.sends < 5 then .next ((s.setHand dev { h with sends := h.sends + 1, at' := s.now }).sendHello h.port dev h.phase true h.last)
    else
      let s1 := s.dropHand dev
      .next (if s1.sessUp dev then s1 else s1.sessTo dev .closed)

/-- T_PING_EXPIRY: an UP session that has sent nothing for 100 ms sends PING (R301). -/
def execTPingExpiry (dev : Nat) (s : State) : Host.Outcome State Fault Refusal :=
  .next (if s.sessUp dev ∧ (s.sess dev).txAt + 100 * nsPerMs ≤ s.now then s.send (outMsg dev 0x01 4 0 [] []) else s)

/-- T_SESS_EXPIRY: the session goes LOST (R300, R301). -/
def execTSessExpiry (dev : Nat) (s : State) : Host.Outcome State Fault Refusal :=
  .next (if s.sessUp dev ∧ (s.sess dev).since + s.txp.tSessMs * nsPerMs ≤ s.now then (s.sessDown dev .lost).txpBump 1 1 else s)

/-- T_RECON_EXPIRY: an OFFER to a listed peer whose session has been LOST or CLOSED for 1 s (Table 12-10). -/
def execTReconExpiry (dev : Nat) (s : State) : Host.Outcome State Fault Refusal :=
  let st := (s.sess dev).st
  .next (if (st = .lost ∨ st = .closed) ∧ (s.sess dev).stAt + nsPerSec ≤ s.now ∧ (s.partner dev).isSome ∧ !s.handBusy dev then s.offer dev else s)

/-- SESSION_LIFETIME_LIMIT: before a limit a successor session is opened; a session that has reached one ends (R300). -/
def execSessionLifetimeLimit (dev : Nat) (s : State) : Host.Outcome State Fault Refusal :=
  let u := (s.endOld dev).endSpent dev
  .next (if u.sessUp dev ∧ (u.partner dev).isSome ∧ !u.handBusy dev then u.offer dev else u)

/-- SESSION_DOWN_60S: a session has not been UP for 60 s (R301). -/
def execSessionDown60s (dev : Nat) (s : State) : Host.Outcome State Fault Refusal :=
  .next (if s.sessUp dev ∨ s.now < (s.sess dev).since + 60 * nsPerSec then s else s.health 0x0031 (leBytes 8 dev))

end Sys2Proof.Machine
end

