-- ==== Sys2Proof/Machine/Journaling.lean ====
section
/-!
DEFINITION. The journal at work (R392 to R397): the batch, compaction, and the mount at start-up with what it restores.
-/
namespace Sys2Proof.Machine

/-- One record of the batch is committed, and what follows from it happens. -/
def State.commitFull (s : State) (p : PendRec) : State :=
  match s.vent.journal.append p.typ p.payload with
  | none => s
  | some j => (({ s with vent := { s.vent with journal := j } } : State).afterCommit p).afterCommitTxp p

/-- The marks of use: JOURNAL_HIGH once at 95 %, Dormant beyond 99 % (R396). -/
def State.checkUse (s : State) : State :=
  if s.vent.journal.above 99 then s.noteHigh.enterDormant 0x0402 else s.noteHigh

/-- JOURNAL_BATCH_WRITE (R392). -/
def execJournalBatchWrite (s : State) : Host.Outcome State Fault Refusal :=
  let j := s.vent.journal
  if !j.mounted ∨ j.damaged ∨ s.vent.startup.held ∨ j.batch.all j.waits then .next s
  else .next (s.writeBatch State.commitFull).checkUse

/-- The last record of a list that has a key, for each key, in order. -/
def latestBy (key : JRec → Nat) (l : List JRec) : List JRec :=
  l.foldr (fun r acc => if acc.any fun q => key q == key r then acc else r :: acc) []

/-- The last n of a list. -/
def lastN {α : Type} (n : Nat) (l : List α) : List α := l.drop (l.length - n)

/-- A contribution id from its bytes (Table 12-6). -/
def idOf (b : List Byte) : ContribId := ⟨beNat (slice b 0 8), beNat (slice b 8 4), beNat (slice b 12 6), beNat (slice b 18 2)⟩

/-- A CONTRIB payload from its bytes (Table 12-6). -/
def contribOf (b : List Byte) : ContribMsg :=
  ⟨idOf b, beNat (slice b 20 2), beNat (slice b 24 8), beNat (slice b 32 4), slice b 40 32, slice b 72 32⟩

/-- The live records of Table 15-5 among the records from the base on. -/
def State.liveRecords (s : State) : List JRec :=
  let l := s.vent.journal.live
  let of (t : Nat) : List JRec := l.filter fun r => r.typ == t
  let resetSeq := ((lastN 1 (of 0x40)).map (·.seq)).headD 0
  let since (t : Nat) : List JRec := (of t).filter fun r => decide (resetSeq ≤ r.seq)
  let settled := (of 0x43).map fun r => idOf r.payload
  let openStep := s.stepNo
  of 0x13
    ++ latestBy (fun r => leAt r.payload 0 3) (of 0x10)
    ++ lastN 1 (of 0x11)
    ++ latestBy (fun r => leAt r.payload 0 3)
        ((of 0x12).filter fun r => s.vent.retire.any fun c => c.1 == leAt r.payload 0 1 && c.2.1 == leAt r.payload 1 2)
    ++ latestBy (fun r => leAt r.payload 0 1) (of 0x20)
    ++ (latestBy (fun r => leAt r.payload 1 8) (of 0x21)).filter (fun r => leAt r.payload 0 1 == 0)
    ++ lastN 1 (of 0x22) ++ lastN 1 (of 0x40) ++ lastN 1 (of 0x41) ++ lastN 1 (of 0x33)
    ++ (of 0x42).filter (fun r => !settled.contains (idOf r.payload))
    ++ (of 0x44).filter (fun r => decide (openStep ≤ (idOf r.payload).step + 64))
    ++ (of 0x45).filter (fun r => !(s.txp.closes.any fun c => c.step == leAt r.payload 0 6 && c.acked))
    ++ since 0x30 ++ since 0x31 ++ since 0x34
    ++ lastN 256 (of 0x32) ++ lastN 1 (of 0x03) ++ lastN 1 (of 0x04)

/-- Writes records one after another; none where the journal has no room. -/
def Journal.appendAll (j : Journal) : List (Nat × List Byte) → Option Journal
  | [] => some j
  | r :: rs => match j.append r.1 r.2 with
    | none => none
    | some k => Journal.appendAll k rs

/-- Compaction (R394): SNAP_BEGIN, the live records in the order of their SEQ, SNAP_END; then the sectors whose records all lie before
SNAP_BEGIN are OBSOLETE. -/
def Journal.compact (j : Journal) (live : List JRec) : Option Journal :=
  let b := j.nextSeq
  let recs := (0x01, []) :: (sortOn (·.seq) live).map (fun r => (r.typ, r.payload)) ++ [(0x02, leBytes 8 b)]
  match j.appendAll recs with
  | none => none
  | some k =>
    let old (e : Nat × Sector) : Bool := decide (e.1 ≠ k.cur) && e.2.recs.all fun r => decide (r.seq < b)
    some { k with base := b, sectors := k.sectors.map fun e => if old e then (e.1, { e.2 with st := .obsolete }) else e }

/-- An OBSOLETE sector is erased (R394); below 95 % again, JOURNAL_HIGH can be posted anew and the records that waited are written (R396). -/
def Journal.eraseSector (j : Journal) (i : Nat) : Journal :=
  let k := { j with sectors := Sparse.del j.sectors i }
  { k with highPosted := j.highPosted && k.high }

/-- The OBSOLETE sector that is erased next. -/
def Journal.obsolete (j : Journal) : Option Nat := (j.sectors.find? fun e => e.2.st = .obsolete).map (·.1)

/-- JOURNAL_COMPACTION (R394): the next OBSOLETE sector is erased, one at a time; where there is none and use exceeds 75 %, the snapshot is
written. -/
def execJournalCompaction (s : State) : Host.Outcome State Fault Refusal :=
  let j := s.vent.journal
  if !j.mounted ∨ j.damaged ∨ s.vent.startup.held then .next s
  else
    match j.obsolete with
    | some i => .next { s with vent := { s.vent with journal := j.eraseSector i } }
    | none =>
      if !j.above 75 then .next s
      else
        match j.compact s.liveRecords with
        | none => .next s
        | some k => .next ({ s with vent := { s.vent with journal := k } } : State).checkUse

/-- Steps 1 to 4 of the mount (R393): sectors to erase again go; a torn record of the last sector read is discarded, and that sector is
FULL. -/
def Journal.repairLog (j : Journal) : Journal :=
  let kept := j.sectors.filter fun e => e.2.headOk && (decide (e.2.st = .opened) || decide (e.2.st = .full))
  match (sortOn (fun (e : Nat × Sector) => e.2.gen) kept).getLast? with
  | none => { j with sectors := kept }
  | some (i, x) =>
    let good := x.recs.filter (·.committed)
    let y : Sector := if good.length = x.recs.length then x else { x with st := .full, recs := good }
    { j with sectors := Sparse.put kept i y, cur := i }

/-- Step 5 of the mount: the base of the log (R393). -/
def Journal.findBase (j : Journal) : Nat :=
  match (lastN 1 (j.records.filter fun r => r.typ == 0x02)).head? with
  | some r => leAt r.payload 0 8
  | none => (j.records.head?.map (·.seq)).getD 0

/-- The SEQ numbers rise by one. -/
def seqsRun : List Nat → Bool
  | a :: b :: l => b == a + 1 && seqsRun (b :: l)
  | _ => true

/-- The damage of R397. -/
def Journal.isDamaged (j : Journal) : Bool :=
  (j.live.any fun r => r.badCheck.isSome) || !seqsRun (j.live.map (·.seq)) || !(j.live.any fun r => r.typ == 0x13)

/-- A partner-table entry from a PARTNER_ADD request (Table 13-6). -/
def partnerOf (b : List Byte) : Partner := ⟨leAt b 0 8, leAt b 8 2 % 4096, leAt b 10 6, leAt b 16 16⟩

/-- The partner table that the PARTNER records leave. -/
def partnersOf (l : List JRec) : List Partner :=
  l.foldl (fun acc r =>
    let q := partnerOf (r.payload.drop 1)
    let rest := acc.filter fun k => k.dev != q.dev
    if leAt r.payload 0 1 = 0 then rest ++ [q] else rest) []

/-- The ranks whose bit is set in a bitmap of n bits. -/
def ranksOf (b : List Byte) (n : Nat) : List Nat := (List.range n).filter fun r => bitAt (leNat b) r

/-- A CLOSE record from its payload (Table 12-9). -/
def closeRecOf (b : List Byte) : CloseRec :=
  let n := b.length - 44
  ⟨leAt b 0 6, leAt b 6 4, [], ranksOf (slice b 10 n) (8 * n), leAt b (10 + n) 2, b.drop (12 + n), true, false, [], []⟩

/-- What TXP keeps across a reset, from the journal: outbound contributions not settled, the ledger, the closed steps. -/
def Txp.fromJournal (x : Txp) (me : Nat) (l : List JRec) : Txp :=
  let of (t : Nat) : List JRec := l.filter fun r => r.typ == t
  let settled := (of 0x43).map fun r => idOf r.payload
  let outs := ((of 0x42).filter fun r => !settled.contains (idOf r.payload)).map fun r => (⟨contribOf r.payload, 1, 0, none⟩ : OutRec)
  let wms := (of 0x44).map fun r => (⟨contribOf r.payload, leAt r.payload 104 2, me, 0, false, true, false, 0, 0⟩ : WmRec)
  let closes := (of 0x45).map fun r => closeRecOf r.payload
  let last := (lastN 1 (sortOn (fun (c : CloseRec) => c.step) closes)).head?
  let tm := (lastN 1 (of 0x22)).head?
  { x with partners := partnersOf (of 0x21), outs := outs, wms := wms, closes := closes,
           lastClosed := (last.map (·.step)).getD 0, chain := (last.map (·.chain)).getD [],
           tSessMs := (tm.map fun r => leAt r.payload 0 4).getD x.tSessMs,
           tInclMs := (tm.map fun r => leAt r.payload 4 4).getD x.tInclMs,
           tLeadMs := (tm.map fun r => leAt r.payload 8 4).getD x.tLeadMs }

/-- A REPAIR or RETIRE_PENDING record's change. -/
def changeOf (r : JRec) : RepairChange := (leAt r.payload 0 1, leAt r.payload 1 2, leAt r.payload 3 2)

/-- What Vent takes from the journal at the mount: the module's identity, the map, the grade, which never rises (R3), the retirements, TXP's
records. -/
def State.restoreFrom (s : State) (l : List JRec) : State :=
  let of (t : Nat) : List JRec := l.filter fun r => r.typ == t
  let m := ((of 0x13).map (·.payload)).headD []
  let shipped := leAt m 0 2
  let map := (of 0x10).foldl (fun u r => u.apply (changeOf r)) RepairMap.good
  let inc := ((lastN 1 (of 0x40)).map fun r => leAt r.payload 0 4).headD 0 + 1
  { s with vent := { s.vent with shippedGrade := shipped, stepping := leAt m 2 1, devId := leAt m 3 8,
                                 grade := min (((lastN 1 (of 0x11)).map fun r => leAt r.payload 2 2).headD shipped) s.vent.grade,
                                 map := map, incarnation := inc,
                                 retire := ((latestBy (fun r => leAt r.payload 0 3) (of 0x12)).map changeOf).filter fun c => !map.holds c },
           txp := s.txp.fromJournal (leAt m 3 8) l }

/-- A copy of the sealed identity qualifies (R413). -/
def State.identityOk (s : State) : Bool := s.identity.isSome

/-- JOURNAL_MOUNT: step 4 of Table 15-1 (R393, R397, R294, R413). A journal that cannot take the new incarnation is beyond its use (R396): no
port leaves DISABLED. -/
def execJournalMount (s : State) : Host.Outcome State Fault Refusal :=
  let u := s.vent.startup
  if s.vent.dev ≠ .boot ∨ !u.verified ∨ u.held ∨ s.vent.journal.mounted then .next s
  else
    let j0 : Journal := s.vent.journal.repairLog
    let j1 : Journal := { j0 with base := j0.findBase, batch := [], mounted := true, highPosted := false }
    let j2 : Journal := { j1 with nextSeq := ((j1.records.map fun (r : JRec) => r.seq).getLast?.getD 0) + 1 }
    if j2.isDamaged then
      .next (({ s with vent := { s.vent with journal := { j2 with damaged := true } } } : State).enterDormant 0x0401)
    else
      let s1 := ({ s with vent := { s.vent with journal := j2 } } : State).restoreFrom j2.live
      match j2.append 0x40 (leBytes 4 s1.vent.incarnation) with
      | none => .next (s1.noteHigh.enterDormant 0x0402)
      | some k =>
        let s2 := ({ s1 with vent := { s1.vent with journal := k } } : State).checkUse
        if s2.identityOk then .next { s2 with sec := { s2.sec with unsealed := true } } else .next (s2.enterDormant 0x0304)

end Sys2Proof.Machine
end

