-- ==== Sys2Proof/Machine/Startup.lean ====
section
/-!
DEFINITION. Power, reset and start-up (R271, R380 to R385, R388, R413, R428 to R434): the steps of Table 15-1, the reset and power events.
-/
namespace Sys2Proof.Machine

/-- The port configuration word of a PORT_CFG request (Tables 11-12 and 13-6). -/
def portCfgWord (r : List Byte) : Word :=
  w32 (leAt r 1 1 + at' (leAt r 2 1) 8 + at' (leAt r 5 1) 10 + at' (leAt r 6 2) 13 + at' (leAt r 4 1) 25 + at' (leAt r 3 1) 26)

/-- A PORT_CFG request takes effect (R349): the addresses, then CFG, through MODE = 0 where the mode changes. -/
def State.applyPortCfg (s : State) (r : List Byte) : State :=
  let p := leAt r 0 1
  let v := portCfgWord r
  let x := { s.port p with mac := leAt r 14 6, etype := leAt r 8 2, udpp := leAt r 10 2,
                           ipcfg := w32 (at' (leAt r 13 1) 8 + leAt r 12 1), ip6 := leAt r 20 16 }
  let s1 := s.setPort p x
  if fld v.toNat 1 0 = 0 then s1.cfgDisable p v
  else
    let s2 := if x.mode ≠ 0 ∧ x.mode ≠ fld v.toNat 1 0 then s1.cfgDisable p 0 else s1
    s2.cfgEnable p v

/-- FW_COMMIT is checking the image. -/
def State.committing (s : State) : Bool :=
  match s.host.bg with
  | some b => b.code == 0x0603
  | none => false

/-- The module as a reset finds it: the always-on domain, the JTAG TAP, the sideband address, the flash, the current grade (which never rises,
R3) and the counts of the model go on; all else is at its reset value (R380, R390, R436). An image that FW_COMMIT was checking is incomplete
(R433); THERM_ALERT_N and SYNC_OUT are inactive while the module is held (R428, R431, R434), and THROTTLE_N is sampled anew from step 1 on
(R433). -/
def State.restarted (s : State) (held : Bool) : State :=
  { State.reset with
    pending := s.pending
    cc := s.cc
    free := s.free
    txp := { Txp.reset with drawNo := s.txp.drawNo }
    aon := { s.aon with thermAlert := !held && (s.aon.thermAlert || s.aon.pace == 4), resetLow := s.aon.resetLow && held,
                        syncOutUntil := if held then 0 else s.aon.syncOutUntil,
                        throttle := { s.aon.throttle with active := false, stuck := false, last := none } }
    jtag := { s.jtag with driving := false }
    side := s.side
    vent := { Vent.reset with
      devId := s.vent.devId
      shippedGrade := s.vent.shippedGrade
      grade := s.vent.grade
      stepping := s.vent.stepping
      journal := { s.vent.journal with batch := [], mounted := false, damaged := false, highPosted := false }
      flash := { s.vent.flash with stale := s.vent.flash.stale || s.committing }
      startup := { Startup.reset with held := held } } }

/-- MODULE_RESET: PWR_OK has risen and RESET_N is deasserted (R380, R431). -/
def execModuleReset (s : State) : Host.Outcome State Fault Refusal :=
  .next (if s.aon.power ∧ s.aon.pwrOk then s.restarted false else s)

/-- RESET_N_ASSERT (R431). -/
def execResetNAssert (s : State) : Host.Outcome State Fault Refusal :=
  .next (if s.aon.power then ({ s with aon := { s.aon with resetLow := true } } : State).restarted true else s)

/-- PWR_OK falls: every domain but the always-on domain stops and is held in reset (R430). -/
def State.powerFail (s : State) : State := ({ s with aon := { s.aon with pwrOk := false } } : State).restarted true

/-- A voltage reading outside ±5 % of nominal; the 48 V input, monitor 23, outside 40 V to 60 V (R399). -/
def voltBad (i mv : Nat) : Bool :=
  if i = 23 then decide (mv < 40000) || decide (60000 < mv)
  else decide (100 * mv < 95 * Config.nominalMv i) || decide (105 * Config.nominalMv i < 100 * mv)

/-- A voltage outside ±10 % of nominal, or the 48 V input outside its band (R399). -/
def voltWide (i mv : Nat) : Bool :=
  if i = 23 then voltBad i mv
  else decide (100 * mv < 90 * Config.nominalMv i) || decide (110 * Config.nominalMv i < 100 * mv)

/-- Every rail is within its limits by the monitors' latest readings. DESIGN CHOICE (log entry 91): the limits are those of the error RAIL. -/
def Aon.railsOk (a : Aon) : Bool := a.volts.all fun e => e.1 == 23 || !voltWide e.1 e.2

/-- INPUT_RISE_39V: the rails sequence, and PWR_OK rises where every rail is within limits (R430). -/
def execInputRise39v (s : State) : Host.Outcome State Fault Refusal :=
  .next (if s.aon.power ∧ !s.aon.pwrOk then { s with aon := { s.aon with pwrOk := s.aon.railsOk, inputOn := true } } else s)

/-- INPUT_FALL_38V (R430). -/
def execInputFall38v (s : State) : Host.Outcome State Fault Refusal :=
  let s1 := { s with aon := { s.aon with inputOn := false } }
  .next (if s.aon.pwrOk then s1.powerFail else s1)

/-- RAIL_OUT_OF_LIMITS (R430). -/
def execRailOutOfLimits (s : State) : Host.Outcome State Fault Refusal := .next (if s.aon.pwrOk then s.powerFail else s)

/-- The helper data that the fuzzy extractor takes: the first copy's (R413; log entry 24). -/
def Flash.helper (f : Flash) : List Byte := (f.ident.head?.map (·.helper)).getD []

/-- ALWAYS_ON_POWER_LOSS: the input falls below 34 V (R271, R413, R428). The carrier's levels at RESET_N, PERST_N and TRST_N are its own. -/
def execAlwaysOnPowerLoss (s : State) : Host.Outcome State Fault Refusal :=
  let s1 := s.restarted true
  .next { s1 with aon := { Aon.reset with power := false, pwrOk := false, inputOn := false, ks := none, resetLow := s.aon.resetLow,
                                          perstLow := s.aon.perstLow },
                  jtag := { Jtag.reset with trst := s.jtag.trst }, side := { s1.side with sensors := [] } }

/-- AON_POWER_UP: the counter starts at zero, TIMEVALID is 0, the PUF is read (R271, R413). -/
def execAonPowerUp (puf : List Byte) (s : State) : Host.Outcome State Fault Refusal :=
  .next (if s.aon.power then s
    else
      let s1 := s.restarted true
      { s1 with aon := { Aon.reset with pwrOk := false, inputOn := false, ks := some (Config.fuzzyExtract puf s.vent.flash.helper),
                                        resetLow := s.aon.resetLow, perstLow := s.aon.perstLow },
                jtag := { Jtag.reset with trst := s.jtag.trst } })

/-- The boot ROM starts no Vent: its recovery monitor serves, in Dormant (R385). -/
def State.noVent (s : State) (cause : Nat) : State :=
  ({ s with vent := { s.vent with startup := { s.vent.startup with recovery := true } } } : State).enterDormant cause

/-- PLL_LOCK: step 1 of Table 15-1 and the first read of step 2; a PLL that fails to lock ends start-up, and so does a flash that does not
answer, of which M0 covers nothing (Table 15-13). -/
def execPllLock (r : PllEnd) (s : State) : Host.Outcome State Fault Refusal :=
  let u := s.vent.startup
  let s1 := { s with vent := { s.vent with startup := { u with plls := true } } }
  if s.vent.dev ≠ .boot ∨ u.held ∨ u.plls then .next s
  else
    match r with
    | .locked => .next s1
    | .locksNoFlash => .next (s1.noVent 0x0102)
    | .fails => .next (s.enterDormant 0x0202)

/-- n bytes of the flash's image region from offset o; an erased byte reads 0xFF (R390). -/
def Flash.read (f : Flash) (o n : Nat) : List Byte := Sparse.getRun 0xFF f.fw o n

/-- Programs bytes into the image region: a bit only falls from 1 to 0 (R390). -/
def Flash.program (f : Flash) (o : Nat) (bs : List Byte) : Flash :=
  { f with fw := Sparse.setRun 0xFF f.fw o (List.zipWith (· &&& ·) (f.read o bs.length) bs) }

/-- The sectors that hold n bytes from offset o are erased, and what they hold outside those bytes is written back (R390). -/
def Flash.erase (f : Flash) (o n : Nat) : Flash := { f with fw := f.fw.filter fun e => decide (e.1 < o) || decide (o + n ≤ e.1) }

/-- Writes bytes into the image region: where a bit would have to rise, the sectors are erased first (R350, R390; log entry 82). -/
def Flash.write (f : Flash) (o : Nat) (bs : List Byte) : Flash :=
  if (List.zipWith (· &&& ·) (f.read o bs.length) bs) = bs then f.program o bs else (f.erase o bs.length).program o bs

/-- The bytes of the image in flash: those its header counts, or the whole region of 16 MiB where it counts more (R390, R415). -/
def Flash.length (f : Flash) : Nat :=
  let n := 64 + leNat (f.read 8 4) + 29792
  if n ≤ 0x1000000 then n else 0x1000000

/-- The check of R415, over an image of n bytes. -/
def Flash.verifies (f : Flash) (n : Nat) : Bool :=
  let h := f.read 0 64
  let blen := leAt h 8 4
  decide (n ≤ 0x1000000) && decide (64 + blen + 29792 = n) && h.take 4 == [0x56, 0x45, 0x4E, 0x54] && leAt h 4 4 == 1
    && (h.drop 16).all (· == 0) && Config.verify256 Config.firmwareKey (f.read 0 (64 + blen)) (f.read (64 + blen) 29792)

/-- The boot ROM accepts the image: the check of R415, on an image that FW_COMMIT has verified since it was last written to (R350, R385). -/
def Flash.boots (f : Flash) : Bool := !f.stale && f.verifies f.length

/-- The image region reads blank (Table 15-13). -/
def Flash.blank (f : Flash) : Bool := f.fw.all fun e => e.2 == 0xFF

/-- The debug authorities' keys of the image that runs (R411, R424). -/
def Flash.authKeys (f : Flash) : List (Option (List Byte)) :=
  (List.range 4).map (Config.debugKey (f.read 64 (leNat (f.read 8 4))))

/-- FIRMWARE_VERIFY: steps 2 and 3 of Table 15-1 (R381, R385, R415); M0 covers the image as read (R417). -/
def execFirmwareVerify (s : State) : Host.Outcome State Fault Refusal :=
  let u := s.vent.startup
  let f := s.vent.flash
  if s.vent.dev ≠ .boot ∨ u.held ∨ !u.plls ∨ u.verified ∨ u.recovery then .next s
  else
    let s1 := { s with sec := { s.sec with m0 := shake256 32 (f.read 0 f.length) } }
    if f.boots then
      .next { s1 with vent := { s1.vent with startup := { u with verified := true }, version := leNat (f.read 12 4), authKeys := f.authKeys } }
    else .next (s1.noVent (if f.blank then 0x0102 else 0x0101))

/-- The cause that a self-test's FAIL leaves (Table 15-13). -/
def testCause (r : SelfTest) : Nat :=
  if r.mgmt then 0x0304
  else match r.part with
    | .terrace => 0x0301
    | .basin => 0x0302
    | _ => 0x0303

/-- SELF_TEST_COMPLETE: a part of step 5 (R381). -/
def execSelfTestComplete (r : SelfTest) (s : State) : Host.Outcome State Fault Refusal :=
  let u := s.vent.startup
  if s.vent.dev ≠ .boot ∨ u.held ∨ !u.verified then .next s
  else
    let s1 := { s with vent := { s.vent with startup := { u with tests := u.tests.filter (fun q => q.part ≠ r.part) ++ [r] } } }
    .next (if r.hard || r.mgmt then s1.enterDormant (testCause r) else s1)

/-- The five self-tests have all ended. -/
def Startup.testsDone (u : Startup) : Bool :=
  [TestPart.tiles, .fabric, .terrace, .basin, .serdes].all fun p => u.tests.any fun r => r.part = p

/-- The changes of the map that a self-test's failures make (R388). -/
def testChanges (r : SelfTest) : List RepairChange :=
  r.tiles.map (fun t => (0, t, 1)) ++ r.quads.map (fun q => (1, q.1, q.2)) ++ r.routers.map (fun b => (2, b, 1))
    ++ r.ports.map fun p => (3, p, 1)

/-- The outcome byte of each self-test in the READY record: 0 PASS, 1 REPAIRED. -/
def Startup.outcomes (u : Startup) : List Byte :=
  ([TestPart.tiles, .fabric, .terrace, .basin, .serdes].map fun p =>
    leBytes 1 (b2n (u.tests.any fun r => r.part = p && !(testChanges r).isEmpty))).flatten

/-- Steps 6 and 7: READY (R388, Table 15-1). -/
def State.ready (s : State) : State :=
  let s1 := s.journal 0x04 (s.vent.startup.outcomes ++ leBytes 2 s.vent.grade) .nothing
  let s2 := { s1 with vent := { s1.vent with dev := .idle }, host := { s1.host with memActive := true } }
  let cfgs := latestBy (fun r => leAt r.payload 0 1) (s2.vent.journal.live.filter fun r => r.typ == 0x20)
  cfgs.foldl (fun (u : State) r => u.applyPortCfg r.payload) s2

/-- REPAIR_MAP_MERGE (R388, R399, R389). -/
def execRepairMapMerge (s : State) : Host.Outcome State Fault Refusal :=
  let u := s.vent.startup
  if s.vent.dev ≠ .boot ∨ u.held ∨ !s.vent.journal.mounted ∨ !u.testsDone then .next s
  else
    let s1 := ((u.tests.map testChanges).flatten).foldl State.repairOne s
    let s2 := s1.vent.retire.foldl State.retireOne { s1 with vent := { s1.vent with retire := [] } }
    let s3 := s2.regrade.measureMap
    if (s3.vent.map.gradeOf s3.vent.shippedGrade).isNone then .next (s3.enterDormant 0x0303)
    else if s3.aon.volts.any (fun e => voltBad e.1 e.2) then .next (s3.enterDormant 0x0201)
    else .next s3.ready

/-- SYNC_OUT_PULSE: at a whole second, within ±10 ns, for 10 µs (R434). -/
def execSyncOutPulse (s : State) : Host.Outcome State Fault Refusal :=
  let a := s.aon
  let ready := a.power && !s.vent.startup.held && (s.vent.startup.plls || decide (s.vent.dev ≠ .boot))
  .next (if ready && (decide (a.ptp.ns ≤ 10) || decide (999999990 ≤ a.ptp.ns)) then { s with aon := { a with syncOutUntil := s.cc + 18000 } }
    else s)

end Sys2Proof.Machine
end

