-- ==== Sys2Proof/Machine/Errors.lean ====
section
/-!
DEFINITION. Error reports and the error ledger (R404 to R408): summaries at the Caldera nodes, entries, escalation, containment.
-/
namespace Sys2Proof.Machine

/-- The domain of an error code (Table 15-9): 1 tile, 2 block, 3 device, 4 port, 5 session. -/
def codeDomain (c : Nat) : Nat := c / 256

/-- The codes of Table 15-9, and those of the hardware class. -/
def knownCodes : List Nat :=
  [0x0101, 0x0102, 0x0103, 0x0104, 0x0105, 0x0106, 0x0107, 0x0201, 0x0202, 0x0301, 0x0302, 0x0303, 0x0304, 0x0305, 0x0401, 0x0501]
def hardwareClass (c : Nat) : Bool :=
  [0x0102, 0x0103, 0x0107, 0x0201, 0x0202, 0x0301, 0x0303, 0x0304, 0x0305, 0x0401, 0x0501].contains c

/-- The node that takes a report of a source: the tile's L1 group, the block's L2 group, the device node. -/
def State.reportNode (s : State) (code src : Nat) : Nat :=
  match codeDomain code with
  | 1 => gOfTile 1 src
  | 2 => if gLevel src = 2 ∧ gExists s.rows src then src else 0x5000
  | _ => 0x5000

/-- The entry that is ACTIVE (R405). -/
def Ledger.active (l : Ledger) : Option Nat := (List.range 16).find? fun i => (l.entry i).state = 2

/-- Vent itself has faulted: the foreground command in progress completes with INTERNAL (Table 13-5; log entry 87). -/
def State.ventFault (s : State) : State :=
  if s.vent.run.starting then s.endStart stINTERNAL
  else if s.host.asked.isSome then s.complete stINTERNAL []
  else s

/-- Vent's handler itself faults on the entry that is ACTIVE (R405): the module goes Dormant. -/
def State.handlerFault (s : State) : State :=
  if s.vent.ledger.active.isSome then s.ventFault.enterDormant 0x0502 else s

/-- ERROR_REPORT (R404). A tile's report leaves its wire; TILE_LOGIC and the reports of other units arrive from the unit itself, MIG_DIRUE
with MIG.ERR.DIRUE. -/
def execErrorReport (r : ErrEv) (src : Nat) (s : State) : Host.Outcome State Fault Refusal :=
  match r with
  | .handlerFault => .next s.handlerFault
  | .code code =>
    if codeDomain code = 1 ∧ 1536 ≤ src then .fault (.noSuchUnit src)
    else if codeDomain code = 4 ∧ 12 ≤ src then .fault (.noSuchUnit src)
    else if !knownCodes.contains code ∨ s.vent.startup.held then .next s
    else
      let wire := codeDomain code == 1 && code != 0x0107
      if wire ∧ !(s.tile src).reports.contains code then .next s
      else
        let s1 := if wire then s.setTile src { s.tile src with reports := (s.tile src).reports.erase code } else s
        let s2 := if code = 0x0303 then { s1 with mig := { s1.mig with errDirUe := true } } else s1
        .next (s2.reportAt (s2.reportNode code src) code src)

/-- A node's pending summary of a code. -/
def State.summary (s : State) (g code : Nat) : Summary := Sparse.get (⟨0, 0, 0⟩ : Summary) (s.node g).sums code

/-- The rank of the child of node g in which a source lies; the sources of no child come last. -/
def State.childRank (s : State) (g src : Nat) : Nat :=
  let l := gChildren s.rows g
  ((List.range l.length).find? fun i => gWithin src (l.getD i 0)).getD l.length

/-- A forwarded summary reaches the parent in cycle c: it adds to the pending one, or opens it; of several that arrive in one cycle the
child of lowest rank is the first source (R404). -/
def State.takeSummary (s : State) (g code c : Nat) (v : Summary) : State :=
  let n := s.node g
  let u := s.summary g code
  let w : Summary :=
    if u.count = 0 then { v with at' := c }
    else
      { u with count := min (u.count + v.count) (2 ^ 32 - 1),
               src := if u.at' = c ∧ s.childRank g v.src < s.childRank g u.src then v.src else u.src }
  s.setNode g { n with sums := Sparse.put n.sums code w }

/-- SUMMARY_FORWARD: 8 cc after it opened, to the parent in 4 cc, or from the device node into Vent's queue of 64 (R404). -/
def execSummaryForward (gid code : Nat) (s : State) : Host.Outcome State Fault Refusal :=
  let v := s.summary gid code
  if v.count = 0 ∨ s.cc < v.at' + 8 then .next s
  else if gid = 0x5000 ∧ 64 ≤ s.cal.ventQ.length then .next s
  else
    let n := s.node gid
    let s1 := s.setNode gid { n with sums := Sparse.del n.sums code }
    if gid = 0x5000 then .next { s1 with cal := { s1.cal with ventQ := s1.cal.ventQ ++ [(code, v)] } }
    else .next { s1 with cal := { s1.cal with sumFly := s1.cal.sumFly ++ [(s.cc + 4, gParent gid, code, v)] } }

/-- The summaries that arrive at their parents by this cycle (R404). -/
def State.sumCycle (s : State) : State :=
  (s.cal.sumFly.filter fun e => decide (e.1 ≤ s.cc)).foldl (fun (u : State) e => u.takeSummary e.2.1 e.2.2.1 e.1 e.2.2.2)
    { s with cal := { s.cal with sumFly := s.cal.sumFly.filter fun e => decide (s.cc < e.1) } }

/-- An entry of the ledger counts as earlier for escalation: a hardware error that is OPEN, ACTIVE, or CLOSED less than 1 s ago (R407). -/
def LEntry.recent (e : LEntry) (cc : Nat) : Bool :=
  hardwareClass e.code && (e.state == 1 || e.state == 2 || (e.state == 3 && decide (cc < e.at' + ccPerSec)))

/-- Two entries name the same domain instance (R407). -/
def LEntry.sameInstance (a b : LEntry) : Bool := a.domain == b.domain && a.loc == b.loc && (a.domain != 5 || a.detail == b.detail)

/-- The slot that a new entry takes: a free one, or the oldest CLOSED one (R405). -/
def Ledger.slot (l : Ledger) : Option Nat :=
  match (List.range 16).find? fun i => (l.entry i).state = 0 with
  | some i => some i
  | none => (sortOn (fun i => (l.entry i).order) ((List.range 16).filter fun i => (l.entry i).state = 3)).head?

/-- The tiles of a group are halted by items 1 to 4 of R47 (R406); the image may end. -/
def State.haltGroup (s : State) (g : Nat) : State := (s.mapTiles g Tile.halt).checkEnd

/-- The virtual tile whose group or block a location names; the physical block. -/
def State.physBlock (s : State) (loc : Nat) : Nat :=
  if 0xF000 ≤ loc then loc - 0xF000 else (s.tile (gHead s.rows loc)).phys / 17

/-- The source of an escalation is retired (R408). -/
def State.retireSource (s : State) (e : LEntry) : State :=
  if e.domain = 1 ∧ (e.code = 0x0102 ∨ e.code = 0x0103 ∨ e.code = 0x0107) then s.retirePart (0, (s.tile e.loc).phys, 1)
  else if e.domain = 2 ∧ (e.code = 0x0201 ∨ e.code = 0x0202) then s.retirePart (2, s.physBlock e.loc, 1)
  else if e.domain = 4 ∧ e.code = 0x0401 then s.failPort e.loc
  else s

/-- An action that stops or halts is recorded only while an image runs (R406). -/
def State.actionNow (s : State) (a : Nat) : Nat := if 2 ≤ a ∧ a ≤ 4 ∧ s.vent.dev ≠ .running then 0 else a

/-- The entry one level up, at the instance that contains the source (R407, Table 15-10), and its containment's ACTION; a port that fails is
recorded as port failed (R406; log entry 88). -/
def State.upLevel (s : State) (e : LEntry) : LEntry :=
  match e.domain with
  | 1 => { e with domain := 2, loc := gOfTile 2 e.loc, esc := true, action := s.actionNow 3, detail := [] }
  | 5 => { e with domain := 4, loc := (s.sess (leNat e.detail)).port, esc := true, action := 5, detail := [] }
  | 4 => { e with domain := 3, loc := 0x5000, esc := true, action := if e.code = 0x0401 then 7 else s.actionNow 4, detail := [] }
  | _ => { e with domain := 3, loc := 0x5000, esc := true, action := s.actionNow 4, detail := [] }

/-- The escalated containment, taken at once (R406, R407). -/
def State.containEscalated (s : State) (e : LEntry) : State :=
  match e.domain with
  | 2 => if s.vent.dev = .running then s.haltGroup e.loc else s
  | 4 => s.flap e.loc 0
  | _ => s.haltImage 3

/-- An entry enters the ledger as OPEN and is tested for escalation, level by level (R405, R407); beyond the device the module goes
Dormant. -/
def State.enterLedger : Nat → State → LEntry → State
  | 0, s, _ => s
  | n + 1, s, e =>
    match s.vent.ledger.slot with
    | none => s.enterDormant 0x0501
    | some i =>
      let l := s.vent.ledger
      let up := hardwareClass e.code && l.entries.any fun k => k.2.recent s.cc && k.2.sameInstance e
      let e1 := { e with state := 1, order := l.orderNo, time := s.aon.ptp, at' := s.cc,
                         action := if up && e.domain == 3 then 8 else e.action }
      let s1 := { s with vent := { s.vent with ledger := { (l.put i e1) with orderNo := l.orderNo + 1 } } }
      let s2 := if e.esc then s1.containEscalated e1 else s1
      if !up then s2
      else if e.domain = 3 then s2.enterDormant 0x0503
      else
        let s3 := s2.retireSource e1
        State.enterLedger n s3 (s3.upLevel e1)

/-- The DETAIL of an entry (Table 15-8). -/
def State.errDetail (s : State) (code src : Nat) : List Byte :=
  match codeDomain code with
  | 1 =>
    let x := s.tile src
    padTo 8 (leBytes 2 x.phys ++ leBytes 4 (at' x.errPc.toNat 8 + x.errCode.toNat))
  | 5 => leBytes 8 src
  | _ => []

/-- LEDGER_ENTRY_CREATE: the oldest summary of Vent's queue (R405, R407). -/
def execLedgerEntryCreate (s : State) : Host.Outcome State Fault Refusal :=
  match s.cal.ventQ with
  | [] => .next s
  | (code, v) :: rest =>
    if s.vent.startup.held ∨ !s.vent.startup.verified then .next s
    else
      let loc := match codeDomain code with
        | 3 => 0x5000
        | 5 => 0
        | _ => v.src
      let e : LEntry := { LEntry.free with code := code, domain := codeDomain code, loc := loc, count := v.count,
                                           detail := s.errDetail code v.src }
      .next (State.enterLedger 4 { s with cal := { s.cal with ventQ := rest } } e)

/-- The first containment's ACTION (Table 15-9). -/
def firstAction (code : Nat) : Nat :=
  match codeDomain code with
  | 1 => if code = 0x0102 then 1 else if code = 0x0101 ∨ code = 0x0103 ∨ code = 0x0107 then 2 else 0
  | 2 => 1
  | 3 => 4
  | 4 => 5
  | _ => 6

/-- The first containment of an entry that did not come by escalation (R406); a TILE_LOGIC entry retires its tile (R408). -/
def State.containFirst (s : State) (e : LEntry) : State :=
  match firstAction e.code with
  | 2 =>
    if e.code = 0x0107 then
      let s1 := if s.vent.dev = .running then (s.setTile e.loc (s.tile e.loc).halt).checkEnd else s
      s1.retirePart (0, (s.tile e.loc).phys, 1)
    else s
  | 4 => s.haltImage 3
  | 5 => s.flap e.loc 0
  | 6 => s.sessDown (leNat e.detail) .closed
  | _ => s

/-- The oldest OPEN entry (R405). -/
def Ledger.oldestOpen (l : Ledger) : Option Nat :=
  (sortOn (fun i => (l.entry i).order) ((List.range 16).filter fun i => (l.entry i).state = 1)).head?

/-- LEDGER_ENTRY_HANDLE (R405, R406): containment, HEALTH ERROR, the ERROR record, which closes the entry when it is committed. -/
def execLedgerEntryHandle (s : State) : Host.Outcome State Fault Refusal :=
  let l := s.vent.ledger
  if l.active.isSome ∨ s.vent.startup.held then .next s
  else
    match l.oldestOpen with
    | none => .next s
    | some i =>
      let e := l.entry i
      let a := if e.esc || e.action == 8 then e.action else s.actionNow (firstAction e.code)
      let e1 := { e with state := 2, action := a, at' := s.cc }
      let s1 := { s with vent := { s.vent with ledger := l.put i e1 } }
      let s2 := if e.esc then s1 else s1.containFirst e1
      let s3 := s2.health 0x0010 (leBytes 1 i ++ leBytes 2 e.code ++ leBytes 1 e.domain ++ leBytes 1 a)
      .next (s3.journal 0x32 e1.bytes (.closeEntry i))

/-- HANDLER_TIMEOUT: an entry has been ACTIVE for 50 ms (R405). -/
def execHandlerTimeout (s : State) : Host.Outcome State Fault Refusal :=
  match s.vent.ledger.active with
  | none => .next s
  | some i => .next (if (s.vent.ledger.entry i).at' + 50 * ccPerMs ≤ s.cc then s.enterDormant 0x0502 else s)

end Sys2Proof.Machine
end

