-- ==== Sys2Proof/Machine/Monitors.lean ====
section
/-!
DEFINITION. The monitors, thermal pacing, the external inputs, the IEEE 1588 counter's lock, and Vent's periodic duties (R271, R335, R338,
R354, R398 to R403).
-/
namespace Sys2Proof.Machine

/-- Temperature sensors by index: 0 to 39 logic die, 40 to 47 Terrace, 48 to 63 LPDDR5X (Table 15-6); readings in 1/256 °C. -/
def isLpddr (i : Nat) : Bool := decide (48 ≤ i)

/-- The threshold of pacing level p for sensor i, and its trip (Table 15-7). -/
def paceThr (i p : Nat) : Int := 256 * ((if isLpddr i then 82 else 92) + 3 * (p : Int))
def tripThr (i : Nat) : Int := 256 * (if isLpddr i then 100 else 110)

/-- A reading outside −40 °C to 150 °C (R398). -/
def tempOut (v : Int) : Bool := decide (v < -10240) || decide (38400 < v)

/-- Posts SENSOR_FAIL for a sensor that is excluded now (R398). -/
def State.excludeSensor (s : State) (i : Nat) : State :=
  if s.aon.excluded.contains i then s
  else ({ s with aon := { s.aon with excluded := s.aon.excluded ++ [i] } } : State).health 0x0042 (leBytes 1 0 ++ leBytes 1 i)

/-- One temperature sample: the time of the last change counts only while the module is RUNNING; a sensor at its trip has the cycle from which
it has stood there. -/
def State.sampleTemp (s : State) (e : Nat × Int) : State :=
  let a := s.aon
  let same : Bool := a.temps.any fun p => p.1 == e.1 && p.2 == e.2
  let at0 := if same && decide (s.vent.dev = .running) then Sparse.get s.cc a.tempAt e.1 else s.cc
  let hot := if tripThr e.1 ≤ e.2 then Sparse.put a.tripAt e.1 (Sparse.get s.cc a.tripAt e.1) else Sparse.del a.tripAt e.1
  let s1 := { s with aon := { a with temps := Sparse.put a.temps e.1 e.2, tempAt := Sparse.put a.tempAt e.1 at0, tripAt := hot } }
  if tempOut e.2 || decide (at0 + 10 * ccPerSec ≤ s.cc) then s1.excludeSensor e.1 else s1

/-- MONITOR_SAMPLE (R398). -/
def execMonitorSample (temps : List Int) (volts oscs : List Nat) (s : State) : Host.Outcome State Fault Refusal :=
  if !s.aon.power then .next s
  else
    let s1 := ((List.range 64).zip temps).foldl State.sampleTemp s
    let put (n : Nat) (m : Sparse Nat) (l : List Nat) : Sparse Nat := ((List.range n).zip l).foldl (fun u e => Sparse.put u e.1 e.2) m
    .next { s1 with aon := { s1.aon with volts := put 24 s1.aon.volts volts, oscs := put 32 s1.aon.oscs oscs } }

/-- The readings of the sensors that count. -/
def Aon.included (a : Aon) : List (Nat × Int) := a.temps.filter fun e => !a.excluded.contains e.1

/-- THROTTLE_N counts as asserted (R403). -/
def Aon.throttled (a : Aon) : Bool := a.throttle.active || a.throttle.masked || a.throttle.stuck

/-- More than four logic-die sensors are excluded (R398). -/
def Aon.blind (a : Aon) : Bool := decide (4 < (a.excluded.filter fun i => decide (i < 40)).length)

/-- The highest level that a reading meets. -/
def levelOf (e : Nat × Int) : Nat := ((List.range 5).filter fun p => p = 0 || decide (paceThr e.1 p ≤ e.2)).foldl max 0

/-- The level that readings and inputs ask for. -/
def Aon.wanted (a : Aon) : Nat := if a.throttled || a.blind then 4 else (a.included.map levelOf).foldl max 0

/-- The sensor that asks for the level; where none does, a free value stands for it (log entry 9). -/
def State.paceOn (s : State) (p : Nat) : State :=
  match s.aon.included.find? fun e => levelOf e == p with
  | some e => s.health 0x0001 (leBytes 1 p ++ leBytes 1 e.1 ++ leBytes 2 (e.2 % 65536).toNat)
  | none => State.health { s with free := s.free + 1 } 0x0001 (leBytes 1 p ++ leBytes 3 (Config.freeValue s.free))

/-- A change of the pacing level, with its events and THERM_ALERT_N (R401). -/
def State.paceTo (s : State) (p : Nat) : State :=
  let old := s.aon.pace
  let s1 := s.setPace p
  let s2 := { s1 with aon := { s1.aon with thermAlert := p == 4, paceBelow := none } }
  if old = 0 ∧ p ≠ 0 then ({ s2 with aon := { s2.aon with paceIdle := 0 } } : State).paceOn p
  else if old ≠ 0 ∧ p = 0 then
    State.health { s2 with aon := { s2.aon with paceIdle := 0 } } 0x0002 (leBytes 8 s2.aon.paceIdle)
  else s2

/-- PACING_LEVEL_UPDATE (R401). -/
def execPacingLevelUpdate (s : State) : Host.Outcome State Fault Refusal :=
  let a := s.aon
  let p := a.pace
  if !a.power ∨ s.vent.startup.held then .next s
  else if p < a.wanted then .next (s.paceTo a.wanted)
  else if p = 0 then .next s
  else if a.included.any (fun e => decide (paceThr e.1 p - 768 < e.2)) then .next { s with aon := { a with paceBelow := none } }
  else
    match a.paceBelow with
    | none => .next { s with aon := { a with paceBelow := some s.cc } }
    | some c => .next (if c + 100 * ccPerMs ≤ s.cc ∧ !a.throttled ∧ !a.blind then s.paceTo (p - 1) else s)

/-- A sensor that counts has stood at its trip for 10 ms (R401). -/
def State.tripped (s : State) (sensor : Nat) : Bool :=
  (s.aon.included.any fun e => e.1 == sensor && decide (tripThr sensor ≤ e.2))
    && s.aon.tripAt.any fun e => e.1 == sensor && decide (e.2 + 10 * ccPerMs ≤ s.cc)

/-- THERMAL_TRIP (R401). -/
def execThermalTrip (sensor : Nat) (s : State) : Host.Outcome State Fault Refusal :=
  if 64 ≤ sensor then .fault (.noSuchUnit sensor)
  else if !s.tripped sensor ∨ s.vent.startup.held then .next s
  else
    let s1 := s.haltImage 1
    .next (({ s1 with aon := { s1.aon with thermAlert := true } } : State).enterDormant 0x0601)

/-- VOLTAGE_EXCURSION (R399). -/
def execVoltageExcursion (monitor mv : Nat) (wide : Bool) (s : State) : Host.Outcome State Fault Refusal :=
  if 24 ≤ monitor then .fault (.noSuchUnit monitor)
  else if s.vent.startup.held then .next s
  else if wide then .next (if voltWide monitor mv then s.reportAt 0x5000 0x0305 0x5000 else s)
  else .next (if voltBad monitor mv then s.health 0x0043 (leBytes 1 monitor ++ leBytes 4 mv) else s)

/-- The baseline of oscillator i in the MANUFACTURE record (Table 15-4). -/
def State.baseline (s : State) (i : Nat) : Nat :=
  ((s.vent.journal.live.find? fun r => r.typ == 0x13).map fun r => leAt r.payload (11 + 2 * i) 2).getD 0

/-- The frequency of oscillator i at manufacture at the present temperature: its baseline and the shift that the temperature makes (R400). -/
def State.oscWas (s : State) (shifts : List Int) (i : Nat) : Nat := ((s.baseline i : Int) + shifts.getD i 0).toNat

/-- MARGIN for an oscillator that has fallen by more than 8 %, once in a power session (R400). -/
def State.checkOsc (shifts : List Int) (s : State) (e : Nat × Nat) : State :=
  let was := s.oscWas shifts e.1
  if 100 * e.2 < 92 * was ∧ !s.aon.oscSeen.contains e.1 then
    ({ s with aon := { s.aon with oscSeen := s.aon.oscSeen ++ [e.1] } } : State).health 0x0041
      (leBytes 1 e.1 ++ leBytes 2 (1000 * (was - e.2) / was))
  else s

/-- Vent, or the recovery monitor, runs (R385). -/
def State.ventRuns (s : State) : Bool := !s.vent.startup.held && (s.vent.startup.verified || s.vent.startup.recovery)

/-- RING_OSCILLATOR_CHECK: the oscillators' latest readings beside their baselines, which a mounted journal holds (R400); the operand is the
shift of each baseline to the present temperature, which no chapter gives (log entry 53). -/
def execRingOscillatorCheck (shifts : List Int) (s : State) : Host.Outcome State Fault Refusal :=
  .next (if s.ventRuns && s.vent.journal.mounted then s.aon.oscs.foldl (State.checkOsc shifts) s else s)

/-- The hottest included sensor from lo to hi, in 1/256 °C; 0 before the first sample. -/
def Aon.hottest (a : Aon) (lo hi : Nat) : Int :=
  match (a.included.filter fun e => decide (lo ≤ e.1) && decide (e.1 ≤ hi)).map (·.2) with
  | [] => 0
  | v :: l => l.foldl max v

/-- Ledger entries in use. -/
def Ledger.used (l : Ledger) : Nat := (l.entries.filter fun e => decide (e.2.state ≠ 0)).length

/-- PLDM_SENSOR_UPDATE (R354): current and power have no monitor in any chapter: free values (log entry 9). -/
def execPldmSensorUpdate (s : State) : Host.Outcome State Fault Refusal :=
  let a := s.aon
  let v := Sparse.get 0 a.volts 23
  let readings : List Int := [a.hottest 0 39 / 256, a.hottest 40 47 / 256, a.hottest 48 63 / 256, (v / 1000 : Nat),
    (Config.freeValue s.free : Nat), (Config.freeValue (s.free + 1) : Nat), (s.vent.dev.code : Nat),
    if a.pace = 0 then 0 else 1, (s.vent.ledger.used : Nat)]
  .next (if !a.power then s
    else { s with free := s.free + 2, side := { s.side with sensors := ((List.range 9).map (· + 1)).zip readings } })

/-- An accepted SYNC_IN edge: it aligns the counter to the nearest second 1 s ± 1 ms after the previous edge (R403). -/
def State.syncEdge (s : State) (last : Option Nat) : State :=
  match last with
  | some c =>
    let d := s.cc - c
    if ccPerSec ≤ d + ccPerMs ∧ d ≤ ccPerSec + ccPerMs then
      let t := s.aon.ptp
      { s with aon := { s.aon with ptp := ⟨(t.sec + (if 500000000 ≤ t.ns then 1 else 0)) % 2 ^ 48, 0, 0⟩ } }
    else s.health 0x0006 (leBytes 8 (d * 5 / 9))
  | none => State.health { s with free := s.free + 1 } 0x0006 (leBytes 8 (Config.freeValue s.free))

/-- An accepted edge at one input: the edges of the last 10 ms, chatter, the level (R403). -/
def InSt.edge (x : InSt) (level : Bool) (cc : Nat) : InSt :=
  let es := (x.edges.filter fun c => decide (cc < c + 10 * ccPerMs)) ++ [cc]
  { x with active := level, edges := es, masked := x.masked || decide (16 < es.length), stuck := x.stuck && level,
           last := if level then some cc else x.last }

/-- The number of an input in its events. -/
def inputNo : ExtInput → Nat
  | .syncIn => 0
  | .throttleN => 1

/-- An input is not sampled: THROTTLE_N while the module is held in reset (R433). -/
def State.unsampled (s : State) (i : ExtInput) : Bool := !s.aon.power || (s.vent.startup.held && decide (i = .throttleN))

/-- An accepted THROTTLE_N raises p to 4 (R401). -/
def State.throttleEdge (s : State) : State := if s.aon.throttled ∧ s.aon.pace < 4 then s.paceTo 4 else s

/-- INPUT_EDGE_ACCEPT: `level` is the accepted level, active or not (R403). -/
def execInputEdgeAccept (i : ExtInput) (level : Bool) (s : State) : Host.Outcome State Fault Refusal :=
  let x := match i with
    | .syncIn => s.aon.syncIn
    | .throttleN => s.aon.throttle
  if s.unsampled i ∨ x.active = level then .next s
  else
    let y := x.edge level s.cc
    let s1 := match i with
      | .syncIn => { s with aon := { s.aon with syncIn := y } }
      | .throttleN => { s with aon := { s.aon with throttle := y } }
    let s2 := if y.masked && !x.masked then s1.health 0x0004 (leBytes 1 (inputNo i)) else s1
    .next (match i with
      | .syncIn => if level && !y.masked then s2.syncEdge x.last else s2
      | .throttleN => s2.throttleEdge)

/-- INPUT_STUCK (R403). -/
def execInputStuck (i : ExtInput) (s : State) : Host.Outcome State Fault Refusal :=
  let x := match i with
    | .syncIn => s.aon.syncIn
    | .throttleN => s.aon.throttle
  let long : Bool := match x.last with
    | some c => decide (c + ccPerSec < s.cc)
    | none => false
  if s.unsampled i ∨ !x.active ∨ x.stuck ∨ !long then .next s
  else
    let y := { x with stuck := true }
    let s1 := match i with
      | .syncIn => { s with aon := { s.aon with syncIn := y } }
      | .throttleN => { s with aon := { s.aon with throttle := y } }
    .next (s1.health 0x0005 (leBytes 1 (inputNo i)))

/-- IEEE_1588_LOCK: the counter takes the master's time; TIMEVALID is set (R270, R271). -/
def execIeee1588Lock (p sec ns : Nat) (s : State) : Host.Outcome State Fault Refusal :=
  onPort p s fun u =>
    if (u.port p).st ≠ .up then u
    else { u with aon := { u.aon with ptp := ⟨sec % 2 ^ 48, ns % 2 ^ 32, 0⟩, timeValid := true } }

/-- HEARTBEAT_TICK (R338). -/
def execHeartbeatTick (s : State) : Host.Outcome State Fault Refusal :=
  .next (if s.ventRuns then { s with host := { s.host with hbeat := s.host.hbeat + 1 } } else s)

/-- WIN_REFUSED_EVENT: at most one a millisecond (R335). -/
def execWinRefusedEvent (s : State) : Host.Outcome State Fault Refusal :=
  let h := s.host
  if h.refused = 0 ∨ (h.refusedAt ≠ 0 ∧ s.cc + 1 < h.refusedAt + ccPerMs) then .next s
  else
    let s1 := s.post 0x06 (leBytes 1 h.refusedWin ++ [0] ++ leBytes 4 h.refused)
    .next { s1 with host := { s1.host with refused := 0, refusedAt := s.cc + 1 } }

end Sys2Proof.Machine
end

