-- ==== Sys2Proof/Machine/Regs.lean ====
section
/-!
DEFINITION. The registers that only Vent or the host reaches (Tables 7-13 to 7-15, 8-13, 9-12, 9-13, 11-11 to 11-14, 13-2, 13-3): what
they hold, the reads that change state, the writes by access code (R12), and the counter shadows (R345).
-/
namespace Sys2Proof.Machine

/-- A word read by the management path or the host. -/
def State.answerWord (s : State) (v : Word) : State := { s with out := ⟨leBytes 4 v.toNat, false⟩ }

/-- The XCH block (Tables 7-13 to 7-15). -/
def State.xchPeek (s : State) (off : Nat) : Word :=
  let m := s.mesh
  match off with
  | 0x000 => 1
  | 0x004 => w32 (at' s.vent.stepping 20 + at' 4 16 + at' 2 12 + at' 3 8 + at' 2 4 + (s.vent.stepping - 1))
  | 0x008 => w32 (b2n m.errDataUe + at' (b2n m.errHdrUe) 1 + at' (b2n m.errOvf) 2)
  | 0x00C => w32 m.errLoc
  | 0x010 => w32 m.cntPkt
  | 0x014 => m.pktHold.getD (w32 (m.cntPkt / 2 ^ 32))
  | 0x018 => m.cntCe
  | 0x01C => m.cntUe
  | 0x020 => m.cntHdrCe
  | 0x024 => m.cntHdrUe
  | _ => 0

/-- The CAL block (Table 8-13). -/
def State.calPeek (s : State) (off : Nat) : Word :=
  let c := s.cal
  match off with
  | 0x000 => w32 c.wdog
  | 0x004 => w32 (c.wdGid + at' (b2n c.wdFired) 31)
  | 0x008 => w32 (b2n c.errUe + at' (b2n c.errMismatch) 1)
  | 0x00C => w32 c.errLoc
  | 0x010 => c.cntBar
  | _ => 0

/-- PageSt as MIG.PSTATE shows it (Table 9-13). -/
def PageSt.code : PageSt → Nat
  | .home => 0
  | .promoting => 1
  | .resident => 2
  | .dirty => 3
  | .evicting => 4

/-- The MIG block (Tables 9-12 and 9-13). -/
def State.migPeek (s : State) (off : Nat) : Word :=
  let m := s.mig
  let x := s.page m.pquery
  match off with
  | 0x000 => w32 (b2n m.sched.isSome + at' (b2n (m.waits.any fun e => !e.2.isEmpty)) 1)
  | 0x008 => w32 m.sstep
  | 0x00C => m.sstepHold.getD (w32 (m.sstep / 2 ^ 32))
  | 0x010 => w32 m.pquery
  | 0x014 =>
    let home := decide (x.st = .home)
    w32 (at' x.st.code 29 + at' (b2n x.keep) 28 + at' (b2n x.evpend) 27 + at' x.pins.length 23
      + (if home then 0 else at' x.part 16 + x.frame))
  | 0x018 => w32 s.freeFrames
  | 0x01C => w32 (b2n m.errDirUe + at' (b2n m.errPin) 1 + at' (b2n m.errBacklog) 2)
  | _ => if off % 4 = 0 ∧ 0x020 ≤ off ∧ off ≤ 0x034 then Sparse.get 0 m.cnt off else 0

/-- MEM.WIN[w] (Table 9-13). -/
def State.winWord (s : State) (w : Nat) : Word :=
  match s.win w with
  | none => 0
  | some x => w32 (at' (b2n x.outside) 31 + at' 1 30 + x.xfer)

/-- The MEM block (Tables 9-12 and 9-13). -/
def State.memPeek (s : State) (off : Nat) : Word :=
  let c := (off - 0x100) / 8
  if off % 4 ≠ 0 then 0
  else if off ≤ 0x014 then Sparse.get 0 s.mem.cnt off
  else if 0x108 ≤ off ∧ off < 0x140 then
    let v := Sparse.get 0 s.mem.stall c
    if off % 8 = 0 then w32 v else (Sparse.get none s.mem.stallHold c).getD (w32 (v / 2 ^ 32))
  else if 0x200 ≤ off ∧ off < 0x300 then s.winWord ((off - 0x200) / 4)
  else 0

/-- The flaps of the last 60 s (R272). -/
def Port.recentFlaps (x : Port) (cc : Nat) : Nat := (x.flaps.filter fun f => decide (cc < f.1 + 60 * ccPerSec)).length

/-- PORTn.STAT (Table 11-12). -/
def Port.stat (x : Port) (cc : Nat) : Word :=
  w32 (x.st.code + at' (min 4 (x.recentFlaps cc)) 5 + at' x.laneUp 8 + at' x.heldLane 12 + at' (b2n x.rej) 31)

/-- A requester in PORTn.ARB: its bit in PEND, and its number in HOLDER less one (Table 11-12). -/
def arbNo : Requester → Nat
  | .plume => 0
  | .msg => 1
  | .win => 2
  | .coll => 3
  | .mgmt => 4

/-- PORTn.ARB (Table 11-12). -/
def Port.arb (x : Port) : Word :=
  let pend := ([Requester.plume, .msg, .win, .coll, .mgmt].map fun r => at' (b2n (x.pend.any fun g => g.r = r)) (11 + arbNo r)).sum
  match x.holder with
  | none => w32 pend
  | some g => w32 (pend + at' (b2n g.x.lock) 7 + at' (g.att % 16) 3 + arbNo g.r + 1)

/-- Word i of the oldest entry of PORTn.TSQ, low word first; zero when the queue is empty (Table 11-13). -/
def Port.tsqWord (x : Port) (i : Nat) : Word :=
  match x.tsq with
  | [] => 0
  | e :: _ =>
    w32 ((e.tag % 2 ^ 16 + at' e.kind 28 + at' (b2n e.sent) 30 + at' 1 31 + at' (e.time.frac % 2 ^ 16) 32 + at' e.time.ns 48
      + at' e.time.sec 80) / 2 ^ (32 * i))

/-- Port p's registers (Table 11-11). -/
def State.portPeek (s : State) (p off : Nat) : Word :=
  let x := s.port p
  match off with
  | 0x00 => x.cfg
  | 0x04 => x.stat s.cc
  | 0x08 => w32 x.mac
  | 0x0C => w32 (x.mac / 2 ^ 32 % 2 ^ 16)
  | 0x10 => w32 x.etype
  | 0x14 => w32 x.udpp
  | 0x18 => x.ipcfg
  | 0x20 => w32 (x.ip6 / 2 ^ 96)
  | 0x24 => w32 (x.ip6 / 2 ^ 64)
  | 0x28 => w32 (x.ip6 / 2 ^ 32)
  | 0x2C => w32 x.ip6
  | 0x30 => x.arb
  | _ => if off % 4 = 0 ∧ 0x60 ≤ off ∧ off ≤ 0x84 then Sparse.get 0 x.cnt off else 0

/-- A collective waits on a contribution: a block of this owner is unreleased, and a contribution that it needs, of every member until the
inclusion record is fixed, has not landed whole (R287, R288). -/
def State.collWaits (s : State) (d : CollDecl) (r : CollRun) : Bool :=
  let need := (s.needed d r).getD (List.range r.members.length)
  d.reduces && (List.range (r.blocks d)).any fun b => !(r.released.any fun p => p.1 == b) && need.any fun k => !r.hasBlock d k b

/-- PCOLL.STAT: collectives that wait on a contribution, and collectives started and not complete (Table 11-14). -/
def State.pcollStat (s : State) : Word :=
  let act := s.coll.runs.filter fun e => !(e.2.srcDone && e.2.dstDone)
  let waits := act.filter fun e => match s.coll.decls.find? fun d => d.1 == e.1 with
    | some d => s.collWaits d.2 e.2
    | none => false
  w32 (min act.length 255 + at' (min waits.length 255) 8)

/-- The PCOLL block (Table 11-14). -/
def State.pcollPeek (s : State) (off : Nat) : Word :=
  if off = 0 then s.pcollStat else if off = 4 ∨ off = 8 ∨ off = 12 then Sparse.get 0 s.coll.cnt off else 0

/-- A word of an area of BAR0. -/
def areaWord (a : Sparse Byte) (o : Nat) : Word := w32 (leNat (Sparse.getRun 0 a o 4))

/-- A vector's MSI-X entry, word i (R352; log entry 15). -/
def MsixVec.word (v : MsixVec) : Nat → Word
  | 0 => w32 v.addr
  | 1 => w32 (v.addr / 2 ^ 32)
  | 2 => w32 v.data
  | _ => w32 (b2n v.masked)

/-- BAR0 (Tables 13-2 and 13-3); the EVQ.LOST read is a row of its own. -/
def State.bar0 (s : State) (off : Nat) : Word :=
  let h := s.host
  if off % 4 ≠ 0 then 0
  else if 0x8000 ≤ off ∧ off < 0x10000 then areaWord h.payload (off - 0x8000)
  else if 0x2000 ≤ off ∧ off < 0x4000 then areaWord h.evq (off - 0x2000)
  else if 0x1000 ≤ off ∧ off < 0x1040 then (Sparse.get MsixVec.reset h.msix ((off - 0x1000) / 16)).word ((off - 0x1000) / 4 % 4)
  else match off with
    | 0x0000 => w32 h.cmd
    | 0x0004 => w32 h.len
    | 0x0008 => w32 (b2n h.go)
    | 0x000C => w32 (at' h.status 16 + at' (b2n h.werr) 15 + at' (b2n h.bg.isSome) 14)
    | 0x0010 => w32 h.rlen
    | 0x0040 => w32 h.head
    | 0x0044 => w32 h.tail
    | 0x0048 => w32 h.lost
    | 0x004C => w32 (b2n h.en)
    | 0x0080 => w32 (s.vent.dev.code + at' s.vent.dcause 8)
    | 0x0084 => w32 s.vent.devId
    | 0x0088 => w32 (s.vent.devId / 2 ^ 32)
    | 0x008C => h.hbeat
    | 0x1800 => w32 (((List.range 4).map fun v => at' (b2n (Sparse.get false h.pba v)) v).sum)
    | _ => 0

/-- The place of a counter's shadow: its block of Table 13-7, index and register offset. -/
def shadowKey (blk i off : Nat) : Nat := blk * 2 ^ 32 + i * 2 ^ 16 + off

/-- A shadow takes `n` more, saturating at 64 bits (R345). -/
def addShadow (h : Sparse Nat) (k n : Nat) : Sparse Nat := Sparse.set 0 h k (satN 64 (Sparse.get 0 h k + n))

/-- The shadows take a block's counters. -/
def addBlock (blk i : Nat) (c : Sparse Word) (h : Sparse Nat) : Sparse Nat :=
  c.foldl (fun (a : Sparse Nat) e => addShadow a (shadowKey blk i e.1) e.2.toNat) h

/-- The XCH counters by offset. -/
def Mesh.counters (m : Mesh) : List (Nat × Nat) :=
  [(0x010, m.cntPkt), (0x018, m.cntCe.toNat), (0x01C, m.cntUe.toNat), (0x020, m.cntHdrCe.toNat), (0x024, m.cntHdrUe.toNat)]

/-- COUNTER_SHADOW_POLL: Vent reads every RC hardware counter, which clears it, and adds it to its shadow (R345). -/
def execCounterShadowPoll (s : State) : Host.Outcome State Fault Refusal :=
  let h0 := addBlock 1 0 s.mem.cnt s.host.shadow
  let h1 := s.mem.stall.foldl (fun (a : Sparse Nat) e => addShadow a (shadowKey 1 0 (0x100 + 8 * e.1)) e.2) h0
  let h2 := addBlock 2 0 s.mig.cnt h1
  let h3 := s.mesh.counters.foldl (fun (a : Sparse Nat) e => addShadow a (shadowKey 3 0 e.1) e.2) h2
  let h4 := addShadow h3 (shadowKey 4 0 0x010) s.cal.cntBar.toNat
  let h5 := s.ports.foldl (fun (a : Sparse Nat) e => addBlock 5 e.1 e.2.cnt a) h4
  let h6 := addBlock 6 0 s.coll.cnt h5
  let h7 := s.tiles.foldl (fun (a : Sparse Nat) e => addBlock 8 e.1 e.2.cnt a) h6
  .next (if !s.ventRuns then s
    else { s with
      host := { s.host with shadow := h7 }
      mem := { s.mem with cnt := [], stall := [] }
      mig := { s.mig with cnt := [] }
      mesh := { s.mesh with cntPkt := 0, cntCe := 0, cntUe := 0, cntHdrCe := 0, cntHdrUe := 0 }
      cal := { s.cal with cntBar := 0 }
      ports := s.ports.map fun e => (e.1, { e.2 with cnt := [] })
      coll := { s.coll with cnt := [] }
      tiles := s.tiles.map fun e => (e.1, { e.2 with cnt := [] }) })

/-- RC_COUNTER_READ: the value is returned, and cleared to zero (R12). A 64-bit counter has its own row for its low word. -/
def execRcCounterRead (c : CntReg) (s : State) : Host.Outcome State Fault Refusal :=
  match c with
  | .tile t off =>
    if 1536 ≤ t then .fault (.noSuchUnit t)
    else if tileCounter off then
      let x := s.tile t
      .next ((s.setTile t { x with cnt := Sparse.del x.cnt off }).answerWord (x.peek off))
    else .next s
  | .xch off =>
    let u := s.answerWord (s.xchPeek off)
    .next (match off with
      | 0x018 => { u with mesh := { u.mesh with cntCe := 0 } }
      | 0x01C => { u with mesh := { u.mesh with cntUe := 0 } }
      | 0x020 => { u with mesh := { u.mesh with cntHdrCe := 0 } }
      | 0x024 => { u with mesh := { u.mesh with cntHdrUe := 0 } }
      | _ => s)
  | .cal off => .next (if off = 0x010 then { s.answerWord s.cal.cntBar with cal := { s.cal with cntBar := 0 } } else s)
  | .mig off =>
    .next (if off % 4 = 0 ∧ 0x020 ≤ off ∧ off ≤ 0x034 then
      { s.answerWord (s.migPeek off) with mig := { s.mig with cnt := Sparse.del s.mig.cnt off } } else s)
  | .mem off =>
    .next (if off % 4 = 0 ∧ off ≤ 0x014 then
      { s.answerWord (s.memPeek off) with mem := { s.mem with cnt := Sparse.del s.mem.cnt off } } else s)
  | .port p off =>
    onPort p s fun u =>
      if off % 4 = 0 ∧ 0x60 ≤ off ∧ off ≤ 0x84 then
        (u.setPort p { u.port p with cnt := Sparse.del (u.port p).cnt off }).answerWord (u.portPeek p off)
      else u
  | .pcoll off =>
    .next (if off = 4 ∨ off = 8 ∨ off = 12 then
      { s.answerWord (s.pcollPeek off) with coll := { s.coll with cnt := Sparse.del s.coll.cnt off } } else s)
  | .evqLost => .next { s.answerWord (w32 s.host.lost) with host := { s.host with lost := 0 } }

/-- LATCHED_LOW_WORD_READ: the low word latches the high word until that is read (R69, R170, R238); the RC counters among them are
cleared by the read. -/
def execLatchedLowWordRead (c : LatchReg) (high : Bool) (s : State) : Host.Outcome State Fault Refusal :=
  if s.vent.startup.held then .next s
  else match c with
  | .ssn t =>
    if 1536 ≤ t then .fault (.noSuchUnit t)
    else
      let off := if high then 0x00C else 0x008
      let x := s.tile t
      .next ((s.setTile t (x.readEffect off)).answerWord (x.peek off))
  | .xchPkt =>
    let m := s.mesh
    if high then
      .next { s.answerWord (s.xchPeek 0x014) with
        mesh := { m with pktHold := none, cntPkt := if m.pktHold.isSome then m.cntPkt else m.cntPkt % 2 ^ 32 } }
    else
      .next { s.answerWord (s.xchPeek 0x010) with
        mesh := { m with pktHold := some (w32 (m.cntPkt / 2 ^ 32)), cntPkt := 0 } }
  | .migSstep =>
    if high then .next { s.answerWord (s.migPeek 0x00C) with mig := { s.mig with sstepHold := none } }
    else .next { s.answerWord (s.migPeek 0x008) with mig := { s.mig with sstepHold := some (w32 (s.mig.sstep / 2 ^ 32)) } }
  | .memStall c =>
    let m := s.mem
    let v := Sparse.get 0 m.stall c
    if c = 0 ∨ 7 < c then .next s
    else if high then
      let held := (Sparse.get none m.stallHold c).isSome
      .next { s.answerWord (s.memPeek (0x104 + 8 * c)) with
        mem := { m with stallHold := Sparse.set none m.stallHold c none,
                        stall := if held then m.stall else Sparse.set 0 m.stall c (v % 2 ^ 32) } }
    else
      .next { s.answerWord (s.memPeek (0x100 + 8 * c)) with
        mem := { m with stallHold := Sparse.set none m.stallHold c (some (w32 (v / 2 ^ 32))), stall := Sparse.set 0 m.stall c 0 } }

/-- MSG_NACK_READ: the oldest entry is returned and removed (R201). -/
def execMsgNackRead (t : Nat) (s : State) : Host.Outcome State Fault Refusal :=
  if 1536 ≤ t then .fault (.noSuchUnit t)
  else .next ((s.setTile t ((s.tile t).readEffect 0x70C)).answerWord ((s.tile t).peek 0x70C))

/-- TSQ_ENTRY_READ: the fourth word removes the entry (R291). -/
def execTsqEntryRead (p word : Nat) (s : State) : Host.Outcome State Fault Refusal :=
  onPort p s fun u =>
    let x := u.port p
    if 3 < word then u
    else (if word = 3 then u.setPort p { x with tsq := x.tsq.drop 1 } else u).answerWord (x.tsqWord word)

/-- A write by Vent to a tile register (R69): the program's writable fields, TILE.ERR.CODE, of which each 1 clears its bit (R12, Table 3-15),
and TILE.MQ_MODE, which takes effect where the engine is drained (R117; log entry 22). -/
def Tile.ventPoke (x : Tile) (off : Nat) (v : Word) : Tile :=
  if off = 0x018 then { x with errCode := x.errCode &&& ~~~(v.setWidth 8) }
  else if off = 0x500 then
    if !mqOk v.toNat then { x with mx := { x.mx with mqmode := x.mx.mqmode ||| 0x80000000 } }
    else if x.mxDrained then x.applyMq v
    else x
  else x.poke off v

/-- Replaces bits [hi:lo] of a number. -/
def setFld (w hi lo v : Nat) : Nat := w - at' (fld w hi lo) lo + at' (v % 2 ^ (hi + 1 - lo)) lo

/-- A write to a port register (Tables 11-11 and 11-12). -/
def State.portPoke (s : State) (p off : Nat) (v : Word) : State :=
  let x := s.port p
  let n := v.toNat
  match off with
  | 0x00 => if fld n 1 0 = 0 then s.cfgDisable p v else s.cfgEnable p v
  | 0x04 => if bitAt n 31 then s.setPort p { x with rej := false } else s
  | 0x08 => s.setPort p { x with mac := setFld x.mac 31 0 n }
  | 0x0C => s.setPort p { x with mac := setFld x.mac 47 32 n }
  | 0x10 => s.setPort p { x with etype := n % 2 ^ 16 }
  | 0x14 => s.setPort p { x with udpp := n % 2 ^ 16 }
  | 0x18 => s.setPort p { x with ipcfg := v &&& 0x3FFF }
  | 0x20 => s.setPort p { x with ip6 := setFld x.ip6 127 96 n }
  | 0x24 => s.setPort p { x with ip6 := setFld x.ip6 95 64 n }
  | 0x28 => s.setPort p { x with ip6 := setFld x.ip6 63 32 n }
  | 0x2C => s.setPort p { x with ip6 := setFld x.ip6 31 0 n }
  | _ => s

/-- A write to MBOX.CMD, MBOX.LEN, MBOX.DB or the payload (Table 13-3). -/
def HostIface.mboxWrite (h : HostIface) (off : Nat) (v : Word) : HostIface :=
  let n := v.toNat
  if 0x8000 ≤ off ∧ off < 0x10000 then { h with payload := Sparse.setRun 0 h.payload (off - 0x8000) (leBytes 4 n) }
  else match off with
    | 0x0000 => { h with cmd := n % 2 ^ 16 }
    | 0x0004 => { h with len := n % 2 ^ 16 }
    | 0x0008 => { h with go := h.go || bitAt n 0 }
    | _ => h

/-- The offsets that R340 protects. -/
def mboxOff (off : Nat) : Bool :=
  off % 4 == 0 && (off == 0x0000 || off == 0x0004 || off == 0x0008 || (decide (0x8000 ≤ off) && decide (off < 0x10000)))

/-- While GO reads 1, the write is ignored and sets WERR (R340). -/
def HostIface.mboxPoke (h : HostIface) (off : Nat) (v : Word) : HostIface := if h.go then { h with werr := true } else h.mboxWrite off v

/-- A write of EVQ.HEAD; one beyond TAIL, in ring order, is ignored (R351). -/
def HostIface.headWrite (h : HostIface) (v : Word) : HostIface :=
  let n := v.toNat % 256
  if (n + 256 - h.head) % 256 ≤ (h.tail + 256 - h.head) % 256 then { h with head := n } else h

/-- A write to an MSI-X entry: a vector that is unmasked while it pends is signalled (R352). -/
def HostIface.msixWrite (h : HostIface) (i w : Nat) (v : Word) : HostIface :=
  let x := Sparse.get MsixVec.reset h.msix i
  let n := v.toNat
  match w with
  | 0 => { h with msix := Sparse.put h.msix i { x with addr := setFld x.addr 31 0 n } }
  | 1 => { h with msix := Sparse.put h.msix i { x with addr := setFld x.addr 63 32 n } }
  | 2 => { h with msix := Sparse.put h.msix i { x with data := n } }
  | _ => ({ h with msix := Sparse.put h.msix i { x with masked := bitAt n 0 } } : HostIface).msiPending i

/-- A write to the word that holds MSI-X's Message Control in its upper half: Enable is bit 31, Function Mask bit 30 (R352; log entry 15). -/
def HostIface.msixControl (h : HostIface) (v : Word) : HostIface :=
  (List.range 4).foldl HostIface.msiPending { h with msixOn := bitAt v.toNat 31, msixMask := bitAt v.toNat 30 }

/-- A write to configuration space: the bases of the BARs, whose low 16 bits stay zero, and MSI-X's control (R331, R352; log entry 81). -/
def HostIface.cfgWrite (h : HostIface) (r : Config.CfgReg) (v : Word) : HostIface :=
  let base (n : Nat) : Nat := Sparse.get 0 h.bars n
  match r with
  | .msixControl => h.msixControl v
  | .barLow n => { h with bars := Sparse.set 0 h.bars n (setFld (base n) 31 0 (v.toNat - v.toNat % 0x10000)) }
  | .barHigh n => { h with bars := Sparse.set 0 h.bars n (setFld (base n) 63 32 v.toNat) }
  | _ => h

/-- Bytes 0 to 255 of a quote (Table 16-4). -/
def State.quoteBody (s : State) (nonce : List Byte) : List Byte :=
  let rec' := s.vent.startup.recovery
  let z (n : Nat) (l : List Byte) : List Byte := if rec' then padTo n [] else padTo n l
  padTo 64 (leBytes 2 1 ++ leBytes 1 (b2n rec') ++ leBytes 1 s.vent.dev.code ++ leBytes 8 s.vent.devId ++ leBytes 4 s.vent.incarnation
    ++ leBytes 2 s.vent.grade ++ leBytes 1 s.vent.stepping ++ leBytes 1 (b2n s.sec.session.isSome) ++ z 4 (leBytes 4 s.sec.dbgCount)
    ++ leBytes 6 s.aon.ptp.sec ++ leBytes 4 s.aon.ptp.ns ++ leBytes 1 (b2n s.aon.timeValid))
    ++ padTo 32 nonce ++ padTo 32 s.sec.m0 ++ z 64 s.sec.m1 ++ z 32 s.sec.m2 ++ z 32 s.sec.m3

/-- The doorbell of an ATTEST_QUOTE samples what the quote reports (R419). -/
def State.doorbell (s : State) (h : HostIface) : State :=
  let u := { s with host := h }
  if !s.host.go && h.go && h.cmd == 0x0601 then { u with sec := { u.sec with quote := some (s.quoteBody h.req) } } else u

/-- A host write to BAR0 (Tables 13-2 and 13-3); setting EVQ.CFG.EN posts the BG_DONE that waits for it (R342). -/
def State.bar0Poke (s : State) (off : Nat) (v : Word) : State :=
  let h := s.host
  let n := v.toNat
  if s.hostDown ∨ off % 4 ≠ 0 then s
  else if mboxOff off then s.doorbell (h.mboxPoke off v)
  else if 0x2000 ≤ off ∧ off < 0x4000 then { s with host := { h with evq := Sparse.setRun 0 h.evq (off - 0x2000) (leBytes 4 n) } }
  else if 0x1000 ≤ off ∧ off < 0x1040 then { s with host := h.msixWrite ((off - 0x1000) / 16) ((off - 0x1000) / 4 % 4) v }
  else match off with
    | 0x000C => if bitAt n 15 then { s with host := { h with werr := false } } else s
    | 0x0040 => { s with host := h.headWrite v }
    | 0x004C =>
      let s1 := { s with host := { h with en := bitAt n 0, bgHeld := h.bgHeld && !bitAt n 0 } }
      match h.bgDone with
      | none => s1
      | some (code, status, refusal) =>
        if bitAt n 0 then ({ s1 with host := { s1.host with bgDone := none } } : State).post 0x01 (bgDetail code status refusal) else s1
    | _ => s

/-- A write to the HDM decoder's control word: bit 9 commits the decoder, and an interleave other than 1-way is not committed (R331; log entry
81). -/
def HdmDecoder.setControl (d : HdmDecoder) (v : Word) : HdmDecoder :=
  let n := v.toNat
  { d with control := v, committed := bitAt n 9 && fld n 7 4 == 0, refused := bitAt n 9 && fld n 7 4 != 0 }

/-- A host write to a register behind BAR2 (R331; log entry 81): the decoder's words are RW, the RAS status words W1C, their masks RW. -/
def Bar2.poke (b : Bar2) (r : Config.Bar2Reg) (v : Word) : Bar2 :=
  let d := b.decoder
  let n := v.toNat
  match r with
  | .decControl => { b with decoder := d.setControl v }
  | .decBaseLow => { b with decoder := { d with base := setFld d.base 31 0 n } }
  | .decBaseHigh => { b with decoder := { d with base := setFld d.base 63 32 n } }
  | .decSizeLow => { b with decoder := { d with size := setFld d.size 31 0 n } }
  | .decSizeHigh => { b with decoder := { d with size := setFld d.size 63 32 n } }
  | .rasUe => { b with rasUe := b.rasUe &&& ~~~v }
  | .rasUeMask => { b with rasUeMask := v }
  | .rasUeSev => { b with rasUeSev := v }
  | .rasCe => { b with rasCe := b.rasCe &&& ~~~v }
  | .rasCeMask => { b with rasCeMask := v }
  | .decCapability => b
  | .devStatus => b

/-- A host write to BAR2. -/
def State.bar2Poke (s : State) (off : Nat) (v : Word) : State :=
  match Config.bar2At off with
  | some r => if s.hostDown then s else { s with host := { s.host with bar2 := s.host.bar2.poke r v } }
  | none => s

/-- A host write to configuration space. -/
def State.cfgPoke (s : State) (off : Nat) (v : Word) : State :=
  match Config.cfgAt off with
  | some r => if s.hostDown then s else { s with host := s.host.cfgWrite r v }
  | none => s

/-- REGISTER_WRITE: by access code RW, W1C, W1S; any other write is ignored (R12). A domain that is held in reset takes none (R431). -/
def execRegisterWrite (r : WReg) (v : Word) (s : State) : Host.Outcome State Fault Refusal :=
  let n := v.toNat
  if s.vent.startup.held then .next s
  else match r with
  | .tile t off => onTile t s fun x => x.ventPoke off v
  | .xch off =>
    .next (if off = 0x008 then
      let m := s.mesh
      { s with mesh := { m with errDataUe := m.errDataUe && !bitAt n 0, errHdrUe := m.errHdrUe && !bitAt n 1,
                                errOvf := m.errOvf && !bitAt n 2 } }
      else s)
  | .cal off =>
    let c := s.cal
    .next (match off with
      | 0x000 => { s with cal := { c with wdog := n % 2 ^ 24 } }
      | 0x004 => { s with cal := { c with wdFired := c.wdFired && !bitAt n 31 } }
      | 0x008 => { s with cal := { c with errUe := c.errUe && !bitAt n 0, errMismatch := c.errMismatch && !bitAt n 1 } }
      | _ => s)
  | .mig off =>
    let m := s.mig
    .next (match off with
      | 0x010 => { s with mig := { m with pquery := n % 2 ^ 25 } }
      | 0x01C => { s with mig := { m with errDirUe := m.errDirUe && !bitAt n 0, errPin := m.errPin && !bitAt n 1,
                                          errBacklog := m.errBacklog && !bitAt n 2 } }
      | _ => s)
  | .mem _ => .next s
  | .port p off => onPort p s fun u => u.portPoke p off v
  | .parb off => .next (if off = 0 ∧ bitAt n 0 then { s with parbErr := s.parbErr - s.parbErr % 2 } else s)
  | .pcoll _ => .next s
  | .bar0 off => .next (s.bar0Poke off v)
  | .bar2 off => .next (s.bar2Poke off v)
  | .cfg off => .next (s.cfgPoke off v)

/-- MAILBOX_WRITE_WHILE_BUSY (R340). -/
def execMailboxWriteWhileBusy (off : Nat) (v : Word) (s : State) : Host.Outcome State Fault Refusal :=
  .next (if s.host.go ∧ mboxOff off then s.bar0Poke off v else s)

/-- EVQ_HEAD_WRITE (R351). -/
def execEvqHeadWrite (v : Word) (s : State) : Host.Outcome State Fault Refusal :=
  .next (if s.hostDown then s else { s with host := s.host.headWrite v })

end Sys2Proof.Machine
end

