-- ==== Sys2Proof/Machine/Mailbox.lean ====
section
/-!
DEFINITION. The Vent mailbox (R339 to R349, Table 13-6): the checks that every command makes, and the commands of the module's state,
windows, partners, ports, TXP and journal.
-/
namespace Sys2Proof.Machine

/-- The mailbox answers from step 2 of start-up on, and in Dormant whatever the cause (R382, R384, R385). -/
def State.mbServes (s : State) : Bool := !s.vent.startup.held && (s.vent.startup.plls || decide (s.vent.dev = .dormant))

/-- The codes of Table 13-6. -/
def mboxCodes : List Nat :=
  [0x0100, 0x0101, 0x0102, 0x0103, 0x0104, 0x0105, 0x0200, 0x0201, 0x0202, 0x0203, 0x0204, 0x0205, 0x0300, 0x0301, 0x0302, 0x0400,
   0x0401, 0x0402, 0x0403, 0x0404, 0x0405, 0x0406, 0x0500, 0x0501, 0x0502, 0x0600, 0x0601, 0x0602, 0x0603, 0x0604, 0x0605, 0x0700,
   0x0701, 0x0702, 0x0703]

/-- The command of one code at its doorbell (R339, R344): WRONG_STATE outside its states, BAD_LENGTH where LEN is not its layout's;
otherwise it runs on its request. Without the doorbell, or with another code in CMD, nothing happens (log entry 3). -/
def mbox (code : Nat) (sts : List DevSt) (len : Nat → Bool) (s : State) (run : List Byte → State) :
    Host.Outcome State Fault Refusal :=
  match s.host.asked with
  | none => .next s
  | some (c, r) =>
    if c ≠ code ∨ !s.mbServes then .next s
    else if !sts.contains s.vent.dev then .next (s.complete stWRONG_STATE [])
    else if !len r.length then .next (s.complete stBAD_LENGTH [])
    else .next (run r)

/-- A layout of exactly n bytes. -/
def lenIs (n : Nat) (k : Nat) : Bool := k == n

/-- The States column of Table 13-6. -/
def stAll : List DevSt := [.dormant, .idle, .loaded, .running, .ended]
def stBoot : List DevSt := [.boot, .dormant, .idle, .loaded, .running, .ended]
def stILRE : List DevSt := [.idle, .loaded, .running, .ended]
def stLRE : List DevSt := [.loaded, .running, .ended]
def stRE : List DevSt := [.running, .ended]
def stDI : List DevSt := [.dormant, .idle]

/-- Bytes [lo, hi) of a request are zero. -/
def zeroAt (r : List Byte) (lo hi : Nat) : Bool := ((r.drop lo).take (hi - lo)).all (· == 0)

/-- Virtual tiles that a command can name: those of the image's grid, or those of the current grade where no image is loaded (R13). -/
def State.tileLimit (s : State) : Nat := if s.vent.image.isSome then s.gridTiles else s.vent.grade

/-- UNSUPPORTED_COMMAND (R343); in BOOT every command but three is answered with WRONG_STATE (R382). -/
def execUnsupportedCommand (s : State) : Host.Outcome State Fault Refusal :=
  match s.host.asked with
  | none => .next s
  | some (c, _) =>
    if mboxCodes.contains c ∨ !s.mbServes then .next s
    else .next (s.complete (if s.vent.dev = .boot then stWRONG_STATE else stUNSUPPORTED) [])

/-- The part number in ASCII (R1), zero-padded to 16 bytes. -/
def partNumber (grade : Nat) : List Byte :=
  padTo 16 ([0x56, 0x54, 0x2D, 0x43, 0x52, 0x4D, 0x2D] ++ (if grade = 1536 then [0x31, 0x35, 0x33, 0x36] else [0x31, 0x34, 0x30, 0x38]))

/-- The response of IDENTIFY (Table 13-6). -/
def Vent.identify (v : Vent) : List Byte :=
  padTo 64 (leBytes 8 v.devId ++ leBytes 4 v.incarnation ++ leBytes 2 v.shippedGrade ++ leBytes 2 v.grade ++ leBytes 1 v.stepping
    ++ [1, 0, 0] ++ leBytes 4 v.version ++ partNumber v.shippedGrade ++ leBytes 2 1)

/-- IDENTIFY. -/
def execIdentify (s : State) : Host.Outcome State Fault Refusal :=
  mbox 0x0100 stBoot (lenIs 0) s fun _ => s.complete stOK s.vent.identify

/-- The image digest; zero where no image is loaded. -/
def State.digest (s : State) : List Byte :=
  match s.vent.image with
  | some im => im.digest
  | none => []

/-- The response of GET_STATE (Table 13-6). -/
def State.stateBytes (s : State) : List Byte :=
  padTo 32 (leBytes 2 s.vent.dev.code ++ leBytes 2 s.vent.dcause ++ padTo 8 s.digest ++ leBytes 8 s.mig.sstep
    ++ leBytes 2 (s.countSt .done) ++ leBytes 2 (s.countSt .stopped) ++ leBytes 1 (b2n s.sec.session.isSome)
    ++ leBytes 4 s.vent.run.interventions)

/-- GET_STATE. -/
def execGetState (s : State) : Host.Outcome State Fault Refusal :=
  mbox 0x0101 stBoot (lenIs 0) s fun _ => s.complete stOK s.stateBytes

/-- A signed 16-bit reading. -/
def s16 (v : Int) : List Byte := leBytes 2 (BitVec.ofInt 16 v).toNat

/-- The response of GET_HEALTH (Table 13-6); `power` is the input power, which no monitor of any chapter reads. -/
def State.healthBytes (s : State) (power : Nat) : List Byte :=
  let a := s.aon
  padTo 32 (s16 (a.hottest 0 39) ++ s16 (a.hottest 40 47) ++ s16 (a.hottest 48 63) ++ leBytes 2 (Sparse.get 0 a.volts 23)
    ++ leBytes 2 power ++ leBytes 1 (b2n (decide (a.pace ≠ 0))) ++ leBytes 1 s.vent.ledger.used
    ++ leBytes 8 (s.cal.idleSs - s.vent.run.idleAtStart) ++ leBytes 1 s.host.linkWidth ++ leBytes 1 s.host.linkSpeed
    ++ leBytes 1 (b2n a.timeValid))

/-- GET_HEALTH: the input power is a free value (log entry 9). -/
def execGetHealth (s : State) : Host.Outcome State Fault Refusal :=
  mbox 0x0102 stBoot (lenIs 0) s fun _ =>
    ({ s with free := s.free + 1 } : State).complete stOK (s.healthBytes (Config.freeValue s.free))

/-- GET_ERRLEDGER: 16 entries of 32 bytes. -/
def execGetErrledger (s : State) : Host.Outcome State Fault Refusal :=
  mbox 0x0103 stAll (lenIs 0) s fun _ =>
    s.complete stOK (((List.range 16).map fun i => (s.vent.ledger.entry i).bytes).flatten)

/-- The counters of a block of Table 13-7 by register offset, in the order of the block's table. -/
def blockOffs : Nat → List Nat
  | 1 => [0x000, 0x004, 0x008, 0x00C, 0x010, 0x014] ++ (List.range 7).map fun c => 0x108 + 8 * c
  | 2 => (List.range 6).map fun i => 0x020 + 4 * i
  | 3 => [0x010, 0x018, 0x01C, 0x020, 0x024]
  | 4 => [0x010]
  | 5 => (List.range 10).map fun i => 0x60 + 4 * i
  | 6 => [4, 8, 12]
  | 8 => [0x510, 0x514, 0x518, 0x51C, 0x620, 0x624, 0x720, 0x724, 0x728, 0x72C, 0x730, 0x810, 0x814, 0x818, 0x81C, 0x820]
  | _ => []

/-- GET_COUNTERS: the shadows of a block, cleared after the read with CLR = 1 (R345). -/
def execGetCounters (s : State) : Host.Outcome State Fault Refusal :=
  mbox 0x0104 stILRE (lenIs 4) s fun r =>
    let blk := leAt r 0 1
    let i := leAt r 2 2
    let clr := leAt r 1 1
    if 1 < clr ∨ blk = 0 ∨ 8 < blk ∨ (blk = 8 ∧ s.tileLimit ≤ i) ∨ (blk ≠ 5 ∧ blk ≠ 8 ∧ i ≠ 0) then s.complete stBAD_FIELD []
    else if blk = 5 ∧ 11 < i then s.complete stPORT []
    else if blk = 7 then
      let v := ((List.range 13).map fun k => leBytes 8 (Sparse.get 0 s.txp.cnt k)).flatten
      (if clr = 1 then { s with txp := { s.txp with cnt := [] } } else s).complete stOK v
    else
      let ks := (blockOffs blk).map fun o => shadowKey blk i o
      let v := (ks.map fun k => leBytes 8 (Sparse.get 0 s.host.shadow k)).flatten
      let sh := ks.foldl (fun (a : Sparse Nat) k => Sparse.set 0 a k 0) s.host.shadow
      (if clr = 1 then { s with host := { s.host with shadow := sh } } else s).complete stOK v

/-- BAR_PENDING: the tiles of a group that are not in WAIT (R189). -/
def execBarPending (s : State) : Host.Outcome State Fault Refusal :=
  mbox 0x0105 [.running] (lenIs 2) s fun r =>
    let g := leAt r 0 2
    if !gExists s.rows g then s.complete stBAD_FIELD []
    else
      let ts := gTiles s.rows g
      let l := s.notWaiting g
      s.complete stOK (leBytes 2 l.length ++ bitsToBytes (ts.map fun t => l.contains t))

/-- HDM_MAP (R333). -/
def execHdmMap (s : State) : Host.Outcome State Fault Refusal :=
  mbox 0x0300 stILRE (lenIs 8) s fun r =>
    let b := leAt r 0 8
    if b % 65536 ≠ 0 ∨ imageEndAddr < b + 0x1000000000 then s.complete stRANGE []
    else ({ s with host := { s.host with hbase := b } } : State).complete stOK []

/-- RESUMEWIN of the image; 0xFF none. -/
def State.resumeWin (s : State) : Nat :=
  match s.vent.image with
  | none => 0xFF
  | some im => im.man.resumewin

/-- The arrival of RESUMEWIN releases a park as its last arrival (R378). -/
def State.resume (s : State) (w : Nat) : State :=
  match s.cal.parked with
  | none => s
  | some v =>
    if w ≠ s.resumeWin then s
    else
      let s1 := { s with cal := { s.cal with parked := none }, vent := { s.vent with run := { s.vent.run with parked := false } } }
      s1.schedRelease 0x5000 s.cc v

/-- WIN_ARRIVE (R346, R232; R325 for AINWIN; R378 for RESUMEWIN). -/
def execWinArrive (s : State) : Host.Outcome State Fault Refusal :=
  mbox 0x0301 [.running] (lenIs 1) s fun r =>
    let w := leAt r 0 1
    match (if w < 64 then s.win w else none) with
    | none => s.complete stWIN_UNDECLARED []
    | some x =>
      if x.side1 then s.complete stWIN_UNDECLARED []
      else if !x.outside then s.complete stWIN_HELD []
      else if s.isAin w then
        match (s.auditRead w).auditArrive w with
        | none => (s.auditRead w).complete stBAD_FIELD []
        | some u => (u.resume w).complete stOK []
      else ((s.arriveWin w).resume w).complete stOK []

/-- WIN_QUERY: MEM.WIN[w] and the declaration; an undeclared window answers zeros (log entry 23). -/
def execWinQuery (s : State) : Host.Outcome State Fault Refusal :=
  mbox 0x0302 stLRE (lenIs 1) s fun r =>
    let w := leAt r 0 1
    if 64 ≤ w then s.complete stWIN_UNDECLARED []
    else
      let d := match s.win w with
        | none => (0, 0, false, 0)
        | some x => (x.base, x.size, x.side1, x.perm)
      s.complete stOK (leBytes 4 (s.winWord w).toNat ++ leBytes 8 d.1 ++ leBytes 8 d.2.1 ++ leBytes 1 (b2n d.2.2.1) ++ leBytes 1 d.2.2.2)

/-- PARTNER_ADD (R299): journaled; a device that is listed already takes its new entry. -/
def execPartnerAdd (s : State) : Host.Outcome State Fault Refusal :=
  mbox 0x0400 stILRE (lenIs 32) s fun r =>
    let q := partnerOf r
    if 4096 ≤ leAt r 8 2 then s.complete stBAD_FIELD []
    else if (s.partner q.dev).isNone ∧ Config.partnerSlots ≤ s.txp.partners.length then s.complete stPARTNER []
    else
      let s1 := { s with txp := { s.txp with partners := s.txp.partners.filter (fun (k : Partner) => k.dev != q.dev) ++ [q] } }
      (s1.journal 0x21 ([0] ++ r) .nothing).complete stOK []

/-- PARTNER_REMOVE: its session closes with HELLO phase 6 (R299). -/
def execPartnerRemove (s : State) : Host.Outcome State Fault Refusal :=
  mbox 0x0401 stILRE (lenIs 8) s fun r =>
    let dev := leAt r 0 8
    if (s.partner dev).isNone then s.complete stPARTNER []
    else
      let s1 := (s.sessDown dev .closed).dropHand dev
      let s2 := if s.sessUp dev then s1.sendClose dev (s.sess dev) else s1
      let s3 := { s2 with txp := { s2.txp with partners := s2.txp.partners.filter fun (k : Partner) => k.dev != dev } }
      (s3.journal 0x21 ([1] ++ padTo 32 r) .nothing).complete stOK []

/-- The values of a PORT_CFG request are in range (R11, Tables 11-1 and 11-12). -/
def portCfgOk (r : List Byte) : Bool :=
  decide (leAt r 1 1 < 3) && decide (leAt r 2 1 < 2) && decide (leAt r 3 1 < 3) && decide (leAt r 4 1 < 2) && decide (leAt r 5 1 < 8)
    && decide (leAt r 6 2 < 4096) && decide (leAt r 13 1 < 64) && zeroAt r 36 48

/-- PORT_CFG (R349, R388). -/
def execPortCfg (s : State) : Host.Outcome State Fault Refusal :=
  mbox 0x0402 stILRE (lenIs 48) s fun r =>
    if 11 < leAt r 0 1 then s.complete stPORT []
    else if !portCfgOk r then s.complete stBAD_FIELD []
    else if leAt r 1 1 ≠ 0 ∧ Sparse.get false s.vent.map.ports (leAt r 0 1) then s.complete stWRONG_STATE []
    else ((s.journal 0x20 r .nothing).applyPortCfg r).complete stOK []

/-- PORT_STATUS. -/
def execPortStatus (s : State) : Host.Outcome State Fault Refusal :=
  mbox 0x0403 stILRE (lenIs 1) s fun r =>
    let x := s.port (leAt r 0 1)
    if 11 < leAt r 0 1 then s.complete stPORT []
    else s.complete stOK (leBytes 4 (x.stat s.cc).toNat ++ leBytes 4 x.arb.toNat)

/-- TXP_TIMERS: in force from the next step that the module opens or receives (R349, Table 12-10). -/
def execTxpTimers (s : State) : Host.Outcome State Fault Refusal :=
  mbox 0x0404 stILRE (lenIs 12) s fun r =>
    let a := leAt r 0 4
    let b := leAt r 4 4
    let c := leAt r 8 4
    if a < 200 ∨ 10000 < a ∨ b < 1000 ∨ 3600000 < b ∨ c < 1000 ∨ 60000 < c then s.complete stBAD_FIELD []
    else (({ s with txp := { s.txp with newTimers := some (a, b, c) } } : State).journal 0x22 r .nothing).complete stOK []

/-- TXP_STATUS: the open step, the rank and the deputy are free values where there is none (log entry 9). -/
def execTxpStatus (s : State) : Host.Outcome State Fault Refusal :=
  mbox 0x0405 stLRE (lenIs 0) s fun _ =>
    let x := s.txp
    let step := match x.open' with
      | some o => o.step
      | none => Config.freeValue s.free
    let rank := if x.devs.contains s.vent.devId then s.rankOf s.vent.devId else Config.freeValue (s.free + 1)
    let up := (x.sessions.filter fun e => decide (e.2.st = .up)).length
    let dep := x.deputy.getD (Config.freeValue (s.free + 2))
    ({ s with free := s.free + 3 } : State).complete stOK (leBytes 4 x.epoch ++ leBytes 6 step ++ leBytes 2 rank
      ++ leBytes 2 x.members.length ++ leBytes 2 up ++ leBytes 8 x.leader ++ leBytes 8 dep)

/-- FORCE_TAKEOVER (R349): by the deputy of a job of two that has no UP session to the named leader. -/
def execForceTakeover (s : State) : Host.Outcome State Fault Refusal :=
  mbox 0x0406 [.running] (lenIs 8) s fun r =>
    let l := leAt r 0 8
    if s.txp.members.length ≠ 2 ∨ s.txp.deputy ≠ some s.vent.devId ∨ s.txp.leader ≠ l ∨ s.sessUp l then s.complete stWRONG_STATE []
    else s.takeover.complete stOK []

/-- The records that the journal commands see: from the base on, or all of a damaged journal (R393, R397). -/
def Journal.seen (j : Journal) : List JRec := sortOn (fun (r : JRec) => r.seq) (if j.damaged then j.records else j.live)

/-- JRN_INFO. -/
def execJrnInfo (s : State) : Host.Outcome State Fault Refusal :=
  mbox 0x0500 stAll (lenIs 0) s fun _ =>
    let l := s.vent.journal.seen.map fun (r : JRec) => r.seq
    let un := (s.txp.closes.filter fun (c : CloseRec) => c.made && !c.acked).length
    s.complete stOK (leBytes 8 (l.headD 0) ++ leBytes 8 (l.getLast?.getD 0) ++ leBytes 4 s.vent.journal.usePct ++ leBytes 4 un)

/-- The leading records that fit in n bytes. -/
def takeBytes : Nat → List (List Byte) → List Byte
  | _, [] => []
  | n, b :: l => if b.length ≤ n then b ++ takeBytes (n - b.length) l else []

/-- The record types of Table 15-4. -/
def jrnTypes : List Nat :=
  [0x01, 0x02, 0x03, 0x04, 0x10, 0x11, 0x12, 0x13, 0x20, 0x21, 0x22, 0x30, 0x31, 0x32, 0x33, 0x34, 0x40, 0x41, 0x42, 0x43, 0x44, 0x45, 0x46, 0x47]

/-- JRN_READ: whole records in journal framing, ascending, at most the limit; a reserved record type is refused (R11). -/
def execJrnRead (s : State) : Host.Outcome State Fault Refusal :=
  mbox 0x0501 stAll (lenIs 12) s fun r =>
    let typ := leAt r 8 1
    let n := leAt r 10 2
    if leAt r 9 1 ≠ 0 ∨ n = 0 ∨ 32768 < n ∨ (typ ≠ 0 ∧ !jrnTypes.contains typ) then s.complete stBAD_FIELD []
    else
      let l := s.vent.journal.seen.filter fun (k : JRec) => decide (leAt r 0 8 ≤ k.seq) && (typ == 0 || k.typ == typ)
      s.complete stOK (takeBytes n (l.map JRec.bytes))

/-- JRN_ACK_CLOSE (R317). -/
def execJrnAckClose (s : State) : Host.Outcome State Fault Refusal :=
  mbox 0x0502 stAll (lenIs 6) s fun r =>
    let cs := s.txp.closes.map fun (c : CloseRec) => if c.step = leAt r 0 6 then { c with acked := true } else c
    ({ s with txp := { s.txp with closes := cs } } : State).complete stOK []

end Sys2Proof.Machine
end

