-- ==== Sys2Proof/Machine/Access.lean ====
section
/-!
DEFINITION. Identity, quotes, firmware and debug access (R350, R412 to R426, R179, R348), and the JTAG port (R426, R436).
-/
namespace Sys2Proof.Machine

/-- GET_IDENTITY: the certificate, unchanged; it holds the device id and the public keys (R412; log entry 24). -/
def execGetIdentity (s : State) : Host.Outcome State Fault Refusal :=
  mbox 0x0600 stAll (lenIs 0) s fun _ => s.complete stOK s.certBytes

/-- ATTEST_QUOTE (R419): what its doorbell sampled is signed. Where no copy of the keys unseals, no chapter gives the signature: a free value
(log entry 9). -/
def execAttestQuote (s : State) : Host.Outcome State Fault Refusal :=
  mbox 0x0601 stAll (lenIs 32) s fun r =>
    let b := s.sec.quote.getD (s.quoteBody r)
    let u := if s.host.inside.isEmpty then { s with sec := { s.sec with quote := none } } else s
    if s.sec.unsealed || s.identityOk then u.complete stOK (b ++ leBytes 17088 (Config.signQuote b).toNat)
    else ({ u with free := s.free + 1 } : State).complete stOK (b ++ leBytes 17088 (Config.freeValue s.free))

/-- FW_WRITE (R350): into the one image in flash, which is no good image until FW_COMMIT has verified it (R385). -/
def execFwWrite (s : State) : Host.Outcome State Fault Refusal :=
  mbox 0x0602 stDI (fun n => decide (9 ≤ n) && decide (n ≤ 32768)) s fun r =>
    let o := leAt r 0 4
    let n := leAt r 4 4
    if r.length ≠ 8 + n then s.complete stBAD_LENGTH []
    else if n = 0 ∨ 32760 < n ∨ 0x1000000 < o + n then s.complete stBAD_FIELD []
    else
      ({ s with vent := { s.vent with flash := { s.vent.flash.write o (r.drop 8) with stale := true } } } : State).complete stOK []

/-- FW_COMMIT: in the background (R341, R350). -/
def execFwCommit (s : State) : Host.Outcome State Fault Refusal :=
  mbox 0x0603 stDI (lenIs 4) s fun r =>
    if s.host.bg.isSome then s.complete stBUSY []
    else ({ s with host := { s.host with bg := some ⟨0x0603, 0, leAt r 0 4⟩ } } : State).complete stBG_STARTED []

/-- FW_COMMIT_DONE: the check of R415 over the whole image, which is good where it verifies (R385); an FW record and BG_DONE. -/
def execFwCommitDone (s : State) : Host.Outcome State Fault Refusal :=
  match s.host.bg with
  | none => .next s
  | some b =>
    if b.code ≠ 0x0603 ∨ !s.mbServes then .next s
    else
      let good := s.vent.flash.verifies b.len
      let st := if good then stOK else stVERIFY_FAIL
      let s1 := { s with vent := { s.vent with flash := { s.vent.flash with stale := s.vent.flash.stale && !good } } }
      .next ((s1.journal 0x33 (leBytes 2 st ++ leBytes 4 b.len) .nothing).bgDone 0x0603 st 0)

/-- The token's fields hold (Table 16-6); the running Vent image holds the authorities' keys. -/
def State.tokenOk (s : State) (k : List Byte) : Bool :=
  let na := leAt k 24 8
  let key := s.vent.authKeys.getD (leAt k 4 1) none
  leAt k 0 2 == 1 && leAt k 8 8 == s.vent.devId && leAt k 16 4 == s.vent.incarnation
    && (match s.sec.tokno with
      | some n => decide (n < leAt k 20 4)
      | none => true)
    && (na == 2 ^ 64 - 1 || (s.aon.timeValid && decide (s.aon.ptp.sec ≤ na)))
    && (match key with
      | some q => Config.verify128 q (k.take 64) (k.drop 64)
      | none => false)

/-- DEBUG_OPEN (R424, R425): the DEBUG record's commit extends M3 (R418). -/
def execDebugOpen (s : State) : Host.Outcome State Fault Refusal :=
  mbox 0x0604 stAll (lenIs 17152) s fun k =>
    if 8 ≤ leAt k 2 2 ∨ !zeroAt k 5 8 ∨ !zeroAt k 32 64 then s.complete stBAD_FIELD []
    else if s.sec.session.isSome then s.complete stWRONG_STATE []
    else if !s.tokenOk k then s.complete stTOKEN_BAD []
    else
      let d := shake256 32 k
      let s1 := { s with sec := { s.sec with session := some (leAt k 2 2), tokno := some (leAt k 20 4), tokDig := d } }
      (s1.journal 0x31 ([0] ++ d) .extendM3).complete stOK []

/-- DEBUG_CLOSE (R425); EXTEST ends with the session (R426). -/
def execDebugClose (s : State) : Host.Outcome State Fault Refusal :=
  mbox 0x0605 stAll (lenIs 0) s fun _ =>
    if s.sec.session.isNone then s.complete stNO_DEBUG []
    else
      let s1 := { s with sec := { s.sec with session := none }, jtag := { s.jtag with driving := false } }
      (s1.journal 0x31 ([1] ++ padTo 32 s.sec.tokDig) .extendM3).complete stOK []

/-- The open session holds a right: bit 0 SET, 1 READ, 2 JTAG (Table 16-6). -/
def Sec.right (c : Sec) (b : Nat) : Bool :=
  match c.session with
  | some r => bitAt r b
  | none => false

/-- A record joins a list before the last one that `p` picks, or at its end. -/
def joinBefore (p : PendRec → Bool) (r : PendRec) (l : List PendRec) : List PendRec :=
  match l.reverse.dropWhile fun q => !p q with
  | [] => l ++ [r]
  | e :: m => m.reverse ++ [r, e] ++ (l.reverse.takeWhile fun q => !p q).reverse

/-- The INTERVENTION record of a hand setting: JTAG's comes before that of a SYNCF_SET which reached the same flag in the same cycle (R348). -/
def State.journalHand (s : State) (t n old v src : Nat) : State :=
  let bytes (k : Nat) : List Byte := leBytes 2 t ++ leBytes 1 n ++ leBytes 1 old ++ leBytes 1 v ++ leBytes 1 k
  let late := src = 1 ∧ ((s.tile t).sflag n).hand.isSome = true ∧ s.jtag.lastSet ≠ some (t, n, s.cc)
  let j := s.vent.journal
  let theirs (q : PendRec) : Bool := q.typ == 0x30 && q.payload.take 4 == (bytes src).take 4 && q.payload.drop 5 == leBytes 1 0
  if !late ∨ j.damaged ∨ !j.mounted then s.journal 0x30 (bytes src) .extendM3
  else { s with vent := { s.vent with journal := { j with batch := joinBefore theirs ⟨0x30, bytes src, .extendM3⟩ j.batch } } }

/-- A hand setting of flag n of tile t (R179): the flag, the INTERVENTION record, the event, the count; `old` is the value at the start
of the cycle. A setting by JTAG in this cycle stands (R348). -/
def State.handSetting (s : State) (t n v src : Nat) : State :=
  let old := ((s.tile t).sflag n).val0
  let kept := src = 0 ∧ s.jtag.lastSet = some (t, n, s.cc)
  let s0 := s.journalHand t n old v src
  let s1 := if kept then s0 else s0.setTile t ((s.tile t).handSet n v)
  let s2 := { s1 with vent := { s1.vent with run := { s1.vent.run with interventions := s1.vent.run.interventions + 1 } },
                      jtag := if src = 1 then { s1.jtag with lastSet := some (t, n, s.cc) } else s1.jtag }
  s2.post 0x0D (leBytes 2 t ++ leBytes 1 n ++ leBytes 1 old ++ leBytes 1 v ++ leBytes 1 src)

/-- SYNCF_SET (R179, R348): it answers the old value. -/
def execSyncfSet (s : State) : Host.Outcome State Fault Refusal :=
  mbox 0x0700 [.running] (lenIs 4) s fun r =>
    let t := leAt r 0 2
    let n := leAt r 2 1
    if s.tileLimit ≤ t ∨ 47 < n then s.complete stBAD_FIELD []
    else if !s.sec.right 0 then s.complete stNO_DEBUG []
    else (s.handSetting t n (leAt r 3 1) 0).complete stOK (leBytes 1 ((s.tile t).sflag n).val0)

/-- SYNCF_READ: no intervention (R348). -/
def execSyncfRead (s : State) : Host.Outcome State Fault Refusal :=
  mbox 0x0701 stRE (lenIs 3) s fun r =>
    let t := leAt r 0 2
    let n := leAt r 2 1
    if s.tileLimit ≤ t ∨ 47 < n then s.complete stBAD_FIELD []
    else if !s.sec.right 1 then s.complete stNO_DEBUG []
    else s.complete stOK (leBytes 4 ((s.tile t).sflag n).word.toNat)

/-- A tile register as TREG_READ answers it: an RC counter by its shadow, held at 32 bits (R345). -/
def State.tregWord (s : State) (t off : Nat) : Word :=
  if tileCounter off then w32 (satN 32 (Sparse.get 0 s.host.shadow (shadowKey 8 t off))) else (s.tile t).peek off

/-- TREG_READ: it clears nothing (R345). -/
def execTregRead (s : State) : Host.Outcome State Fault Refusal :=
  mbox 0x0702 stLRE (lenIs 4) s fun r =>
    let t := leAt r 0 2
    let off := leAt r 2 2
    if s.tileLimit ≤ t ∨ 4096 ≤ off ∨ off % 4 ≠ 0 then s.complete stBAD_FIELD []
    else if !s.sec.right 1 then s.complete stNO_DEBUG []
    else s.complete stOK (leBytes 4 (s.tregWord t off).toNat)

/-- TSTORE_READ: the bytes, then a poison bit for each word, padded to 8 bytes. -/
def execTstoreRead (s : State) : Host.Outcome State Fault Refusal :=
  mbox 0x0703 stRE (lenIs 12) s fun r =>
    let t := leAt r 0 2
    let a := leAt r 4 4
    let n := leAt r 8 4
    if s.tileLimit ≤ t ∨ !zeroAt r 2 4 ∨ a % 8 ≠ 0 ∨ n % 8 ≠ 0 ∨ n = 0 ∨ 28672 < n ∨ 0x60000 < a + n then s.complete stBAD_FIELD []
    else if !s.sec.right 1 then s.complete stNO_DEBUG []
    else
      let x := (s.tile t).touch a n
      let pz := bitsToBytes ((wordsOf a n).map x.wordPz)
      (s.setTile t x).complete stOK (x.bytes a n ++ padTo (8 * ceilDiv pz.length 8) pz)

/-- A TAP operation: none while TRST_N is low or the module has no power (R428, R436). -/
def jtagOp (s : State) (f : State → State) : Host.Outcome State Fault Refusal := .next (if s.jtag.trst ∨ !s.aon.power then s else f s)

/-- Data passes through the one-bit register (R426). -/
def Jtag.shift (j : Jtag) (tdi : Bool) : Jtag := { j with ir := .bypass, tdo := j.bypass, bypass := tdi, driving := false }

/-- JTAG_BYPASS. -/
def execJtagBypass (tdi : Bool) (s : State) : Host.Outcome State Fault Refusal :=
  jtagOp s fun u => { u with jtag := u.jtag.shift tdi }

/-- The IDCODE of the stepping (R436). -/
def idcode (stepping : Nat) : Word := w32 (at' stepping 28 + 0x0C150A3D)

/-- JTAG_IDCODE (R436). -/
def execJtagIdcode (s : State) : Host.Outcome State Fault Refusal :=
  jtagOp s fun u =>
    ({ u with jtag := { u.jtag with ir := .idcode, dr := idcode u.vent.stepping, driving := false } } : State).answerWord (idcode u.vent.stepping)

/-- JTAG_SAMPLE_PRELOAD: the pins are sampled, and the boundary cells take the preload (R426). -/
def execJtagSamplePreload (pins preload : List Bool) (s : State) : Host.Outcome State Fault Refusal :=
  jtagOp s fun u =>
    { u with jtag := { u.jtag with ir := .samplePreload, cells := preload, driving := false }, out := ⟨bitsToBytes pins, false⟩ }

/-- JTAG_EXTEST: under the JTAG right the cells drive the pins; otherwise it is BYPASS (R426). -/
def execJtagExtest (tdi : Bool) (s : State) : Host.Outcome State Fault Refusal :=
  jtagOp s fun u =>
    if u.sec.right 2 then { u with jtag := { u.jtag with ir := .extest, driving := true } } else { u with jtag := u.jtag.shift tdi }

/-- JTAG_REGISTER_READ: under the JTAG right; otherwise it is BYPASS (R426). A tile that no module has answers zero (log entry 8). -/
def execJtagRegisterRead (t off : Nat) (tdi : Bool) (s : State) : Host.Outcome State Fault Refusal :=
  jtagOp s fun u =>
    if u.sec.right 2 then
      let v := if t < 1536 then u.tregWord t off else 0
      ({ u with jtag := { u.jtag with ir := .regRead, dr := v, driving := false } } : State).answerWord v
    else { u with jtag := u.jtag.shift tdi }

/-- JTAG_SYNCF_SET at Update-DR: under the JTAG right; otherwise it is BYPASS (R179, R426). A flag or tile that no module has is not set (log
entry 8). -/
def execJtagSyncfSet (t flag value : Nat) (tdi : Bool) (s : State) : Host.Outcome State Fault Refusal :=
  jtagOp s fun u =>
    if !u.sec.right 2 then { u with jtag := u.jtag.shift tdi }
    else
      let v := { u with jtag := { u.jtag with ir := .syncfSet, driving := false } }
      if 47 < flag ∨ 1536 ≤ t then v else v.handSetting t flag (value % 256) 1

/-- TRST_N_RESET: low holds the TAP in Test-Logic-Reset, whose instruction is IDCODE (R436). -/
def execTrstNReset (low : Bool) (s : State) : Host.Outcome State Fault Refusal :=
  .next (if low then { s with jtag := { s.jtag with trst := true, ir := .idcode, bypass := false, driving := false } }
    else { s with jtag := { s.jtag with trst := false } })

end Sys2Proof.Machine
end

