-- ==== Sys2Proof/Machine/Image.lean ====
section
/-!
DEFINITION. A staged image as the loader reads it: the container, the manifest and the tile records, with their checks (R355 to R362,
codes 0x0101 to 0x0308 of Table 14-7).
-/
namespace Sys2Proof.Machine

/-- The bytes of a section's entry in the table: TYPE, OFFSET, SLEN (Table 14-2). -/
structure ImgSec where
  typ : Nat
  off : Nat
  len : Nat

/-- NSECT (Table 14-1). -/
def imgNsect (b : List Byte) : Nat := leAt b 6 2

/-- The section table. -/
def imgSecs (b : List Byte) : List ImgSec :=
  (List.range (imgNsect b)).map fun k => ⟨leAt b (128 + 32 * k) 2, leAt b (136 + 32 * k) 8, leAt b (144 + 32 * k) 8⟩

/-- The bytes of the section of a type; none where the image has no such section. -/
def imgSec (b : List Byte) (typ : Nat) : Option (List Byte) :=
  ((imgSecs b).find? fun x => x.typ == typ).map fun x => slice b x.off x.len

/-- The bytes of a section; none of an absent one. -/
def imgSecD (b : List Byte) (typ : Nat) : List Byte := (imgSec b typ).getD []

/-- Every byte of a range is zero. -/
def zeros (b : List Byte) (o n : Nat) : Bool := (slice b o n).all (· == 0)

/-- HEADER (Table 14-1). -/
def badHeader (b : List Byte) (len : Nat) : Bool :=
  slice b 0 4 != [0x47, 0x52, 0x4E, 0x42] || leAt b 4 2 != 1 || imgNsect b == 0 || decide (32 < imgNsect b) || leAt b 8 8 != len
    || !zeros b 80 48

/-- Two byte ranges share a byte. -/
def rangesMeet (a la b lb : Nat) : Bool := decide (0 < la) && decide (0 < lb) && decide (a < b + lb) && decide (b < a + la)

/-- Some two ranges of a list share a byte. -/
def anyMeet : List (Nat × Nat) → Bool
  | [] => false
  | r :: l => (l.any fun q => rangesMeet r.1 r.2 q.1 q.2) || anyMeet l

/-- The manifest's fields (Table 14-4). -/
def manOf (m : List Byte) : Manifest where
  grade := leAt m 0 2
  cols := leAt m 2 1
  rows := leAt m 3 1
  tcver := leAt m 4 2
  classes := leAt m 6 1
  txpmaj := leAt m 7 1
  wdog := leAt m 8 4
  stepxpn := leAt m 12 2
  parkxpn := leAt m 14 2
  resumewin := leAt m 16 1
  npart := leAt m 17 1
  plumep := leAt m 18 2
  b := leAt m 20 4
  maxn := leAt m 24 2

/-- The manifest of an image. -/
def imgMan (b : List Byte) : Manifest := manOf (imgSecD b 1)

/-- A record of address and length with its data, padded as a whole to 64 bytes (R361). -/
structure DataRec where
  addr : Nat
  data : List Byte
  good : Bool

/-- The size of a record with n bytes of header and data. -/
def padded (n : Nat) : Nat := 64 * ceilDiv n 64

/-- The record at offset o of a section, whose two header fields have w bytes each: `good` where it ends inside the section and its padding
is zero. -/
def dataRec (b : List Byte) (o w : Nat) : DataRec :=
  let n := leAt b (o + w) w
  let e := 2 * w + n
  ⟨leAt b o w, slice b (o + 2 * w) n, decide (o + padded e ≤ b.length) && zeros b (o + e) (padded e - e)⟩

/-- The DEVDATA records; `k` bounds their number. -/
def devRecs (b : List Byte) : Nat → Nat → List DataRec
  | 0, _ => []
  | k + 1, o => if b.length ≤ o then [] else dataRec b o 8 :: devRecs b k (o + padded (16 + leAt b (o + 8) 8))

/-- The DEVDATA records of an image. -/
def imgDev (b : List Byte) : List DataRec := let d := imgSecD b 0x0B; devRecs d (d.length / 64 + 1) 0

/-- SECTION: R357, the table's reserved fields, the sections that are required, DEVDATA's padding (R361). -/
def badSection (b : List Byte) : Bool :=
  let ss := imgSecs b
  let table := 128 + 32 * imgNsect b
  decide (b.length < table)
    || (List.range (imgNsect b)).any (fun k => !zeros b (130 + 32 * k) 6 || !zeros b (152 + 32 * k) 8)
    || ss.any (fun x => x.typ == 0 || decide (0x0C < x.typ) || x.off % 64 != 0 || decide (b.length < x.off + x.len))
    || (ss.map (·.typ)).eraseDups.length != ss.length
    || anyMeet ((0, table) :: ss.map fun x => (x.off, x.len))
    || [1, 2, 3, 4].any (fun t => (imgSec b t).isNone)
    || ((imgMan b).txpmaj != 0 && (imgSec b 8).isNone) || ((imgMan b).stepxpn != 0xFFFF && (imgSec b 9).isNone)
    || (imgDev b).any (fun r => !r.good)

/-- The image digest (R356). -/
def imgDigest (b : List Byte) : List Byte := shake256 64 (b.take 16 ++ List.replicate 64 0 ++ b.drop 80)

/-- STAGING: the staged range meets a DEVDATA destination (R371). -/
def badStaging (b : List Byte) (a len : Nat) : Bool := (imgDev b).any fun r => rangesMeet r.addr r.data.length a len

/-- A window declaration of the image (R365): WIN, the window, its reserved bytes are zero, it is a plume window. -/
structure WinDecl where
  n : Nat
  side : Nat
  init : Nat
  w : Win
  good : Bool

/-- Declaration k of the WINDOWS section. -/
def winDecl (b : List Byte) (k : Nat) : WinDecl :=
  let x := slice b (32 * k) 32
  let f := leAt x 5 1
  { n := leAt x 0 1, side := leAt x 1 1, init := leAt x 3 1, good := f / 2 == 0 && zeros x 10 6,
    w := { base := leAt x 16 8, size := leAt x 24 8, side1 := leAt x 1 1 == 1, pset := leAt x 6 2, perm := leAt x 2 1, init1 := leAt x 3 1 == 1,
           aflag := leAt x 4 1, cons := leAt x 8 2, plume := bitAt f 0, outside := leAt x 3 1 == 1, xfer := 0, issued := [], released := [],
           handed := [] } }

/-- The window declarations of an image. -/
def imgWins (b : List Byte) : List WinDecl := let s := imgSecD b 6; (List.range (s.length / 32)).map (winDecl s)

/-- The declaration of window n. -/
def imgWin (b : List Byte) (n : Nat) : Option WinDecl := (imgWins b).find? fun x => x.n == n

/-- Tiles of the image's grid. -/
def imgTiles (b : List Byte) : Nat := (imgMan b).rows * 32

/-- The start of each tile's part of the EXCHANGE section: 16 bytes, 256 directory entries, NENT send entries (R363). -/
def xchStarts (x : List Byte) : Nat → Nat → List Nat
  | 0, _ => []
  | k + 1, o => o :: xchStarts x k (o + 2064 + 16 * leAt x (o + 4) 4)

/-- One tile's part of the EXCHANGE section. -/
structure XchPart where
  vt : Nat
  nent : Nat
  good : Bool
  dir : List Nat
  ent : List Nat

/-- The part at offset o. -/
def xchPart (x : List Byte) (o : Nat) : XchPart :=
  let n := leAt x (o + 4) 4
  ⟨leAt x o 2, n, zeros x (o + 2) 2 && zeros x (o + 8) 8, (List.range 256).map fun k => leAt x (o + 16 + 8 * k) 8,
   (List.range n).map fun k => leAt x (o + 2064 + 16 * k) 16⟩

/-- The exchange parts of an image, by virtual tile. -/
def imgParts (b : List Byte) : List XchPart :=
  let x := imgSecD b 3
  (xchStarts x (imgTiles b) 0).map (xchPart x)

/-- GRADE (R359). -/
def badGrade (b : List Byte) (current : Nat) : Bool := (imgMan b).grade == 1536 && current != 1536

/-- An XPN of the manifest names a device-wide program, or none (R358). -/
def xpnOk (b : List Byte) (n : Nat) : Bool :=
  n == 0xFFFF || (decide (n < 256) && (match (imgParts b).head? with
    | some p => fld (p.dir.getD n 0) 38 36 == 5
    | none => false))

/-- MANIFEST (R358). -/
def badManifest (b : List Byte) : Bool :=
  let m := imgMan b
  let s := imgSecD b 1
  let plumes := (imgWins b).filter fun x => x.w.plume
  s.length != 64 || !(m.grade == 1408 && m.rows == 44 || m.grade == 1536 && m.rows == 48) || m.cols != 32 || decide (1 < m.txpmaj)
    || decide (2 ^ 24 ≤ m.wdog) || !xpnOk b m.stepxpn || !xpnOk b m.parkxpn || (m.parkxpn == 0xFFFF) != (m.resumewin == 0xFF)
    || (m.resumewin != 0xFF && (match imgWin b m.resumewin with
        | some x => x.side != 0
        | none => true))
    || (if m.txpmaj = 0 then m.npart != 0 || m.b != 0 || m.maxn != 1
        else m.npart == 0 || decide (16 < m.npart) || m.maxn == 0 || decide (4096 < m.maxn))
    || (m.plumep != 0 && (plumes.isEmpty || decide (2 < plumes.length) || plumes.any fun x => x.w.perm != 1 || x.init != 0))
    || !zeros s 26 38

/-- A tile record (Table 14-5): where its fixed part starts, CODELIM, NINIT, the INIT regions, where the next record starts, whether
NINIT or a region is at fault in such a way that no next record can be found (R360). -/
structure TileRec where
  start : Nat
  codelim : Nat
  ninit : Nat
  init : List DataRec
  stop : Nat
  lost : Bool

/-- n INIT records from offset o, where they end, and whether one runs past the section. -/
def initRecs (b : List Byte) : Nat → Nat → List DataRec × Nat × Bool
  | 0, o => ([], o, false)
  | n + 1, o =>
    let r := initRecs b n (o + padded (8 + leAt b (o + 4) 4))
    (dataRec b o 4 :: r.1, r.2.1, r.2.2 || decide (b.length < o + 8 + leAt b (o + 4) 4))

/-- The tile record at offset o. -/
def tileRec (b : List Byte) (o : Nat) : TileRec :=
  let c := leAt b (o + 4) 4
  let n := leAt b (o + 16) 4
  let r := if 64 < n then ([], 0, true) else initRecs b n (o + 2688 + c)
  ⟨o, c, n, r.1, padded r.2.1, r.2.2⟩

/-- n tile records from offset o; a record without a next one ends them. -/
def tileRecs (b : List Byte) : Nat → Nat → List TileRec
  | 0, _ => []
  | n + 1, o =>
    let r := tileRec b o
    if r.lost then [r] else r :: tileRecs b n r.stop

/-- The tile records of an image. -/
def imgRecs (b : List Byte) : List TileRec := tileRecs (imgSecD b 2) (imgTiles b) 0

/-- TILESET (R360). -/
def badTileset (b : List Byte) : Bool :=
  let s := imgSecD b 2
  let rs := imgRecs b
  ((List.range rs.length).zip rs).any (fun e =>
      leAt s e.2.start 2 != e.1 || !zeros s (e.2.start + 2) 2 || !zeros s (e.2.start + 20) 12 || !zeros s (e.2.start + 76) 52
        || decide (s.length < e.2.start + 2688 + e.2.codelim))
    || (match rs.getLast? with
      | none => s.length != 0
      | some r => !r.lost && r.stop != s.length)

/-- CODE: the code region and the start gate (R45, R362). -/
def badCode (s : List Byte) (r : TileRec) : Bool :=
  r.codelim % 4096 != 0 || decide (0x10000 < r.codelim) || r.codelim == 0 || leAt s (r.start + 2688) 4 != 0xC000002C

/-- Handle n of a tile record. -/
def TileRec.hnd (r : TileRec) (s : List Byte) (n : Nat) : Nat := leAt s (r.start + 128 + 8 * n) 8

/-- A block of a BLOCKED buffer in bytes: 1,024 × w (R67). -/
def blockBytes (fmt : Nat) : Nat := 128 * fmtBits fmt

/-- HANDLE: one handle over a code region that ends at `lim` (R66, R67). -/
def badHandle (lim h : Nat) : Bool :=
  fld h 45 26 != 0 || hLayout h == 3 || decide (9 < hFmt h)
    || (hValid h && (decide (64 * hBase h < lim) || hLen h == 0 || decide (6144 < hBase h + hLen h)
      || (if hLayout h = 0 then hBdim h != 0
          else hBdim h == 0 || 64 * hBase h % blockBytes (hFmt h) != 0 || 64 * hLen h % blockBytes (hFmt h) != 0)))

/-- The scales that a BS element handle needs (R80). -/
def scalesOf (h : Nat) : Nat := ceilDiv (512 * hLen h / fmtBits (hFmt h)) 32

/-- BSPAIR: the handles of a tile, paired upward from H0 (R80); `scale` says that the first of the list is a scale handle. -/
def badPairs : Bool → List Nat → Bool
  | _, [] => false
  | true, _ :: l => badPairs false l
  | false, h :: l =>
    if hValid h && (hFmt h == cBS4 || hFmt h == cBS8) then
      match l with
      | [] => true
      | g :: _ => !hValid g || hLayout g != 0 || hFmt g != hFmt h || decide (64 * hLen g < scalesOf h) || badPairs true l
    else badPairs false l

/-- MRCFG of a tile record. -/
def TileRec.mrcfg (r : TileRec) (s : List Byte) : Nat := leAt s (r.start + 12) 4

/-- The byte range of a tile's ring: none where the record declares no ring. -/
def TileRec.ring (r : TileRec) (s : List Byte) : Option (Nat × Nat) :=
  let c := r.mrcfg s
  if bitAt c 31 then some (64 * hBase (r.hnd s (fld c 5 0)), 256 * 2 ^ fld c 10 8) else none

/-- The landings of an image: destination tile, destination address, bytes. -/
def imgLandings (b : List Byte) : List (Nat × Nat × Nat) :=
  let s := imgSecD b 2
  let rs := imgRecs b
  ((imgParts b).map fun p => p.ent.filterMap fun e =>
    (rs[fld e 42 32]?).map fun r => (fld e 42 32, 64 * hBase (r.hnd s (seDh e)) + 16 * seDoff e, 16 * seN e)).flatten

/-- RING (R193). A feed writes through any valid handle without WP, so such a handle must not cover the ring (log entry 25). -/
def badRing (s : List Byte) (lands : List (Nat × Nat)) (r : TileRec) : Bool :=
  let c := r.mrcfg s
  match r.ring s with
  | none => c != 0
  | some (a, n) =>
    let h := r.hnd s (fld c 5 0)
    fld c 30 11 != 0 || fld c 7 6 != 0 || fld c 10 8 == 7 || !hValid h || hLayout h != 0 || decide (64 * hLen h < n)
      || lands.any (fun l => rangesMeet l.1 l.2 a n)
      || (List.range 64).any fun k =>
        let g := r.hnd s k
        hValid g && !hWp g && rangesMeet (64 * hBase g) (64 * hLen g) a n

/-- MQMODE: a split out of range, or a reserved bit (R117); REJ is zero in the image. -/
def badMqmode (v : Nat) : Bool :=
  decide (32 < fld v 29 24) || decide (16 < fld v 20 16) || decide (16 < fld v 12 8) || fld v 31 30 != 0 || fld v 23 21 != 0
    || fld v 15 13 != 0 || fld v 7 2 != 0

/-- PRISM (R136). -/
def badPrism (s : List Byte) (r : TileRec) : Bool :=
  (List.range 256).any fun k => !uopAccepted (leAt s (r.start + 640 + 8 * k) 8)

/-- INITDATA: the INIT regions of a tile (R361). -/
def badInit (r : TileRec) : Bool :=
  r.lost || r.init.any (fun i => !i.good || decide (i.addr < r.codelim) || decide (0x60000 < i.addr + i.data.length))
    || anyMeet (r.init.map fun i => (i.addr, i.data.length))

/-- The first failing check of a list of codes and outcomes. -/
def firstFail : List (Nat × Bool) → Option Nat
  | [] => none
  | (c, bad) :: l => if bad then some c else firstFail l

/-- Codes 0x0101 to 0x0308 in order (R372, Table 14-7). -/
def checkTiles (b : List Byte) (addr len current : Nat) : Option Nat :=
  let s := imgSecD b 2
  let rs := imgRecs b
  let lands := imgLandings b
  firstFail [(0x0101, badHeader b len), (0x0102, badSection b), (0x0103, imgDigest b != slice b 16 64), (0x0104, badStaging b addr len),
    (0x0201, badGrade b current), (0x0202, badManifest b), (0x0301, badTileset b), (0x0302, rs.any (badCode s)),
    (0x0303, rs.any fun r => (List.range 64).any fun n => badHandle r.codelim (r.hnd s n)),
    (0x0304, rs.any fun r => badPairs false ((List.range 64).map (r.hnd s))),
    (0x0305, ((List.range rs.length).zip rs).any fun e => badRing s ((lands.filter fun l => l.1 == e.1).map (·.2)) e.2),
    (0x0306, rs.any fun r => badMqmode (leAt s (r.start + 8) 4)),
    (0x0307, rs.any (badPrism s)),
    (0x0308, rs.any badInit || (imgDev b).any fun r => decide (imageEndAddr < r.addr + r.data.length))]

end Sys2Proof.Machine
end

