-- ==== Sys2Proof/Machine/XchCheck.lean ====
section
/-!
DEFINITION. The loader's checks on the exchange that no placement changes: checks 1 to 4, 10 and 11 of Table 7-8 (codes 0x0401 to 0x0404,
0x040A, 0x040B).
-/
namespace Sys2Proof.Machine

/-- A run of packets: its source tile, the exchange program, the number of its send entry in the tile, the entry in virtual form, the
scope level and the group of the program at the source tile. -/
structure XRun where
  src : Nat
  xpn : Nat
  k : Nat
  e : Nat
  level : Nat
  gid : Nat

/-- The destination tile of a virtual send entry (R154). -/
def XRun.dst (r : XRun) : Nat := fld r.e 42 32

/-- The runs of one part: for each program the entries FIRST to FIRST + COUNT − 1 (R153). -/
def XchPart.runs (p : XchPart) : List XRun :=
  (((List.range 256).zip p.dir).map fun d =>
    ((List.range (fld d.2 20 10)).filterMap fun j =>
      (p.ent[fld d.2 9 0 + j]?).map fun e =>
        (⟨p.vt, d.1, fld d.2 9 0 + j, e, fld d.2 38 36, gOfTile (fld d.2 38 36) p.vt⟩ : XRun))).flatten

/-- Every run of an image. -/
def imgRuns (b : List Byte) : List XRun := ((imgParts b).map XchPart.runs).flatten

/-- Check 1: TC-1, the structure of R363, every LEVEL, CLS and reserved field. -/
def badXch1 (b : List Byte) : Bool :=
  let ps := imgParts b
  let badDir (d : Nat) : Bool := fld d 38 36 == 0 || decide (5 < fld d 38 36) || fld d 47 39 != 0 || fld d 35 21 != 0
  let badEnt (e : Nat) : Bool := decide (4 < seCls e) || fld e 31 0 != 0 || seSpad e != 0 || seLpad e != 0
  (imgMan b).tcver != 1 || ps.map (·.vt) != List.range (imgTiles b) || ps.any (fun p => !p.good || decide (1024 < p.nent))
    || (imgSecD b 3).length != (ps.map fun p => 2064 + 16 * p.nent).sum
    || ps.any fun p => p.dir.any badDir || p.ent.any badEnt

/-- Check 2: destinations, classes (R160, R28), the manifest's CLASSES. -/
def badXch2 (b : List Byte) : Bool :=
  let n := imgTiles b
  let ps := imgParts b
  let cs := (ps.map fun p => p.ent.map seCls).flatten
  ps.any (fun p => p.ent.any fun e => decide (n ≤ fld e 42 32) || seCls e != routeClass p.vt (fld e 42 32))
    || (imgRuns b).any (fun r => decide (r.level ≤ seCls r.e) || gOfTile r.level r.dst != r.gid)
    || (List.range 8).any fun k => bitAt (imgMan b).classes k != cs.contains k

/-- Check 3: the same LX and LEVEL in every tile, and entries that exist. -/
def badXch3 (b : List Byte) : Bool :=
  let ps := imgParts b
  match ps.head? with
  | none => true
  | some p0 =>
    ps.any fun p => (p.dir.zip p0.dir).any fun d =>
      fld d.1 63 48 != fld d.2 63 48 || fld d.1 38 36 != fld d.2 38 36
        || (fld d.1 20 10 != 0 && decide (p.nent < fld d.1 9 0 + fld d.1 20 10))

/-- L_x of the program of a run. -/
def imgLx (b : List Byte) (xpn : Nat) : Nat :=
  match (imgParts b).head? with
  | none => 0
  | some p => fld (p.dir.getD xpn 0) 63 48

/-- Check 4: T + N − 1 + C ≤ LX − 1 (R158). -/
def badXch4 (b : List Byte) : Bool := (imgRuns b).any fun r => decide (imgLx b r.xpn < seT r.e + seN r.e + classLat (seCls r.e))

/-- An access of the exchange port: tile, program and group, cycle of the phase, whether it is a landing, bank. -/
structure PortUse where
  tile : Nat
  xpn : Nat
  gid : Nat
  cyc : Nat
  land : Bool
  bank : Nat

/-- The accesses of packet j of a run (R155). -/
def XRun.uses (hnd : Nat → Nat → Nat) (r : XRun) (j : Nat) : List PortUse :=
  [⟨r.src, r.xpn, r.gid, seT r.e + j, false, bankOf (64 * hBase (hnd r.src (seSh r.e)) + 16 * (seSoff r.e + j))⟩,
   ⟨r.dst, r.xpn, r.gid, seT r.e + j + classLat (seCls r.e), true, bankOf (64 * hBase (hnd r.dst (seDh r.e)) + 16 * (seDoff r.e + j))⟩]

/-- Handle n of virtual tile t of an image. -/
def imgHnd (b : List Byte) (t n : Nat) : Nat :=
  match (imgRecs b)[t]? with
  | none => 0
  | some r => r.hnd (imgSecD b 2) n

/-- Check 10: in one tile and cycle distinct banks, at most four reads and four landings (R156). -/
def badXch10 (b : List Byte) : Bool :=
  let us := ((imgRuns b).map fun r => ((List.range (seN r.e)).map (r.uses (imgHnd b))).flatten).flatten
  us.any fun u =>
    let same := us.filter fun v => v.tile == u.tile && v.xpn == u.xpn && v.gid == u.gid && v.cyc == u.cyc
    decide (1 < (same.filter fun v => v.bank == u.bank).length) || decide (4 < (same.filter fun v => v.land == u.land).length)

/-- Check 11: the run of every send entry inside its handles, no landing through a handle with WP (R65, R154). -/
def badXch11 (b : List Byte) : Bool :=
  (imgParts b).any fun p => p.ent.any fun e =>
    let sh := imgHnd b p.vt (seSh e)
    let dh := imgHnd b (fld e 42 32) (seDh e)
    !hValid sh || !hValid dh || hWp dh || decide (64 * hLen sh < 16 * (seSoff e + seN e))
      || decide (64 * hLen dh < 16 * (seDoff e + seN e))

/-- Codes 0x0401 to 0x0404, 0x040A and 0x040B in order. -/
def checkExchange (b : List Byte) : Option Nat :=
  firstFail [(0x0401, badXch1 b), (0x0402, badXch2 b), (0x0403, badXch3 b), (0x0404, badXch4 b), (0x040A, badXch10 b),
    (0x040B, badXch11 b)]

end Sys2Proof.Machine
end

