-- ==== Sys2Proof/Machine/Placement.lean ====
section
/-!
DEFINITION. The placement of an image (R164, R165, R369, R370): candidates, the routes of the runs, checks 5 to 9 of Table 7-8, the
fixed procedure that chooses ROUTE, SPAD and LPAD, the physical form of the send entries. Log entry 26 says what R164 leaves open.
-/
namespace Sys2Proof.Machine

/-- Where an image is placed: stepping, repair map, skipped block row. -/
structure Place where
  stepping : Nat
  map : RepairMap
  skip : Option Nat

/-- The candidates of R369, in order. -/
def placements (map : RepairMap) (grade : Nat) : List (Option Nat) :=
  let rows := (((List.range 96).filter fun p => !map.usable p).map (· / 8)).eraseDups
  if grade = 1536 then (if rows.isEmpty then [none] else [])
  else
    match rows with
    | [] => (List.range 12).map fun k => some (11 - k)
    | [r] => [some r]
    | _ => []

/-- The hops of a run on variant v. -/
def Place.hops (q : Place) (v : Nat) (r : XRun) : List (Bool × Nat × Nat) :=
  routeHops v (routerOf (physPos q.skip r.src)) (routerOf (physPos q.skip r.dst))

/-- A spare serves virtual tile t. -/
def Place.spare (q : Place) (t : Nat) : Bool := spared q.map q.skip t

/-- The spare ends of a run (R160, R161). -/
def Place.ends (q : Place) (r : XRun) : Nat := if r.src = r.dst then b2n (q.spare r.src) else b2n (q.spare r.src) + b2n (q.spare r.dst)

/-- The native latency of a run on variant v. -/
def Place.native (q : Place) (v : Nat) (r : XRun) : Nat := nativeLat q.stepping (q.ends r) (q.hops v r)

/-- The physical block of a quad router. -/
def blockOfRouter (x : Nat × Nat) : Nat := x.2 / 2 * 8 + x.1 / 2

/-- Variant v serves a run: native ≤ C, no ordinary hop ends at a failed router (R164, R166). DEDUCED (log entry 71): the rule bars only
ordinary hops, so an express hop may end at one. -/
def Place.usable (q : Place) (v : Nat) (r : XRun) : Bool :=
  decide (q.native v r ≤ classLat (seCls r.e)) && (q.hops v r).all fun h => h.1 || !q.map.routerBad (blockOfRouter h.2)

/-- The choice for a run: ROUTE and SPAD; LPAD is the rest of C − native (R162). -/
structure RouteChoice where
  run : XRun
  route : Nat
  spad : Nat

/-- C − native of a choice. -/
def Place.pad (q : Place) (c : RouteChoice) : Nat := classLat (seCls c.run.e) - q.native c.route c.run

/-- LPAD of a choice. -/
def Place.lpad (q : Place) (c : RouteChoice) : Nat := q.pad c - c.spad

/-- A resource of the mesh: a link from a router to a router, the receive tracks of a tile, a send track of a tile. -/
inductive MeshRes where
  | link (a b : Nat × Nat)
  | rx (t : Nat)
  | tx (t trk : Nat)
  deriving DecidableEq

/-- Packets that a resource takes in one cycle (R149, R150). -/
def MeshRes.cap : MeshRes → Nat
  | .link a b => if a.1 - b.1 = 2 ∨ b.1 - a.1 = 2 ∨ a.2 - b.2 = 2 ∨ b.2 - a.2 = 2 then 6 else 8
  | .rx _ => 4
  | .tx _ _ => 1

/-- The use of the links of a path from cycle c on; `x` is the retiming that is still due before the first express hop (R155, R161). -/
def linkUses : Nat → Nat → Nat × Nat → List (Bool × Nat × Nat) → List (MeshRes × Nat)
  | _, _, _, [] => []
  | c, x, a, h :: l =>
    let c1 := if h.1 then c + x else c
    (.link a h.2, c1) :: linkUses (c1 + (if h.1 then 3 else 2)) (if h.1 then 0 else x) h.2 l

/-- What packet j of a run uses, and in which cycles of the phase (R155). -/
def Place.uses (q : Place) (c : RouteChoice) (j : Nat) : List (MeshRes × Nat) :=
  let r := seT c.run.e + j
  let c0 := r + 2 + c.spad + (if q.spare c.run.src then 2 else 0)
  [(.tx c.run.src (seTrk c.run.e), r + 1 + c.spad), (.rx c.run.dst, r + c.spad + q.native c.route c.run - 2)]
    ++ linkUses c0 (if q.stepping = 2 then 1 else 0) (routerOf (physPos q.skip c.run.src)) (q.hops c.route c.run)

/-- One use of a resource by a run in a cycle of one program's phase at one group. -/
structure ResUse where
  c : RouteChoice
  res : MeshRes
  cyc : Nat

/-- Every use of every packet. -/
def Place.allUses (q : Place) (cs : List RouteChoice) : List ResUse :=
  (cs.map fun c => ((List.range (seN c.run.e)).map fun j => (q.uses c j).map fun u => (⟨c, u.1, u.2⟩ : ResUse)).flatten).flatten

/-- Two runs belong to one phase. -/
def samePhase (a b : XRun) : Bool := a.xpn == b.xpn && a.gid == b.gid

/-- Checks 6 and 7: the use meets more packets than its resource takes. -/
def overused (us : List ResUse) (u : ResUse) : Bool :=
  decide (u.res.cap < (us.filter fun v => decide (v.res = u.res) && v.cyc == u.cyc && samePhase v.c.run u.c.run).length)

/-- The resource belongs to check 6. -/
def MeshRes.isLink : MeshRes → Bool
  | .link _ _ => true
  | _ => false

/-- The stay of a packet in a buffer: whether it is the landing buffer, the tile, its first cycle, the number of cycles (R155, R157). -/
structure Stay where
  c : RouteChoice
  land : Bool
  tile : Nat
  cyc : Nat
  n : Nat

/-- The stays of every packet. -/
def Place.stays (q : Place) (cs : List RouteChoice) : List Stay :=
  (cs.map fun c => ((List.range (seN c.run.e)).map fun j =>
    let r := seT c.run.e + j
    [(⟨c, false, c.run.src, r + 1, c.spad⟩ : Stay), ⟨c, true, c.run.dst, r + c.spad + q.native c.route c.run - 1, q.lpad c⟩]).flatten).flatten

/-- Check 8: more than 256 packets are in the buffer when this one enters. -/
def overfull (ss : List Stay) (u : Stay) : Bool :=
  decide (0 < u.n) && decide (256 < (ss.filter fun v =>
    v.land == u.land && v.tile == u.tile && samePhase v.c.run u.c.run && decide (v.cyc ≤ u.cyc) && decide (u.cyc < v.cyc + v.n)).length)

/-- Block p belongs to the physical region of a group of level 2 or above: its columns, from its first to its last block row (R370). -/
def inRegion (skip : Option Nat) (rows g p : Nat) : Bool :=
  let bs := (gTiles rows g).map fun t => (physBlock skip t).1
  bs.any (fun x => x % 8 == p % 8) && bs.any (fun x => decide (x / 8 ≤ p / 8)) && bs.any (fun x => decide (p / 8 ≤ x / 8))

/-- Check 9: a path leaves the region of its group. A scope below L2 has no hop outside its quad. -/
def Place.strays (q : Place) (rows : Nat) (c : RouteChoice) : Bool :=
  (q.hops c.route c.run).any fun h => !inRegion q.skip rows c.run.gid (blockOfRouter h.2)

/-- The choices that a check involves, by code 0x0406 to 0x0409. -/
def Place.failing (q : Place) (rows : Nat) (cs : List RouteChoice) : List (Nat × List RouteChoice) :=
  let us := q.allUses cs
  let crowded := us.filter (overused us)
  let ss := q.stays cs
  [(0x0406, (crowded.filter fun u => u.res.isLink).map (·.c)), (0x0407, (crowded.filter fun u => !u.res.isLink).map (·.c)),
   (0x0408, (ss.filter (overfull ss)).map (·.c)), (0x0409, cs.filter (q.strays rows))]

/-- Two choices are for one send entry of one tile. -/
def RouteChoice.same (a b : RouteChoice) : Bool := a.run.src == b.run.src && a.run.k == b.run.k

/-- The first usable variant from v on for a run; v where there is none. -/
def Place.nextRoute (q : Place) (v : Nat) (r : XRun) : Option Nat := ((List.range 4).filter (v ≤ ·)).find? fun w => q.usable w r

/-- The first choices: variant 0, or the first usable one, with all padding in LPAD; none where a run has no usable variant (check 5). -/
def Place.first (q : Place) : List XRun → Option (List RouteChoice)
  | [] => some []
  | r :: l =>
    match q.nextRoute 0 r, q.first l with
    | some v, some cs => some (⟨r, v, 0⟩ :: cs)
    | _, _ => none

/-- One round: the runs that failing checks involve take their next usable variant. -/
def Place.advance (q : Place) (rows : Nat) (cs : List RouteChoice) : List RouteChoice :=
  let bad := ((q.failing rows cs).map (·.2)).flatten
  cs.map fun c => if bad.any c.same then { c with route := (q.nextRoute (c.route + 1) c.run).getD c.route } else c

/-- n rounds, while a check fails. -/
def Place.rounds (q : Place) (rows : Nat) : Nat → List RouteChoice → List RouteChoice
  | 0, cs => cs
  | n + 1, cs => if (q.failing rows cs).all (fun f => f.2.isEmpty) then cs else q.rounds rows n (q.advance rows cs)

/-- The runs that check 8 involves have their padding moved to SPAD. -/
def Place.hold (q : Place) (rows : Nat) (cs : List RouteChoice) : List RouteChoice :=
  let bad := (((q.failing rows cs).filter fun f => f.1 == 0x0408).map (·.2)).flatten
  cs.map fun c => if bad.any c.same then { c with spad := q.pad c } else c

/-- The choices of one placement, or the lowest code of checks 5 to 9 that fails (R164, R372). -/
def Place.choose (q : Place) (rows : Nat) (rs : List XRun) : Except Nat (List RouteChoice) :=
  match q.first rs with
  | none => .error 0x0405
  | some cs0 =>
    let cs := q.hold rows (q.rounds rows 3 cs0)
    match (q.failing rows cs).find? fun f => !f.2.isEmpty with
    | some f => .error f.1
    | none => .ok cs

/-- The candidates in order; the code of the last one tried where none passes; `code` is that of no candidate (R165, R372). -/
def choosePlace (stepping : Nat) (map : RepairMap) (rows : Nat) (rs : List XRun) : Nat → List (Option Nat) →
    Except Nat (Option Nat × List RouteChoice)
  | code, [] => .error code
  | _, k :: l =>
    match Place.choose ⟨stepping, map, k⟩ rows rs with
    | .ok cs => .ok (k, cs)
    | .error c => choosePlace stepping map rows rs c l

/-- The placement of an image (R372). -/
def placeImage (stepping : Nat) (map : RepairMap) (b : List Byte) : Except Nat (Option Nat × List RouteChoice) :=
  choosePlace stepping map (imgMan b).rows (imgRuns b) 0x0501 (placements map (imgMan b).grade)

/-- The physical form of a send entry with its destination's router and position, ROUTE, SPAD and LPAD (Table 7-3). -/
def physEntry (e : Nat) (pos : Nat × Nat) (route spad lpad : Nat) : Nat :=
  e - at' (fld e 42 32) 32 + at' (pos.1 / 2) 39 + at' (pos.2 / 2) 34 + at' (pos.1 % 2 + 2 * (pos.2 % 2)) 32 + at' route 30 + at' spad 74
    + at' lpad 67

/-- The physical form of entry k of virtual tile t: an entry that no program names keeps variant 0 with its padding in LPAD. -/
def Place.entry (q : Place) (cs : List RouteChoice) (t k e : Nat) : Nat :=
  let r : XRun := ⟨t, 0, k, e, 5, 0x5000⟩
  let c := (cs.find? fun x => x.run.src == t && x.run.k == k).getD ⟨r, (q.nextRoute 0 r).getD 0, 0⟩
  physEntry e (physPos q.skip (fld e 42 32)) c.route c.spad (q.lpad c)

end Sys2Proof.Machine
end

