-- ==== Sys2Proof/Machine/JobCheck.lean ====
section
/-!
DEFINITION. The job around the tiles as the loader reads and checks it: schedule (R221, R224), windows (R230, R365), collectives (R366),
slots, pipeline, backfill (R367), deadlock record (R364), audit (R368); codes 0x0601 to 0x0803 of Table 14-7.
-/
namespace Sys2Proof.Machine

/-- Pages of the image area. -/
def imagePages : Nat := imageEndAddr / 65536

/-- The schedule entry at offset o of the section (Table 9-5). -/
def schedEnt (s : List Byte) (o : Nat) : SchedEnt :=
  let w := leAt s o 16
  { ss := fld w 127 96, first := fld w 95 71, npages := fld w 70 51 + 1, act := fld w 50 47, part := fld w 46 40, sid := fld w 39 28,
    keep := bitAt w 27 }

/-- The schedule of an image; none where it has no such section. -/
def imgSched (b : List Byte) : Option Sched :=
  (imgSec b 5).map fun s =>
    let n := leAt s 0 4
    { pro := (List.range n).map fun k => schedEnt s (16 + 16 * k), body := (List.range (leAt s 4 4)).map fun k => schedEnt s (16 + 16 * (n + k)),
      start := leAt s 8 4, period := leAt s 12 4 }

/-- A schedule entry that breaks Table 9-5 or R222, or leaves the image area. -/
def badEntry (e : SchedEnt) : Bool :=
  e.act == 0 || decide (3 < e.act) || (if e.act = 1 then decide (95 < e.part) && e.part != 0x7F else e.part != 0)
    || (if e.act = 3 then e.sid != 0 else e.sid == 0xFFF) || (e.keep && e.act != 1) || decide (imagePages < e.first + e.npages)

/-- A list is sorted by SS, each below `lim`. -/
def sortedSs (lim : Nat) : List SchedEnt → Bool
  | [] => true
  | [a] => decide (a.ss < lim)
  | a :: b :: l => decide (a.ss < lim) && decide (a.ss ≤ b.ss) && sortedSs lim (b :: l)

/-- SCHEDULE: the first case of R224. -/
def badSchedule (b : List Byte) : Bool :=
  match imgSec b 5, imgSched b with
  | some s, some c =>
    decide (s.length < 16) || decide (1048576 < leAt s 0 4) || decide (1048576 < leAt s 4 4)
      || s.length != 16 + 16 * (leAt s 0 4 + leAt s 4 4) || (!c.body.isEmpty && c.period == 0)
      || (c.pro ++ c.body).any badEntry || !sortedSs c.start c.pro || !sortedSs c.period c.body
      || (List.range (c.pro.length + c.body.length)).any fun k => fld (leAt s (16 + 16 * k) 4) 26 0 != 0
  | _, _ => false

/-- The walk of R224: the pin sets, the partition of each pinned page, whether a page held more than 15 pins, whether a partition
held more than 1,365 pinned pages. -/
structure SchedWalk where
  pins : Sparse (List Nat)
  part : Sparse Nat
  over15 : Bool
  overFr : Bool

/-- One page of an entry in the walk. -/
def SchedWalk.page (e : SchedEnt) (w : SchedWalk) (p : Nat) : SchedWalk :=
  let l := Sparse.get [] w.pins p
  match e.act with
  | 1 =>
    if l.contains e.sid then w
    else if 15 ≤ l.length then { w with over15 := true }
    else
      let q := if e.part = 0x7F then p % 96 else e.part
      let part := if l.isEmpty then Sparse.put w.part p q else w.part
      let pins := Sparse.set [] w.pins p (insertOn (fun (u : Nat) => u) e.sid l)
      let q1 := Sparse.get 0 part p
      { w with pins := pins, part := part, overFr := w.overFr || decide (1365 < (part.filter fun x => x.2 == q1).length) }
  | 2 =>
    let l1 := l.erase e.sid
    { w with pins := Sparse.set [] w.pins p l1, part := if l1.isEmpty then Sparse.del w.part p else w.part }
  | _ => w

/-- One entry in the walk. -/
def SchedWalk.entry (w : SchedWalk) (e : SchedEnt) : SchedWalk :=
  (List.range e.npages).foldl (fun (u : SchedWalk) i => u.page e (e.first + i)) w

/-- The walk after the prologue, after one repetition of the body and after two. -/
def Sched.walk (c : Sched) : SchedWalk × SchedWalk × SchedWalk :=
  let a := c.pro.foldl SchedWalk.entry ⟨[], [], false, false⟩
  let b := c.body.foldl SchedWalk.entry a
  (a, b, c.body.foldl SchedWalk.entry b)

/-- A property of the walk of an image's schedule. -/
def walkHas (b : List Byte) (f : SchedWalk × SchedWalk × SchedWalk → Bool) : Bool :=
  match imgSched b with
  | none => false
  | some c => f c.walk

/-- WINDOW (R230, R365). -/
def badWindows (b : List Byte) : Bool :=
  let ws := imgWins b
  (imgSecD b 6).length % 32 != 0 || (ws.map (·.n)).eraseDups.length != ws.length || anyMeet (ws.map fun x => (x.w.base, x.w.size))
    || ws.any fun x => decide (63 < x.n) || decide (1 < x.side) || decide (3 < x.w.perm) || decide (1 < x.init) || decide (43 < x.w.aflag)
        || !x.good || (if x.side = 0 then x.w.pset != 0 else decide (fld x.w.pset 15 12 < 6) || decide (14 < fld x.w.pset 15 12))
        || !gExists (imgMan b).rows x.w.cons || x.w.base % 65536 != 0 || x.w.size % 65536 != 0 || x.w.size == 0
        || decide (imageEndAddr < x.w.base + x.w.size)

/-- Declaration k of the COLLECTIVES section with its CID, and whether its reserved bytes are zero (R366). -/
def collDecl (s : List Byte) (k : Nat) : Nat × CollDecl × Bool :=
  let x := slice s (64 * k) 64
  (leAt x 0 1,
   { op := leAt x 1 1, rop := leAt x 2 1, record := leAt x 3 1 == 1, ifmt := leAt x 4 1, wfmt := leAt x 5 1, ofmt := leAt x 6 1,
     depth := leAt x 7 1, srcWin := leAt x 8 1, dstWin := leAt x 9 1, part := leAt x 10 1, pset := leAt x 12 2, root := leAt x 14 2,
     e := leAt x 16 8, rblk := leAt x 24 4, stageBase := leAt x 32 8, stageSize := leAt x 40 8, resBase := leAt x 48 8,
     resSize := leAt x 56 8 },
   zeros x 11 1 && zeros x 28 4 && decide (leAt x 3 1 < 2))

/-- The collectives of an image. -/
def imgColls (b : List Byte) : List (Nat × CollDecl × Bool) :=
  let s := imgSecD b 7
  (List.range (s.length / 64)).map (collDecl s)

/-- Error feedback (R286). -/
def CollDecl.feedback (d : CollDecl) : Bool := d.reduces && d.wfmt == cBS8

/-- The formats and the reduction agree with Tables 11-9 and 11-10 (log entry 28). -/
def CollDecl.formatsOk (d : CollDecl) : Bool :=
  if d.reduces then
    let fl := d.rop == 1 || d.rop == 2 || d.rop == 3
    let out := d.ofmt == cFP32 || d.ofmt == cBF16
    (fl && d.ifmt == cFP32 && d.wfmt == cFP32 && d.ofmt == cFP32)
      || (fl && (d.ifmt == cFP32 || d.ifmt == cBF16) && d.wfmt == cBF16 && out)
      || (fl && d.ifmt == cFP32 && d.wfmt == cBS8 && out)
      || ((d.rop == 4 || d.rop == 5) && d.ifmt == cINT32 && d.wfmt == cINT32 && d.ofmt == cINT32)
  else fmtOk d.ifmt && d.wfmt == d.ifmt && d.ofmt == d.ifmt && decide (d.rop ≤ 5)

/-- One declaration breaks R282, Table 11-10 or a field of R366. -/
def badColl (b : List Byte) (c : Nat × CollDecl × Bool) : Bool :=
  let d := c.2.1
  let m := imgMan b
  !c.2.2 || d.op == 0 || decide (4 < d.op) || !d.formatsOk || d.depth == 0 || decide (16 < d.depth)
    || !([4096, 8192, 16384, 32768, 65536].contains d.rblk) || (d.part != 0xFF && decide (m.npart ≤ d.part))
    || (d.op == 4 && decide (m.maxn ≤ d.root)) || decide (imageEndAddr < d.stageBase + d.stageSize)
    || decide (imageEndAddr < d.resBase + d.resSize)
    || (match imgWin b d.srcWin, imgWin b d.dstWin with
      | some x, some y => x.side != 1 || y.side != 1 || x.w.pset != d.pset || y.w.pset != d.pset || y.init != 1
      | _, _ => true)

/-- COLLECTIVE. -/
def badColls (b : List Byte) : Bool :=
  let cs := imgColls b
  (imgSecD b 7).length % 64 != 0 || (cs.map (·.1)).eraseDups.length != cs.length || cs.any (badColl b)

/-- The bytes of the largest chunk over n members (R284). -/
def maxChunk (d : CollDecl) (n : Nat) : Nat :=
  ((List.range n).map fun c => vecBytes d.ofmt (chunkHi d.e n c - chunkLo d.e n c)).foldl max 0

/-- DSTWIN. -/
def badDstwin (b : List Byte) : Bool :=
  (imgColls b).any fun c =>
    match imgWin b c.2.1.dstWin with
    | some x => decide (x.w.size < maxChunk c.2.1 (imgMan b).maxn)
    | none => true

/-- CSTAGE. -/
def badStage (b : List Byte) : Bool :=
  (imgColls b).any fun c =>
    let d := c.2.1
    decide (d.stageSize < (imgMan b).maxn * d.rblk * d.depth) || (d.feedback && decide (d.resSize < 4 * d.e))

/-- The slot table: SLOT, and whether KIND is OWNER (R367). -/
def imgSlots (b : List Byte) : List (Nat × Bool) :=
  let s := imgSecD b 8
  (List.range (s.length / 4)).map fun k => (leAt s (4 * k) 2, leAt s (4 * k + 2) 1 == 0)

/-- A list of numbers rises strictly. -/
def rising : List Nat → Bool
  | a :: b :: l => decide (a < b) && rising (b :: l)
  | _ => true

/-- SLOTS. -/
def badSlots (b : List Byte) : Bool :=
  match imgSec b 8 with
  | none => false
  | some s =>
    (imgMan b).txpmaj == 0 || s.length % 4 != 0 || s.length == 0 || decide (4 * 4096 < s.length) || !rising ((imgSlots b).map (·.1))
      || (List.range (s.length / 4)).any fun k => decide (1 < leAt s (4 * k + 2) 1) || !zeros s (4 * k + 3) 1

/-- An entry of the pipeline plan (R367): MB, NSAMP, SEQLEN, FIRST, LAST. -/
structure PipeEnt where
  mb : Nat
  nsamp : Nat
  seqlen : Nat
  first : Nat
  last : Nat

/-- The pipeline plan. -/
def imgPipe (b : List Byte) : List PipeEnt :=
  let s := imgSecD b 9
  (List.range (s.length / 16)).map fun k =>
    let x := slice s (16 * k) 16
    ⟨leAt x 0 2, leAt x 2 2, leAt x 4 4, leAt x 8 4, leAt x 12 4⟩

/-- PIPELINE (R241, R242): the samples of one slot that are in flight together are greatest where some entry begins. -/
def badPipeline (b : List Byte) : Bool :=
  let ps := imgPipe b
  (imgSecD b 9).length % 16 != 0 || (ps.map (·.mb)).eraseDups.length != ps.length
    || ps.any fun p => p.nsamp == 0 || decide (96 < p.nsamp) || p.seqlen == 0 || decide (1048576 < p.seqlen) || decide (p.last < p.first)
        || decide (96 < ((ps.filter fun q => q.mb % 2 == p.mb % 2 && decide (q.first ≤ p.first) && decide (p.first ≤ q.last)).map
              (·.nsamp)).sum)

/-- DEADLOCK (R364). -/
def badDeadlock (b : List Byte) : Bool :=
  let s := imgSecD b 4
  let t := imgSecD b 2
  let rs := imgRecs b
  let n := leAt s 0 4
  s.length != 8 + 8 * n || !zeros s 4 4 || n != (rs.filter fun r => (r.ring t).isSome).length
    || !rising ((List.range n).map fun k => leAt s (8 + 8 * k) 2)
    || (List.range n).any fun k =>
      let x := slice s (8 + 8 * k) 8
      let st := leAt x 2 1
      let scope := leAt x 3 1
      match (rs[leAt x 0 2]?).bind (fun r => r.ring t) with
      | none => true
      | some g => scope == 0 || decide (14 < scope)
          || (if st = 1 then decide (5 ≤ scope) || decide (g.2 - 8 < leAt x 4 4) else st != 2 || decide (scope ≤ 4))

/-- A resource of the backfill job (R367): kind, tile, first, length. -/
structure BackRes where
  kind : Nat
  tile : Nat
  first : Nat
  n : Nat

/-- The backfill resources; kinds 1, 3 and 7 name a tile, the others none (R367). -/
def imgBack (b : List Byte) : List BackRes :=
  let s := imgSecD b 0x0A
  (List.range (s.length / 16)).map fun k =>
    let x := slice s (16 * k + 4) 12
    let kind := leAt s (16 * k) 1
    ⟨kind, if [1, 3, 7].contains kind then Config.backfillField x 0 else 0, Config.backfillField x 1, Config.backfillField x 2⟩

/-- Number v of a kind at a tile belongs to the backfill job. -/
def backHas (rs : List BackRes) (kind tile v : Nat) : Bool :=
  rs.any fun r => r.kind == kind && r.tile == tile && decide (r.first ≤ v) && decide (v < r.first + r.n)

/-- Bytes of a range belong to the backfill job: some, and all. -/
def backMeets (rs : List BackRes) (kind tile a n : Nat) : Bool :=
  rs.any fun r => r.kind == kind && r.tile == tile && rangesMeet a n r.first r.n
def backCovers (rs : List BackRes) (kind tile a n : Nat) : Bool := (List.range n).all fun i => backHas rs kind tile (a + i)

/-- A user of one job keeps to its own resources: a main user meets no backfill byte, a backfill user no other (R256, R367). -/
def jobClash (rs : List BackRes) (own : Bool) (kind tile a n : Nat) : Bool :=
  if own then !backCovers rs kind tile a n else backMeets rs kind tile a n

/-- Handle n of tile t belongs to the backfill job. -/
def backHandle (rs : List BackRes) (t n : Nat) : Bool := backHas rs 7 t n

/-- Window n belongs to the backfill job; a window has no tile. -/
def backWin (rs : List BackRes) (n : Nat) : Bool := rs.any fun r => r.kind == 6 && r.first == n

/-- BACKFILL: handles, windows, schedule entries, collective regions and landings keep to their jobs (R367). -/
def badBackfill (b : List Byte) : Bool :=
  match imgSec b 0x0A with
  | none => false
  | some s =>
    let rs := imgBack b
    let handle (t n : Nat) : Bool :=
      let h := imgHnd b t n
      hValid h && jobClash rs (backHandle rs t n) 1 t (64 * hBase h) (64 * hLen h)
    let window (x : WinDecl) : Bool :=
      jobClash rs (backWin rs x.n) 2 0 x.w.base x.w.size
        || (gTiles (imgMan b).rows x.w.cons).any fun t => backHas rs 3 t x.w.aflag != backWin rs x.n
    let entry (e : SchedEnt) : Bool :=
      if e.act = 3 then backMeets rs 2 0 (65536 * e.first) (65536 * e.npages) && !backCovers rs 2 0 (65536 * e.first) (65536 * e.npages)
      else jobClash rs (backHas rs 5 0 e.sid) 2 0 (65536 * e.first) (65536 * e.npages)
    let coll (c : Nat × CollDecl × Bool) : Bool :=
      let d := c.2.1
      let own := backWin rs d.srcWin
      backWin rs d.dstWin != own || jobClash rs own 2 0 d.stageBase d.stageSize || jobClash rs own 2 0 d.resBase d.resSize
    let landing (r : XRun) : Bool :=
      let own := backHandle rs r.src (seSh r.e)
      jobClash rs own 1 r.dst (64 * hBase (imgHnd b r.dst (seDh r.e)) + 16 * seDoff r.e) (16 * seN r.e)
    s.length % 16 != 0
      || (List.range (s.length / 16)).any (fun k => leAt s (16 * k) 1 == 0 || decide (7 < leAt s (16 * k) 1) || !zeros s (16 * k + 1) 3)
      || (List.range (imgTiles b)).any (fun t => (List.range 64).any (handle t)) || (imgWins b).any window
      || ((imgSched b).map fun c => (c.pro ++ c.body).any entry).getD false || (imgColls b).any coll || (imgRuns b).any landing

/-- The AUDIT section of an image. -/
def imgAudit (b : List Byte) : Option AuditSect := (imgSec b 0x0C).map fun s => ⟨leAt s 0 1, leAt s 1 1, leAt s 2 2⟩

/-- The wire bytes of the collectives of a part. -/
def partBytes (b : List Byte) (p : Nat) : Nat :=
  (((imgColls b).filter fun c => c.2.1.part == p).map fun c => vecBytes c.2.1.wfmt c.2.1.e).sum

/-- AUDIT (R368). -/
def badAudit (b : List Byte) : Bool :=
  match imgSec b 0x0C, imgAudit b with
  | some s, some a =>
    let m := imgMan b
    let rs := imgBack b
    s.length != 32 || !zeros s 4 28 || m.txpmaj == 0 || (imgSec b 0x0A).isNone || !backWin rs a.ain || !backWin rs a.aout
      || (match imgWin b a.ain, imgWin b a.aout with
        | some x, some y => x.side != 0 || y.side != 0 || x.init != 1 || x.w.perm != 2 || y.init != 0 || y.w.perm != 1
            || (List.range 16).any fun p => bitAt a.mask p && decide (y.w.size < 8 + partBytes b p)
        | _, _ => true)
      || (List.range 16).any fun p => bitAt a.mask p
          && (decide (m.npart ≤ p) || (imgColls b).any fun c => c.2.1.part == p && c.2.1.feedback)
  | _, _ => false

/-- Codes 0x0601 to 0x0803 in order. -/
def checkJob (b : List Byte) : Option Nat :=
  firstFail [(0x0601, badSchedule b), (0x0602, walkHas b fun w => w.2.2.over15), (0x0603, walkHas b fun w => w.1.pins != w.2.1.pins),
    (0x0604, walkHas b fun w => w.2.2.overFr), (0x0605, badWindows b), (0x0701, badColls b), (0x0702, badDstwin b),
    (0x0703, badStage b), (0x0704, badSlots b), (0x0705, badPipeline b), (0x0801, badDeadlock b), (0x0802, badBackfill b),
    (0x0803, badAudit b)]

/-- What the loader answers for a staged image: the refusal code, or the placement (R372). -/
def checkImage (b : List Byte) (addr len current stepping : Nat) (map : RepairMap) : Except Nat (Option Nat × List RouteChoice) :=
  match checkTiles b addr len current with
  | some c => .error c
  | none =>
    match checkExchange b with
    | some c => .error c
    | none =>
      match checkJob b with
      | some c => .error c
      | none => placeImage stepping map b

end Sys2Proof.Machine
end

