-- ==== Sys2Proof/Machine/Leader.lean ====
section
/-!
DEFINITION. Contributions, answers and refusals (R308 to R314), resends (R322, R323), the freeze, leader failover (R319 to R321), and the
timers of Table 12-10 that belong to them.
-/
namespace Sys2Proof.Machine

/-- CONTRIB with FWD = 1: the deputy journals the record before it answers (R311, item 3). A record that it holds is acknowledged again. -/
def State.onContribFwd (s : State) (dev : Nat) (g : Seg) (m : ContribMsg) : State :=
  if s.suspended dev then s.reject dev 0x10 (some m.id) 0 g.seq
  else
    match s.txp.wms.find? fun w => w.c.id = m.id with
    | some w =>
      if w.committed then s.send { acceptMsg dev 1 [w.wm] (idBytes m.id) with fwd := true, step := m.id.step, ref := g.seq % 65536 } else s
    | none =>
      if s.vent.journal.high ∨ s.vent.journal.damaged ∨ !s.vent.journal.mounted then s.reject dev 0x11 (some m.id) 0 g.seq
      else
        let wm := m.id.seq + 1
        let w : WmRec := ⟨m, wm, dev, g.seq, true, false, false, 0, 0⟩
        ({ s with txp := { s.txp with wms := s.txp.wms ++ [w], deputy := some s.vent.devId } } : State).journal 0x44
          (contribBytes m ++ leBytes 2 wm) (.watermark m.id)

/-- JOIN to a device (Table 12-5). -/
def joinBytes (j : JoinMsg) : List Byte :=
  padTo 32 j.digest ++ beBytes 2 j.slot ++ padTo 18 (j.coords.map (beBytes 2)).flatten ++ List.replicate 10 0
def State.sendJoin (s : State) (devs : List Nat) (retry : Bool) : State :=
  match s.txp.joinMsg with
  | some j =>
    ({ s with txp := { s.txp with joinAt := s.now } } : State).sendAll devs { outMsg 0 0x02 0 0 [] (joinBytes j) with retry := retry }
  | none => s

/-- A takeover vote is counted; acceptances with the deputy's own beyond half of the standing members make the takeover (R319). -/
def State.vote (s : State) (dev : Nat) : State :=
  if !s.txp.voting ∨ s.txp.votes.contains dev ∨ !s.standing.contains dev then s
  else
    let s1 := { s with txp := { s.txp with votes := s.txp.votes ++ [dev] } }
    if s1.standing.length < 2 * (s1.txp.votes.length + 1) then ({ s1 with txp := { s1.txp with voting := false } } : State).takeover else s1

/-- The deputy has journaled what the leader copied to it: the CLOSE record of the open step goes to every member (R314). -/
def State.closeCopied (s : State) (step : Nat) : State :=
  match s.closeWaiting with
  | some c => if s.isLeader && c.step == step then s.finishClose c else s
  | none => s

/-- ACCEPT by its kind (R304, R305, R311, R314, R319). A fenced member's vote is refused (R329). -/
def State.onAccept (s : State) (dev : Nat) (g : Seg) (m : AcceptMsg) : State :=
  match m with
  | .contrib id _ => s.settle id 0
  | .fwd id =>
    if s.isLeader && s.txp.deputy == some dev && (s.txp.wms.any fun w => decide (w.c.id = id) && w.committed && !w.accepted) then
      s.acceptWm id
    else s
  | .join => { s with txp := { s.txp with joinPending := false, joinSends := 0 } }
  | .leave => s
  | .epoch => s
  | .close =>
    let cs := s.txp.closes.map fun c => if c.step = g.step then { c with owed := c.owed.filter fun e => e.1 != dev } else c
    let s1 := { s with txp := { s.txp with closes := cs } }
    if s.txp.deputy = some dev then s1.closeCopied g.step else s1
  | .takeover => if s.suspended dev then s.rejectTakeover dev 0x10 g.step g.seq else s.vote dev

/-- The transfer that a REJECT or a RESEND names: the port and the grant where it has left whole, is on a port, or waits there. -/
def State.sentGrant (s : State) (dev cls xfer : Nat) : Option (Nat × Grant) :=
  let mine (g : Grant) : Bool := g.x.dev == dev && g.x.cls == cls && g.x.xfer == xfer && !g.dead
  match s.txp.sentX.find? fun e => mine e.2 with
  | some e => some e
  | none => s.ports.findSome? fun e => match e.2.holder with
    | some g => if mine g then some (e.1, g) else (e.2.pend.find? mine).map fun h => (e.1, h)
    | none => (e.2.pend.find? mine).map fun h => (e.1, h)

/-- The transfer is withdrawn from where it stands; its frame on the wire completes. -/
def State.withdraw (s : State) (p : Nat) (g : Grant) : State :=
  let x := s.port p
  let same (h : Grant) : Bool := h.x.dev == g.x.dev && h.x.cls == g.x.cls && h.x.xfer == g.x.xfer
  let y := { x with holder := x.holder.map (fun h => if same h then { h with dead := true } else h), pend := x.pend.filter fun h => !same h }
  let s1 := if x = y then s else s.setPort p y
  { s1 with txp := { s1.txp with sentX := s1.txp.sentX.filter fun e => !same e.2 } }

/-- RESEND KIND = XFER: the transfer restarts with the next ATT, after the fifteenth RESEND under a new XFER (R322). -/
def State.onResendXfer (s : State) (dev cls xfer att : Nat) : State :=
  match s.sentGrant dev cls xfer with
  | none => s
  | some (p, h) =>
    if att < h.att then s
    else (s.withdraw p h).holdXfer p { h with resends := h.resends + 1 } (decide (15 ≤ h.resends + 1)) false

/-- The outbound contributions of one part that are not settled go out again. -/
def State.resendPart (s : State) (step part : Nat) : State :=
  (s.txp.outs.filter fun o => o.settled.isNone && o.c.id.step == step && o.c.id.seq == part).foldl (fun (u : State) o => u.sendContrib o.c) s

/-- A refusal that names a contribution: the deputy's of a copy, which T_CONTRIB repeats; or that of a contribution, redirected to the
leader that the detail names, taken up at the leader's watermark, kept for a retry, or settled with its reason (Table 12-7); a reserved code
is refused (R11): nothing happens. -/
def State.contribRefused (s : State) (id : ContribId) (code detail : Nat) : State :=
  if s.isLeader then s
  else match code with
  | 0x03 =>
    if detail = 0 ∨ detail = s.vent.devId ∨ detail = s.txp.leader then s
    else
      let s1 := { s with txp := { s.txp with leader := detail } }
      s1.resendPart id.step id.seq
  | 0x06 => s.resendPart id.step detail
  | 0x04 => s
  | 0x11 => s
  | 0x02 => s.resend s.txp.leader 2 [detail]
  | _ => if 1 ≤ code ∧ code ≤ 0x12 then s.settle id code else s

/-- A refused request that names no contribution: JOIN (R304), a message of an old epoch (R305), whose transfer, where the detail names one (log
entry 46), starts again, a window transfer (R323). -/
def State.otherRefused (s : State) (dev code detail : Nat) : State :=
  if code = 0x02 then
    let s1 := s.resend dev 2 [detail % 2 ^ 32]
    match s1.sentGrant dev (detail / 2 ^ 48) (detail / 2 ^ 32 % 65536) with
    | some (p, h) => if detail / 2 ^ 48 = 0 then s1 else (s1.withdraw p h).holdXfer p h false false
    | none => s1
  else if code = 0x03 then
    if s.txp.joinPending ∧ detail ≠ 0 ∧ detail ≠ s.vent.devId then s.sendJoin [detail] false else s
  else if 0x09 ≤ code ∧ code ≤ 0x0C then
    if s.txp.joinPending then
      ({ s with txp := { s.txp with joinPending := false, joinAt := s.now } } : State).health 0x0035 (leBytes 1 code)
    else s
  else if code = 0x0D ∨ code = 0x0E then
    match (s.sentGrant dev 2 detail).orElse fun _ => s.sentGrant dev 1 detail with
    | some (p, h) => if code = 0x0D then (s.withdraw p h).holdXfer p h false true else s.withdraw p h
    | none => s
  else s

/-- REJECT in a session (R310). MISMATCH of another device's contribution is the leader's word to an auditor (R326; log entry 49). -/
def State.onReject (s : State) (dev : Nat) (m : RejectMsg) : State :=
  match m.id with
  | some id =>
    if m.code = 0x07 ∧ id.dev ≠ s.vent.devId then s.health 0x0034 (leBytes 8 s.vent.devId) else s.contribRefused id m.code m.detail
  | none => s.otherRefused dev m.code m.detail

/-- A REJECT in clear answers an OFFER and ends the exchange (R299, Tables 12-3 and 12-4). -/
def State.offerRefused (s : State) (dev : Nat) (m : RejectMsg) : State :=
  match s.hand dev with
  | some h =>
    if h.opener ∧ h.phase = 1 ∧ (m.code = 0x01 ∨ m.code = 0x0F) then
      let s1 := s.dropHand dev
      if s1.sessUp dev then s1 else s1.sessTo dev .closed
    else s
  | none => s

/-- STEP_CLOSE PHASE = FREEZE_ACK (R313): the members named are COMMITTED; the step may close. -/
def State.onFreezeAck (s : State) (dev : Nat) (g : Seg) (released : List Nat) : State :=
  if s.suspended dev then s.reject dev 0x10 none 0 g.seq
  else
    match s.txp.open' with
    | none => s
    | some o =>
      match o.freeze with
      | none => s
      | some f =>
        if o.step ≠ g.step ∨ !s.isLeader ∨ !s.standing.contains dev then s
        else
          let o1 := { o.commit (released.filterMap fun k => s.txp.devs[k]?) with
                        freeze := some { f with answered := if f.answered.contains dev then f.answered else f.answered ++ [dev] } }
          ({ s with txp := { s.txp with open' := some o1 } } : State).tryClose

/-- T_LEAD in nanoseconds. -/
def State.tLead (s : State) : Nat := s.txp.tLeadMs * nsPerMs

/-- This module has had no UP session to a device for T_LEAD. -/
def State.lostFor (s : State) (dev : Nat) : Bool := !s.sessUp dev && decide ((s.sess dev).since + s.tLead ≤ s.now)

/-- STEP_OPEN with TAKEOVER = 1 (R319). A proposal that comes again is answered again and counted once (R330). -/
def State.onTakeover (s : State) (dev : Nat) (g : Seg) : State :=
  if s.suspended dev then s.rejectTakeover dev 0x10 g.step g.seq
  else if s.txp.leader ≠ s.vent.devId ∧ s.lostFor s.txp.leader then
    let v := some (dev, s.txp.epoch)
    let s1 := if s.txp.votedFor = v then s else ({ s with txp := { s.txp with votedFor := v } } : State).txpBump 8 1
    s1.send { acceptMsg dev 6 [] [] with takeover := true, step := g.step, ref := g.seq % 65536 }
  else s.rejectTakeover dev 0x12 g.step g.seq

/-- The delay before a contribution that has been sent n times goes out again: 200 ms, doubling to 3.2 s (Table 12-10). -/
def tContrib (n : Nat) : Nat := min 3200 (200 * 2 ^ (n - 1)) * nsPerMs

/-- A part of this module's, of whatever step, whose T_CONTRIB has run. -/
def State.dueOut (s : State) (part : Nat) : Option OutRec :=
  s.txp.outs.find? fun o => o.settled.isNone && o.c.id.seq == part && decide (1 ≤ o.sends)
    && !(s.isLeader && s.txp.wms.any fun w => decide (w.c.id = o.c.id)) && decide (o.at' + tContrib o.sends ≤ s.now)

/-- A copy of a part at the deputy, not answered with ACCEPT, whose T_CONTRIB has run: CONTRIB with FWD = 1 is one too (R311). -/
def State.dueCopy (s : State) (part : Nat) : Option WmRec :=
  s.txp.wms.find? fun w => w.committed && !w.accepted && w.c.id.seq == part && decide (1 ≤ w.copies) && decide (w.copyAt + tContrib w.copies ≤ s.now)

/-- T_CONTRIB_EXPIRY: the part goes out again with RETRY = 1; a health event at the sixteenth resend (Table 12-10). The leader repeats a copy in
the same way. -/
def execTContribExpiry (part : Nat) (s : State) : Host.Outcome State Fault Refusal :=
  let s1 := match s.dueOut part with
    | none => s
    | some o =>
      let u := s.sendContrib o.c
      if o.sends = 16 then u.health 0x0032 (leBytes 6 o.c.id.step ++ leBytes 2 part) else u
  .next (match s1.txp.deputy, s1.dueCopy part with
    | some d, some w => if s1.isLeader then s1.copyTo d w else s1
    | _, _ => s1)

/-- T_INCL_EXPIRY (R313). -/
def execTInclExpiry (s : State) : Host.Outcome State Fault Refusal :=
  match s.txp.open' with
  | none => .next s
  | some o =>
    .next (if s.isLeader && (o.inclAt.any fun a => decide (a + o.tInclMs * nsPerMs ≤ s.now)) && o.freeze.isNone
        && (s.closeOf o.step).isNone then s.startFreeze o else s)

/-- T_FREEZE_EXPIRY: FREEZE again to those that have not answered; after three sends they are suspended and fenced (R313, R329). -/
def execTFreezeExpiry (s : State) : Host.Outcome State Fault Refusal :=
  match s.txp.open' with
  | none => .next s
  | some o =>
    match o.freeze with
    | none => .next s
    | some f =>
      let missing := s.standing.filter fun d => d != s.vent.devId && !f.answered.contains d
      if !s.isLeader ∨ (s.closeOf o.step).isSome ∨ missing.isEmpty ∨ s.now < f.at' + 2 * nsPerSec then .next s
      else if f.sends < 3 then
        let o1 := { o with freeze := some { f with sends := f.sends + 1, at' := s.now } }
        .next (({ s with txp := { s.txp with open' := some o1 } } : State).sendFreeze o1 true missing)
      else
        .next ({ s with txp := { s.txp with fenced := s.txp.fenced ++ missing,
                                            suspend := s.txp.suspend ++ missing.filter (fun d => !s.txp.suspend.contains d) } } : State).tryClose

/-- T_LEAD_DEPUTY_EXPIRY: the deputy proposes a takeover (R319); a member that has lost the leader and has no deputy to take over reports
that the job holds, and so does the deputy of two standing members, of whom no majority forms (R319, R321). -/
def execTLeadDeputyExpiry (s : State) : Host.Outcome State Fault Refusal :=
  let me := s.vent.devId
  let l := s.txp.leader
  if l = me ∨ !s.txp.devs.contains me ∨ !s.lostFor l then .next s
  else if s.txp.deputy = some me then
    if s.suspended me then .next s
    else
      let s1 := { s with txp := { s.txp with voting := true, votes := if s.txp.voting then s.txp.votes else [] } }
      let s2 := s1.sendAll (s1.standing.filter fun d => d != l)
        { outMsg 0 0x10 1 s1.stepNo [] [] with takeover := true, retry := s.txp.voting }
      .next (if s.standing.length ≤ 2 then s2.health 0x0033 (leBytes 8 l) else s2)
  else
    let dead : Bool := match s.txp.deputy with
      | some d => !s.sessUp d
      | none => true
    .next (if dead then s.health 0x0033 (leBytes 8 l) else s)

/-- T_LEAD_STEP_DOWN (R319). -/
def execTLeadStepDown (s : State) : Host.Outcome State Fault Refusal :=
  .next (if s.isLeader ∧ (s.txp.minorAt.any fun a => decide (a + s.tLead ≤ s.now)) then { s with txp := { s.txp with steppedDown := true } } else s)

/-- T_LEAD_DEPUTY_LOST (R321): a new deputy; a CLOSE record that waited for the lost one's copy goes to the new one, or on without. -/
def execTLeadDeputyLost (s : State) : Host.Outcome State Fault Refusal :=
  match s.txp.deputy with
  | none => .next s
  | some d =>
    if !s.isLeader ∨ !s.lostFor d then .next s
    else
      let s1 := s.nameDeputy
      match s1.closeWaiting with
      | none => .next s1
      | some c =>
        match s1.txp.deputy with
        | some e => .next (s1.copyClose e false c)
        | none => .next (s1.finishClose c)

/-- T_JOIN_EXPIRY: JOIN again, at most three times; then a health event (Table 12-10). -/
def execTJoinExpiry (s : State) : Host.Outcome State Fault Refusal :=
  if !s.txp.joinPending ∨ s.founder ∨ s.now < s.txp.joinAt + 10 * nsPerSec then .next s
  else if s.txp.joinSends < 4 then
    .next (({ s with txp := { s.txp with joinSends := s.txp.joinSends + 1 } } : State).sendJoin (s.txp.partners.map (·.dev)) true)
  else .next (({ s with txp := { s.txp with joinPending := false, joinAt := s.now } } : State).health 0x0035 (leBytes 1 0))

/-- The image's own JOIN. The slot and the coordinates that this module claims stand in no chapter: free values, kept from the first JOIN
on (log entry 9). -/
def State.joinOf (s : State) (im : Image) : State :=
  match s.txp.joinMsg with
  | some j => { s with txp := { s.txp with joinMsg := some { j with inc := s.vent.incarnation, digest := im.digest.take 32 } } }
  | none =>
    let co := (List.range 9).map fun i => Config.freeValue (s.free + 1 + i) % 4096
    { s with free := s.free + 10,
             txp := { s.txp with joinMsg := some ⟨s.vent.incarnation, im.digest.take 32, Config.freeValue s.free % 65536, co⟩ } }

/-- JOIN to the members that this module can reach (R304); the founding module takes its own place (log entry 78). -/
def State.startJoin (s : State) : State :=
  match s.vent.image with
  | none => s
  | some im =>
    if im.man.txpmaj = 0 then s
    else
      let s1 := s.joinOf im
      let s2 := { s1 with txp := { s1.txp with joinPending := true, joinSends := 1, joinAt := s1.now } }
      match s2.txp.joinMsg with
      | none => s2
      | some j =>
        if s2.founder then
          let m : Member := ⟨s2.vent.devId, j.inc, j.slot, j.coords, false⟩
          ({ s2 with txp := { s2.txp with joiners := s2.txp.joiners.filter (fun (k : Member) => k.dev != m.dev) ++ [m] } } : State).found
        else s2.sendJoin (s2.txp.partners.map (·.dev)) false

/-- FRESH_JOIN: 60 s after a JOIN that failed (Table 12-10). -/
def execFreshJoin (s : State) : Host.Outcome State Fault Refusal :=
  .next (if s.txp.joinMsg.isSome ∧ !s.txp.joinPending ∧ !s.txp.devs.contains s.vent.devId ∧ s.txp.joinAt + 60 * nsPerSec ≤ s.now then
    s.startJoin else s)

/-- T_XFER of a session: four round-trip times, held between 50 µs and 20 ms (R322). -/
def tXfer (dev now : Nat) : Nat := max 50000 (min 20000000 (4 * Config.roundTrip dev now))

/-- T_XFER_EXPIRY: the receiver of a stalled transfer asks for it again (R322). -/
def execTXferExpiry (dev cls xfer : Nat) (s : State) : Host.Outcome State Fault Refusal :=
  match s.txp.rx.find? fun r => r.dev == dev && r.cls == cls && r.xfer == xfer && !r.complete with
  | none => .next s
  | some r =>
    if s.now < r.at' + tXfer dev s.now then .next s
    else
      let rx := s.txp.rx.map fun q => if q = r then { q with resends := q.resends + 1, at' := s.now } else q
      .next ((({ s with txp := { s.txp with rx := rx } } : State).txpBump 9 1).resend dev 0 [cls, xfer, r.att])

/-- T_WIN_EXPIRY: window DMA restarts a transfer that WINHELD had refused (R323). -/
def execTWinExpiry (id : Nat) (s : State) : Host.Outcome State Fault Refusal :=
  match s.txp.waiting.find? fun w => w.id == id && w.waitWin with
  | none => .next s
  | some q =>
    if s.now < q.at' + nsPerMs then .next s
    else
      let ws := s.txp.waiting.map fun w => if w.id = id then { w with waitWin := false } else w
      .next ((({ s with txp := { s.txp with waiting := ws } } : State).txpBump 10 1).restart id)

end Sys2Proof.Machine
end

