-- ==== Sys2Proof/Machine/Loader.lean ====
section
/-!
DEFINITION. The loader and the life of an image (R361 to R379): IMAGE_LOAD, its end, IMAGE_START, IMAGE_STOP, IMAGE_UNLOAD.
-/
namespace Sys2Proof.Machine

/-- IMAGE_LOAD (R371): the range is checked, then the loader runs in the background. -/
def execImageLoad (s : State) : Host.Outcome State Fault Refusal :=
  mbox 0x0200 [.idle] (lenIs 16) s fun r =>
    let a := leAt r 0 8
    let n := leAt r 8 8
    if a % 65536 ≠ 0 ∨ imageEndAddr < a + n then s.complete stRANGE []
    else if s.host.bg.isSome then s.complete stBUSY []
    else ({ s with host := { s.host with bg := some ⟨0x0200, a, n⟩ } } : State).complete stBG_STARTED []

/-- The sync flags of a tile record (R178): SF0 to SF43 from SFINIT, the rest 0. -/
def TileRec.flags (r : TileRec) (s : List Byte) : Sparse SFlag :=
  (List.range 44).foldl (fun (m : Sparse SFlag) n => Sparse.set SFlag.zero m n ⟨leAt s (r.start + 32 + n) 1, none, 0, 0, false, false⟩) []

/-- The tile store that the loader writes: CODE, the INIT regions, zero elsewhere (R361). -/
def TileRec.store (r : TileRec) (s : List Byte) : Sparse Byte :=
  r.init.foldl (fun (m : Sparse Byte) i => Sparse.setRun 0 m i.addr i.data) (Sparse.setRun 0 [] 0 (slice s (r.start + 2688) r.codelim))

/-- A table of 8-byte words from offset o of the TILES section. -/
def wordTable (s : List Byte) (o n : Nat) : Sparse Dword :=
  (List.range n).foldl (fun (m : Sparse Dword) k => Sparse.set 0 m k (BitVec.ofNat 64 (leAt s (o + 8 * k) 8))) []

/-- The ring of a tile record: OPEN = 1 and EPOCH = 0 for a present one (R193). -/
def TileRec.ringOf (r : TileRec) (s : List Byte) : MsgRing :=
  let c := r.mrcfg s
  { MsgRing.reset with present := bitAt c 31, opened := bitAt c 31, size := fld c 10 8, rh := fld c 5 0 }

/-- Tile t as the loader leaves it (R361): IDLE, what the image names written, the rest at reset; the counters of the tile go on. -/
def loadTile (b : List Byte) (q : Place) (cs : List RouteChoice) (rows t : Nat) (r : TileRec) (p : XchPart) (old : Tile) : Tile :=
  let s := imgSecD b 2
  let phys := physTile q.map q.skip t
  { Tile.reset with
    cnt := old.cnt, vtile := t, rows := rows, cols := 32, phys := phys, half := halfRate (q.map.quadMask phys),
    codelim := r.codelim, hnd := wordTable s (r.start + 128) 64, store := r.store s,
    mx := { MxEng.reset with mqmode := w32 (leAt s (r.start + 8) 4), turn := mqFirst (leAt s (r.start + 8) 4) },
    vx := { VxEng.reset with prism := wordTable s (r.start + 640) 256 },
    sf := r.flags s, ring := r.ringOf s,
    xdir := (List.range 256).foldl (fun (m : Sparse Dword) k => Sparse.set 0 m k (BitVec.ofNat 64 (p.dir.getD k 0))) [],
    xent := ((List.range p.ent.length).zip p.ent).foldl (fun (m : Sparse Nat) e => Sparse.set 0 m e.1 (q.entry cs t e.1 e.2)) [] }

/-- The partitions that PART names under a placement (R222): those of the placed blocks, then the others in physical order. -/
def partsOf (skip : Option Nat) (rows : Nat) : List Nat :=
  let used := (List.range (2 * rows)).map fun v => physBlockRow skip (v / 8) * 8 + v % 8
  used ++ (List.range 96).filter fun p => !used.contains p

/-- The image that the loader keeps. -/
def imgOf (b : List Byte) (map : RepairMap) (skip : Option Nat) : Image :=
  { digest := imgDigest b, man := imgMan b, skip := skip, slots := imgSlots b, audit := imgAudit b, bound := map }

/-- Everything that a load writes: tiles, windows with their holders, schedule, collectives, DEVDATA, M1; then LOADED (R361, R363,
R365, R366, R417). -/
def State.loadImage (s : State) (b : List Byte) (skip : Option Nat) (cs : List RouteChoice) : State :=
  let im := imgOf b s.vent.map skip
  let q : Place := ⟨s.vent.stepping, s.vent.map, skip⟩
  let ts := (imgRecs b).zip (imgParts b)
  let s1 := ((List.range ts.length).zip ts).foldl (fun (u : State) e =>
    u.setTile e.1 (loadTile b q cs im.man.rows e.1 e.2.1 e.2.2 (u.tile e.1))) s
  let wins := (imgWins b).foldl (fun (m : Sparse (Option Win)) x => Sparse.put m x.n (some x.w)) []
  let s2 : State :=
    { s1 with
      mem := { s1.mem with wins := wins },
      mig := { s1.mig with sched := imgSched b, parts := partsOf skip im.man.rows, fired := [], halted := false },
      coll := { s1.coll with decls := (imgColls b).foldl (fun (m : Sparse CollDecl) c => Sparse.put m c.1 c.2.1) [], runs := [], early := [], waiting := [] },
      vent := { s1.vent with image := some im, run := Run.reset, dev := .loaded },
      sec := { s1.sec with m1 := im.digest } }
  (imgDev b).foldl (fun (u : State) r => u.memWrite r.addr r.data fun _ => false) s2

/-- The loader's checks on the bytes as they were read (R372). DEDUCED (log entry 86): a poisoned byte fails the digest check. -/
def State.stagedCheck (s : State) (g : Bg) : Except Nat (Option Nat × List RouteChoice) :=
  match checkImage (s.memBytes g.addr g.len) g.addr g.len s.vent.grade s.vent.stepping s.vent.map with
  | .error c => .error (if s.mem.rangePz g.addr g.len then min c 0x0103 else c)
  | .ok p => if s.mem.rangePz g.addr g.len then .error 0x0103 else .ok p

/-- IMAGE_LOAD_DONE (R372): the loader's checks and its placement; BG_DONE with OK, or with REFUSED and the code and nothing changed. A
module that has left IDLE meanwhile takes no image (log entry 29). -/
def execImageLoadDone (s : State) : Host.Outcome State Fault Refusal :=
  match s.host.bg with
  | none => .next s
  | some g =>
    if g.code ≠ 0x0200 then .next s
    else if s.vent.dev ≠ .idle then .next (s.bgDone 0x0200 stWRONG_STATE 0)
    else
      let u := s.memRead g.addr g.len
      let b := u.memBytes g.addr g.len
      match u.stagedCheck g with
      | .error c => .next (u.bgDone 0x0200 stREFUSED c)
      | .ok p => .next ((u.loadImage b p.1 p.2).bgDone 0x0200 stOK 0)

/-- The image is gone (R374, R379): frames freed, tiles IDLE with no valid handle, no declaration, IDLE. The valid copy of every DIRTY page
is written back. -/
def State.dropImage (s : State) : State :=
  { s with
    tiles := s.tiles.map fun e => (e.1, { e.2 with st := .idle, sleep := .none, hnd := [], arr := none })
    cal := { s.cal with nodes := s.cal.nodes.map fun e => (e.1, { e.2 with got := [], fwd := none, held := false, expired := false })
                        releases := [], phases := [], parked := none }
    mesh := { s.mesh with pkts := [] }
    mem := { s.mem with wins := [] }
    mig := { s.mig with pages := [], waits := [], linger := [], sched := none, fired := [], parts := [] }
    coll := { s.coll with decls := [], runs := [], early := [], waiting := [] }
    vent := { s.vent with image := none, run := Run.reset, dev := .idle }
    sec := { s.sec with m1 := List.replicate 64 0 } }

/-- A tile at start (R373): RUN at PC 0 with the seed and superstep 0. -/
def Tile.start (seed : Dword) (cc : Nat) (x : Tile) : Tile :=
  { x with st := .run, sleep := .none, pc := 0, issueAt := cc, ssn := 0, ssnHold := none, vx := { x.vx with seed := seed } }

/-- The residual regions are zero when the image starts (R286). -/
def State.zeroResiduals (s : State) : State :=
  s.coll.decls.foldl (fun (u : State) e =>
    if e.2.feedback then u.memWrite e.2.resBase (List.replicate (4 * e.2.e) 0) fun _ => false else u) s

/-- CHAIN before the first step: over the image digest and the job's seeds (R315). -/
def firstChain (im : Image) (seed : Dword) : List Byte := shake256 32 (im.digest ++ beBytes 8 seed.toNat)

/-- Items 1 and 2 of R373; the module's JOIN goes out where the image is a job's (R304, log entry 30). -/
def State.startImage (s : State) (im : Image) (seed : Dword) : State :=
  let s1 : State :=
    { s with
      tiles := s.tiles.map fun e => (e.1, if e.1 < im.man.rows * 32 then e.2.start seed s.cc else e.2)
      cal := { s.cal with wdog := im.man.wdog }
      mig := { s.mig with sstep := 0, sstepHold := none }
      txp := { s.txp with stepHere := 0, chain := firstChain im seed }
      vent := { s.vent with run := { Run.reset with starting := true, seed := seed, idleAtStart := s.cal.idleSs } } }
  s1.zeroResiduals.startJoin

/-- IMAGE_START (R373, R374): it completes once the start gate is passed (log entry 2); a repair map that has changed since the load discards
the load. -/
def execImageStart (s : State) : Host.Outcome State Fault Refusal :=
  if s.vent.run.starting then .next s
  else mbox 0x0201 [.loaded] (lenIs 8) s fun r =>
    match s.vent.image with
    | none => s
    | some im =>
      if s.vent.map ≠ im.bound then s.dropImage.complete stWRONG_STATE []
      else s.startImage im (BitVec.ofNat 64 (leAt r 0 8))

/-- The end of IMAGE_START: RUNNING and OK in the cycle in which the tiles pass their gate (R373). -/
def State.started (s : State) : State :=
  let s1 := { s with vent := { s.vent with dev := .running, run := { s.vent.run with starting := false } } }
  if s.host.asked.map (·.1) = some 0x0201 then s1.complete stOK [] else s1

/-- IMAGE_STOP with MODE = 0 (R377): SF45 is signalled at every tile in one cycle. A reserved MODE is refused (R11). -/
def execImageStopSignal (s : State) : Host.Outcome State Fault Refusal :=
  mbox 0x0202 [.running] (lenIs 1) s fun r =>
    let m := leAt r 0 1
    if m = 1 then s
    else if m ≠ 0 then s.complete stBAD_FIELD []
    else if s.host.bg.isSome then s.complete stBUSY []
    else
      let s1 := s.complete stBG_STARTED []
      let s2 := (List.range s.gridTiles).foldl (fun (u : State) t => u.setTile t ((u.tile t).incFlag 45)) s1
      s2.bgDone 0x0202 stOK 0

/-- IMAGE_STOP with MODE = 1 (R377): the halt, IMAGE_END with HALTED, then BG_DONE. -/
def execImageStopHalt (s : State) : Host.Outcome State Fault Refusal :=
  mbox 0x0202 [.running] (lenIs 1) s fun r =>
    let m := leAt r 0 1
    if m = 0 then s
    else if m ≠ 1 then s.complete stBAD_FIELD []
    else if s.host.bg.isSome then s.complete stBUSY []
    else ((s.complete stBG_STARTED []).haltImage 1).bgDone 0x0202 stOK 0

/-- IMAGE_UNLOAD (R379); the retirements that wait are applied then (R408). -/
def execImageUnload (s : State) : Host.Outcome State Fault Refusal :=
  mbox 0x0203 [.loaded, .ended] (lenIs 0) s fun _ => (s.dropImage.complete stOK []).applyRetirements

end Sys2Proof.Machine
end

