-- ==== Sys2Proof/Machine/Context.lean ====
section
/-!
DEFINITION. Context images (R70 to R73, R122, R148, R204, R347, R378): the bytes of a tile's context, CTX_SAVE and CTX_RESTORE.
-/
namespace Sys2Proof.Machine

/-- Bytes of a context image (R71). -/
def ctxSize : Nat := 0x82000

/-- 32-bit words as bytes. -/
def wordBytes (l : List Word) : List Byte := (l.map fun w => leBytes 4 w.toNat).flatten

/-- A slot tag (Table 5-17). -/
def Tag.byte (t : Tag) : Nat := at' (b2n t.valid) 5 + at' (b2n t.mir) 4 + t.fmt
def tagOfByte (v : Nat) : Tag := ⟨bitAt v 5, bitAt v 4, fld v 3 0⟩

/-- A C-block state (Table 5-17). -/
def CSt.code : CSt → Nat
  | .empty => 0
  | .fp32 => 1
  | .int32 => 2
def cstOfCode : Nat → CSt
  | 1 => .fp32
  | 2 => .int32
  | _ => .empty

/-- Slot tag n of a buffer. -/
def tagAt (m : Sparse Tag) (n : Nat) : Tag := Sparse.get ⟨false, false, 0⟩ m n

/-- The matrix share (Table 5-17). -/
def Tile.ctxMatrix (x : Tile) : List Byte :=
  leBytes 4 x.mx.mqmode.toNat ++ leBytes 4 x.mx.flags.toNat ++ ((List.range 16).map fun n => leBytes 1 (tagAt x.mx.atag n).byte).flatten
    ++ ((List.range 32).map fun n => leBytes 1 (tagAt x.mx.btag n).byte).flatten
    ++ leBytes 4 ((List.range 16).map fun c => at' (x.cst c).code (2 * c)).sum ++ leBytes 4 (b2n x.mx.turn)

/-- The vector share (Table 6-14). -/
def Tile.ctxVector (x : Tile) : List Byte :=
  leBytes 4 x.vx.flags.toNat ++ leBytes 4 ((List.range 8).map fun k => at' (b2n (Sparse.get false x.vx.kpz k)) k).sum
    ++ leBytes 8 x.vx.seed.toNat ++ leBytes 8 (x.rngCtxWord 0) ++ leBytes 8 (x.rngCtxWord 1)
    ++ ((List.range 4).map fun n => let v := x.vslot n; leBytes 8 (v.off + at' v.h 20 + at' (b2n v.valid) 26)).flatten
    ++ wordBytes ((List.range 8).map fun k => Sparse.get 0 x.vx.kc k)

/-- The pending arrival (Table 8-14); zero where there is none. -/
def Tile.ctxArrival (x : Tile) : List Byte :=
  match x.arr with
  | none => List.replicate 12 0
  | some a =>
    leBytes 4 (a.xpn + at' a.level 8 + at' a.rop 11 + at' a.rd.toNat 14 + at' (b2n a.pzVal) 19 + at' (b2n a.pzIdx) 20)
      ++ leBytes 4 a.val.toNat ++ leBytes 4 a.idx.toNat

/-- The sync and message share (Table 8-14). -/
def Tile.ctxSync (x : Tile) : List Byte :=
  x.ctxArrival ++ List.replicate 4 0 ++ wordBytes [x.ring.cfg, w32 x.ring.wr, w32 x.ring.rd, x.ring.stat]
    ++ padTo 16 (wordBytes (x.ring.nack.map Nack.word))

/-- Bytes 0x40 to 0x8_1FFF of a context image (Table 3-17). -/
def Tile.ctxBody (x : Tile) : List Byte :=
  let bits (n : Nat) (f : Nat → Bool) : List Byte := bitsToBytes ((List.range n).map f)
  wordBytes ((List.range 32).map x.reg) ++ bits 32 x.regPz ++ leBytes 4 x.pc.toNat ++ leBytes 4 x.fpflags.toNat
    ++ wordBytes [x.peek 0x01C] ++ bits 96 (fun k => if k % 2 = 0 then (x.sflag (k / 2)).ovf else (x.sflag (k / 2)).rsv)
    ++ List.replicate 36 0 ++ ((List.range 48).map fun n => leBytes 1 (x.sflag n).val0).flatten
    ++ x.ctxMatrix ++ x.ctxVector ++ x.ctxSync ++ ((List.range 64).map fun n => leBytes 8 (x.hndOf n)).flatten
    ++ ((List.range 256).map fun k => leBytes 8 (Sparse.get (0 : Dword) x.vx.prism k).toNat).flatten ++ List.replicate 1024 0
    ++ wordBytes ((List.range 2048).map fun k => (x.vget x.issueAt k).1) ++ bits 2048 (Sparse.get false x.vx.vpz) ++ List.replicate 3840 0
    ++ Sparse.getRun 0 x.mx.abuf 0 16384 ++ Sparse.getRun 0 x.mx.bbuf 0 32768 ++ wordBytes (Sparse.getRun 0 x.mx.acc 0 16384)
    ++ bits 2048 (Sparse.get false x.mx.apz) ++ bits 4096 (Sparse.get false x.mx.bpz) ++ bits 8192 (Sparse.get false x.mx.accPz)
    ++ List.replicate 256 0 ++ bits 49152 x.wordPz ++ x.bytes 0 0x60000

/-- CHECK of a context body (R71). -/
def ctxCheck (body : List Byte) : List Byte := shake256 8 body

/-- The context image of a tile (Table 3-17); `digest` is that of the image. -/
def Tile.ctxBytes (x : Tile) (digest : List Byte) : List Byte :=
  let body := x.ctxBody
  leBytes 4 1 ++ leBytes 4 x.vtile ++ leBytes 8 x.ssn ++ padTo 8 digest ++ leBytes 8 (b2n x.half) ++ ctxCheck body
    ++ List.replicate 24 0 ++ body

/-- The condition of R70; no MSG.SEND is unanswered (R204). -/
def Tile.ctxReady (x : Tile) : Bool :=
  (decide (x.st = .done) || (decide (x.st = .wait) && decide (x.sleep = .barrier) && x.quiet)) && x.ring.outst == 0

/-- The reads of a save: every word of the tile's stores (R59, R99, R123). -/
def Tile.ctxTouch (x : Tile) : Tile :=
  let x1 := (List.range 2048).foldl (Tile.mxTouch 1) (x.touch 0 0x60000)
  let x2 := (List.range 8192).foldl (Tile.mxTouch 3) ((List.range 4096).foldl (Tile.mxTouch 2) x1)
  (List.range 32).foldl (fun (y : Tile) r => y.vtouch (.reg r) (List.range 64)) x2

/-- The address of a context image that a request names, or the status that refuses it (R347). -/
def State.ctxAddr (s : State) (r : List Byte) : Except Nat Nat :=
  let w := leAt r 2 1
  let o := leAt r 4 4
  if s.tileLimit ≤ leAt r 0 2 ∨ leAt r 3 1 ≠ 0 ∨ o % 65536 ≠ 0 then .error stBAD_FIELD
  else
    match (if w < 64 then s.win w else none) with
    | none => .error stWIN_UNDECLARED
    | some x =>
      if x.side1 then .error stWIN_UNDECLARED
      else if !x.outside then .error stWIN_HELD
      else if x.size < o + ctxSize then .error stRANGE
      else .ok (x.base + o)

/-- CTX_SAVE (R347). -/
def execCtxSave (s : State) : Host.Outcome State Fault Refusal :=
  mbox 0x0204 stRE (lenIs 8) s fun r =>
    match s.ctxAddr r with
    | .error c => s.complete c []
    | .ok a =>
      let t := leAt r 0 2
      let x := s.tile t
      if !x.ctxReady then s.complete stNOT_QUIESCENT []
      else
        let y := x.ctxTouch
        ((s.setTile t y).memWrite a (y.ctxBytes s.digest) fun _ => false).complete stOK []

/-- The pending arrival of a context image. -/
def ctxArr (b : List Byte) (cc : Nat) : Arrival :=
  let v := leAt b 0x1D0 4
  { xpn := fld v 7 0, level := fld v 10 8, rop := fld v 13 11, rd := BitVec.ofNat 5 (fld v 18 14), val := w32 (leAt b 0x1D4 4),
    idx := w32 (leAt b 0x1D8 4), pzVal := bitAt v 19, pzIdx := bitAt v 20, bad := false, at' := cc, taken := true }

/-- A store from n values. -/
def sparseOf {α : Type} [DecidableEq α] (d : α) (n : Nat) (f : Nat → α) : Sparse α := Sparse.setRun d [] 0 ((List.range n).map f)

/-- Bits from offset o of a context image. -/
def ctxBits (b : List Byte) (o n : Nat) : Sparse Bool :=
  let l := b.drop o
  sparseOf false n fun k => bitAt (leAt l (k / 8) 1) (k % 8)

/-- Bytes and words from offset o of a context image. -/
def ctxRun (b : List Byte) (o n : Nat) : Sparse Byte := Sparse.setRun 0 [] 0 (slice b o n)
def ctxWords (b : List Byte) (o n : Nat) : Sparse Word :=
  let l := slice b o (4 * n)
  sparseOf 0 n fun k => w32 (leAt l (4 * k) 4)
def ctxDwords (b : List Byte) (o n : Nat) : Sparse Dword :=
  let l := slice b o (8 * n)
  sparseOf 0 n fun k => BitVec.ofNat 64 (leAt l (8 * k) 8)

/-- The matrix engine that a context image holds. -/
def ctxMx (b : List Byte) : MxEng :=
  { MxEng.reset with
    abuf := ctxRun b 0x4000 16384, bbuf := ctxRun b 0x8000 32768, apz := ctxBits b 0x20000 2048, bpz := ctxBits b 0x20100 4096,
    atag := sparseOf ⟨false, false, 0⟩ 16 fun n => tagOfByte (leAt b (0x138 + n) 1),
    btag := sparseOf ⟨false, false, 0⟩ 32 fun n => tagOfByte (leAt b (0x148 + n) 1),
    acc := ctxWords b 0x10000 16384, accPz := ctxBits b 0x20300 8192,
    cst := sparseOf .empty 16 fun c => cstOfCode (fld (leAt b 0x168 4) (2 * c + 1) (2 * c)),
    mqmode := w32 (leAt b 0x130 4) &&& 0xBF1F1F03, flags := BitVec.ofNat 6 (leAt b 0x134 4), turn := bitAt (leAt b 0x16C 4) 0 }

/-- The vector engine that a context image holds. -/
def ctxVx (b : List Byte) : VxEng :=
  { VxEng.reset with
    vreg := ctxWords b 0x1000 2048, vpz := ctxBits b 0x3000 2048,
    slots := sparseOf ⟨false, 0, 0⟩ 4 fun n => let v := leAt b (0x190 + 8 * n) 8; ⟨bitAt v 26, fld v 25 20, fld v 19 0⟩,
    kc := ctxWords b 0x1B0 8, kpz := sparseOf false 8 (bitAt (leAt b 0x174 4)),
    ctx := sparseOf ⟨0, 0⟩ 2 fun c => let v := leAt b (0x180 + 8 * c) 8; ⟨v / 2 ^ 40, fld v 39 0⟩,
    seed := BitVec.ofNat 64 (leAt b 0x178 8), prism := ctxDwords b 0x400 256, flags := BitVec.ofNat 6 (leAt b 0x170 4) }

/-- The ring that a context image holds (Tables 8-11 and 8-12); a record at RD is the program's to read (log entry 60). -/
def ctxRing (b : List Byte) : MsgRing :=
  let c := leAt b 0x1E0 4
  let st := leAt b 0x1EC 4
  { present := bitAt c 31, opened := bitAt c 30, epoch := fld c 23 20, size := fld c 10 8, rh := fld c 5 0, wr := leAt b 0x1E4 4,
    rd := leAt b 0x1E8 4, lent := decide (leAt b 0x1E8 4 ≠ leAt b 0x1E4 4), novf := fld st 31 24, outst := fld st 7 0,
    nack := ((List.range 4).map fun k => leAt b (0x1F0 + 4 * k) 4).filter (· != 0) |>.map fun v => ⟨fld v 31 28, fld v 27 12, fld v 11 0⟩ }

/-- A tile with a context restored onto it (R70 to R73): its state as saved, counters at zero, check bits formed anew; the tile waits at
the barrier. -/
def Tile.ctxRestore (x : Tile) (b : List Byte) (cc : Nat) : Tile :=
  let ob := leAt b 0xD0 12
  { x with
    regs := ctxWords b 0x40 32, rpz := sparseOf false 32 (bitAt (leAt b 0xC0 4)), pc := w32 (leAt b 0xC4 4), ready := [],
    sleep := .barrier, st := .wait, taint := bitAt (leAt b 0xCC 4) 8, fpflags := BitVec.ofNat 5 (leAt b 0xC8 4),
    ssn := leAt b 8 8, ssnHold := none, hnd := ctxDwords b 0x200 64, qf := [], qb := [], qv := [], qd := [],
    store := ctxRun b 0x22000 0x60000, spz := ctxBits b 0x20800 49152, ecc := [], cnt := [], mx := ctxMx b, vx := ctxVx b,
    sf := sparseOf SFlag.zero 48 fun n => ⟨leAt b (0x100 + n) 1, none, 0, 0, bitAt ob (2 * n), bitAt ob (2 * n + 1)⟩,
    ring := ctxRing b, arr := some (ctxArr b cc), banks := [], fdesc := none, feeds := [], wrels := [] }

/-- The combined arrival of group g, n levels above the tiles, as the tiles hold their arrivals. -/
def State.heldVal (s : State) : Nat → Nat → Option NVal
  | 0, g => (s.tile (gIdx g)).arr.map fun a => ⟨a.xpn, a.level, a.rop, a.val, a.idx, a.pzVal, a.pzIdx, a.at'⟩
  | n + 1, g =>
    let vs := (gChildren s.rows g).map (s.heldVal n)
    if vs.all Option.isSome then combineChildren (vs.filterMap id) else none

/-- Restored tile t arrives again with its saved operands (R204, R378): the value that the L5 node holds is formed anew; an ROP that disagrees
is held by the tile's L1 node (R183). Log entry 36. -/
def State.arriveAgain (s : State) (t : Nat) : State :=
  match s.cal.parked, (s.tile t).arr with
  | some p, some a =>
    if a.rop ≠ p.rop then ({ s with cal := { s.cal with parked := none } } : State).holdNode (gOfTile 1 t)
    else
      match s.heldVal 5 0x5000 with
      | none => s
      | some v => { s with cal := { s.cal with parked := some { v with at' := p.at' } } }
  | _, _ => s

/-- The restore is refused (R70, R71, R347, R378). -/
def State.ctxMismatch (s : State) (t : Nat) (b : List Byte) : Bool :=
  let a := ctxArr b 0
  let x := s.tile t
  leAt b 0 4 != 1 || leAt b 4 4 != t || slice b 16 8 != padTo 8 s.digest || slice b 0x20 8 != ctxCheck (b.drop 64)
    || s.cal.parked.isNone || x.sleep != .barrier || x.st != .wait || a.xpn != s.parkXpn || a.level != 5

/-- CTX_RESTORE (R347, R378): a restore that changes the tile is journaled and counted as a hand intervention. DEDUCED (log entry 86): a
poisoned byte fails the check of the context. -/
def execCtxRestore (s : State) : Host.Outcome State Fault Refusal :=
  mbox 0x0205 [.running] (lenIs 8) s fun r =>
    match s.ctxAddr r with
    | .error c => s.complete c []
    | .ok a =>
      let t := leAt r 0 2
      let u := s.memRead a ctxSize
      let b := u.memBytes a ctxSize
      if u.ctxMismatch t b ∨ u.mem.rangePz a ctxSize then u.complete stCTX_MISMATCH []
      else
        let s1 := (u.setTile t ((s.tile t).ctxRestore b s.cc)).arriveAgain t
        if (s.tile t).ctxBytes s.digest = b then s1.complete stOK []
        else
          let run := { s1.vent.run with interventions := s1.vent.run.interventions + 1 }
          ((({ s1 with vent := { s1.vent with run := run } } : State).journal 0x34 (leBytes 2 t ++ padTo 8 s.digest) .extendM3).complete stOK [])

end Sys2Proof.Machine
end

