-- ==== Sys2Proof/Machine/Cxl.lean ====
section
/-!
DEFINITION. The CXL function (R331 to R336, R342) and the SMBus sideband (R353, R354).
-/
namespace Sys2Proof.Machine

/-- What the CXL function says of itself in its configuration space (R331). -/
structure CxlIdentity where
  classCode : Nat
  vendor : Nat
  device : Nat
  memCapable : Bool
  cacheCapable : Bool
  hdmCount : Nat
  rangeBytes : Nat
  ioEnabled : Bool
  memEnabled : Bool
  bar0Bytes : Nat
  bar2Bytes : Nat
  locatorBar : Nat
  decoders : Nat
  ways : Nat
  deriving DecidableEq, Repr

/-- The function of either grade (R331): class code, vendor and device id, the CXL Device DVSEC, the two BARs, the BAR into which the Register
Locator DVSEC points, and the HDM decoder's abilities. No chapter gives the vendor id's value. -/
def cxlIdentity : CxlIdentity where
  classCode := 0x050210
  vendor := Config.vendorId
  device := 0x0C15
  memCapable := true
  cacheCapable := false
  hdmCount := 1
  rangeBytes := 0x1000000000
  ioEnabled := true
  memEnabled := true
  bar0Bytes := 0x10000
  bar2Bytes := 0x10000
  locatorBar := 2
  decoders := 1
  ways := 1

/-- A word behind BAR2 as the host reads it (R331; log entry 81): the decoder's control word shows whether it is committed, or was refused,
in bits 10 and 11; the capability counts the decoders beyond the first; bit 0 of the device status is Mem_Active (R334). -/
def Bar2.peek (b : Bar2) (memActive : Bool) (r : Config.Bar2Reg) : Word :=
  let d := b.decoder
  match r with
  | .decCapability => w32 (cxlIdentity.decoders - 1)
  | .decControl => w32 (setFld (setFld d.control.toNat 10 10 (b2n d.committed)) 11 11 (b2n d.refused))
  | .decBaseLow => w32 (fld d.base 31 0)
  | .decBaseHigh => w32 (fld d.base 63 32)
  | .decSizeLow => w32 (fld d.size 31 0)
  | .decSizeHigh => w32 (fld d.size 63 32)
  | .rasUe => b.rasUe
  | .rasUeMask => b.rasUeMask
  | .rasUeSev => b.rasUeSev
  | .rasCe => b.rasCe
  | .rasCeMask => b.rasCeMask
  | .devStatus => w32 (b2n memActive)

/-- A word of BAR2 as the host reads it; a place that names no register reads as zero. -/
def State.bar2 (s : State) (off : Nat) : Word :=
  match Config.bar2At off with
  | some r => s.host.bar2.peek s.host.memActive r
  | none => 0

/-- A word of configuration space (R331, R352; log entry 81): the ids, the class code, the CXL Device DVSEC's capability and control halves,
the one range with its size and Mem_Active, the BARs as 64-bit non-prefetchable memory, the BAR of the register locator, MSI-X's control
with its four vectors. -/
def State.cfgWord (s : State) (r : Config.CfgReg) : Word :=
  let i := cxlIdentity
  let base (n : Nat) : Nat := Sparse.get 0 s.host.bars n
  match r with
  | .id => w32 (at' i.device 16 + i.vendor % 2 ^ 16)
  | .classCode => w32 (at' i.classCode 8 + Config.revisionId.toNat)
  | .deviceDvsec => w32 (b2n i.cacheCapable + 2 + at' (b2n i.memCapable) 2 + at' i.hdmCount 4 + at' (2 * b2n i.ioEnabled + 4 * b2n i.memEnabled) 16)
  | .rangeSizeHigh => w32 (i.rangeBytes / 2 ^ 32)
  | .rangeSizeLow => w32 (i.rangeBytes % 2 ^ 32 + 1 + 2 * b2n s.host.memActive)
  | .barLow n => w32 (fld (base n) 31 0 + 4)
  | .barHigh n => w32 (fld (base n) 63 32)
  | .registerLocator => w32 (i.locatorBar + at' Config.locatorBlock.toNat 3)
  | .msixControl => w32 (at' (b2n s.host.msixOn) 31 + at' (b2n s.host.msixMask) 30 + at' 3 16 + 0x11)

/-- What a configuration read is answered with (R432): nothing while the link is down, Configuration Request Retry Status, or a word. -/
inductive CfgAnswer where
  | noAnswer | retry | data (w : Word)
  deriving DecidableEq, Repr

/-- A configuration read: retry status until Vent runs (R432; a Dormant module serves its host, R384). -/
def State.cfgRead (s : State) (off : Nat) : CfgAnswer :=
  if s.hostDown || !s.host.linkUp then .noAnswer
  else if !s.ventRuns && decide (s.vent.dev ≠ .dormant) then .retry
  else .data (match Config.cfgAt off with
    | some r => s.cfgWord r
    | none => 0)

/-- The function's registers after a reset (R342): BAR0, BAR2 with the HDM decoder, MSI-X and the event queue at their reset values, the mailbox
and event areas zero; a command in progress goes on inside Vent, and a background command's BG_DONE waits for EVQ.CFG.EN; HBASE, the shadows,
the negotiated link, Mem_Active and the counts of refusals stay. -/
def HostIface.functionReset (h : HostIface) : HostIface :=
  { HostIface.reset with
    evSeq := h.evSeq
    inside := h.inside ++ (if h.go then [(h.cmd, h.req)] else [])
    bgDone := h.bgDone
    bgHeld := h.bgHeld || h.bg.isSome
    memActive := h.memActive
    hbase := h.hbase
    linkUp := h.linkUp
    linkWidth := h.linkWidth
    linkSpeed := h.linkSpeed
    bg := h.bg
    refused := h.refused
    refusedWin := h.refusedWin
    refusedAt := h.refusedAt
    shadow := h.shadow }

/-- CXL_FUNCTION_RESET (R342). -/
def execCxlFunctionReset (s : State) : Host.Outcome State Fault Refusal := .next { s with host := s.host.functionReset }

/-- PERST_N takes a level (R428, R432): low resets the function and takes the link down for as long as it stays low. -/
def State.perst (s : State) (low : Bool) : State :=
  let u := { s with aon := { s.aon with perstLow := low } }
  if low then { u with host := { s.host.functionReset with linkUp := false, linkWidth := 0, linkSpeed := 0 } } else u

/-- HOST_LINK_TRAINING (R432): the link trains not before step 2, and not while PERST_N is low. -/
def execHostLinkTraining (e : LinkEv) (speed : Nat) (s : State) : Host.Outcome State Fault Refusal :=
  .next (match e with
    | .perst low => s.perst low
    | .trains width =>
      if s.hostDown ∨ (s.vent.dev = .boot ∧ !s.vent.startup.plls) then s
      else { s with host := { s.host with linkUp := true, linkWidth := width, linkSpeed := speed } })

/-- HDM access by DEV.STATE and window (Table 13-1, R231). -/
def State.hdmServed (s : State) (write : Bool) (a : Nat) : Bool :=
  match s.vent.dev with
  | .idle => true
  | .loaded => s.winServes false write a 64
  | .running => s.winServes false write a 64
  | .ended => !write
  | _ => false

/-- The range of an IMAGE_LOAD whose doorbell has been rung, or that runs in the background. -/
def State.staging (s : State) : Option (Nat × Nat) :=
  match s.host.bg, s.host.asked with
  | some b, _ => if b.code = 0x0200 then some (b.addr, b.len) else none
  | none, some (c, r) => 
    if c = 0x0200 ∧ s.vent.dev = .idle ∧ r.length = 16 ∧ leAt r 0 8 % 65536 = 0 ∧ leAt r 0 8 + leAt r 8 8 ≤ imageEndAddr then
      some (leAt r 0 8, leAt r 8 8)
    else none
  | none, none => none

/-- The range that IMAGE_LOAD reads is locked against HDM writes from the doorbell until BG_DONE (R371). -/
def State.staged (s : State) (a n : Nat) : Bool :=
  match s.staging with
  | some (b, k) => decide (a < b + k) && decide (b < a + n)
  | none => false

/-- HDM_READ of the line at an offset (R333 to R336). An access that Table 9-3 holds, or that waits for a reread (R208), does not
complete yet (log entry 3). -/
def execHdmRead (off : Nat) (s : State) : Host.Outcome State Fault Refusal :=
  let a := s.host.hbase + 64 * (off / 64)
  if cxlIdentity.rangeBytes ≤ off ∨ s.hostDown then .next s
  else if !s.hdmServed false a then .next { s.refuse a 64 with out := ⟨List.replicate 64 0, true⟩ }
  else if s.pageHeld a 64 false || s.memPending a 64 then .next s
  else
    let s1 := s.memTouch a 64
    .next { s1 with out := ⟨s1.memBytes a 64, s1.memAnyPz a 64⟩ }

/-- HDM_WRITE of a line (R333 to R336, R371). -/
def execHdmWrite (off : Nat) (data : List Byte) (poison : Bool) (s : State) : Host.Outcome State Fault Refusal :=
  let a := s.host.hbase + 64 * (off / 64)
  if cxlIdentity.rangeBytes ≤ off ∨ s.hostDown then .next s
  else if !s.hdmServed true a || s.staged a 64 then .next (s.refuse a 64)
  else if s.pageHeld a 64 true then .next s
  else .next (s.memWrite a (padTo 64 data) fun _ => poison)

/-- An answer of the CXL primary mailbox: the return code and the payload (R331; log entry 17). -/
def cxlAnswer (s : State) (code : Nat) (payload : List Byte) : Host.Outcome State Fault Refusal :=
  .next (if s.hostDown then s else { s with out := ⟨leBytes 2 code ++ payload, false⟩ })

/-- The opcodes that the primary mailbox answers (R331; the numbers are CXL's, log entry 17). -/
def cxlOpcodes : List Nat := [0x0100, 0x0101, 0x0400, 0x0401, 0x4000, 0x4200]

/-- CXL_IDENTIFY_MEMORY_DEVICE: 64 GiB volatile, 0 persistent (R331), then what CXL lays out (log entry 17). -/
def execCxlIdentifyMemoryDevice (s : State) : Host.Outcome State Fault Refusal :=
  cxlAnswer s 0 (leBytes 8 cxlIdentity.rangeBytes ++ leBytes 8 0 ++ Config.standardAnswer 0x4000 [])

/-- CXL_GET_SUPPORTED_LOGS (R331). -/
def execCxlGetSupportedLogs (s : State) : Host.Outcome State Fault Refusal := cxlAnswer s 0 (Config.standardAnswer 0x0400 [])

/-- CXL_GET_LOG: the Command Effects Log (R331). -/
def execCxlGetLog (s : State) : Host.Outcome State Fault Refusal := cxlAnswer s 0 (Config.standardAnswer 0x0401 [])

/-- CXL_GET_HEALTH_INFO (R331). -/
def execCxlGetHealthInfo (s : State) : Host.Outcome State Fault Refusal := cxlAnswer s 0 (Config.standardAnswer 0x4200 [])

/-- CXL_GET_EVENT_RECORDS: the records held (R331). -/
def execCxlGetEventRecords (s : State) : Host.Outcome State Fault Refusal :=
  cxlAnswer s 0 (leBytes 2 s.host.cxlRecs.length ++ (s.host.cxlRecs.map fun r => Config.standardAnswer 0x0100 (leBytes 8 r)).flatten)

/-- CXL_CLEAR_EVENT_RECORDS: the oldest n are removed (R331). -/
def execCxlClearEventRecords (n : Nat) (s : State) : Host.Outcome State Fault Refusal :=
  cxlAnswer (if s.hostDown then s else { s with host := { s.host with cxlRecs := s.host.cxlRecs.drop n } }) 0 []

/-- CXL_UNSUPPORTED_OPCODE: Unsupported, CXL's code 3 (R331; log entry 17). -/
def execCxlUnsupportedOpcode (opcode : Nat) (s : State) : Host.Outcome State Fault Refusal :=
  if cxlOpcodes.contains opcode then .next s else cxlAnswer s 3 []

/-- The sideband answers once the boot ROM has started (R353, R382). -/
def State.sideServes (s : State) : Bool := s.aon.power && s.mbServes

/-- MCTP_CONTROL_MESSAGE (R353; the answer's content is DSP0236's, log entry 17). -/
def execMctpControlMessage (cmd : Nat) (data : List Byte) (s : State) : Host.Outcome State Fault Refusal :=
  .next (if s.sideServes then { s with out := ⟨Config.standardAnswer (0x10000 + cmd) data, false⟩ } else s)

/-- The units of the sensors (Table 13-10). -/
inductive PldmUnit where
  | celsius | volt | ampere | watt | entries | state
  deriving DecidableEq, Repr

/-- A record of the PDR repository (R354): its handle, its sensor, the sensor's unit. -/
structure Pdr where
  handle : Nat
  sensor : Nat
  unit : PldmUnit
  deriving DecidableEq, Repr

/-- The PDR repository: one record for each sensor of Table 13-10; the handles are the sensors' numbers (log entry 17). -/
def pdrRepository : List Pdr :=
  [⟨1, 1, .celsius⟩, ⟨2, 2, .celsius⟩, ⟨3, 3, .celsius⟩, ⟨4, 4, .volt⟩, ⟨5, 5, .ampere⟩,
   ⟨6, 6, .watt⟩, ⟨7, 7, .state⟩, ⟨8, 8, .state⟩, ⟨9, 9, .entries⟩]

/-- A record as GetPDR answers it: DSP0248's handle, version and type, 2 for a numeric sensor and 4 for a state sensor, then what DSP0248
lays out for the sensor (log entry 17). -/
def Pdr.bytes (p : Pdr) : List Byte :=
  leBytes 4 p.handle ++ [1, if p.unit = .state then 4 else 2] ++ leBytes 2 0 ++ Config.standardAnswer 0x20001 (leBytes 2 p.sensor)

/-- The answer to a PLDM request (R354): a reading of Table 13-10, a record of the repository, or what the standard answers (log entry 17). -/
def State.pldmAnswer (s : State) (r : PldmReq) : List Byte :=
  match r with
  | .reading n =>
    if 1 ≤ n ∧ n ≤ 9 then leBytes 4 (BitVec.ofInt 32 (Sparse.get 0 s.side.sensors n)).toNat else Config.standardAnswer 0x20000 (leBytes 2 n)
  | .pdr h =>
    match pdrRepository.find? fun p => p.handle == h with
    | some p => p.bytes
    | none => Config.standardAnswer 0x20002 (leBytes 4 h)
  | .repository => leBytes 4 pdrRepository.length ++ Config.standardAnswer 0x20003 []
  | .other d => Config.standardAnswer 0x20004 d

/-- PLDM_REQUEST (R353, R354). -/
def execPldmRequest (r : PldmReq) (s : State) : Host.Outcome State Fault Refusal :=
  .next (if s.sideServes then { s with out := ⟨s.pldmAnswer r, false⟩ } else s)

/-- SMBUS_ARP: the endpoint takes the assigned address (R353). -/
def execSmbusArp (addr : Nat) (s : State) : Host.Outcome State Fault Refusal :=
  .next (if s.sideServes then { s with side := { s.side with addr := addr % 128 } } else s)

end Sys2Proof.Machine
end

