-- ==== Sys2Proof/Machine/Members.lean ====
section
/-!
DEFINITION. Membership (R302 to R305, R329): JOIN, LEAVE, EPOCH, the opening of a step at a member (R307), and the requests for lists,
epochs and contributions (R305, R320).
-/
namespace Sys2Proof.Machine

/-- The slot that a JOIN names, or the device's own slot where it rejoins after a reset (R304). -/
def State.joinSlot (s : State) (dev : Nat) (j : JoinMsg) : Nat :=
  match s.member dev with
  | some m => if m.inc < j.inc then m.slot else j.slot
  | none => j.slot

/-- The job has closed a step: one that epoch 1 or a later epoch governs (R304). -/
def Txp.jobClosed (x : Txp) : Bool :=
  match x.epochs.getLast? with
  | some e => e.1.epoch != 1 || decide (e.1.first ≤ x.lastClosed)
  | none => false

/-- The SLOT cases of R304. -/
def State.slotTaken (s : State) (im : Image) (dev : Nat) (j : JoinMsg) : Bool :=
  let n := s.joinSlot dev j
  let held (l : List Member) : Bool := l.any fun m => m.slot == n && (m.dev != dev || decide (j.inc ≤ m.inc))
  match im.slots.find? fun e => e.1 == n with
  | none => true
  | some e => held s.txp.members || (s.txp.joiners.any fun m => m.slot == n && m.dev != dev) || (e.2 && s.txp.jobClosed)

/-- The reason for which the leader refuses a JOIN, if any (R304). -/
def State.joinRefusal (s : State) (dev vmaj : Nat) (j : JoinMsg) : Option Nat :=
  match s.vent.image with
  | none => some 0x09
  | some im =>
    let others := s.txp.joiners.filter fun m => m.dev != dev
    let fresh := others.filter fun m => (s.member m.dev).isNone
    let n := s.txp.members.length + fresh.length + (if (s.member dev).isNone then 1 else 0)
    if padTo 32 j.digest ≠ padTo 32 im.digest then some 0x09
    else if vmaj ≠ 1 then some 0x0C
    else if s.slotTaken im dev j then some 0x0A
    else if 4096 < n ∨ 1024 < others.length + 1 then some 0x0B
    else none

/-- JOIN (R304). -/
def State.onJoin (s : State) (dev vmaj : Nat) (g : Seg) (j : JoinMsg) : State :=
  if !s.isLeader then s.reject dev 0x03 none s.txp.leader g.seq
  else
    match s.joinRefusal dev vmaj j with
    | some code => s.reject dev code none 0 g.seq
    | none =>
      let m : Member := ⟨dev, j.inc, s.joinSlot dev j, j.coords, false⟩
      let s1 := { s with txp := { s.txp with joiners := (s.txp.joiners.filter fun (k : Member) => k.dev != dev) ++ [m] } }
      (s1.send { acceptMsg dev 2 [] [] with ref := g.seq % 65536 }).found

/-- LEAVE: STEP names the last step to which the member contributes (R304). -/
def State.onLeave (s : State) (dev : Nat) (g : Seg) : State :=
  if !s.isLeader then s.reject dev 0x03 none s.txp.leader g.seq
  else if (s.member dev).isNone then s.reject dev 0x08 none 0 g.seq
  else
    let s1 := { s with txp := { s.txp with leaves := (s.txp.leaves.filter fun (e : Nat × Nat) => e.1 != dev) ++ [(dev, g.step)] } }
    s1.send { acceptMsg dev 3 [] [] with ref := g.seq % 65536 }

/-- A step opens at a member (R307): the epoch that governs it is in force, the timers are taken, the waiting CONTRIBs leave. -/
def State.memberOpen (s : State) (dev : Nat) (m : StepOpenMsg) : State :=
  let s1 := (s.boundary m.step).takeTimers
  if !s1.txp.devs.contains s1.vent.devId ∨ m.step ≤ s1.txp.lastClosed ∨ (s1.txp.open'.any fun o => decide (m.step ≤ o.step)) then s1
  else
    let o : StepSt := ⟨m.step, m.epoch, m.b, m.tInclMs, m.chain, [], none, none, []⟩
    let dep := s1.standing.find? fun d => d != dev
    let chain := if m.step = s1.txp.lastClosed + 1 then m.chain else s1.txp.chain
    ({ s1 with txp := { s1.txp with open' := some o, leader := dev, deputy := dep, chain := chain } } : State).sendOuts m.step

/-- The members that a bitmap by rank counts: the list in force, or after a reset that of the last EPOCH record of the journal (R313). -/
def State.mapLen (s : State) : Nat :=
  if s.txp.members.isEmpty then
    (((s.vent.journal.live.filter fun r => r.typ == 0x41).getLast?).map fun r => beNat (slice r.payload 10 2)).getD 0
  else s.txp.members.length

/-- A member closes a step by the leader's FINAL: the CLOSE record is journaled before ACCEPT, and one already journaled is acknowledged
again (R314). -/
def State.memberFinal (s : State) (dev : Nat) (g : Seg) (m : FinalMsg) : State :=
  match s.closeOf m.step with
  | some c => if c.made then s.send { acceptMsg dev 5 [] [] with step := m.step, ref := g.seq % 65536 } else s
  | none =>
    let ds := (s.txp.listAt m.step).map (·.dev)
    let c : CloseRec := ⟨m.step, m.epoch, ds, m.included, m.excluded, m.chain, false, false, [], (s.chainBefore m.step).getD []⟩
    ({ s with txp := { s.txp with closes := s.txp.closes ++ [c] } } : State).journal 0x45
      (closeBytes (if ds.isEmpty then s.mapLen else ds.length) c) (.closeMade g.seq)

/-- A verified epoch is journaled and then in force: at once for a takeover, at its step boundary otherwise (R303, R305, R319). Where the
boundary has passed and it makes this module the leader, this module opens the step; a joiner, which has no step in progress, begins with
the first step that the epoch governs. -/
def State.takeEpoch (s : State) (dev ref : Nat) (m : EpochMsg) (l : List Member) : State :=
  let s1 := s.journal 0x41 (epochBytes m ++ m.ldig) (.epochMade dev ref)
  let first := if m.takeover then s.stepNo else m.first
  let s2 := { s1 with txp := { s1.txp with epochs := ({ m with first := first }, l) :: s1.txp.epochs, parts := [] } }
  if m.takeover then
    ({ s2 with txp := { s2.txp with epoch := m.epoch, members := l, leader := dev, steppedDown := false, voting := false } } : State).leadCheck
  else
    let s3 := { s2 with txp := { s2.txp with next := some (m, l) } }
    if s3.txp.open'.isSome then s3
    else
      let n := if s.txp.members.isEmpty then max (s.txp.lastClosed + 1) first else s.txp.lastClosed + 1
      let s4 := s3.boundary n
      if s4.txp.next.isNone then s4.openIfNew s.isLeader n else s4

/-- The list that an EPOCH makes here, and the parts received so far; no list while parts of a full list are missing. -/
def State.epochList (s : State) (m : EpochMsg) : Option (List Member) × List Member :=
  if m.full then
    let ps := (s.txp.parts.filter fun x => !(m.joiners.any fun y => y.dev == x.dev)) ++ m.joiners
    let marked := ps.map fun x => { x with suspended := m.leavers.any fun y => y.dev == x.dev && y.suspended }
    (if m.count ≤ ps.length then some (sortOn (·.slot) marked) else none, ps)
  else
    let base := match s.txp.next with
      | some e => if e.1.epoch < m.epoch then e.2 else s.txp.members
      | none => s.txp.members
    (some (applyEpoch m base), s.txp.parts)

/-- The ACCEPT of an EPOCH waits in the journal's batch for its record (R305). -/
def State.epochWaits (s : State) : Bool := s.vent.journal.batch.any fun p => match p.next with
  | .epochMade _ _ => true
  | _ => false

/-- EPOCH, authenticated (R305): the state after it, and whether it is in force or waits for its boundary, so that messages held for it are
acted upon. -/
def State.onEpoch (s : State) (dev : Nat) (g : Seg) (m : EpochMsg) : State × Bool :=
  if g.epoch ≠ 0 ∧ g.epoch < s.txp.epoch then (s.reject dev 0x02 none s.txp.epoch g.seq, false)
  else if m.takeover ∧ s.suspended dev then (s.rejectTakeover dev 0x10 g.step g.seq, false)
  else if s.txp.epoch ≠ 0 ∧ s.knowsEpoch m.epoch then
    (if s.epochWaits then s else s.send { acceptMsg dev 4 [] [] with ref := g.seq % 65536 }, false)
  else
    match s.epochList m with
    | (none, ps) => ({ s with txp := { s.txp with parts := ps } }, false)
    | (some l, _) =>
      if l.length = m.count ∧ listDigest l = padTo 32 m.ldig then (s.takeEpoch dev g.seq m l, true)
      else (({ s with txp := { s.txp with parts := [] } } : State).resend dev 1 [m.epoch], false)

/-- STEP_CLOSE PHASE = FINAL (R314). -/
def State.onFinal (s : State) (dev : Nat) (g : Seg) (m : FinalMsg) : State :=
  if s.isLeader || s.suspended dev then s else s.memberFinal dev g m

/-- STEP_CLOSE PHASE = FREEZE (R313): this member stops releasing EARLY blocks of the step and answers with the ranks it has released. -/
def State.onFreeze (s : State) (dev : Nat) (g : Seg) : State :=
  if s.isLeader || s.suspended dev then s
  else
    let rs := s.releasedRanks g.step
    ({ s with txp := { s.txp with frozenStep := some g.step } } : State).send
      { outMsg dev 0x15 1 g.step rs (rankMapTx s.mapLen rs) with ref := g.seq % 65536 }

/-- RESEND KIND = LIST (R305). -/
def State.onResendList (s : State) (dev : Nat) (g : Seg) : State :=
  if !s.isLeader then s.reject dev 0x03 none s.txp.leader g.seq
  else
    match s.txp.epochs.head? with
    | none => s
    | some (e, l) =>
      (pieces 1600 4 l).foldl (fun (u : State) p =>
        u.send { outMsg dev 0x04 1 0 [] (epochBytes { e with joiners := p, leavers := l.filter (·.suspended), full := true }) with
                   ref := g.seq % 65536, takeover := e.takeover }) s

/-- RESEND KIND = EPOCH (R305): the EPOCH message again. -/
def State.onResendEpoch (s : State) (dev : Nat) (g : Seg) : State :=
  match s.txp.epochs.head? with
  | none => s
  | some (e, _) => s.send { outMsg dev 0x04 0 0 [] (epochBytes e) with ref := g.seq % 65536, takeover := e.takeover, retry := true }

/-- RESEND KIND = CONTRIB: every unsettled outbound contribution goes to the new leader (R320). -/
def State.onResendContrib (s : State) (dev : Nat) : State :=
  if s.suspended dev then s else ({ s with txp := { s.txp with leader := dev } } : State).resendOuts

end Sys2Proof.Machine
end

