-- ==== Sys2Proof/Machine/Receive.lean ====
section
/-!
DEFINITION. TXP messages as they arrive (R305): the epoch of each is checked first; a message of an older epoch is refused, one of a newer
epoch waits until this module has that epoch, and is then acted upon.
-/
namespace Sys2Proof.Machine

/-- The epoch that a message names in its payload; 0 where it names none. -/
def TxpMsg.epoch : TxpMsg → Nat
  | .stepOpen m => m.epoch
  | .final m => m.epoch
  | _ => 0

/-- A message is acted upon by its kind. -/
def State.act (s : State) (dev : Nat) (g : Seg) : TxpMsg → State
  | .join vmaj j => s.onJoin dev vmaj g j
  | .leave => s.onLeave dev g
  | .stepOpen m => if s.suspended dev then s else s.memberOpen dev m
  | .takeover => s.onTakeover dev g
  | .contrib m => s.leaderContrib dev m g.seq
  | .contribFwd m => s.onContribFwd dev g m
  | .accept m => s.onAccept dev g m
  | .reject m => s.onReject dev m
  | .resendXfer cls xfer att => s.onResendXfer dev cls xfer att
  | .resendContrib => s.onResendContrib dev
  | .resendList => s.onResendList dev g
  | .resendEpoch => s.onResendEpoch dev g
  | .handover win => s.onHandover dev win g
  | .freeze => s.onFreeze dev g
  | .freezeAck released => s.onFreezeAck dev g released
  | .final m => s.onFinal dev g m
  | .auditReq id => s.onAuditReq dev g id
  | .auditReply reply id => s.onAuditReply reply id
  | .auditReport id status odig => s.onAuditReport dev g id status odig

/-- The message is of an epoch that this module does not have (R305). -/
def State.awaits (s : State) (g : Seg) (m : TxpMsg) : Bool := !s.knowsEpoch g.epoch || !s.knowsEpoch m.epoch

/-- The requests by which a module that lags behind obtains the epoch (R305). -/
def TxpMsg.asksEpoch : TxpMsg → Bool
  | .resendList => true
  | .resendEpoch => true
  | _ => false

/-- A message that its session has accepted: refused, held with a request for its epoch, or acted upon (R305). DEDUCED (log entry 46): a request
for the epoch or the list is answered though its sender's epoch is older. -/
def State.takeMsg (s : State) (dev : Nat) (g : Seg) (m : TxpMsg) : State :=
  if g.epoch ≠ 0 ∧ g.epoch < s.txp.epoch ∧ !m.asksEpoch then s.reject dev 0x02 none s.txp.epoch g.seq
  else if s.awaits g m then
    ({ s with txp := { s.txp with heldMsgs := s.txp.heldMsgs ++ [(dev, g, m)] } } : State).resend dev 2 [max g.epoch m.epoch]
  else s.act dev g m

/-- A message arrives in an authenticated segment (R297, R305). -/
def State.receive (s : State) (dev : Nat) (g : Seg) (m : TxpMsg) : Host.Outcome State Fault Refusal :=
  let r := s.recvSeg dev g
  .next (if r.2 then r.1.takeMsg dev g m else r.1)

/-- The messages that waited for an epoch are acted upon once it is known (R305). -/
def State.runHeld (s : State) : State :=
  (s.txp.heldMsgs.filter fun e => !s.awaits e.2.1 e.2.2).foldl (fun (u : State) e => u.act e.1 e.2.1 e.2.2)
    { s with txp := { s.txp with heldMsgs := s.txp.heldMsgs.filter fun e => s.awaits e.2.1 e.2.2 } }

/-- JOIN (R304). -/
def execJoin (dev vmaj : Nat) (g : Seg) (j : JoinMsg) (s : State) : Host.Outcome State Fault Refusal := s.receive dev g (.join vmaj j)

/-- LEAVE (R304). -/
def execLeave (dev : Nat) (g : Seg) (s : State) : Host.Outcome State Fault Refusal := s.receive dev g .leave

/-- EPOCH (R305). -/
def execEpoch (dev : Nat) (g : Seg) (m : EpochMsg) (s : State) : Host.Outcome State Fault Refusal :=
  let r := s.recvSeg dev g
  if !r.2 then .next r.1
  else
    let q := r.1.onEpoch dev g m
    .next (if q.2 then q.1.runHeld else q.1)

/-- STEP_OPEN (R307). -/
def execStepOpen (dev : Nat) (g : Seg) (m : StepOpenMsg) (s : State) : Host.Outcome State Fault Refusal := s.receive dev g (.stepOpen m)

/-- STEP_OPEN with TAKEOVER = 1 (R319). -/
def execStepOpenTakeover (dev : Nat) (g : Seg) (s : State) : Host.Outcome State Fault Refusal := s.receive dev g .takeover

/-- CONTRIB (R310). -/
def execContrib (dev : Nat) (g : Seg) (m : ContribMsg) (s : State) : Host.Outcome State Fault Refusal := s.receive dev g (.contrib m)

/-- CONTRIB with FWD = 1 (R311). -/
def execContribFwd (dev : Nat) (g : Seg) (m : ContribMsg) (s : State) : Host.Outcome State Fault Refusal := s.receive dev g (.contribFwd m)

/-- ACCEPT (R304, R305, R311, R314, R319). -/
def execAccept (dev : Nat) (g : Seg) (m : AcceptMsg) (s : State) : Host.Outcome State Fault Refusal := s.receive dev g (.accept m)

/-- REJECT (R310); one in clear answers an OFFER. -/
def execReject (dev : Nat) (g : Seg) (m : RejectMsg) (s : State) : Host.Outcome State Fault Refusal :=
  if g.session ≠ 0 then s.receive dev g (.reject m)
  else .next (if g.rsv then s.txpBump 3 1 else s.offerRefused dev m)

/-- RESEND KIND = XFER (R322). -/
def execResendXfer (dev : Nat) (g : Seg) (cls xfer att : Nat) (s : State) : Host.Outcome State Fault Refusal :=
  s.receive dev g (.resendXfer cls xfer att)

/-- RESEND KIND = LIST and KIND = EPOCH (R305). -/
def execResendList (dev : Nat) (g : Seg) (s : State) : Host.Outcome State Fault Refusal := s.receive dev g .resendList
def execResendEpoch (dev : Nat) (g : Seg) (s : State) : Host.Outcome State Fault Refusal := s.receive dev g .resendEpoch

/-- WIN_HANDOVER (R323). -/
def execWinHandover (dev win : Nat) (g : Seg) (s : State) : Host.Outcome State Fault Refusal := s.receive dev g (.handover win)

/-- RESEND KIND = CONTRIB (R320). -/
def execResendContrib (dev : Nat) (g : Seg) (s : State) : Host.Outcome State Fault Refusal := s.receive dev g .resendContrib

/-- STEP_CLOSE PHASE = FREEZE (R313). -/
def execStepCloseFreeze (dev : Nat) (g : Seg) (s : State) : Host.Outcome State Fault Refusal := s.receive dev g .freeze

/-- STEP_CLOSE PHASE = FREEZE_ACK (R313). -/
def execStepCloseFreezeAck (dev : Nat) (g : Seg) (released : List Nat) (s : State) : Host.Outcome State Fault Refusal :=
  s.receive dev g (.freezeAck released)

/-- STEP_CLOSE PHASE = FINAL (R314). -/
def execStepCloseFinal (dev : Nat) (g : Seg) (m : FinalMsg) (s : State) : Host.Outcome State Fault Refusal := s.receive dev g (.final m)

/-- AUDIT PHASE = REQ (R324); one of this module's own is not a message. -/
def execAuditReq (dev : Nat) (g : Seg) (id : ContribId) (s : State) : Host.Outcome State Fault Refusal :=
  if dev = s.vent.devId then .next (s.startAudit id 0) else s.receive dev g (.auditReq id)

/-- AUDIT PHASE = REPLY (R325). -/
def execAuditReply (dev : Nat) (g : Seg) (reply : Option ContribMsg) (id : ContribId) (s : State) : Host.Outcome State Fault Refusal :=
  s.receive dev g (.auditReply reply id)

/-- AUDIT PHASE = REPORT (R326). -/
def execAuditReport (dev : Nat) (g : Seg) (id : ContribId) (status : AuditStatus) (odig : List Byte) (s : State) :
    Host.Outcome State Fault Refusal :=
  s.receive dev g (.auditReport id status odig)

end Sys2Proof.Machine
end

