-- ==== Sys2Proof/Machine/Scalar.lean ====
section
/-!
DEFINITION. The scalar core's integer, FP32, immediate and branch instructions (R48 to R50, R439, Tables 3-2a to 3-5).
-/
namespace Sys2Proof.Machine

/-- An integer instruction of the R format (Table 3-4): rd ← s[rs1] op s[rs2]. -/
def aluR (func lat : Nat) (op : Word → Word → Word) (t rd rs1 rs2 : Nat) (s : State) :
    Host.Outcome State Fault Refusal :=
  onTile t s fun x => x.issue s.cc (encR 0x00 rd rs1 rs2 func) [rs1, rs2] fun y =>
    let pz := y.regPz rs1 || y.regPz rs2
    (y.addFp 0 pz).retire s.cc rd (op (y.reg rs1) (y.reg rs2)) pz lat

/-- An FP32 instruction of the R format (Table 3-5). -/
def fpuR (func lat : Nat) (op : Word → Word → Word × Flg) (t rd rs1 rs2 : Nat) (s : State) :
    Host.Outcome State Fault Refusal :=
  onTile t s fun x => x.issue s.cc (encR 0x01 rd rs1 rs2 func) [rs1, rs2] fun y =>
    let pz := y.regPz rs1 || y.regPz rs2
    let r := op (y.reg rs1) (y.reg rs2)
    (y.addFp r.2 pz).retire s.cc rd r.1 pz lat

/-- FABS and FNEG: one source, rs2 unused. -/
def fpu1 (func : Nat) (op : Word → Word) (t rd rs1 : Nat) (s : State) : Host.Outcome State Fault Refusal :=
  onTile t s fun x => x.issue s.cc (encR 0x01 rd rs1 0 func) [rs1] fun y =>
    (y.addFp 0 (y.regPz rs1)).retire s.cc rd (op (y.reg rs1)) (y.regPz rs1) 2

/-- An integer instruction with an immediate; `v` is the immediate as R439 extends it. -/
def aluI (opc : Nat) (op : Word → Word → Word) (t rd rs1 imm : Nat) (v : Word) (s : State) :
    Host.Outcome State Fault Refusal :=
  onTile t s fun x => x.issue s.cc (encI opc rd rs1 imm) [rs1] fun y =>
    (y.addFp 0 (y.regPz rs1)).retire s.cc rd (op (y.reg rs1) v) (y.regPz rs1) 1

/-- PC + 4 × sext(imm). -/
def target (pc : Word) (imm : BitVec 16) : Word := pc + 4 * imm.signExtend 32

/-- A conditional branch: a poisoned condition is in control position (R52). -/
def branch (opc : Nat) (c : Word → Word → Bool) (t ra rb : Nat) (imm : BitVec 16) (s : State) :
    Host.Outcome State Fault Refusal :=
  onTile t s fun x => x.issue s.cc (encI opc ra rb imm.toNat) [ra, rb] fun y =>
    let z := y.ctrl (y.regPz ra || y.regPz rb)
    if c (y.reg ra) (y.reg rb) then z.jump s.cc (target y.pc imm) else z.advance s.cc

def fcmp (p : Int → Int → Bool) (a b : Word) : Word × Flg :=
  let r := fCmp p a b
  (if r.1 then 1 else 0, r.2)

/-- ADD (R439). -/
def execAdd (t : Nat) (rd rs1 rs2 : BitVec 5) (s : State) := aluR 0x000 1 (· + ·) t rd.toNat rs1.toNat rs2.toNat s
/-- SUB (R439). -/
def execSub (t : Nat) (rd rs1 rs2 : BitVec 5) (s : State) := aluR 0x001 1 (· - ·) t rd.toNat rs1.toNat rs2.toNat s
/-- AND (R439). -/
def execAnd (t : Nat) (rd rs1 rs2 : BitVec 5) (s : State) := aluR 0x002 1 (· &&& ·) t rd.toNat rs1.toNat rs2.toNat s
/-- OR (R439). -/
def execOr (t : Nat) (rd rs1 rs2 : BitVec 5) (s : State) := aluR 0x003 1 (· ||| ·) t rd.toNat rs1.toNat rs2.toNat s
/-- XOR (R439). -/
def execXor (t : Nat) (rd rs1 rs2 : BitVec 5) (s : State) := aluR 0x004 1 (· ^^^ ·) t rd.toNat rs1.toNat rs2.toNat s
/-- SHL (R50). -/
def execShl (t : Nat) (rd rs1 rs2 : BitVec 5) (s : State) := aluR 0x005 1 iShl t rd.toNat rs1.toNat rs2.toNat s
/-- SHR (R50). -/
def execShr (t : Nat) (rd rs1 rs2 : BitVec 5) (s : State) := aluR 0x006 1 iShr t rd.toNat rs1.toNat rs2.toNat s
/-- SRA (R50). -/
def execSra (t : Nat) (rd rs1 rs2 : BitVec 5) (s : State) := aluR 0x007 1 iSra t rd.toNat rs1.toNat rs2.toNat s
/-- SLT (R439). -/
def execSlt (t : Nat) (rd rs1 rs2 : BitVec 5) (s : State) := aluR 0x008 1 iSlt t rd.toNat rs1.toNat rs2.toNat s
/-- SLTU (R439). -/
def execSltu (t : Nat) (rd rs1 rs2 : BitVec 5) (s : State) := aluR 0x009 1 iSltu t rd.toNat rs1.toNat rs2.toNat s
/-- MUL (R439). -/
def execMul (t : Nat) (rd rs1 rs2 : BitVec 5) (s : State) := aluR 0x010 3 (· * ·) t rd.toNat rs1.toNat rs2.toNat s
/-- MULH (R439). -/
def execMulh (t : Nat) (rd rs1 rs2 : BitVec 5) (s : State) := aluR 0x011 3 iMulh t rd.toNat rs1.toNat rs2.toNat s
/-- MULHU (R439). -/
def execMulhu (t : Nat) (rd rs1 rs2 : BitVec 5) (s : State) := aluR 0x012 3 iMulhu t rd.toNat rs1.toNat rs2.toNat s
/-- DIV (R50, Table 3-4). -/
def execDiv (t : Nat) (rd rs1 rs2 : BitVec 5) (s : State) := aluR 0x018 34 iDiv t rd.toNat rs1.toNat rs2.toNat s
/-- DIVU (R50, Table 3-4). -/
def execDivu (t : Nat) (rd rs1 rs2 : BitVec 5) (s : State) := aluR 0x019 34 iDivu t rd.toNat rs1.toNat rs2.toNat s
/-- REM (R50, Table 3-4). -/
def execRem (t : Nat) (rd rs1 rs2 : BitVec 5) (s : State) := aluR 0x01A 34 iRem t rd.toNat rs1.toNat rs2.toNat s
/-- REMU (R50, Table 3-4). -/
def execRemu (t : Nat) (rd rs1 rs2 : BitVec 5) (s : State) := aluR 0x01B 34 iRemu t rd.toNat rs1.toNat rs2.toNat s

/-- FADD (R50, Table 3-5). -/
def execFadd (t : Nat) (rd rs1 rs2 : BitVec 5) (s : State) := fpuR 0x000 4 fAdd t rd.toNat rs1.toNat rs2.toNat s
/-- FSUB (R50, Table 3-5). -/
def execFsub (t : Nat) (rd rs1 rs2 : BitVec 5) (s : State) := fpuR 0x001 4 fSub t rd.toNat rs1.toNat rs2.toNat s
/-- FMUL (R50, Table 3-5). -/
def execFmul (t : Nat) (rd rs1 rs2 : BitVec 5) (s : State) := fpuR 0x002 4 fMul t rd.toNat rs1.toNat rs2.toNat s
/-- FMA: rd ← s[rs1] × s[rs2] + s[rd], rounded once (Table 3-2a). -/
def execFma (t : Nat) (rd rs1 rs2 : BitVec 5) (s : State) : Host.Outcome State Fault Refusal :=
  onTile t s fun x => x.issue s.cc (encR 0x01 rd.toNat rs1.toNat rs2.toNat 0x003) [rs1.toNat, rs2.toNat, rd.toNat] fun y =>
    let pz := y.regPz rs1.toNat || y.regPz rs2.toNat || y.regPz rd.toNat
    let r := fMa (y.reg rs1.toNat) (y.reg rs2.toNat) (y.reg rd.toNat)
    (y.addFp r.2 pz).retire s.cc rd.toNat r.1 pz 4
/-- FMIN (R50). -/
def execFmin (t : Nat) (rd rs1 rs2 : BitVec 5) (s : State) := fpuR 0x004 4 fMin t rd.toNat rs1.toNat rs2.toNat s
/-- FMAX (R50). -/
def execFmax (t : Nat) (rd rs1 rs2 : BitVec 5) (s : State) := fpuR 0x005 4 fMax t rd.toNat rs1.toNat rs2.toNat s
/-- FCMP.EQ (R50). -/
def execFcmpEq (t : Nat) (rd rs1 rs2 : BitVec 5) (s : State) :=
  fpuR 0x008 2 (fcmp fun a b => decide (a = b)) t rd.toNat rs1.toNat rs2.toNat s
/-- FCMP.LT (R50). -/
def execFcmpLt (t : Nat) (rd rs1 rs2 : BitVec 5) (s : State) :=
  fpuR 0x009 2 (fcmp fun a b => decide (a < b)) t rd.toNat rs1.toNat rs2.toNat s
/-- FCMP.LE (R50). -/
def execFcmpLe (t : Nat) (rd rs1 rs2 : BitVec 5) (s : State) :=
  fpuR 0x00A 2 (fcmp fun a b => decide (a ≤ b)) t rd.toNat rs1.toNat rs2.toNat s
/-- FABS (R50, R76). -/
def execFabs (t : Nat) (rd rs1 : BitVec 5) (s : State) := fpu1 0x00C fAbs t rd.toNat rs1.toNat s
/-- FNEG (R50, R76). -/
def execFneg (t : Nat) (rd rs1 : BitVec 5) (s : State) := fpu1 0x00D fNeg t rd.toNat rs1.toNat s

/-- ADDI: the immediate is sign-extended (R439). -/
def execAddi (t : Nat) (rd rs1 : BitVec 5) (imm : BitVec 16) (s : State) :=
  aluI 0x04 (· + ·) t rd.toNat rs1.toNat imm.toNat (imm.signExtend 32) s
/-- ANDI: the immediate is zero-extended (R439). -/
def execAndi (t : Nat) (rd rs1 : BitVec 5) (imm : BitVec 16) (s : State) :=
  aluI 0x05 (· &&& ·) t rd.toNat rs1.toNat imm.toNat (imm.setWidth 32) s
/-- ORI: the immediate is zero-extended (R439). -/
def execOri (t : Nat) (rd rs1 : BitVec 5) (imm : BitVec 16) (s : State) :=
  aluI 0x06 (· ||| ·) t rd.toNat rs1.toNat imm.toNat (imm.setWidth 32) s
/-- XORI: the immediate is zero-extended (R439). -/
def execXori (t : Nat) (rd rs1 : BitVec 5) (imm : BitVec 16) (s : State) :=
  aluI 0x07 (· ^^^ ·) t rd.toNat rs1.toNat imm.toNat (imm.setWidth 32) s
/-- SHLI: the count is imm[4:0] (R439). -/
def execShli (t : Nat) (rd rs1 : BitVec 5) (imm : BitVec 16) (s : State) :=
  aluI 0x08 iShl t rd.toNat rs1.toNat imm.toNat (imm.setWidth 32) s
/-- SHRI: the count is imm[4:0] (R439). -/
def execShri (t : Nat) (rd rs1 : BitVec 5) (imm : BitVec 16) (s : State) :=
  aluI 0x09 iShr t rd.toNat rs1.toNat imm.toNat (imm.setWidth 32) s
/-- SRAI: the count is imm[4:0] (R439). -/
def execSrai (t : Nat) (rd rs1 : BitVec 5) (imm : BitVec 16) (s : State) :=
  aluI 0x0A iSra t rd.toNat rs1.toNat imm.toNat (imm.setWidth 32) s
/-- SLTI: the immediate is sign-extended (R439). -/
def execSlti (t : Nat) (rd rs1 : BitVec 5) (imm : BitVec 16) (s : State) :=
  aluI 0x0B iSlt t rd.toNat rs1.toNat imm.toNat (imm.signExtend 32) s
/-- SLTUI: the immediate is sign-extended and compared as unsigned (R439). -/
def execSltui (t : Nat) (rd rs1 : BitVec 5) (imm : BitVec 16) (s : State) :=
  aluI 0x0C iSltu t rd.toNat rs1.toNat imm.toNat (imm.signExtend 32) s
/-- MOVHI: rd ← imm << 16; rs1 unused (Table 3-2a). -/
def execMovhi (t : Nat) (rd : BitVec 5) (imm : BitVec 16) (s : State) : Host.Outcome State Fault Refusal :=
  onTile t s fun x => x.issue s.cc (encI 0x0D rd.toNat 0 imm.toNat) [] fun y =>
    y.retire s.cc rd.toNat (imm.setWidth 32 <<< 16) false 1

/-- BEQ (R439). -/
def execBeq (t : Nat) (ra rb : BitVec 5) (imm : BitVec 16) (s : State) :=
  branch 0x10 (fun a b => decide (a = b)) t ra.toNat rb.toNat imm s
/-- BNE (R439). -/
def execBne (t : Nat) (ra rb : BitVec 5) (imm : BitVec 16) (s : State) :=
  branch 0x11 (fun a b => decide (a ≠ b)) t ra.toNat rb.toNat imm s
/-- BLT compares signed values (R439). -/
def execBlt (t : Nat) (ra rb : BitVec 5) (imm : BitVec 16) (s : State) :=
  branch 0x12 (fun a b => decide (a.toInt < b.toInt)) t ra.toNat rb.toNat imm s
/-- BGE compares signed values (R439). -/
def execBge (t : Nat) (ra rb : BitVec 5) (imm : BitVec 16) (s : State) :=
  branch 0x13 (fun a b => decide (b.toInt ≤ a.toInt)) t ra.toNat rb.toNat imm s
/-- BLTU compares unsigned values (R439). -/
def execBltu (t : Nat) (ra rb : BitVec 5) (imm : BitVec 16) (s : State) :=
  branch 0x14 (fun a b => decide (a.toNat < b.toNat)) t ra.toNat rb.toNat imm s
/-- BGEU compares unsigned values (R439). -/
def execBgeu (t : Nat) (ra rb : BitVec 5) (imm : BitVec 16) (s : State) :=
  branch 0x15 (fun a b => decide (b.toNat ≤ a.toNat)) t ra.toNat rb.toNat imm s

/-- J: target PC + 4 × sext(imm) (R439). -/
def execJ (t : Nat) (imm : BitVec 16) (s : State) : Host.Outcome State Fault Refusal :=
  onTile t s fun x => x.issue s.cc (encI 0x16 0 0 imm.toNat) [] fun y => y.jump s.cc (target y.pc imm)

/-- JAL: rd ← PC + 4; target PC + 4 × sext(imm) (R439). -/
def execJal (t : Nat) (rd : BitVec 5) (imm : BitVec 16) (s : State) : Host.Outcome State Fault Refusal :=
  onTile t s fun x => x.issue s.cc (encI 0x17 rd.toNat 0 imm.toNat) [] fun y =>
    ((y.setReg rd.toNat (y.pc + 4) false).setReady rd.toNat (s.cc + 1)).jump s.cc (target y.pc imm)

/-- JR: target s[rs1]; a poisoned target is in control position (R52). -/
def execJr (t : Nat) (rs1 : BitVec 5) (s : State) : Host.Outcome State Fault Refusal :=
  onTile t s fun x => x.issue s.cc (encI 0x18 0 rs1.toNat 0) [rs1.toNat] fun y =>
    (y.ctrl (y.regPz rs1.toNat)).jump s.cc (y.reg rs1.toNat)

end Sys2Proof.Machine
end

