-- ==== Sys2Proof/Machine/Dispatch.lean ====
section
/-!
DEFINITION. The dispatch: one arm per command, each a direct call of the command's meaning.
-/
namespace Sys2Proof.Machine

open Sys2Proof

def exec (i : Instr) (s : State) : Host.Outcome State Fault Refusal :=
  match i with
  | .add t rd rs1 rs2 => Sys2Proof.Machine.execAdd t rd rs1 rs2 s
  | .sub t rd rs1 rs2 => Sys2Proof.Machine.execSub t rd rs1 rs2 s
  | .and t rd rs1 rs2 => Sys2Proof.Machine.execAnd t rd rs1 rs2 s
  | .or t rd rs1 rs2 => Sys2Proof.Machine.execOr t rd rs1 rs2 s
  | .xor t rd rs1 rs2 => Sys2Proof.Machine.execXor t rd rs1 rs2 s
  | .shl t rd rs1 rs2 => Sys2Proof.Machine.execShl t rd rs1 rs2 s
  | .shr t rd rs1 rs2 => Sys2Proof.Machine.execShr t rd rs1 rs2 s
  | .sra t rd rs1 rs2 => Sys2Proof.Machine.execSra t rd rs1 rs2 s
  | .slt t rd rs1 rs2 => Sys2Proof.Machine.execSlt t rd rs1 rs2 s
  | .sltu t rd rs1 rs2 => Sys2Proof.Machine.execSltu t rd rs1 rs2 s
  | .mul t rd rs1 rs2 => Sys2Proof.Machine.execMul t rd rs1 rs2 s
  | .mulh t rd rs1 rs2 => Sys2Proof.Machine.execMulh t rd rs1 rs2 s
  | .mulhu t rd rs1 rs2 => Sys2Proof.Machine.execMulhu t rd rs1 rs2 s
  | .div t rd rs1 rs2 => Sys2Proof.Machine.execDiv t rd rs1 rs2 s
  | .divu t rd rs1 rs2 => Sys2Proof.Machine.execDivu t rd rs1 rs2 s
  | .rem t rd rs1 rs2 => Sys2Proof.Machine.execRem t rd rs1 rs2 s
  | .remu t rd rs1 rs2 => Sys2Proof.Machine.execRemu t rd rs1 rs2 s
  | .fadd t rd rs1 rs2 => Sys2Proof.Machine.execFadd t rd rs1 rs2 s
  | .fsub t rd rs1 rs2 => Sys2Proof.Machine.execFsub t rd rs1 rs2 s
  | .fmul t rd rs1 rs2 => Sys2Proof.Machine.execFmul t rd rs1 rs2 s
  | .fma t rd rs1 rs2 => Sys2Proof.Machine.execFma t rd rs1 rs2 s
  | .fmin t rd rs1 rs2 => Sys2Proof.Machine.execFmin t rd rs1 rs2 s
  | .fmax t rd rs1 rs2 => Sys2Proof.Machine.execFmax t rd rs1 rs2 s
  | .fcmpEq t rd rs1 rs2 => Sys2Proof.Machine.execFcmpEq t rd rs1 rs2 s
  | .fcmpLt t rd rs1 rs2 => Sys2Proof.Machine.execFcmpLt t rd rs1 rs2 s
  | .fcmpLe t rd rs1 rs2 => Sys2Proof.Machine.execFcmpLe t rd rs1 rs2 s
  | .fabs t rd rs1 => Sys2Proof.Machine.execFabs t rd rs1 s
  | .fneg t rd rs1 => Sys2Proof.Machine.execFneg t rd rs1 s
  | .addi t rd rs1 imm => Sys2Proof.Machine.execAddi t rd rs1 imm s
  | .andi t rd rs1 imm => Sys2Proof.Machine.execAndi t rd rs1 imm s
  | .ori t rd rs1 imm => Sys2Proof.Machine.execOri t rd rs1 imm s
  | .xori t rd rs1 imm => Sys2Proof.Machine.execXori t rd rs1 imm s
  | .shli t rd rs1 imm => Sys2Proof.Machine.execShli t rd rs1 imm s
  | .shri t rd rs1 imm => Sys2Proof.Machine.execShri t rd rs1 imm s
  | .srai t rd rs1 imm => Sys2Proof.Machine.execSrai t rd rs1 imm s
  | .slti t rd rs1 imm => Sys2Proof.Machine.execSlti t rd rs1 imm s
  | .sltui t rd rs1 imm => Sys2Proof.Machine.execSltui t rd rs1 imm s
  | .movhi t rd imm => Sys2Proof.Machine.execMovhi t rd imm s
  | .beq t ra rb imm => Sys2Proof.Machine.execBeq t ra rb imm s
  | .bne t ra rb imm => Sys2Proof.Machine.execBne t ra rb imm s
  | .blt t ra rb imm => Sys2Proof.Machine.execBlt t ra rb imm s
  | .bge t ra rb imm => Sys2Proof.Machine.execBge t ra rb imm s
  | .bltu t ra rb imm => Sys2Proof.Machine.execBltu t ra rb imm s
  | .bgeu t ra rb imm => Sys2Proof.Machine.execBgeu t ra rb imm s
  | .j t imm => Sys2Proof.Machine.execJ t imm s
  | .jal t rd imm => Sys2Proof.Machine.execJal t rd imm s
  | .jr t rs1 => Sys2Proof.Machine.execJr t rs1 s
  | .ldB t rd h rs imm => Sys2Proof.Machine.execLdB t rd h rs imm s
  | .ldBu t rd h rs imm => Sys2Proof.Machine.execLdBu t rd h rs imm s
  | .ldH t rd h rs imm => Sys2Proof.Machine.execLdH t rd h rs imm s
  | .ldHu t rd h rs imm => Sys2Proof.Machine.execLdHu t rd h rs imm s
  | .ldW t rd h rs imm => Sys2Proof.Machine.execLdW t rd h rs imm s
  | .ldD t rd h rs imm => Sys2Proof.Machine.execLdD t rd h rs imm s
  | .stB t rd h rs imm => Sys2Proof.Machine.execStB t rd h rs imm s
  | .stH t rd h rs imm => Sys2Proof.Machine.execStH t rd h rs imm s
  | .stW t rd h rs imm => Sys2Proof.Machine.execStW t rd h rs imm s
  | .stD t rd h rs imm => Sys2Proof.Machine.execStD t rd h rs imm s
  | .enqF t rs1 rs2 => Sys2Proof.Machine.execEnqF t rs1 rs2 s
  | .enqB t rs1 rs2 => Sys2Proof.Machine.execEnqB t rs1 rs2 s
  | .enqV t rs1 rs2 => Sys2Proof.Machine.execEnqV t rs1 rs2 s
  | .enqD t rs1 rs2 => Sys2Proof.Machine.execEnqD t rs1 rs2 s
  | .trr t rd off => Sys2Proof.Machine.execTrr t rd off s
  | .trw t rs1 off => Sys2Proof.Machine.execTrw t rs1 off s
  | .mqModeApply t => Sys2Proof.Machine.execMqModeApply t s
  | .sfWait t n => Sys2Proof.Machine.execSfWait t n s
  | .sfSig t n => Sys2Proof.Machine.execSfSig t n s
  | .sfRead t rd n => Sys2Proof.Machine.execSfRead t rd n s
  | .syncFlagGrant t n => Sys2Proof.Machine.execSyncFlagGrant t n s
  | .scalarWake t => Sys2Proof.Machine.execScalarWake t s
  | .barArrive t rd rs1 rop level xpn => Sys2Proof.Machine.execBarArrive t rd rs1 rop level xpn s
  | .msgSend t rp rs1 rs2 flag => Sys2Proof.Machine.execMsgSend t rp rs1 rs2 flag s
  | .msgRecv t rd => Sys2Proof.Machine.execMsgRecv t rd s
  | .msgPoll t rd => Sys2Proof.Machine.execMsgPoll t rd s
  | .msgFree t => Sys2Proof.Machine.execMsgFree t s
  | .msgCtlClose t => Sys2Proof.Machine.execMsgCtlClose t s
  | .msgCtlOpen t => Sys2Proof.Machine.execMsgCtlOpen t s
  | .msgCtlEpoch t ep => Sys2Proof.Machine.execMsgCtlEpoch t ep s
  | .endProg t => Sys2Proof.Machine.execEndProg t s
  | .tileDone t => Sys2Proof.Machine.execTileDone t s
  | .mnop t q => Sys2Proof.Machine.execMnop t q s
  | .mld t q => Sys2Proof.Machine.execMld t q s
  | .mldComplete t => Sys2Proof.Machine.execMldComplete t s
  | .mma t q => Sys2Proof.Machine.execMma t q s
  | .mmaComplete t => Sys2Proof.Machine.execMmaComplete t s
  | .slice t q => Sys2Proof.Machine.execSlice t q s
  | .sliceComplete t => Sys2Proof.Machine.execSliceComplete t s
  | .vnop t => Sys2Proof.Machine.execVnop t s
  | .vsd t => Sys2Proof.Machine.execVsd t s
  | .pkld t => Sys2Proof.Machine.execPkld t s
  | .rngsetS t => Sys2Proof.Machine.execRngsetS t s
  | .rngsetB t => Sys2Proof.Machine.execRngsetB t s
  | .vopfMov t => Sys2Proof.Machine.execVopfMov t s
  | .vopfFadd t => Sys2Proof.Machine.execVopfFadd t s
  | .vopfFsub t => Sys2Proof.Machine.execVopfFsub t s
  | .vopfFmul t => Sys2Proof.Machine.execVopfFmul t s
  | .vopfFma t => Sys2Proof.Machine.execVopfFma t s
  | .vopfFmin t => Sys2Proof.Machine.execVopfFmin t s
  | .vopfFmax t => Sys2Proof.Machine.execVopfFmax t s
  | .vopfFabs t => Sys2Proof.Machine.execVopfFabs t s
  | .vopfFneg t => Sys2Proof.Machine.execVopfFneg t s
  | .vopfFcmpLt t => Sys2Proof.Machine.execVopfFcmpLt t s
  | .vopfFcmpLe t => Sys2Proof.Machine.execVopfFcmpLe t s
  | .vopfFcmpEq t => Sys2Proof.Machine.execVopfFcmpEq t s
  | .vopfFsel t => Sys2Proof.Machine.execVopfFsel t s
  | .vopfExp2 t => Sys2Proof.Machine.execVopfExp2 t s
  | .vopfLog2 t => Sys2Proof.Machine.execVopfLog2 t s
  | .vopfRcp t => Sys2Proof.Machine.execVopfRcp t s
  | .vopfRsqrt t => Sys2Proof.Machine.execVopfRsqrt t s
  | .vopfSqrt t => Sys2Proof.Machine.execVopfSqrt t s
  | .vopiMov t => Sys2Proof.Machine.execVopiMov t s
  | .vopiIadd t => Sys2Proof.Machine.execVopiIadd t s
  | .vopiIsub t => Sys2Proof.Machine.execVopiIsub t s
  | .vopiImul t => Sys2Proof.Machine.execVopiImul t s
  | .vopiAnd t => Sys2Proof.Machine.execVopiAnd t s
  | .vopiOr t => Sys2Proof.Machine.execVopiOr t s
  | .vopiXor t => Sys2Proof.Machine.execVopiXor t s
  | .vopiShl t => Sys2Proof.Machine.execVopiShl t s
  | .vopiShr t => Sys2Proof.Machine.execVopiShr t s
  | .vopiSra t => Sys2Proof.Machine.execVopiSra t s
  | .vopiImin t => Sys2Proof.Machine.execVopiImin t s
  | .vopiImax t => Sys2Proof.Machine.execVopiImax t s
  | .vopiIsel t => Sys2Proof.Machine.execVopiIsel t s
  | .vopiIcmpLt t => Sys2Proof.Machine.execVopiIcmpLt t s
  | .vopiIcmpEq t => Sys2Proof.Machine.execVopiIcmpEq t s
  | .cvt t => Sys2Proof.Machine.execCvt t s
  | .prism t => Sys2Proof.Machine.execPrism t s
  | .vredSum t => Sys2Proof.Machine.execVredSum t s
  | .vredSumsq t => Sys2Proof.Machine.execVredSumsq t s
  | .vredMax t => Sys2Proof.Machine.execVredMax t s
  | .vredMin t => Sys2Proof.Machine.execVredMin t s
  | .vredArgmax t => Sys2Proof.Machine.execVredArgmax t s
  | .vredArgmin t => Sys2Proof.Machine.execVredArgmin t s
  | .vredIsum t => Sys2Proof.Machine.execVredIsum t s
  | .rngBits t => Sys2Proof.Machine.execRngBits t s
  | .rngUnif t => Sys2Proof.Machine.execRngUnif t s
  | .rngBern t => Sys2Proof.Machine.execRngBern t s
  | .rngGumbel t => Sys2Proof.Machine.execRngGumbel t s
  | .vectorComplete t => Sys2Proof.Machine.execVectorComplete t s
  | .dnop t => Sys2Proof.Machine.execDnop t s
  | .feed t => Sys2Proof.Machine.execFeed t s
  | .feedComplete t id => Sys2Proof.Machine.execFeedComplete t id s
  | .wrel t => Sys2Proof.Machine.execWrel t s
  | .wrelTakeEffect t => Sys2Proof.Machine.execWrelTakeEffect t s
  | .tileStoreScrub t word => Sys2Proof.Machine.execTileStoreScrub t word s
  | .calderaArrival gid rank ue => Sys2Proof.Machine.execCalderaArrival gid rank ue s
  | .barrierRelease gid => Sys2Proof.Machine.execBarrierRelease gid s
  | .exchangePhaseEnd gid => Sys2Proof.Machine.execExchangePhaseEnd gid s
  | .barrierWatchdogExpiry gid => Sys2Proof.Machine.execBarrierWatchdogExpiry gid s
  | .startGateSet => Sys2Proof.Machine.execStartGateSet s
  | .packetSendRead t e j => Sys2Proof.Machine.execPacketSendRead t e j s
  | .packetInject id => Sys2Proof.Machine.execPacketInject id s
  | .packetRouterPass id link errs => Sys2Proof.Machine.execPacketRouterPass id link errs s
  | .packetLanding id => Sys2Proof.Machine.execPacketLanding id s
  | .scheduleEntryApply n => Sys2Proof.Machine.execScheduleEntryApply n s
  | .promotionComplete page => Sys2Proof.Machine.execPromotionComplete page s
  | .writeBackComplete page => Sys2Proof.Machine.execWriteBackComplete page s
  | .frameWaitGrant part => Sys2Proof.Machine.execFrameWaitGrant part s
  | .basinReadRetry word ok => Sys2Proof.Machine.execBasinReadRetry word ok s
  | .messageArrival id => Sys2Proof.Machine.execMessageArrival id s
  | .messageAnswer id => Sys2Proof.Machine.execMessageAnswer id s
  | .arbiterRequest p r x => Sys2Proof.Machine.execArbiterRequest p r x s
  | .frameTxEnd p => Sys2Proof.Machine.execFrameTxEnd p s
  | .requesterMask r masked => Sys2Proof.Machine.execRequesterMask r masked s
  | .directDataFrame p f => Sys2Proof.Machine.execDirectDataFrame p f s
  | .lack p ackseq => Sys2Proof.Machine.execLack p ackseq s
  | .lnak p ackseq => Sys2Proof.Machine.execLnak p ackseq s
  | .ethFrame p f => Sys2Proof.Machine.execEthFrame p f s
  | .portTrained p ident => Sys2Proof.Machine.execPortTrained p ident s
  | .laneLockLoss p lane => Sys2Proof.Machine.execLaneLockLoss p lane s
  | .fecBurst p lane => Sys2Proof.Machine.execFecBurst p lane s
  | .retrainAttemptTimeout p => Sys2Proof.Machine.execRetrainAttemptTimeout p s
  | .directIdentTimeout p => Sys2Proof.Machine.execDirectIdentTimeout p s
  | .transferRestart id => Sys2Proof.Machine.execTransferRestart id s
  | .dataSegment p dev c g dst data mask => Sys2Proof.Machine.execDataSegment p dev c g dst data mask s
  | .winHandover dev win g => Sys2Proof.Machine.execWinHandover dev win g s
  | .messageEgress e => Sys2Proof.Machine.execMessageEgress e s
  | .reductionBlockRelease cid blk => Sys2Proof.Machine.execReductionBlockRelease cid blk s
  | .srcwinArrival cid => Sys2Proof.Machine.execSrcwinArrival cid s
  | .helloOffer p dev vmaj vmin payload => Sys2Proof.Machine.execHelloOffer p dev vmaj vmin payload s
  | .helloAnswer p dev payload => Sys2Proof.Machine.execHelloAnswer p dev payload s
  | .helloConfirm p dev payload => Sys2Proof.Machine.execHelloConfirm p dev payload s
  | .helloPing dev g => Sys2Proof.Machine.execHelloPing dev g s
  | .helloPong dev g => Sys2Proof.Machine.execHelloPong dev g s
  | .helloClose dev g => Sys2Proof.Machine.execHelloClose dev g s
  | .segmentAuthFail dev why => Sys2Proof.Machine.execSegmentAuthFail dev why s
  | .join dev vmaj g j => Sys2Proof.Machine.execJoin dev vmaj g j s
  | .leave dev g => Sys2Proof.Machine.execLeave dev g s
  | .epoch dev g m => Sys2Proof.Machine.execEpoch dev g m s
  | .stepOpen dev g m => Sys2Proof.Machine.execStepOpen dev g m s
  | .stepOpenTakeover dev g => Sys2Proof.Machine.execStepOpenTakeover dev g s
  | .contrib dev g m => Sys2Proof.Machine.execContrib dev g m s
  | .contribFwd dev g m => Sys2Proof.Machine.execContribFwd dev g m s
  | .accept dev g m => Sys2Proof.Machine.execAccept dev g m s
  | .reject dev g m => Sys2Proof.Machine.execReject dev g m s
  | .resendXfer dev g cls xfer att => Sys2Proof.Machine.execResendXfer dev g cls xfer att s
  | .resendList dev g => Sys2Proof.Machine.execResendList dev g s
  | .resendEpoch dev g => Sys2Proof.Machine.execResendEpoch dev g s
  | .resendContrib dev g => Sys2Proof.Machine.execResendContrib dev g s
  | .stepCloseFreeze dev g => Sys2Proof.Machine.execStepCloseFreeze dev g s
  | .stepCloseFreezeAck dev g released => Sys2Proof.Machine.execStepCloseFreezeAck dev g released s
  | .stepCloseFinal dev g m => Sys2Proof.Machine.execStepCloseFinal dev g m s
  | .auditReq dev g id => Sys2Proof.Machine.execAuditReq dev g id s
  | .auditReply dev g reply id => Sys2Proof.Machine.execAuditReply dev g reply id s
  | .auditReport dev g id status odig => Sys2Proof.Machine.execAuditReport dev g id status odig s
  | .tHsExpiry dev => Sys2Proof.Machine.execTHsExpiry dev s
  | .tPingExpiry dev => Sys2Proof.Machine.execTPingExpiry dev s
  | .tSessExpiry dev => Sys2Proof.Machine.execTSessExpiry dev s
  | .tReconExpiry dev => Sys2Proof.Machine.execTReconExpiry dev s
  | .tContribExpiry part => Sys2Proof.Machine.execTContribExpiry part s
  | .tInclExpiry => Sys2Proof.Machine.execTInclExpiry s
  | .tFreezeExpiry => Sys2Proof.Machine.execTFreezeExpiry s
  | .tLeadDeputyExpiry => Sys2Proof.Machine.execTLeadDeputyExpiry s
  | .tLeadStepDown => Sys2Proof.Machine.execTLeadStepDown s
  | .tLeadDeputyLost => Sys2Proof.Machine.execTLeadDeputyLost s
  | .tJoinExpiry => Sys2Proof.Machine.execTJoinExpiry s
  | .tXferExpiry dev cls xfer => Sys2Proof.Machine.execTXferExpiry dev cls xfer s
  | .tWinExpiry id => Sys2Proof.Machine.execTWinExpiry id s
  | .tAuditExpiry => Sys2Proof.Machine.execTAuditExpiry s
  | .sessionLifetimeLimit dev => Sys2Proof.Machine.execSessionLifetimeLimit dev s
  | .sessionDown60s dev => Sys2Proof.Machine.execSessionDown60s dev s
  | .journalBatchWrite => Sys2Proof.Machine.execJournalBatchWrite s
  | .journalCompaction => Sys2Proof.Machine.execJournalCompaction s
  | .counterShadowPoll => Sys2Proof.Machine.execCounterShadowPoll s
  | .heartbeatTick => Sys2Proof.Machine.execHeartbeatTick s
  | .winRefusedEvent => Sys2Proof.Machine.execWinRefusedEvent s
  | .monitorSample temps volts oscs => Sys2Proof.Machine.execMonitorSample temps volts oscs s
  | .pacingLevelUpdate => Sys2Proof.Machine.execPacingLevelUpdate s
  | .thermalTrip sensor => Sys2Proof.Machine.execThermalTrip sensor s
  | .voltageExcursion monitor mv wide => Sys2Proof.Machine.execVoltageExcursion monitor mv wide s
  | .ringOscillatorCheck shifts => Sys2Proof.Machine.execRingOscillatorCheck shifts s
  | .pldmSensorUpdate => Sys2Proof.Machine.execPldmSensorUpdate s
  | .inputEdgeAccept inp level => Sys2Proof.Machine.execInputEdgeAccept inp level s
  | .inputStuck inp => Sys2Proof.Machine.execInputStuck inp s
  | .ieee1588Lock p sec ns => Sys2Proof.Machine.execIeee1588Lock p sec ns s
  | .errorReport code src => Sys2Proof.Machine.execErrorReport code src s
  | .summaryForward gid code => Sys2Proof.Machine.execSummaryForward gid code s
  | .ledgerEntryCreate => Sys2Proof.Machine.execLedgerEntryCreate s
  | .ledgerEntryHandle => Sys2Proof.Machine.execLedgerEntryHandle s
  | .handlerTimeout => Sys2Proof.Machine.execHandlerTimeout s
  | .moduleReset => Sys2Proof.Machine.execModuleReset s
  | .resetNAssert => Sys2Proof.Machine.execResetNAssert s
  | .firmwareVerify => Sys2Proof.Machine.execFirmwareVerify s
  | .journalMount => Sys2Proof.Machine.execJournalMount s
  | .selfTestComplete r => Sys2Proof.Machine.execSelfTestComplete r s
  | .repairMapMerge => Sys2Proof.Machine.execRepairMapMerge s
  | .aonPowerUp puf => Sys2Proof.Machine.execAonPowerUp puf s
  | .inputRise39v => Sys2Proof.Machine.execInputRise39v s
  | .inputFall38v => Sys2Proof.Machine.execInputFall38v s
  | .railOutOfLimits => Sys2Proof.Machine.execRailOutOfLimits s
  | .cxlFunctionReset => Sys2Proof.Machine.execCxlFunctionReset s
  | .hdmRead off => Sys2Proof.Machine.execHdmRead off s
  | .hdmWrite off data poison => Sys2Proof.Machine.execHdmWrite off data poison s
  | .cxlIdentifyMemoryDevice => Sys2Proof.Machine.execCxlIdentifyMemoryDevice s
  | .cxlGetSupportedLogs => Sys2Proof.Machine.execCxlGetSupportedLogs s
  | .cxlGetLog => Sys2Proof.Machine.execCxlGetLog s
  | .cxlGetHealthInfo => Sys2Proof.Machine.execCxlGetHealthInfo s
  | .cxlGetEventRecords => Sys2Proof.Machine.execCxlGetEventRecords s
  | .cxlClearEventRecords n => Sys2Proof.Machine.execCxlClearEventRecords n s
  | .cxlUnsupportedOpcode opcode => Sys2Proof.Machine.execCxlUnsupportedOpcode opcode s
  | .unsupportedCommand => Sys2Proof.Machine.execUnsupportedCommand s
  | .identify => Sys2Proof.Machine.execIdentify s
  | .getState => Sys2Proof.Machine.execGetState s
  | .getHealth => Sys2Proof.Machine.execGetHealth s
  | .getErrledger => Sys2Proof.Machine.execGetErrledger s
  | .getCounters => Sys2Proof.Machine.execGetCounters s
  | .barPending => Sys2Proof.Machine.execBarPending s
  | .imageLoad => Sys2Proof.Machine.execImageLoad s
  | .imageLoadDone => Sys2Proof.Machine.execImageLoadDone s
  | .imageStart => Sys2Proof.Machine.execImageStart s
  | .imageStopSignal => Sys2Proof.Machine.execImageStopSignal s
  | .imageStopHalt => Sys2Proof.Machine.execImageStopHalt s
  | .imageUnload => Sys2Proof.Machine.execImageUnload s
  | .ctxSave => Sys2Proof.Machine.execCtxSave s
  | .ctxRestore => Sys2Proof.Machine.execCtxRestore s
  | .hdmMap => Sys2Proof.Machine.execHdmMap s
  | .winArrive => Sys2Proof.Machine.execWinArrive s
  | .winQuery => Sys2Proof.Machine.execWinQuery s
  | .partnerAdd => Sys2Proof.Machine.execPartnerAdd s
  | .partnerRemove => Sys2Proof.Machine.execPartnerRemove s
  | .portCfg => Sys2Proof.Machine.execPortCfg s
  | .portStatus => Sys2Proof.Machine.execPortStatus s
  | .txpTimers => Sys2Proof.Machine.execTxpTimers s
  | .txpStatus => Sys2Proof.Machine.execTxpStatus s
  | .forceTakeover => Sys2Proof.Machine.execForceTakeover s
  | .jrnInfo => Sys2Proof.Machine.execJrnInfo s
  | .jrnRead => Sys2Proof.Machine.execJrnRead s
  | .jrnAckClose => Sys2Proof.Machine.execJrnAckClose s
  | .getIdentity => Sys2Proof.Machine.execGetIdentity s
  | .attestQuote => Sys2Proof.Machine.execAttestQuote s
  | .fwWrite => Sys2Proof.Machine.execFwWrite s
  | .fwCommit => Sys2Proof.Machine.execFwCommit s
  | .fwCommitDone => Sys2Proof.Machine.execFwCommitDone s
  | .debugOpen => Sys2Proof.Machine.execDebugOpen s
  | .debugClose => Sys2Proof.Machine.execDebugClose s
  | .syncfSet => Sys2Proof.Machine.execSyncfSet s
  | .syncfRead => Sys2Proof.Machine.execSyncfRead s
  | .tregRead => Sys2Proof.Machine.execTregRead s
  | .tstoreRead => Sys2Proof.Machine.execTstoreRead s
  | .mailboxWriteWhileBusy off v => Sys2Proof.Machine.execMailboxWriteWhileBusy off v s
  | .evqHeadWrite v => Sys2Proof.Machine.execEvqHeadWrite v s
  | .portnCfgWriteDisable p v => Sys2Proof.Machine.execPortnCfgWriteDisable p v s
  | .portnCfgWriteEnable p v => Sys2Proof.Machine.execPortnCfgWriteEnable p v s
  | .rcCounterRead c => Sys2Proof.Machine.execRcCounterRead c s
  | .latchedLowWordRead c high => Sys2Proof.Machine.execLatchedLowWordRead c high s
  | .msgNackRead t => Sys2Proof.Machine.execMsgNackRead t s
  | .tsqEntryRead p word => Sys2Proof.Machine.execTsqEntryRead p word s
  | .registerWrite r v => Sys2Proof.Machine.execRegisterWrite r v s
  | .jtagBypass tdi => Sys2Proof.Machine.execJtagBypass tdi s
  | .jtagIdcode => Sys2Proof.Machine.execJtagIdcode s
  | .jtagSamplePreload pins preload => Sys2Proof.Machine.execJtagSamplePreload pins preload s
  | .jtagExtest tdi => Sys2Proof.Machine.execJtagExtest tdi s
  | .jtagRegisterRead t off tdi => Sys2Proof.Machine.execJtagRegisterRead t off tdi s
  | .jtagSyncfSet t flag value tdi => Sys2Proof.Machine.execJtagSyncfSet t flag value tdi s
  | .trstNReset low => Sys2Proof.Machine.execTrstNReset low s
  | .mctpControlMessage cmd data => Sys2Proof.Machine.execMctpControlMessage cmd data s
  | .pldmRequest r => Sys2Proof.Machine.execPldmRequest r s
  | .smbusArp addr => Sys2Proof.Machine.execSmbusArp addr s
  | .alwaysOnPowerLoss => Sys2Proof.Machine.execAlwaysOnPowerLoss s
  | .syncOutPulse => Sys2Proof.Machine.execSyncOutPulse s
  | .hostLinkTraining width speed => Sys2Proof.Machine.execHostLinkTraining width speed s
  | .pllLock ok => Sys2Proof.Machine.execPllLock ok s
  | .freshJoin => Sys2Proof.Machine.execFreshJoin s

end Sys2Proof.Machine
end

