-- ==== Sys2Proof/Machine/Cycle.lean ====
section
/-!
DEFINITION. What a tile does in every core cycle: the banks serve their requesters (R62, Table 3-9, R111), and the counters of waiting and
busy cycles count (R54, R113, R116, R121, R133, R147, R196). Log entry 18 says what these rules leave open.
-/
namespace Sys2Proof.Machine

/-- The order in which a bank serves them (R62): exchange accesses, then the starved ones, then the others, each in the order of Table 3-9. -/
def bankOrder (l : List BankReq) : List BankReq :=
  let ex (r : BankReq) : Bool := r.who == .arrival
  let starved (r : BankReq) : Bool := decide (8 ≤ r.lost)
  l.filter ex ++ l.filter (fun r => !ex r && starved r) ++ l.filter fun r => !ex r && !starved r

/-- The banks that each requester loses, where `taken` are served to those before it. -/
def bankLosses : List Nat → List BankReq → List (BankUser × List Nat)
  | _, [] => []
  | taken, r :: l => (r.who, r.now.banks.filter taken.contains) :: bankLosses (taken ++ r.now.banks) l

/-- The requesters that lose a cycle, with the banks that they ask for again. -/
def Tile.bankLost (x : Tile) : List (BankUser × List Nat) := (bankLosses [] (bankOrder x.bidders)).filter fun p => !p.2.isEmpty

/-- The vector engine writes a register in this cycle. -/
def Tile.vWriting (x : Tile) : Bool :=
  (x.bidders.any fun r => r.who == .vector && r.now.vwrites) && !(x.bankLost.any fun p => p.1 == .vector)

/-- A SLICE waits, because it would write a register in the same cycle (R111). -/
def Tile.handWaits (x : Tile) : Bool := x.vWriting && x.bidders.any fun r => r.who == .handoff && r.now.vwrites

/-- The request of a bidder after the cycle; none where it has been served to its end. -/
def BankReq.after (lost : List (BankUser × List Nat)) (waits : Bool) (r : BankReq) : Option BankReq :=
  if r.who = .handoff ∧ waits then some r
  else
    match lost.find? fun p => p.1 == r.who with
    | some p => some { r with need := ⟨p.2, r.now.vwrites⟩ :: r.need.drop 1, lost := r.lost + 1 }
    | none => if (r.need.drop 1).isEmpty then none else some { r with need := r.need.drop 1, lost := 0 }

/-- The requests after the cycle: the first of each requester moves on, the ones behind it stay. -/
def banksAfter (lost : List (BankUser × List Nat)) (waits : Bool) : List BankUser → List BankReq → List BankReq
  | _, [] => []
  | seen, r :: l =>
    if r.who = .arrival then banksAfter lost waits seen l
    else if seen.contains r.who then r :: banksAfter lost waits seen l
    else (r.after lost waits).toList ++ banksAfter lost waits (r.who :: seen) l

/-- Registers `rs` become ready one cycle later. -/
def laterReady (m : Sparse Nat) (rs : List Nat) : Sparse Nat :=
  rs.foldl (fun m r => if r = 0 then m else Sparse.set 0 m r (Sparse.get 0 m r + 1)) m

/-- The last entry of a list changed. -/
def mapLast {α : Type} (f : α → α) : List α → List α
  | [] => []
  | [a] => [f a]
  | a :: b :: l => a :: mapLast f (b :: l)

/-- A lost cycle adds one to what the requester is doing (R49, R105, R111, R132): the MLD, the SLICE that moves, the vector instruction in
the engine, the fetch and the load with the registers that wait for them. -/
def Tile.delay (x : Tile) (u : BankUser) : Tile :=
  let rs := ((x.banks.filter fun r => r.who == u).map (·.regs)).flatten
  match u with
  | .arrival => x
  | .feed => x
  | .feeder => { x with mx := { x.mx with mld := x.mx.mld.map fun f => { f with due := f.due + 1 } } }
  | .handoff => { x with mx := { x.mx with slices := mapLast (fun f => { f with readEnd := f.readEnd + 1, due := f.due + 1 }) x.mx.slices } }
  | .vector => { x with vx := { x.vx with fly := mapLast (fun f => { f with busyEnd := f.busyEnd + 1, due := f.due + 1 }) x.vx.fly } }
  | .fetch => { x with issueAt := x.issueAt + 1, ready := laterReady x.ready rs }
  | .access => { x with ready := laterReady x.ready rs }

/-- The banks of a tile in one cycle (R62): losers wait and are counted. -/
def Tile.bankCycle (x : Tile) : Tile :=
  let lost := x.bankLost
  let waits := x.handWaits
  let y := { (lost.map (·.1)).foldl Tile.delay x with banks := banksAfter lost waits [] x.banks }
  let z := if lost.isEmpty then y else y.bump 0x81C lost.length
  if waits then (z.delay .handoff).bump 0x51C 1 else z

/-- The scalar instruction at the program counter, where the core could issue it in this cycle. -/
def Tile.nextWord (x : Tile) (cc : Nat) : Option Nat :=
  if x.st ≠ .run ∨ x.sleep ≠ .none ∨ cc < x.issueAt ∨ x.pc.toNat % 4 ≠ 0 ∨ x.codelim ≤ x.pc.toNat then none
  else
    let w := leNat (x.bytes x.pc.toNat 4)
    if definedWord w then some w else none

/-- The queue of an ENQ's FUNC (Table 3-2a). -/
def enqQueue (w : Nat) : EQueue :=
  match fld w 1 0 with
  | 0 => .f
  | 1 => .b
  | 2 => .v
  | _ => .d

/-- The counter of the stall of instruction w: an ENQ at a full queue (R54), a MSG.SEND with 8 sends unanswered (R196). -/
def Tile.stallCounter (x : Tile) (cc w : Nat) : Option Nat :=
  let rs1 := fld w 20 16
  let rs2 := fld w 15 11
  if fld w 31 26 = 0x2C ∧ x.srcReady cc [rs1, rs2] ∧ !Tile.hasRoom (enqQueue w) x then some 0x820
  else if fld w 31 26 = 0x32 ∧ fld w 10 8 = 0 ∧ !Tile.canSend (fld w 5 0) x then
    (if x.srcReady cc (rs1 :: rs2 :: payRegs (fld w 25 21) (x.reg rs2).toNat) then some 0x730 else none)
  else none

/-- The head of a matrix queue waits only on an interlock (R113); in PAIRED mode a head without the turn waits on that. -/
def Tile.mxLocked (x : Tile) (cc : Nat) (q : MQueue) : Bool :=
  match x.queue (mqOf q) with
  | [] => false
  | e :: _ =>
    let w := e.word.toNat
    !(x.mx.next == cc + 1 && x.mx.lastB == decide (q = .b)) && (!mqPaired x.mx.mqmode.toNat || x.mx.turn == decide (q = .b))
      && x.waitOk e && x.mxUnit cc w && !x.mxLocks cc w

/-- A cycle that TILE.CNT_MXTURN counts (R116). -/
def Tile.mxTurnWaits (x : Tile) (cc : Nat) : Bool :=
  let q := if x.mx.turn then MQueue.b else MQueue.f
  let o := if x.mx.turn then MQueue.f else MQueue.b
  mqPaired x.mx.mqmode.toNat && x.mx.next != cc + 1 &&
    (match x.queue (mqOf q) with
      | [] => !(x.queue (mqOf o)).isEmpty
      | _ :: _ => !x.mxEligible cc q)

/-- The V-queue head waits for an earlier vector instruction (R133). -/
def Tile.vLocked (x : Tile) (cc : Nat) : Bool :=
  match x.qv with
  | [] => false
  | e :: _ =>
    x.vfree cc && x.waitOk e && (match x.vPlan e.word.toNat with
      | .error _ => false
      | .ok p => x.vconflict p.use)

/-- Adds one to the counter at `off` where `b`. -/
def Tile.bumpIf (b : Bool) (off : Nat) (x : Tile) : Tile := if b then x.bump off 1 else x

/-- The array computes in this cycle (R108, R121). -/
def Tile.arrayBusy (x : Tile) (cc : Nat) : Bool := x.mx.mmas.any fun m => decide (cc < m.busyEnd)

/-- The counters of one cycle. -/
def Tile.countCycle (x : Tile) (cc : Nat) : Tile :=
  let y := match (x.nextWord cc).bind (x.stallCounter cc) with
    | some off => x.bump off 1
    | none => x
  (((((y.bumpIf (x.arrayBusy cc) 0x510).bumpIf (x.mxLocked cc .f || x.mxLocked cc .b) 0x514).bumpIf (x.mxTurnWaits cc) 0x518).bumpIf (!x.vfree cc) 0x620).bumpIf
    (x.vLocked cc) 0x624)

/-- One core cycle of a tile: banks, counters, sync flags. -/
def Tile.cycle (cc : Nat) (x : Tile) : Tile := ((x.countCycle cc).bankCycle).settle

end Sys2Proof.Machine
end

