-- ==== Sys2Proof/Machine/Tick.lean ====
section
/-!
DEFINITION. What happens in a core cycle whatever is commanded (log entry 2): the releases (R184) and the packets of the exchange (R151,
R155), the cycle count, the IEEE 1588 counter (R270), the tiles' banks and counters (R62), the net change of the sync flags (R172), the
error summaries on their way (R404), stall accounting (R234 to R236), the end of IMAGE_START (R373).
-/
namespace Sys2Proof.Machine

/-- The IEEE 1588 counter one core cycle later: 5/9 ns (R8, R270). -/
def Aon.clock (a : Aon) : Aon :=
  let f := a.ptpFrac + 5
  let ns := a.ptp.ns + f / 9
  { a with ptpFrac := f % 9,
           ptp := if 1000000000 ≤ ns then ⟨(a.ptp.sec + 1) % 2 ^ 48, ns - 1000000000, f % 9 * 65536 / 9⟩
             else ⟨a.ptp.sec, ns, f % 9 * 65536 / 9⟩ }

/-- The flags that tile x waits on: its scalar core in SF.WAIT, its queue heads by WFLAG while the flag is not ready (R235, R172). -/
def Tile.waitsOn (x : Tile) : List Nat :=
  let head (q : List QEnt) : List Nat :=
    match q with
    | [] => []
    | e :: _ => if x.waitOk e then [] else [eWflag e.word.toNat]
  (match x.sleep with
    | .flag n => [n]
    | _ => []) ++ head x.qf ++ head x.qb ++ head x.qv ++ head x.qd

/-- The cause of a window that the outside holds (Table 9-10). -/
def Win.cause (w : Win) : Nat := if w.side1 then 4 else 7

/-- The cause of a feed that no window holds (Table 9-10). DEDUCED (log entry 5): a retry under way comes before a page that holds the feed,
and a feed over pages of both tiers takes the tier of its first page. -/
def State.pathCause (s : State) (f : FeedFly) : Nat :=
  if !f.out && s.memPending f.daddr f.len then 5
  else if s.pageHeld f.daddr f.len f.out then (if f.out then 3 else 1)
  else if s.inTerrace (f.daddr / 8) then 2
  else 1

/-- The cause that a feed in flight is charged to (Table 9-10). -/
def State.feedCause (s : State) (f : FeedFly) : Nat :=
  (s.mem.wins.findSome? fun e => match e.2 with
    | some w => if w.outside && w.meets f.daddr f.len then some w.cause else none
    | none => none).getD (s.pathCause f)

/-- The feeds that tile x waits for on the flags `ns`, oldest first: those in flight, then those behind which a FEED at the head of the D-queue
is held only by its overlap with them (R227). -/
def Tile.feedsFor (x : Tile) (ns : List Nat) : List FeedFly :=
  x.feeds.filter (fun f => ns.contains f.sflag) ++
    (match x.qd with
      | [] => []
      | e :: _ =>
        let w := e.word.toNat
        if eOpc w = 0x20 ∧ ns.contains (eSflag w) ∧ x.waitOk e ∧ x.feeds.length < 8 then
          (match x.feedCheck w with
            | .ok d => x.feeds.filter (feedsMeet d)
            | .error _ => [])
        else [])

/-- The cause of a stall cycle of tile t; none where the cycle is no stall cycle (R235). -/
def State.stallCause (s : State) (t : Nat) (x : Tile) : Option Nat :=
  let ns := x.waitsOn
  match (x.feedsFor ns).head? with
  | some f => some (s.feedCause f)
  | none =>
    s.mem.wins.findSome? fun e => match e.2 with
      | some w => if w.outside && ns.contains w.aflag && (gTiles s.rows w.cons).contains t then some w.cause else none
      | none => none

/-- MEM.CNT_STALL takes the stall cycles of this cycle (R236). -/
def State.countStalls (s : State) : State :=
  let cs := s.tiles.filterMap fun e => s.stallCause e.1 e.2
  { s with mem := { s.mem with stall := cs.foldl (fun (m : Sparse Nat) c => Sparse.set 0 m c ((Sparse.get 0 m c + 1) % 2 ^ 64)) s.mem.stall } }

/-- IMAGE_START ends 4 cycles after its gate was set (R373). -/
def State.gateEnd (s : State) : State :=
  match s.vent.run.gateAt with
  | some c => if s.vent.run.starting ∧ s.vent.dev = .loaded ∧ c + 4 ≤ s.cc then s.started else s
  | none => s

/-- One core cycle in which no command waits. -/
def State.tick (s : State) : State :=
  let s1 := s.releaseCycle.meshCycle.countStalls
  ({ s1 with
     cc := s1.cc + 1
     tiles := s1.tiles.map fun e => (e.1, e.2.cycle s1.cc)
     aon := if s1.aon.power then s1.aon.clock else s1.aon } : State).sumCycle.gateEnd

end Sys2Proof.Machine
end

