-- ==== Sys2Proof/WellFormed.lean ====
section
/-!
DEFINITION. Well-formed commands: the unit that a command names exists in the module (R1, R13, R261, R398, R399). This is the one
property of a command that a module cannot lack: every other operand is judged by the command itself.
-/
namespace Sys2Proof

/-- The unit a command names: the module itself, a tile by virtual tile number, a port, a temperature sensor, a voltage monitor. -/
inductive UnitRef where
  | module
  | tile (t : Nat)
  | port (p : Nat)
  | sensor (n : Nat)
  | monitor (n : Nat)
  deriving DecidableEq, Repr

/-- The module has the unit: 1,536 tiles (R1, R13), 12 ports (R261), 64 temperature sensors (R398), 24 voltage monitors (R399). -/
def UnitRef.present : UnitRef → Bool
  | .module => true
  | .tile t => decide (t < 1536)
  | .port p => decide (p < 12)
  | .sensor n => decide (n < 64)
  | .monitor n => decide (n < 24)

/-- The unit whose counter an RC read names. -/
def CntReg.unit : CntReg → UnitRef
  | .tile t _ => .tile t
  | .port p _ => .port p
  | .xch _ => .module
  | .cal _ => .module
  | .mig _ => .module
  | .mem _ => .module
  | .pcoll _ => .module
  | .evqLost => .module

/-- The unit whose latched register a read names. -/
def LatchReg.unit : LatchReg → UnitRef
  | .ssn t => .tile t
  | .xchPkt => .module
  | .migSstep => .module
  | .memStall _ => .module

/-- The unit whose register a write names. -/
def WReg.unit : WReg → UnitRef
  | .tile t _ => .tile t
  | .port p _ => .port p
  | .xch _ => .module
  | .cal _ => .module
  | .mig _ => .module
  | .mem _ => .module
  | .parb _ => .module
  | .pcoll _ => .module
  | .bar0 _ => .module
  | .bar2 _ => .module
  | .cfg _ => .module

/-- The unit a command names. A tile's own report (domain 1 of Table 15-5) names the tile, a port's (domain 4) the port. -/
def Instr.unit : Instr → UnitRef
  | .add t _ _ _ => .tile t
  | .sub t _ _ _ => .tile t
  | .and t _ _ _ => .tile t
  | .or t _ _ _ => .tile t
  | .xor t _ _ _ => .tile t
  | .shl t _ _ _ => .tile t
  | .shr t _ _ _ => .tile t
  | .sra t _ _ _ => .tile t
  | .slt t _ _ _ => .tile t
  | .sltu t _ _ _ => .tile t
  | .mul t _ _ _ => .tile t
  | .mulh t _ _ _ => .tile t
  | .mulhu t _ _ _ => .tile t
  | .div t _ _ _ => .tile t
  | .divu t _ _ _ => .tile t
  | .rem t _ _ _ => .tile t
  | .remu t _ _ _ => .tile t
  | .fadd t _ _ _ => .tile t
  | .fsub t _ _ _ => .tile t
  | .fmul t _ _ _ => .tile t
  | .fma t _ _ _ => .tile t
  | .fmin t _ _ _ => .tile t
  | .fmax t _ _ _ => .tile t
  | .fcmpEq t _ _ _ => .tile t
  | .fcmpLt t _ _ _ => .tile t
  | .fcmpLe t _ _ _ => .tile t
  | .fabs t _ _ => .tile t
  | .fneg t _ _ => .tile t
  | .addi t _ _ _ => .tile t
  | .andi t _ _ _ => .tile t
  | .ori t _ _ _ => .tile t
  | .xori t _ _ _ => .tile t
  | .shli t _ _ _ => .tile t
  | .shri t _ _ _ => .tile t
  | .srai t _ _ _ => .tile t
  | .slti t _ _ _ => .tile t
  | .sltui t _ _ _ => .tile t
  | .movhi t _ _ => .tile t
  | .beq t _ _ _ => .tile t
  | .bne t _ _ _ => .tile t
  | .blt t _ _ _ => .tile t
  | .bge t _ _ _ => .tile t
  | .bltu t _ _ _ => .tile t
  | .bgeu t _ _ _ => .tile t
  | .j t _ => .tile t
  | .jal t _ _ => .tile t
  | .jr t _ => .tile t
  | .ldB t _ _ _ _ => .tile t
  | .ldBu t _ _ _ _ => .tile t
  | .ldH t _ _ _ _ => .tile t
  | .ldHu t _ _ _ _ => .tile t
  | .ldW t _ _ _ _ => .tile t
  | .ldD t _ _ _ _ => .tile t
  | .stB t _ _ _ _ => .tile t
  | .stH t _ _ _ _ => .tile t
  | .stW t _ _ _ _ => .tile t
  | .stD t _ _ _ _ => .tile t
  | .enqF t _ _ => .tile t
  | .enqB t _ _ => .tile t
  | .enqV t _ _ => .tile t
  | .enqD t _ _ => .tile t
  | .trr t _ _ => .tile t
  | .trw t _ _ => .tile t
  | .mqModeApply t => .tile t
  | .sfWait t _ => .tile t
  | .sfSig t _ => .tile t
  | .sfRead t _ _ => .tile t
  | .syncFlagGrant t _ => .tile t
  | .scalarWake t => .tile t
  | .barArrive t _ _ _ _ _ => .tile t
  | .msgSend t _ _ _ _ => .tile t
  | .msgRecv t _ => .tile t
  | .msgPoll t _ => .tile t
  | .msgFree t => .tile t
  | .msgCtlClose t => .tile t
  | .msgCtlOpen t => .tile t
  | .msgCtlEpoch t _ => .tile t
  | .endProg t => .tile t
  | .tileDone t => .tile t
  | .mnop t _ => .tile t
  | .mld t _ => .tile t
  | .mldComplete t => .tile t
  | .mma t _ => .tile t
  | .mmaComplete t => .tile t
  | .slice t _ => .tile t
  | .sliceComplete t => .tile t
  | .vnop t => .tile t
  | .vsd t => .tile t
  | .pkld t => .tile t
  | .rngsetS t => .tile t
  | .rngsetB t => .tile t
  | .vopfMov t => .tile t
  | .vopfFadd t => .tile t
  | .vopfFsub t => .tile t
  | .vopfFmul t => .tile t
  | .vopfFma t => .tile t
  | .vopfFmin t => .tile t
  | .vopfFmax t => .tile t
  | .vopfFabs t => .tile t
  | .vopfFneg t => .tile t
  | .vopfFcmpLt t => .tile t
  | .vopfFcmpLe t => .tile t
  | .vopfFcmpEq t => .tile t
  | .vopfFsel t => .tile t
  | .vopfExp2 t => .tile t
  | .vopfLog2 t => .tile t
  | .vopfRcp t => .tile t
  | .vopfRsqrt t => .tile t
  | .vopfSqrt t => .tile t
  | .vopiMov t => .tile t
  | .vopiIadd t => .tile t
  | .vopiIsub t => .tile t
  | .vopiImul t => .tile t
  | .vopiAnd t => .tile t
  | .vopiOr t => .tile t
  | .vopiXor t => .tile t
  | .vopiShl t => .tile t
  | .vopiShr t => .tile t
  | .vopiSra t => .tile t
  | .vopiImin t => .tile t
  | .vopiImax t => .tile t
  | .vopiIsel t => .tile t
  | .vopiIcmpLt t => .tile t
  | .vopiIcmpEq t => .tile t
  | .cvt t => .tile t
  | .prism t => .tile t
  | .vredSum t => .tile t
  | .vredSumsq t => .tile t
  | .vredMax t => .tile t
  | .vredMin t => .tile t
  | .vredArgmax t => .tile t
  | .vredArgmin t => .tile t
  | .vredIsum t => .tile t
  | .rngBits t => .tile t
  | .rngUnif t => .tile t
  | .rngBern t => .tile t
  | .rngGumbel t => .tile t
  | .vectorComplete t => .tile t
  | .dnop t => .tile t
  | .feed t => .tile t
  | .feedComplete t _ => .tile t
  | .wrel t => .tile t
  | .wrelTakeEffect t => .tile t
  | .tileStoreScrub t _ => .tile t
  | .calderaArrival _ _ _ => .module
  | .barrierRelease _ => .module
  | .exchangePhaseEnd _ => .module
  | .barrierWatchdogExpiry _ => .module
  | .startGateSet => .module
  | .packetSendRead t _ _ => .tile t
  | .packetInject _ => .module
  | .packetRouterPass _ _ _ => .module
  | .packetLanding _ => .module
  | .scheduleEntryApply _ => .module
  | .promotionComplete _ => .module
  | .writeBackComplete _ => .module
  | .frameWaitGrant _ => .module
  | .basinReadRetry _ _ => .module
  | .messageArrival _ => .module
  | .messageAnswer _ => .module
  | .arbiterRequest p _ _ => .port p
  | .frameTxEnd p => .port p
  | .requesterMask _ _ => .module
  | .directDataFrame p _ => .port p
  | .lack p _ => .port p
  | .lnak p _ => .port p
  | .ethFrame p _ => .port p
  | .portTrained p _ => .port p
  | .laneLockLoss p _ => .port p
  | .fecBurst p _ => .port p
  | .retrainAttemptTimeout p => .port p
  | .directIdentTimeout p => .port p
  | .transferRestart _ => .module
  | .dataSegment p _ _ _ _ _ _ => .port p
  | .winHandover _ _ _ => .module
  | .messageEgress _ => .module
  | .reductionBlockRelease _ _ => .module
  | .srcwinArrival _ => .module
  | .helloOffer p _ _ _ _ => .port p
  | .helloAnswer p _ _ => .port p
  | .helloConfirm p _ _ => .port p
  | .helloPing _ _ => .module
  | .helloPong _ _ => .module
  | .helloClose _ _ => .module
  | .segmentAuthFail _ _ => .module
  | .join _ _ _ _ => .module
  | .leave _ _ => .module
  | .epoch _ _ _ => .module
  | .stepOpen _ _ _ => .module
  | .stepOpenTakeover _ _ => .module
  | .contrib _ _ _ => .module
  | .contribFwd _ _ _ => .module
  | .accept _ _ _ => .module
  | .reject _ _ _ => .module
  | .resendXfer _ _ _ _ _ => .module
  | .resendList _ _ => .module
  | .resendEpoch _ _ => .module
  | .resendContrib _ _ => .module
  | .stepCloseFreeze _ _ => .module
  | .stepCloseFreezeAck _ _ _ => .module
  | .stepCloseFinal _ _ _ => .module
  | .auditReq _ _ _ => .module
  | .auditReply _ _ _ _ => .module
  | .auditReport _ _ _ _ _ => .module
  | .tHsExpiry _ => .module
  | .tPingExpiry _ => .module
  | .tSessExpiry _ => .module
  | .tReconExpiry _ => .module
  | .tContribExpiry _ => .module
  | .tInclExpiry => .module
  | .tFreezeExpiry => .module
  | .tLeadDeputyExpiry => .module
  | .tLeadStepDown => .module
  | .tLeadDeputyLost => .module
  | .tJoinExpiry => .module
  | .tXferExpiry _ _ _ => .module
  | .tWinExpiry _ => .module
  | .tAuditExpiry => .module
  | .sessionLifetimeLimit _ => .module
  | .sessionDown60s _ => .module
  | .journalBatchWrite => .module
  | .journalCompaction => .module
  | .counterShadowPoll => .module
  | .heartbeatTick => .module
  | .winRefusedEvent => .module
  | .monitorSample _ _ _ => .module
  | .pacingLevelUpdate => .module
  | .thermalTrip sensor => .sensor sensor
  | .voltageExcursion monitor _ _ => .monitor monitor
  | .ringOscillatorCheck _ => .module
  | .pldmSensorUpdate => .module
  | .inputEdgeAccept _ _ => .module
  | .inputStuck _ => .module
  | .ieee1588Lock p _ _ => .port p
  | .errorReport (.code c) src => if c / 256 = 1 then .tile src else if c / 256 = 4 then .port src else .module
  | .errorReport .handlerFault _ => .module
  | .summaryForward _ _ => .module
  | .ledgerEntryCreate => .module
  | .ledgerEntryHandle => .module
  | .handlerTimeout => .module
  | .moduleReset => .module
  | .resetNAssert => .module
  | .firmwareVerify => .module
  | .journalMount => .module
  | .selfTestComplete _ => .module
  | .repairMapMerge => .module
  | .aonPowerUp _ => .module
  | .inputRise39v => .module
  | .inputFall38v => .module
  | .railOutOfLimits => .module
  | .cxlFunctionReset => .module
  | .hdmRead _ => .module
  | .hdmWrite _ _ _ => .module
  | .cxlIdentifyMemoryDevice => .module
  | .cxlGetSupportedLogs => .module
  | .cxlGetLog => .module
  | .cxlGetHealthInfo => .module
  | .cxlGetEventRecords => .module
  | .cxlClearEventRecords _ => .module
  | .cxlUnsupportedOpcode _ => .module
  | .unsupportedCommand => .module
  | .identify => .module
  | .getState => .module
  | .getHealth => .module
  | .getErrledger => .module
  | .getCounters => .module
  | .barPending => .module
  | .imageLoad => .module
  | .imageLoadDone => .module
  | .imageStart => .module
  | .imageStopSignal => .module
  | .imageStopHalt => .module
  | .imageUnload => .module
  | .ctxSave => .module
  | .ctxRestore => .module
  | .hdmMap => .module
  | .winArrive => .module
  | .winQuery => .module
  | .partnerAdd => .module
  | .partnerRemove => .module
  | .portCfg => .module
  | .portStatus => .module
  | .txpTimers => .module
  | .txpStatus => .module
  | .forceTakeover => .module
  | .jrnInfo => .module
  | .jrnRead => .module
  | .jrnAckClose => .module
  | .getIdentity => .module
  | .attestQuote => .module
  | .fwWrite => .module
  | .fwCommit => .module
  | .fwCommitDone => .module
  | .debugOpen => .module
  | .debugClose => .module
  | .syncfSet => .module
  | .syncfRead => .module
  | .tregRead => .module
  | .tstoreRead => .module
  | .mailboxWriteWhileBusy _ _ => .module
  | .evqHeadWrite _ => .module
  | .portnCfgWriteDisable p _ => .port p
  | .portnCfgWriteEnable p _ => .port p
  | .rcCounterRead c => c.unit
  | .latchedLowWordRead c _ => c.unit
  | .msgNackRead t => .tile t
  | .tsqEntryRead p _ => .port p
  | .registerWrite r _ => r.unit
  | .jtagBypass _ => .module
  | .jtagIdcode => .module
  | .jtagSamplePreload _ _ => .module
  | .jtagExtest _ => .module
  | .jtagRegisterRead _ _ _ => .module
  | .jtagSyncfSet _ _ _ _ => .module
  | .trstNReset _ => .module
  | .mctpControlMessage _ _ => .module
  | .pldmRequest _ => .module
  | .smbusArp _ => .module
  | .alwaysOnPowerLoss => .module
  | .syncOutPulse => .module
  | .hostLinkTraining _ _ => .module
  | .pllLock _ => .module
  | .freshJoin => .module

/-- The command is well formed. -/
def Instr.wf (i : Instr) : Bool := i.unit.present

end Sys2Proof
end

