-- ==== Sys2Proof/Safety.lean ====
section
/-!
DEFINITION. The terms in which claims are stated: when a tile issues an instruction, what an instruction leaves unchanged, the rows
of the instruction tables, when the mailbox holds a command, and the invariants of the state.
-/
namespace Sys2Proof.Machine

/-- Tile t issues the scalar instruction `word` in this cycle (R49): it runs, its core is awake and may issue, the word at its
program counter is that instruction, which is defined (R439), and the registers it reads are ready. `y` is the tile after the
fetch, which reads, checks and counts (R59) and asks for its bank (R62). -/
abbrev State.Issues (s : State) (t word : Nat) (srcs : List Nat) (y : Tile) : Prop :=
  t < 1536 ∧ (s.tile t).st = .run ∧ (s.tile t).sleep = .none ∧ (s.tile t).issueAt ≤ s.cc ∧
    (s.tile t).fetch.2 = some word ∧ y = (s.tile t).fetch.1.ask .fetch [⟨banksOf (s.tile t).pc.toNat 4, false⟩] (destsOf word) ∧
    definedWord word = true ∧ (s.tile t).srcReady s.cc srcs = true

/-- The byte at a tile-store address. -/
def Tile.byteAt (x : Tile) (a : Nat) : Byte := Sparse.get 0 x.store a

/-- Every byte of the tile store reads as before. -/
abbrev Tile.SameStore (x z : Tile) : Prop := ∀ a, z.byteAt a = x.byteAt a

/-- Every general register and its poison bit read as before. -/
abbrev Tile.SameRegs (x z : Tile) : Prop := ∀ n, z.reg n = x.reg n ∧ z.regPz n = x.regPz n

/-- Only s[rd], with its poison bit and the cycle from which it can be used, is written (R48, R49): s0 never is. -/
abbrev Tile.Wrote (y z : Tile) (rd : Nat) (v : Word) (pz : Bool) (ready : Nat) : Prop :=
  ∀ n, (z.reg n = if n = rd ∧ n ≠ 0 then v else y.reg n) ∧ (z.regPz n = if n = rd ∧ n ≠ 0 then pz else y.regPz n) ∧
    (n ≠ 0 → Sparse.get 0 z.ready n = if n = rd then ready else Sparse.get 0 y.ready n)

/-- What an instruction that only writes s[rd] leaves of tile `y`, issued in cycle `cc` with latency `lat`: the result with its
poison, the sticky flags `fl`, the program counter at the next instruction, and nothing else. -/
abbrev Tile.Retired (y z : Tile) (cc rd lat : Nat) (v : Word) (pz : Bool) (fl : BitVec 5) : Prop :=
  y.Wrote z rd v pz (cc + lat) ∧ z.pc = y.pc + 4 ∧ z.issueAt = cc + 1 ∧ z.fpflags = y.fpflags ||| fl ∧
    z = { y with regs := z.regs, rpz := z.rpz, ready := z.ready, fpflags := z.fpflags, pc := z.pc, issueAt := z.issueAt }

/-- The sticky flags of a scalar operation: PZ alone with a poisoned operand, otherwise its own (Tables 3-4, 3-5). -/
def spFlags (pz : Bool) (fl : Flg) : BitVec 5 := if pz then 0x10 else fl.setWidth 5

/-- The tile is tainted and has reported POISON_CTRL, once (R52). -/
def Tile.tainted (y : Tile) : Tile :=
  { y with taint := true, reports := if y.taint then y.reports else y.reports ++ [0x0104] }

/-- A row of Table 3-2a in the R format: the command, FUNC, the latency class of Table 3-3 and the result. -/
structure RRow where
  con : Nat → BitVec 5 → BitVec 5 → BitVec 5 → Instr
  func : Nat
  lat : Nat
  op : Word → Word → Word

/-- The integer instructions of the R format: Table 3-2a, the integer results of R439 and Table 3-4. -/
def intRows : List RRow :=
  [ ⟨.add, 0x000, 1, fun a b => a + b⟩,
    ⟨.sub, 0x001, 1, fun a b => a - b⟩,
    ⟨.and, 0x002, 1, fun a b => a &&& b⟩,
    ⟨.or, 0x003, 1, fun a b => a ||| b⟩,
    ⟨.xor, 0x004, 1, fun a b => a ^^^ b⟩,
    ⟨.shl, 0x005, 1, fun a b => BitVec.ofNat 32 (a.toNat * 2 ^ (b.toNat % 32))⟩,
    ⟨.shr, 0x006, 1, fun a b => BitVec.ofNat 32 (a.toNat / 2 ^ (b.toNat % 32))⟩,
    ⟨.sra, 0x007, 1, fun a b => BitVec.ofInt 32 (a.toInt / 2 ^ (b.toNat % 32))⟩,
    ⟨.slt, 0x008, 1, fun a b => if a.toInt < b.toInt then 1 else 0⟩,
    ⟨.sltu, 0x009, 1, fun a b => if a.toNat < b.toNat then 1 else 0⟩,
    ⟨.mul, 0x010, 3, fun a b => BitVec.ofInt 32 (a.toInt * b.toInt)⟩,
    ⟨.mulh, 0x011, 3, fun a b => BitVec.ofInt 32 (a.toInt * b.toInt / 2 ^ 32)⟩,
    ⟨.mulhu, 0x012, 3, fun a b => BitVec.ofNat 32 (a.toNat * b.toNat / 2 ^ 32)⟩,
    ⟨.div, 0x018, 34, fun a b => if b = 0 then 0xFFFFFFFF else BitVec.ofInt 32 (a.toInt.tdiv b.toInt)⟩,
    ⟨.divu, 0x019, 34, fun a b => if b = 0 then 0xFFFFFFFF else BitVec.ofNat 32 (a.toNat / b.toNat)⟩,
    ⟨.rem, 0x01A, 34, fun a b => if b = 0 then a else BitVec.ofInt 32 (a.toInt.tmod b.toInt)⟩,
    ⟨.remu, 0x01B, 34, fun a b => if b = 0 then a else BitVec.ofNat 32 (a.toNat % b.toNat)⟩ ]

/-- A row of Table 3-2a in the I format with a register result: the command, OPC and the result of s[rs1] and the immediate. -/
structure IRow where
  con : Nat → BitVec 5 → BitVec 5 → BitVec 16 → Instr
  opc : Nat
  op : Word → BitVec 16 → Word

/-- The integer instructions with an immediate: Table 3-2a. -/
def immRows : List IRow :=
  [ ⟨.addi, 0x04, fun a i => a + i.signExtend 32⟩,
    ⟨.andi, 0x05, fun a i => a &&& i.zeroExtend 32⟩,
    ⟨.ori, 0x06, fun a i => a ||| i.zeroExtend 32⟩,
    ⟨.xori, 0x07, fun a i => a ^^^ i.zeroExtend 32⟩,
    ⟨.shli, 0x08, fun a i => BitVec.ofNat 32 (a.toNat * 2 ^ (i.toNat % 32))⟩,
    ⟨.shri, 0x09, fun a i => BitVec.ofNat 32 (a.toNat / 2 ^ (i.toNat % 32))⟩,
    ⟨.srai, 0x0A, fun a i => BitVec.ofInt 32 (a.toInt / 2 ^ (i.toNat % 32))⟩,
    ⟨.slti, 0x0B, fun a i => if a.toInt < i.toInt then 1 else 0⟩,
    ⟨.sltui, 0x0C, fun a i => if a.toNat < (i.signExtend 32).toNat then 1 else 0⟩ ]

/-- A row of Table 3-5: the command, FUNC, the latency and the operation with its flags. -/
structure FRow where
  con : Nat → BitVec 5 → BitVec 5 → BitVec 5 → Instr
  func : Nat
  lat : Nat
  op : Word → Word → Word × Flg

/-- A compare writes 1 or 0: a NaN compares false and only a signalling one raises NV (Table 3-5). -/
def cmpResult (p : Int → Int → Bool) (a b : Word) : Word × Flg :=
  if isNaN32 a || isNaN32 b then (0, nvOf (f32 a) ||| nvOf (f32 b)) else (if p (key32 a) (key32 b) then 1 else 0, 0)

/-- The FP32 instructions with two sources: Tables 3-2a and 3-5. -/
def fpRows : List FRow :=
  [ ⟨.fadd, 0x000, 4, fun a b => rnd32 (vadd (f32 a) (f32 b))⟩,
    ⟨.fsub, 0x001, 4, fun a b => rnd32 (vadd (f32 a) (f32 b).negate)⟩,
    ⟨.fmul, 0x002, 4, fun a b => rnd32 (vmul (f32 a) (f32 b))⟩,
    ⟨.fmin, 0x004, 4, fMin⟩,
    ⟨.fmax, 0x005, 4, fMax⟩,
    ⟨.fcmpEq, 0x008, 2, cmpResult fun x y => x == y⟩,
    ⟨.fcmpLt, 0x009, 2, cmpResult fun x y => decide (x < y)⟩,
    ⟨.fcmpLe, 0x00A, 2, cmpResult fun x y => decide (x ≤ y)⟩ ]

/-- A conditional branch of Table 3-2a: the command, OPC and the condition. -/
structure BRow where
  con : Nat → BitVec 5 → BitVec 5 → BitVec 16 → Instr
  opc : Nat
  cond : Word → Word → Bool

/-- The conditional branches (Table 3-2a). -/
def branchRows : List BRow :=
  [ ⟨.beq, 0x10, fun a b => a == b⟩,
    ⟨.bne, 0x11, fun a b => a != b⟩,
    ⟨.blt, 0x12, fun a b => decide (a.toInt < b.toInt)⟩,
    ⟨.bge, 0x13, fun a b => decide (b.toInt ≤ a.toInt)⟩,
    ⟨.bltu, 0x14, fun a b => decide (a.toNat < b.toNat)⟩,
    ⟨.bgeu, 0x15, fun a b => decide (b.toNat ≤ a.toNat)⟩ ]

/-- A load of Table 3-2a: the command, OPC, the bytes it loads and the register value of them. -/
structure LRow where
  con : Nat → BitVec 5 → BitVec 6 → BitVec 5 → BitVec 10 → Instr
  opc : Nat
  size : Nat
  val : Nat → Word

/-- The loads of one register (Table 3-2a). -/
def loadRows : List LRow :=
  [ ⟨.ldB, 0x20, 1, fun v => (BitVec.ofNat 8 v).signExtend 32⟩,
    ⟨.ldBu, 0x21, 1, fun v => BitVec.ofNat 32 v⟩,
    ⟨.ldH, 0x22, 2, fun v => (BitVec.ofNat 16 v).signExtend 32⟩,
    ⟨.ldHu, 0x23, 2, fun v => BitVec.ofNat 32 v⟩,
    ⟨.ldW, 0x24, 4, fun v => BitVec.ofNat 32 v⟩ ]

/-- A store of Table 3-2a: the command, OPC, the bytes it stores, and the registers it takes them from. -/
structure SRow where
  con : Nat → BitVec 5 → BitVec 6 → BitVec 5 → BitVec 10 → Instr
  opc : Nat
  size : Nat
  srcs : BitVec 5 → List Nat

/-- The stores (Table 3-2a); ST.D stores the pair rd, rd + 1. -/
def storeRows : List SRow :=
  [ ⟨.stB, 0x26, 1, fun r => [r.toNat]⟩,
    ⟨.stH, 0x27, 2, fun r => [r.toNat]⟩,
    ⟨.stW, 0x28, 4, fun r => [r.toNat]⟩,
    ⟨.stD, 0x29, 8, fun r => [r.toNat, r.toNat + 1]⟩ ]

/-- The bytes a store takes from its registers, least significant byte first (R10). -/
def Tile.storeBytes (y : Tile) (srcs : List Nat) (size : Nat) : List Byte :=
  ((srcs.map fun r => leBytes 4 (y.reg r).toNat).flatten).take size

/-- The matrix engine of tile t issues the instruction at the head of queue q (R57, R113): the flag fields name flags or none, the
engine chooses this head, and its wait is granted or it has none. `e` is the head, `l` the rest of the queue. -/
abbrev State.MxIssues (s : State) (t : Nat) (q : MQueue) (opc : Nat) (e : QEnt) (l : List QEnt) : Prop :=
  t < 1536 ∧ (s.tile t).queue (mqOf q) = e :: l ∧ eOpc e.word.toNat = opc ∧ flagOk (eWflag e.word.toNat) = true ∧
    flagOk (eSflag e.word.toNat) = true ∧ (s.tile t).mxChoice s.cc = some q ∧ (eWflag e.word.toNat = 0x3F ∨ e.granted = true)

/-- Tile `z` after the matrix engine of `x` issued the head of queue q, as far as issue goes: the queue without its head, every other
queue, the next issue a cycle later, the turn passed by TE in PAIRED mode (R113, R116), the same MQ_MODE, general registers, program
counter, state, stream slots and handles. -/
abbrev Tile.MxLeft (x z : Tile) (cc : Nat) (q : MQueue) (w : Nat) (l : List QEnt) : Prop :=
  z.queue (mqOf q) = l ∧ (∀ r, r ≠ mqOf q → z.queue r = x.queue r) ∧ z.mx.next = cc + 1 ∧
    z.mx.turn = (if mqPaired x.mx.mqmode.toNat && bitAt w 43 then !x.mx.turn else x.mx.turn) ∧
    z.mx.mqmode = x.mx.mqmode ∧ z.SameRegs x ∧ z.pc = x.pc ∧ z.st = x.st ∧ z.vx.slots = x.vx.slots ∧ z.hnd = x.hnd

/-- The vector engine of tile t issues the instruction at the head of the V-queue (R57): the flag fields name flags or none, its wait
is granted or it has none, the engine is free, the instruction is defined. `e` is the head, `l` the rest of the queue. -/
abbrev State.VxIssues (s : State) (t : Nat) (e : QEnt) (l : List QEnt) : Prop :=
  t < 1536 ∧ (s.tile t).qv = e :: l ∧ flagOk (eWflag e.word.toNat) = true ∧ flagOk (eSflag e.word.toNat) = true ∧
    (eWflag e.word.toNat = 0x3F ∨ e.granted = true) ∧ (s.tile t).vfree s.cc = true ∧ vDefined e.word.toNat = true

/-- Tile `z` after the vector engine of `x` issued its head, as far as issue goes (R132, R133): the queue without its head, the other
queues, the occupation of `len` cycles with the completion `tail` later, the same general registers, program counter, state, sync flags,
matrix engine, handles and ring. `u` is what the instruction uses. -/
abbrev Tile.VxLeft (x z : Tile) (cc w len tail : Nat) (u : VUse) (l : List QEnt) : Prop :=
  z.qv = l ∧ z.qf = x.qf ∧ z.qb = x.qb ∧ z.qd = x.qd ∧ z.vx.fly = x.vx.fly ++ [⟨cc + len, cc + len + tail, eSflag w, u⟩] ∧
    z.SameRegs x ∧ z.pc = x.pc ∧ z.st = x.st ∧ z.sf = x.sf ∧ z.mx = x.mx ∧ z.hnd = x.hnd ∧ z.ring = x.ring

/-- The elements of the register file outside n elements from v[r] keep their bits. -/
abbrev Tile.SameVregsBut (x z : Tile) (r n : Nat) : Prop :=
  ∀ k, k < 64 * r ∨ 64 * r + n ≤ k → Sparse.get 0 z.vx.vreg k = Sparse.get 0 x.vx.vreg k

/-- The bytes of element i of a stream operand, with its scale byte where the handle carries a block format (R80). -/
def Tile.elPlace (x : Tile) (o : VOp) (i : Nat) : List Nat :=
  match o with
  | .strm _ hn h w2 off =>
    (List.range (ceilDiv w2 2)).map (strmAddr h w2 off i + ·) ++ (if fmtBS (hFmt h) then [x.scaleAddr hn (off + i)] else [])
  | _ => []

/-- Element i of operand o and element j of operand d stand in different places. -/
abbrev Tile.Elsewhere (x : Tile) (o d : VOp) (i j : Nat) : Prop :=
  (∀ b ∈ x.elPlace o i, b ∉ x.elPlace d j) ∧ ∀ r v, o = .reg r → d = .reg v → 64 * r + i ≠ 64 * v + j

/-- Of n elements, no strip reads one of source o that an earlier strip has written to destination d (R127). -/
abbrev Tile.Apart (x : Tile) (n : Nat) (o d : VOp) : Prop := ∀ i < n, ∀ j < n, j / 64 < i / 64 → x.Elsewhere o d i j

/-- The n elements of operands o and d have no place in common. -/
abbrev Tile.Disjoint (x : Tile) (n : Nat) (o d : VOp) : Prop := ∀ i < n, ∀ j < n, x.Elsewhere o d i j

/-- A vector compare gives all ones or zero (Table 6-4), a NaN compares false. -/
def maskResult (p : Int → Int → Bool) (a b : Word) : Word × Flg :=
  if isNaN32 a || isNaN32 b then (0, nvOf (f32 a) ||| nvOf (f32 b)) else (if p (key32 a) (key32 b) then 0xFFFFFFFF else 0, 0)

/-- A row of Table 6-4: the command, OPC, FN, how many of A, B, C it uses, its cost per strip, its operation. -/
structure VRow where
  con : Nat → Instr
  opc : Nat
  fn : Nat
  arity : Nat
  cost : Nat
  op : Word → Word → Word → Word × Flg

/-- The element-wise instructions of Table 6-4. -/
def vecRows : List VRow :=
  [ ⟨.vopfMov, 0x20, 0x00, 1, 1, fun a _ _ => (a, 0)⟩,
    ⟨.vopfFadd, 0x20, 0x01, 2, 1, fun a b _ => fAdd a b⟩,
    ⟨.vopfFsub, 0x20, 0x02, 2, 1, fun a b _ => fSub a b⟩,
    ⟨.vopfFmul, 0x20, 0x03, 2, 1, fun a b _ => fMul a b⟩,
    ⟨.vopfFma, 0x20, 0x04, 3, 1, fun a b c => fMa a b c⟩,
    ⟨.vopfFmin, 0x20, 0x05, 2, 1, fun a b _ => fMin a b⟩,
    ⟨.vopfFmax, 0x20, 0x06, 2, 1, fun a b _ => fMax a b⟩,
    ⟨.vopfFabs, 0x20, 0x07, 1, 1, fun a _ _ => (BitVec.ofNat 32 (a.toNat % 2 ^ 31), 0)⟩,
    ⟨.vopfFneg, 0x20, 0x08, 1, 1, fun a _ _ => (a + 0x80000000, 0)⟩,
    ⟨.vopfFcmpLt, 0x20, 0x09, 2, 1, fun a b _ => maskResult (fun p q => decide (p < q)) a b⟩,
    ⟨.vopfFcmpLe, 0x20, 0x0A, 2, 1, fun a b _ => maskResult (fun p q => decide (p ≤ q)) a b⟩,
    ⟨.vopfFcmpEq, 0x20, 0x0B, 2, 1, fun a b _ => maskResult (fun p q => p == q) a b⟩,
    ⟨.vopfFsel, 0x20, 0x0C, 3, 1, fun a b c => (if c = 0 then b else a, 0)⟩,
    ⟨.vopfExp2, 0x20, 0x10, 1, 4, fun a _ _ => fExp2 a⟩,
    ⟨.vopfLog2, 0x20, 0x11, 1, 4, fun a _ _ => fLog2 a⟩,
    ⟨.vopfRcp, 0x20, 0x12, 1, 4, fun a _ _ => fRcp a⟩,
    ⟨.vopfRsqrt, 0x20, 0x13, 1, 4, fun a _ _ => fRsqrt a⟩,
    ⟨.vopfSqrt, 0x20, 0x14, 1, 4, fun a _ _ => fSqrt a⟩,
    ⟨.vopiMov, 0x21, 0x00, 1, 1, fun a _ _ => (a, 0)⟩,
    ⟨.vopiIadd, 0x21, 0x01, 2, 1, fun a b _ => (a + b, 0)⟩,
    ⟨.vopiIsub, 0x21, 0x02, 2, 1, fun a b _ => (a - b, 0)⟩,
    ⟨.vopiImul, 0x21, 0x03, 2, 1, fun a b _ => (a * b, 0)⟩,
    ⟨.vopiAnd, 0x21, 0x04, 2, 1, fun a b _ => (a &&& b, 0)⟩,
    ⟨.vopiOr, 0x21, 0x05, 2, 1, fun a b _ => (a ||| b, 0)⟩,
    ⟨.vopiXor, 0x21, 0x06, 2, 1, fun a b _ => (a ^^^ b, 0)⟩,
    ⟨.vopiShl, 0x21, 0x07, 2, 1, fun a b _ => (a <<< (b.toNat % 32), 0)⟩,
    ⟨.vopiShr, 0x21, 0x08, 2, 1, fun a b _ => (a >>> (b.toNat % 32), 0)⟩,
    ⟨.vopiSra, 0x21, 0x09, 2, 1, fun a b _ => (a.sshiftRight (b.toNat % 32), 0)⟩,
    ⟨.vopiImin, 0x21, 0x0A, 2, 1, fun a b _ => (if a.toInt < b.toInt then a else b, 0)⟩,
    ⟨.vopiImax, 0x21, 0x0B, 2, 1, fun a b _ => (if a.toInt < b.toInt then b else a, 0)⟩,
    ⟨.vopiIsel, 0x21, 0x0C, 3, 1, fun a b c => (if c = 0 then b else a, 0)⟩,
    ⟨.vopiIcmpLt, 0x21, 0x0D, 2, 1, fun a b _ => (if a.toInt < b.toInt then 0xFFFFFFFF else 0, 0)⟩,
    ⟨.vopiIcmpEq, 0x21, 0x0E, 2, 1, fun a b _ => (if a = b then 0xFFFFFFFF else 0, 0)⟩ ]

/-- An authenticated segment that the UP session with `dev` accepts (R296, R297): its MTYPE is one of Table 12-2, its reserved header fields are
zero, its SESSION and SEQ are in order, no limit of R300 has been reached; `u` is the state once it has. -/
abbrev State.Hears (s : State) (dev : Nat) (g : Seg) (u : State) : Prop :=
  mtypeKnown g.mtype = true ∧ g.rsv = false ∧ (s.sess dev).st = .up ∧ (s.sess dev).num = g.session ∧ (s.sess dev).spent s.now = false ∧
    (s.sess dev).fresh g.seq = true ∧ u = s.setSess dev ((s.sess dev).took g.seq s.now)

/-- A message of class MGMT in the epoch in force, which is acted upon (R305). -/
abbrev State.HearsNow (s : State) (dev : Nat) (g : Seg) (u : State) : Prop :=
  s.Hears dev g u ∧ g.epoch = s.txp.epoch

/-- Port `z` is `y` after a free grant went to the best of the transfers `l` that wait for it, with its first frame begun at time t (R276):
of the highest rank, then the earliest requested, then a message, and of those that are alike in all this the first of the list; a port that is
not UP, or for which nothing waits, grants none. -/
abbrev Port.Grants (y z : Port) (l : List Grant) (cc : Nat) (t : Ptp) : Prop :=
  (y.st = .up → l ≠ [] →
    ∃ h pre post, l = pre ++ h :: post ∧ (∀ k ∈ pre, h.before k = true) ∧ (∀ k ∈ post, k.before h = false) ∧
      z = { y with holder := some { h with gat := cc, sent := 0, start := t, cut := none }, pend := pre ++ post }) ∧
  ((y.st ≠ .up ∨ l = []) → z = { y with holder := none, pend := l })

/-- A transfer of which P holds is at a port, on it or waiting for it, or waits at its requester. -/
abbrev State.Carries (s : State) (P : Grant → Prop) : Prop :=
  (∃ p g, ((s.port p).holder = some g ∨ g ∈ (s.port p).pend) ∧ P g) ∨ ∃ w ∈ s.txp.waiting, P w.g

/-- The module has just gone Dormant with this cause (R383): HDM refused, every port DISABLED, M1 cleared. -/
abbrev State.Dormant (t : State) (cause : Nat) : Prop :=
  t.vent.dev = .dormant ∧ t.vent.dcause = cause ∧ t.host.memActive = false ∧ t.mig.halted = true ∧
    t.sec.m1 = List.replicate 64 0 ∧ ∀ p, (t.port p).st = .disabled

/-- What a reset leaves of the flash: every byte, the sealed identity, and a good image unless FW_COMMIT was checking it (R350, R433). -/
abbrev State.FlashLeft (s t : State) : Prop :=
  t.vent.flash.fw = s.vent.flash.fw ∧ t.vent.flash.ident = s.vent.flash.ident ∧ t.vent.flash.stale = (s.vent.flash.stale || s.committing)

/-- What no module reset takes (R271, R380, R390, R413): the always-on domain's counter and key, the flash, the identity that manufacture
gave, the grade, which never rises (R3). -/
abbrev State.Persists (s t : State) : Prop :=
  t.aon.ptp = s.aon.ptp ∧ t.aon.timeValid = s.aon.timeValid ∧ t.aon.ks = s.aon.ks ∧ s.FlashLeft t ∧
    t.vent.journal.sectors = s.vent.journal.sectors ∧ t.vent.devId = s.vent.devId ∧
    t.vent.grade = s.vent.grade ∧ t.side.addr = s.side.addr

/-- What a module reset leaves of the rest (R380): nothing of the memories, the tiles, the image, the sessions and the measurements. -/
abbrev State.Fresh (t : State) : Prop :=
  t.vent.dev = .boot ∧ t.vent.image = none ∧ t.mem = Mem.reset ∧ t.tiles = [] ∧ t.ports = [] ∧ t.mig = Mig.reset ∧
    t.txp.sessions = [] ∧ t.txp.members = [] ∧ t.sec = Sec.reset ∧ t.host = HostIface.reset ∧ t.vent.journal.mounted = false

/-- A mailbox command is in progress with request r, in one of its states and with its length (R339, R344). -/
abbrev State.Asks (s : State) (code : Nat) (sts : List DevSt) (len : Nat → Bool) (r : List Byte) : Prop :=
  s.host.asked = some (code, r) ∧ s.mbServes = true ∧ sts.contains s.vent.dev = true ∧ len r.length = true

/-- The command in progress has ended: with this status, or, where a reset of the function left it inside Vent, unanswered (R339, R342). -/
abbrev State.Answered (s t : State) (status : Nat) : Prop :=
  (s.host.inside = [] → t.host.go = false ∧ t.host.status = status) ∧ ∀ x l, s.host.inside = x :: l → t.host.inside = l

/-- A row of Table 13-6: the command, its code, its states, its request lengths. -/
structure MRow where
  con : Instr
  code : Nat
  sts : List DevSt
  len : Nat → Bool

/-- The mailbox commands (Table 13-6). -/
def mboxRows : List MRow :=
  [ ⟨.identify, 0x0100, stBoot, lenIs 0⟩, ⟨.getState, 0x0101, stBoot, lenIs 0⟩, ⟨.getHealth, 0x0102, stBoot, lenIs 0⟩,
    ⟨.getErrledger, 0x0103, stAll, lenIs 0⟩, ⟨.getCounters, 0x0104, stILRE, lenIs 4⟩, ⟨.barPending, 0x0105, [.running], lenIs 2⟩,
    ⟨.imageLoad, 0x0200, [.idle], lenIs 16⟩, ⟨.imageStart, 0x0201, [.loaded], lenIs 8⟩,
    ⟨.imageStopSignal, 0x0202, [.running], lenIs 1⟩, ⟨.imageStopHalt, 0x0202, [.running], lenIs 1⟩,
    ⟨.imageUnload, 0x0203, [.loaded, .ended], lenIs 0⟩, ⟨.ctxSave, 0x0204, stRE, lenIs 8⟩, ⟨.ctxRestore, 0x0205, [.running], lenIs 8⟩,
    ⟨.hdmMap, 0x0300, stILRE, lenIs 8⟩, ⟨.winArrive, 0x0301, [.running], lenIs 1⟩, ⟨.winQuery, 0x0302, stLRE, lenIs 1⟩ ] ++
  [ ⟨.partnerAdd, 0x0400, stILRE, lenIs 32⟩, ⟨.partnerRemove, 0x0401, stILRE, lenIs 8⟩, ⟨.portCfg, 0x0402, stILRE, lenIs 48⟩,
    ⟨.portStatus, 0x0403, stILRE, lenIs 1⟩, ⟨.txpTimers, 0x0404, stILRE, lenIs 12⟩, ⟨.txpStatus, 0x0405, stLRE, lenIs 0⟩,
    ⟨.forceTakeover, 0x0406, [.running], lenIs 8⟩, ⟨.jrnInfo, 0x0500, stAll, lenIs 0⟩, ⟨.jrnRead, 0x0501, stAll, lenIs 12⟩,
    ⟨.jrnAckClose, 0x0502, stAll, lenIs 6⟩, ⟨.getIdentity, 0x0600, stAll, lenIs 0⟩, ⟨.attestQuote, 0x0601, stAll, lenIs 32⟩,
    ⟨.fwWrite, 0x0602, stDI, fun n => decide (9 ≤ n) && decide (n ≤ 32768)⟩, ⟨.fwCommit, 0x0603, stDI, lenIs 4⟩,
    ⟨.debugOpen, 0x0604, stAll, lenIs 17152⟩, ⟨.debugClose, 0x0605, stAll, lenIs 0⟩, ⟨.syncfSet, 0x0700, [.running], lenIs 4⟩,
    ⟨.syncfRead, 0x0701, stRE, lenIs 3⟩, ⟨.tregRead, 0x0702, stLRE, lenIs 4⟩, ⟨.tstoreRead, 0x0703, stRE, lenIs 12⟩ ]

/-- What every step keeps: the device range is in its canonical form, and the grid of the loaded image has at most the 48 rows of
grade 1536 (R358), so that the groups and the nodes of its tree have their own numbers. -/
def State.Inv (s : State) : Prop := Sparse.wf 0 s.mem.data = true ∧ s.rows ≤ 48

end Sys2Proof.Machine
end

