-- ==== Sys2Proof/Certificates/Slice0/Obligations.lean ====
section
/-!
DEFINITION. The statements for the provers.
-/
open Sys2Proof Sys2Proof.Machine


/-- **A step runs the command at the front of the queue.** The step of a state whose queue is c followed by l is exec of c on that state
with queue l. The queue is the model's own (log entries 1 and 2). -/
def Obligations.StepRunsTheFrontCommand : Prop :=
  ∀ (s : State) (c : Instr) (l : List Instr), s.pending = c :: l → step s = exec c { s with pending := l }

/-- **An idle step is one core cycle.** The model's choice (log entry 2): on an empty queue the cycle count rises by one and the queue stays
empty. A barrier release that is due and that no command has made happen happens in it. While none is due the last
answer, ports, collectives, TXP, the device range, journal, flash and measurements stay; so do every tile's registers, program counter,
queues and state. With no exchange phase and no packet under way each tile goes through Tile.cycle, which changes no byte of its store and adds the requesters that lose a bank in the cycle to
TILE.CNT_BANKWAIT. -/
def Obligations.IdleStepIsOneCycle : Prop :=
  (∀ s : State, s.pending = [] → ∃ u, step s = .next u ∧ u.cc = s.cc + 1 ∧ u.pending = []) ∧
  (∀ s : State, s.pending = [] → (∀ r ∈ s.cal.releases, s.cc < r.at') →
    ∃ u, step s = .next u ∧ u.out = s.out ∧ u.ports = s.ports ∧ u.coll = s.coll ∧ u.txp = s.txp ∧
      u.mem.data = s.mem.data ∧ u.vent.journal = s.vent.journal ∧ u.vent.flash = s.vent.flash ∧ u.sec = s.sec ∧
      (∀ t, (u.tile t).SameRegs (s.tile t) ∧ (u.tile t).pc = (s.tile t).pc ∧ (u.tile t).queue = (s.tile t).queue ∧
        (u.tile t).st = (s.tile t).st) ∧
      (s.cal.phases = [] → s.mesh.pkts = [] → ∀ t, u.tile t = (s.tile t).cycle s.cc)) ∧
  (∀ (s u : State) (r : Release), s.pending = [] → s.cal.releases = [r] → r.at' ≤ s.cc → exec (.barrierRelease r.gid) s = .next u →
    step s = step u) ∧
  (∀ (x : Tile) (c : Nat), (x.cycle c).SameStore x ∧
    Sparse.get 0 (x.cycle c).cnt 0x81C = sat32 (Sparse.get 0 x.cnt 0x81C) x.bankLost.length)

/-- **Every command on a unit of the module runs.** Whatever the state, a well-formed command (every unit that it names is one of the
module) ends in a next state; an ill-formed one stops with noSuchUnit (log entry 8, the model's). -/
def Obligations.CommandsRunWhereTheirUnitExists : Prop :=
  ∀ (c : Instr) (s : State),
    (c.wf = true → ∃ u : State, exec c s = .next u) ∧
    (c.wf = false → ∃ n, exec c s = .fault (.noSuchUnit n))

/-- **Fetch, stopping and the end of a program.** Writing tile t leaves every other tile. A fetch outside the code region stops the program
with CODE_FETCH, of a poisoned word with CODE_UE, and otherwise gives the word at the program counter; an undefined encoding stops it
with ILLEGAL_OP; a command that is not the word at the program counter, or whose sources are not ready, leaves the tile. Stopping a tile
in RUN or WAIT records condition and address, reports, discards the queues and closes the ring; in any other state nothing changes. END
makes the core wait; TILE_DONE makes a waiting tile DONE once its queues are empty and its engines idle, all else but its ring's OPEN
as it was, and before that leaves it. -/
def Obligations.FetchStopAndEnd : Prop :=
  (∀ (s : State) (t u : Nat) (z : Tile), (s.setTile t z).tile u = if u = t then z else s.tile u) ∧
  (∀ x : Tile,
     ((x.pc.toNat % 4 ≠ 0 ∨ x.codelim ≤ x.pc.toNat) → x.fetch = (x.stop 0x02, none)) ∧
     (x.pc.toNat % 4 = 0 → x.pc.toNat < x.codelim → (x.touch x.pc.toNat 4).wordPz (x.pc.toNat / 8) = true →
       x.fetch = ((x.touch x.pc.toNat 4).stop 0x03, none)) ∧
     (x.pc.toNat % 4 = 0 → x.pc.toNat < x.codelim → (x.touch x.pc.toNat 4).wordPz (x.pc.toNat / 8) = false →
       x.fetch = (x.touch x.pc.toNat 4, some (leNat ((List.range 4).map fun i => x.byteAt (x.pc.toNat + i))))) ∧
     (∀ y w, x.fetch = (y, some w) → y = { x with ecc := y.ecc, spz := y.spz, cnt := y.cnt, reports := y.reports })) ∧
  (∀ (s : State) (t word w : Nat) (srcs : List Nat) (f : Tile → Tile) (y : Tile),
     (s.tile t).st = .run → (s.tile t).sleep = .none → (s.tile t).issueAt ≤ s.cc → (s.tile t).fetch = (y, some w) →
     (definedWord w = false → (s.tile t).issue s.cc word srcs f = y.stop 0x01) ∧
     (definedWord w = true → w ≠ word → (s.tile t).issue s.cc word srcs f = s.tile t) ∧
     (definedWord w = true → w = word → (s.tile t).srcReady s.cc srcs = false → (s.tile t).issue s.cc word srcs f = s.tile t)) ∧
  (∀ (y : Tile) (code : Byte),
     ((y.st = .run ∨ y.st = .wait) →
       y.stop code = { y with
         st := .stopped
         sleep := .none
         qf := []
         qb := []
         qv := []
         qd := []
         ring := { y.ring with opened := false }
         errCode := code
         errPc := BitVec.ofNat 8 (y.pc.toNat / 256)
         reports := y.reports ++ [if code = 0x03 then 0x0103 else 0x0101] }) ∧
     (y.st = .idle ∨ y.st = .done ∨ y.st = .stopped → y.stop code = y)) ∧
  ((∀ (s : State) (t : Nat) (y : Tile), s.Issues t 0xFC000000 [] y →
     exec (.endProg t) s = .next (s.setTile t { y with sleep := .ending })) ∧
   (∀ (s : State) (t : Nat), t < 1536 → (s.tile t).st = .run → (s.tile t).sleep = .ending → (s.tile t).quiet = true →
     ∃ u : State, exec (.tileDone t) s = .next u ∧
       u.tile t = { s.tile t with st := .done, sleep := .none, ring := { (s.tile t).ring with opened := false } } ∧
       ∀ v, v ≠ t → u.tile v = s.tile v) ∧
   (∀ (s : State) (t : Nat), t < 1536 → (s.tile t).sleep = .ending → (s.tile t).quiet = false →
     exec (.tileDone t) s = .next (s.setTile t (s.tile t))))

/-- **Scalar arithmetic writes its result to rd alone.** The 17 integer instructions of the R format, the 9 with an immediate, MOVHI, the 8
FP32 instructions with two sources, FMA, FABS and FNEG run where they issue: each writes its result, with the poison of its sources, to
rd, to be used after its latency, raises its own sticky flags or PZ alone, moves to the next instruction, and leaves every other
register, every byte of the tile store and every other field of the tile. -/
def Obligations.ScalarArithmeticWritesItsResult : Prop :=
  (∀ e ∈ intRows, ∀ (s : State) (t : Nat) (rd rs1 rs2 : BitVec 5) (y : Tile),
     s.Issues t (encR 0x00 rd.toNat rs1.toNat rs2.toNat e.func) [rs1.toNat, rs2.toNat] y →
     let pz := y.regPz rs1.toNat || y.regPz rs2.toNat
     ∃ z : Tile, exec (e.con t rd rs1 rs2) s = .next (s.setTile t z) ∧
       y.Retired z s.cc rd.toNat e.lat (e.op (y.reg rs1.toNat) (y.reg rs2.toNat)) pz (spFlags pz 0) ∧ z.SameStore (s.tile t)) ∧
  ((∀ e ∈ immRows, ∀ (s : State) (t : Nat) (rd rs1 : BitVec 5) (imm : BitVec 16) (y : Tile),
     s.Issues t (encI e.opc rd.toNat rs1.toNat imm.toNat) [rs1.toNat] y →
     ∃ z : Tile, exec (e.con t rd rs1 imm) s = .next (s.setTile t z) ∧
       y.Retired z s.cc rd.toNat 1 (e.op (y.reg rs1.toNat) imm) (y.regPz rs1.toNat) (spFlags (y.regPz rs1.toNat) 0) ∧
       z.SameStore (s.tile t)) ∧
   (∀ (s : State) (t : Nat) (rd : BitVec 5) (imm : BitVec 16) (y : Tile),
     s.Issues t (encI 0x0D rd.toNat 0 imm.toNat) [] y →
     ∃ z : Tile, exec (.movhi t rd imm) s = .next (s.setTile t z) ∧
       y.Retired z s.cc rd.toNat 1 (BitVec.ofNat 32 (imm.toNat * 65536)) false 0 ∧ z.SameStore (s.tile t))) ∧
  ((∀ e ∈ fpRows, ∀ (s : State) (t : Nat) (rd rs1 rs2 : BitVec 5) (y : Tile),
     s.Issues t (encR 0x01 rd.toNat rs1.toNat rs2.toNat e.func) [rs1.toNat, rs2.toNat] y →
     let pz := y.regPz rs1.toNat || y.regPz rs2.toNat
     let r := e.op (y.reg rs1.toNat) (y.reg rs2.toNat)
     ∃ z : Tile, exec (e.con t rd rs1 rs2) s = .next (s.setTile t z) ∧
       y.Retired z s.cc rd.toNat e.lat r.1 pz (spFlags pz r.2) ∧ z.SameStore (s.tile t)) ∧
   (∀ (s : State) (t : Nat) (rd rs1 rs2 : BitVec 5) (y : Tile),
     s.Issues t (encR 0x01 rd.toNat rs1.toNat rs2.toNat 0x003) [rs1.toNat, rs2.toNat, rd.toNat] y →
     let pz := y.regPz rs1.toNat || y.regPz rs2.toNat || y.regPz rd.toNat
     let r := fMa (y.reg rs1.toNat) (y.reg rs2.toNat) (y.reg rd.toNat)
     ∃ z : Tile, exec (.fma t rd rs1 rs2) s = .next (s.setTile t z) ∧
       y.Retired z s.cc rd.toNat 4 r.1 pz (spFlags pz r.2) ∧ z.SameStore (s.tile t)) ∧
   (∀ e ∈ [(Instr.fabs, 0x00C, fun a : Word => BitVec.ofNat 32 (a.toNat % 2 ^ 31)), (Instr.fneg, 0x00D, fun a : Word => a + 0x80000000)],
     ∀ (s : State) (t : Nat) (rd rs1 : BitVec 5) (y : Tile),
     s.Issues t (encR 0x01 rd.toNat rs1.toNat 0 e.2.1) [rs1.toNat] y →
     ∃ z : Tile, exec (e.1 t rd rs1) s = .next (s.setTile t z) ∧
       y.Retired z s.cc rd.toNat 2 (e.2.2 (y.reg rs1.toNat)) (y.regPz rs1.toNat) (spFlags (y.regPz rs1.toNat) 0) ∧
       z.SameStore (s.tile t)))

/-- **Branches and jumps.** Each runs where it issues. A taken branch goes to PC + 4 × sext(imm), two cycles later than an untaken one goes to
PC + 4; J and JAL likewise; JAL leaves PC + 4 in rd; JR goes to s[rs1]; a poisoned condition or target is used as it stands and taints
the tile. No other field of the tile changes. -/
def Obligations.BranchesAndJumpsMoveTheProgramCounter : Prop :=
  (∀ e ∈ branchRows, ∀ (s : State) (t : Nat) (ra rb : BitVec 5) (imm : BitVec 16) (y : Tile),
    s.Issues t (encI e.opc ra.toNat rb.toNat imm.toNat) [ra.toNat, rb.toNat] y →
    let z := if y.regPz ra.toNat || y.regPz rb.toNat then y.tainted else y
    exec (e.con t ra rb imm) s = .next (s.setTile t
      (if e.cond (y.reg ra.toNat) (y.reg rb.toNat) then
        { z with pc := y.pc + 4 * imm.signExtend 32, issueAt := s.cc + 3 }
      else { z with pc := y.pc + 4, issueAt := s.cc + 1 }))) ∧
  (∀ (s : State) (t : Nat) (imm : BitVec 16) (y : Tile),
    s.Issues t (encI 0x16 0 0 imm.toNat) [] y →
    exec (.j t imm) s = .next (s.setTile t { y with pc := y.pc + 4 * imm.signExtend 32, issueAt := s.cc + 3 })) ∧
  (∀ (s : State) (t : Nat) (rd : BitVec 5) (imm : BitVec 16) (y : Tile),
    s.Issues t (encI 0x17 rd.toNat 0 imm.toNat) [] y →
    ∃ z : Tile, exec (.jal t rd imm) s = .next (s.setTile t z) ∧ y.Wrote z rd.toNat (y.pc + 4) false (s.cc + 1) ∧
      z = { y with
        regs := z.regs
        rpz := z.rpz
        ready := z.ready
        pc := y.pc + 4 * imm.signExtend 32
        issueAt := s.cc + 3 }) ∧
  (∀ (s : State) (t : Nat) (rs1 : BitVec 5) (y : Tile),
    s.Issues t (encI 0x18 0 rs1.toNat 0) [rs1.toNat] y →
    exec (.jr t rs1) s = .next (s.setTile t
      { (if y.regPz rs1.toNat then y.tainted else y) with pc := y.reg rs1.toNat, issueAt := s.cc + 3 }))

/-- **Loads.** LD.B, LD.BU, LD.H, LD.HU, LD.W and LD.D run where they issue with an access that is valid, in bounds and aligned: the bytes
read through the handle, the least significant first, go to rd (LD.D: to rd and rd + 1) with the poison of the word read, ready after
four cycles; every other register and every byte of the tile store stays. A byte of the message ring outside the record that the program
may read has a free value, any other the value stored. -/
def Obligations.LoadsWriteTheirRegister : Prop :=
  (∀ (y : Tile) (a : Nat), y.seenByte a = if y.ringHides a then Config.freeRing y.issueAt a else y.byteAt a) ∧
  (∀ e ∈ loadRows, ∀ (s : State) (t : Nat) (rd : BitVec 5) (h : BitVec 6) (rs : BitVec 5) (imm : BitVec 10) (y : Tile),
    s.Issues t (encM e.opc rd.toNat h.toNat rs.toNat imm.toNat) [rs.toNat] y →
    let o := (y.reg rs.toNat + imm.signExtend 32 * BitVec.ofNat 32 e.size).toNat
    let hd := y.hndOf h.toNat
    hValid hd = true → o + e.size ≤ 64 * hLen hd → o % e.size = 0 →
    let r := ((if y.regPz rs.toNat then y.tainted else y).touch (hByteAddr hd o) e.size).ask .access
      [⟨banksOf (hByteAddr hd o) e.size, false⟩] [rd.toNat]
    ∃ z : Tile, exec (e.con t rd h rs imm) s = .next (s.setTile t z) ∧
      r.Wrote z rd.toNat (e.val (leNat ((List.range e.size).map fun i => y.seenByte (hByteAddr hd o + i))))
        (r.anyPz (hByteAddr hd o) e.size) (s.cc + 4) ∧
      z.SameStore (s.tile t) ∧
      z = { r with
        regs := z.regs
        rpz := z.rpz
        ready := z.ready
        pc := y.pc + 4
        issueAt := s.cc + 1 }) ∧
  (∀ (s : State) (t : Nat) (rd : BitVec 5) (h : BitVec 6) (rs : BitVec 5) (imm : BitVec 10) (y : Tile),
    s.Issues t (encM 0x25 rd.toNat h.toNat rs.toNat imm.toNat) [rs.toNat] y →
    let o := (y.reg rs.toNat + imm.signExtend 32 * 8).toNat
    let hd := y.hndOf h.toNat
    hValid hd = true → o + 8 ≤ 64 * hLen hd → o % 8 = 0 →
    let r := ((if y.regPz rs.toNat then y.tainted else y).touch (hByteAddr hd o) 8).ask .access
      [⟨banksOf (hByteAddr hd o) 8, false⟩] [rd.toNat, rd.toNat + 1]
    let v := leNat ((List.range 8).map fun i => y.seenByte (hByteAddr hd o + i))
    let pz := r.anyPz (hByteAddr hd o) 8
    ∃ z : Tile, exec (.ldD t rd h rs imm) s = .next (s.setTile t z) ∧
      (∀ n, (z.reg n = if n = rd.toNat + 1 then BitVec.ofNat 32 (v / 2 ^ 32)
              else if n = rd.toNat ∧ n ≠ 0 then BitVec.ofNat 32 v else y.reg n) ∧
        (z.regPz n = if n = rd.toNat + 1 ∨ (n = rd.toNat ∧ n ≠ 0) then pz else y.regPz n) ∧
        (n ≠ 0 → Sparse.get 0 z.ready n = if n = rd.toNat ∨ n = rd.toNat + 1 then s.cc + 4 else Sparse.get 0 y.ready n)) ∧
      z.SameStore (s.tile t) ∧
      z = { r with
        regs := z.regs
        rpz := z.rpz
        ready := z.ready
        pc := y.pc + 4
        issueAt := s.cc + 1 })

/-- **Stores, and accesses that stop the program.** ST.B, ST.H, ST.W and ST.D run where they issue with an access that is valid, writable, in
bounds and aligned: they write their bytes at the handle's address for the offset; every other byte and every register stays; a word
wholly written takes the poison of the value, a word partly written keeps or adds poison. Of HANDLE_INVALID, HANDLE_BOUNDS, HANDLE_WP (a
store) and MISALIGN the first in that order stops the program, for every load and store. -/
def Obligations.StoresWriteTheirBytes : Prop :=
  (∀ e ∈ storeRows, ∀ (s : State) (t : Nat) (rd : BitVec 5) (h : BitVec 6) (rs : BitVec 5) (imm : BitVec 10) (y : Tile),
     s.Issues t (encM e.opc rd.toNat h.toNat rs.toNat imm.toNat) (rs.toNat :: e.srcs rd) y →
     let o := (y.reg rs.toNat + imm.signExtend 32 * BitVec.ofNat 32 e.size).toNat
     let hd := y.hndOf h.toNat
     hValid hd = true → o + e.size ≤ 64 * hLen hd → hWp hd = false → o % e.size = 0 →
     let a := hByteAddr hd o
     let r := if y.regPz rs.toNat then y.tainted else y
     let pz := (e.srcs rd).any y.regPz || r.taint
     ∃ z : Tile, exec (e.con t rd h rs imm) s = .next (s.setTile t z) ∧
       (∀ b, z.byteAt b = if a ≤ b ∧ b < a + e.size then (y.storeBytes (e.srcs rd) e.size).getD (b - a) 0
         else (s.tile t).byteAt b) ∧
       (∀ w, z.wordPz w = if w ∈ wordsOf a e.size then
           (if a ≤ 8 * w ∧ 8 * w + 8 ≤ a + e.size then pz else ((r.checkWord w).wordPz w || pz))
         else r.wordPz w) ∧
       z.SameRegs y ∧
       z = { r with
         store := z.store
         spz := z.spz
         ecc := z.ecc
         cnt := z.cnt
         reports := z.reports
         banks := r.banks ++ [⟨.access, [⟨banksOf a e.size, false⟩], 0, []⟩]
         pc := y.pc + 4
         issueAt := s.cc + 1 }) ∧
  (let bad (hd o size : Nat) (store : Bool) (code : Byte) : Prop :=
     (hValid hd = false ∧ code = 0x04) ∨
     (hValid hd = true ∧ 64 * hLen hd < o + size ∧ code = 0x05) ∨
     (hValid hd = true ∧ o + size ≤ 64 * hLen hd ∧ store = true ∧ hWp hd = true ∧ code = 0x06) ∨
     (hValid hd = true ∧ o + size ≤ 64 * hLen hd ∧ (store = true → hWp hd = false) ∧ o % size ≠ 0 ∧ code = 0x07)
   (∀ e ∈ loadRows ++ [⟨.ldD, 0x25, 8, fun v => BitVec.ofNat 32 v⟩],
     ∀ (s : State) (t : Nat) (rd : BitVec 5) (h : BitVec 6) (rs : BitVec 5) (imm : BitVec 10) (y : Tile) (code : Byte),
     s.Issues t (encM e.opc rd.toNat h.toNat rs.toNat imm.toNat) [rs.toNat] y →
     bad (y.hndOf h.toNat) (y.reg rs.toNat + imm.signExtend 32 * BitVec.ofNat 32 e.size).toNat e.size false code →
     exec (e.con t rd h rs imm) s = .next (s.afterTile t ((if y.regPz rs.toNat then y.tainted else y).stop code))) ∧
   (∀ e ∈ storeRows,
     ∀ (s : State) (t : Nat) (rd : BitVec 5) (h : BitVec 6) (rs : BitVec 5) (imm : BitVec 10) (y : Tile) (code : Byte),
     s.Issues t (encM e.opc rd.toNat h.toNat rs.toNat imm.toNat) (rs.toNat :: e.srcs rd) y →
     bad (y.hndOf h.toNat) (y.reg rs.toNat + imm.signExtend 32 * BitVec.ofNat 32 e.size).toNat e.size true code →
     exec (e.con t rd h rs imm) s = .next (s.afterTile t ((if y.regPz rs.toNat then y.tainted else y).stop code))))

/-- **ENQ puts s[rs1]:s[rs2] at the tail of its queue, or stalls.** With room, ENQ.F, ENQ.B, ENQ.V and ENQ.D put the 64-bit instruction
s[rs1]:s[rs2] at the tail of their queue and the core goes on to its next instruction; the other queues stay. At a full queue the tile
stays as it is, and a cycle in which the core is at such an ENQ with its sources ready adds one to TILE.CNT_QFULL. -/
def Obligations.EnqueueAppendsOrStalls : Prop :=
  ∀ e ∈ [(Instr.enqF, EQueue.f, 0, 16), (Instr.enqB, EQueue.b, 1, 16), (Instr.enqV, EQueue.v, 2, 16), (Instr.enqD, EQueue.d, 3, 32)],
    (∀ (s : State) (t : Nat) (rs1 rs2 : BitVec 5) (y : Tile),
      s.Issues t (encR 0x2C 0 rs1.toNat rs2.toNat e.2.2.1) [rs1.toNat, rs2.toNat] y →
      let r := if y.regPz rs1.toNat || y.regPz rs2.toNat then y.tainted else y
      ((y.queue e.2.1).length < e.2.2.2 →
        ∃ z : Tile, exec (e.1 t rs1 rs2) s = .next (s.setTile t z) ∧
          z.queue e.2.1 = y.queue e.2.1 ++ [⟨y.reg rs1.toNat ++ y.reg rs2.toNat, BitVec.ofNat 8 (y.pc.toNat / 256), false⟩] ∧
          (∀ q, q ≠ e.2.1 → z.queue q = y.queue q) ∧
          z = { r with
            qf := z.qf
            qb := z.qb
            qv := z.qv
            qd := z.qd
            pc := y.pc + 4
            issueAt := s.cc + 1 }) ∧
      (e.2.2.2 ≤ (y.queue e.2.1).length → exec (e.1 t rs1 rs2) s = .next (s.setTile t (s.tile t)))) ∧
    (∀ (x : Tile) (c : Nat) (rs1 rs2 : BitVec 5), x.nextWord c = some (encR 0x2C 0 rs1.toNat rs2.toNat e.2.2.1) →
      x.srcReady c [rs1.toNat, rs2.toNat] = true → e.2.2.2 ≤ (x.queue e.2.1).length →
      Sparse.get 0 (x.cycle c).cnt 0x820 = sat32 (Sparse.get 0 x.cnt 0x820) 1)

/-- **Tile registers, sync flags and the wake wire.** TRR gives a register, a Vent-only one as zero, with what the read itself does. TRW clears
the W1C bits of TILE.FPFLAGS, TILE.MX_FLAGS, TILE.VX_FLAGS, NOVF and the sync flags that are 1 in s[rs1] and, outside these registers and
MQ_MODE, changes nothing; a TILE.MQ_MODE write takes
effect once the matrix engine has drained, or sets REJ. SF.WAIT takes the decrement at issue or sleeps; SF.SIG increments, or only sets
RSV on SF44 to SF47; SF.READ gives the value at the cycle's start; a number from 48 up stops the program. A core whose flag was granted
in cycle c issues again from c + 3; one in MSG.RECV wakes with the record's offset once its ring holds one, a skip marker first taking RD
to 0. -/
def Obligations.TileRegistersAndFlags : Prop :=
  ((∀ (s : State) (t : Nat) (rd : BitVec 5) (off : BitVec 10) (y : Tile),
     s.Issues t (encI 0x2D rd.toNat 0 (4 * off.toNat)) [] y →
     ∃ z : Tile, exec (.trr t rd off) s = .next (s.setTile t z) ∧
       (y.readEffect (4 * off.toNat)).Retired z s.cc rd.toNat 2 (if ventOnly (4 * off.toNat) then 0 else y.peek (4 * off.toNat))
         false 0 ∧ z.SameStore (s.tile t)) ∧
   (∀ (s : State) (t : Nat) (rs1 : BitVec 5) (off : BitVec 10) (y : Tile),
     s.Issues t (encI 0x2E 0 rs1.toNat (4 * off.toNat)) [rs1.toNat] y →
     let v := y.reg rs1.toNat
     let r := if y.regPz rs1.toNat then y.tainted else y
     let ok := fld v.toNat 20 16 ≤ 16 ∧ fld v.toNat 29 24 ≤ 32 ∧ fld v.toNat 12 8 ≤ 16
     (4 * off.toNat ≠ 0x500 →
       exec (.trw t rs1 off) s = .next (s.setTile t { r.poke (4 * off.toNat) v with pc := y.pc + 4, issueAt := s.cc + 1 })) ∧
     (4 * off.toNat = 0x500 → ¬ ok →
       exec (.trw t rs1 off) s = .next (s.setTile t { r with
         mx := { r.mx with mqmode := y.mx.mqmode ||| 0x80000000 }
         pc := y.pc + 4
         issueAt := s.cc + 1 })) ∧
     (4 * off.toNat = 0x500 → ok → y.mxDrained = true →
       exec (.trw t rs1 off) s = .next (s.setTile t { r.applyMq v with pc := y.pc + 4, issueAt := s.cc + 1 })) ∧
     (4 * off.toNat = 0x500 → ok → y.mxDrained = false →
       exec (.trw t rs1 off) s = .next (s.setTile t { r with sleep := .mqApply v }))) ∧
   (∀ (x : Tile) (v : Word), x.poke 0x010 v = { x with fpflags := x.fpflags &&& ~~~(v.setWidth 5) } ∧
     x.poke 0x504 v = { x with mx := { x.mx with flags := x.mx.flags &&& ~~~(v.setWidth 6) } } ∧
     x.poke 0x600 v = { x with vx := { x.vx with flags := x.vx.flags &&& ~~~(v.setWidth 6) } } ∧
     (∀ i < 8, ((x.poke 0x710 v).ring.novf.testBit i = (x.ring.novf.testBit i && !v.toNat.testBit (24 + i)))) ∧
     x.poke 0x710 v = { x with ring := { x.ring with novf := (x.poke 0x710 v).ring.novf } } ∧
     (∀ n < 48, x.poke (0x400 + 4 * n) v = x.setSflag n { x.sflag n with
       ovf := (x.sflag n).ovf && !v.toNat.testBit 8
       rsv := (x.sflag n).rsv && !v.toNat.testBit 9 }) ∧
     ∀ off, off ∉ [0x010, 0x504, 0x600, 0x710] → off < 0x400 ∨ 0x4C0 ≤ off → x.poke off v = x) ∧
   (∀ (s : State) (t : Nat) (v : Word), t < 1536 → (s.tile t).st = .run → (s.tile t).sleep = .mqApply v →
     (s.tile t).mxDrained = true →
     exec (.mqModeApply t) s = .next (s.setTile t { (s.tile t).applyMq v with
       sleep := .none
       pc := (s.tile t).pc + 4
       issueAt := s.cc + 1 }))) ∧
  ((∀ (s : State) (t : Nat) (n : BitVec 6) (y : Tile), s.Issues t (encR 0x30 0 0 0 n.toNat) [] y →
     let f := y.sflag n.toNat
     (n.toNat < 48 → 1 ≤ f.val0 → f.dec = 0 → y.headWants (s.wrelOk t) s.cc n.toNat = false →
       exec (.sfWait t n) s = .next (s.setTile t { y.setSflag n.toNat { f with dec := 1 } with pc := y.pc + 4, issueAt := s.cc + 1 })) ∧
     (n.toNat < 48 → (f.val0 = 0 ∨ f.dec ≠ 0 ∨ y.headWants (s.wrelOk t) s.cc n.toNat = true) →
       exec (.sfWait t n) s = .next (s.setTile t { y with st := .wait, sleep := .flag n.toNat })) ∧
     (48 ≤ n.toNat → exec (.sfWait t n) s = .next (s.afterTile t (y.stop 0x09)))) ∧
   (∀ (s : State) (t : Nat) (n : BitVec 6) (y : Tile), s.Issues t (encR 0x30 0 0 0 (256 + n.toNat)) [] y →
     let f := y.sflag n.toNat
     (n.toNat < 44 →
       exec (.sfSig t n) s = .next (s.setTile t { y.setSflag n.toNat { f with inc := f.inc + 1 } with
         pc := y.pc + 4
         issueAt := s.cc + 1 })) ∧
     (44 ≤ n.toNat → n.toNat < 48 →
       exec (.sfSig t n) s = .next (s.setTile t { y.setSflag n.toNat { f with rsv := true } with
         reports := if f.rsv then y.reports else y.reports ++ [0x0106]
         pc := y.pc + 4
         issueAt := s.cc + 1 })) ∧
     (48 ≤ n.toNat → exec (.sfSig t n) s = .next (s.afterTile t (y.stop 0x09)))) ∧
   (∀ (s : State) (t : Nat) (rd : BitVec 5) (n : BitVec 6) (y : Tile), s.Issues t (encR 0x30 rd.toNat 0 0 (512 + n.toNat)) [] y →
     (n.toNat < 48 →
       ∃ z : Tile, exec (.sfRead t rd n) s = .next (s.setTile t z) ∧
         y.Retired z s.cc rd.toNat 2 (BitVec.ofNat 32 (y.sflag n.toNat).val0) false 0 ∧ z.SameStore (s.tile t)) ∧
     (48 ≤ n.toNat → exec (.sfRead t rd n) s = .next (s.afterTile t (y.stop 0x09))))) ∧
  (∀ (s : State) (t : Nat), t < 1536 →
     let x := s.tile t
     (∀ n c, x.sleep = .granted n c →
       exec (.scalarWake t) s = .next (s.setTile t { x with st := .run, sleep := .none, pc := x.pc + 4, issueAt := c + 3 })) ∧
     (∀ rd : BitVec 5, x.sleep = .recv rd → x.ring.rd ≠ x.ring.wr → bitAt x.ringHead 15 = false →
       ∃ z : Tile, exec (.scalarWake t) s = .next (s.setTile t z) ∧
         x.Wrote z rd.toNat (BitVec.ofNat 32 x.ring.rd) false (s.cc + 2) ∧
         z = { x.headTouch with
           regs := z.regs
           rpz := z.rpz
           ready := z.ready
           ring := { x.ring with lent := true }
           st := .run
           sleep := .none
           pc := x.pc + 4
           issueAt := s.cc + 3 }) ∧
     (∀ rd : BitVec 5, x.sleep = .recv rd → x.ring.rd ≠ x.ring.wr → bitAt x.ringHead 15 = true →
       let r := { x.headTouch with ring := { x.ring with rd := 0, lent := x.ring.lent || decide (x.ring.wr ≠ 0) } }
       (x.ring.wr = 0 → exec (.scalarWake t) s = .next (s.setTile t r)) ∧
       (x.ring.wr ≠ 0 → ∃ z : Tile, exec (.scalarWake t) s = .next (s.setTile t z) ∧ x.Wrote z rd.toNat 0 false (s.cc + 2) ∧
         z = { r with
           regs := z.regs
           rpz := z.rpz
           ready := z.ready
           st := .run
           sleep := .none
           pc := x.pc + 4
           issueAt := s.cc + 3 })) ∧
     (∀ rd : BitVec 5, x.sleep = .recv rd → x.ring.rd = x.ring.wr → exec (.scalarWake t) s = .next (s.setTile t x)))

/-- **Sync flags: grants and the net change of a cycle.** An increment adds one to the increments of the cycle and leaves the value that waits
see. SYNC_FLAG_GRANT grants a decrement only with a value of at least 1 at the cycle's start, at most once, to the first waiter in the
order matrix, vector, feed, scalar, and to none where none waits; with a vector engine's grant the registers of a SLICE that signalled the
flag are defined (the model's reading, log entry 70). At the cycle's end the flag is v + i - d, held at 255 with OVF, whose
rise is reported, v being the hand setting of the cycle if there was one; no other flag changes. -/
def Obligations.FlagsFollowTheFourRules : Prop :=
  (∀ (x : Tile) (n : Nat),
     let y := x.incFlag n
     (y.sflag n).inc = (x.sflag n).inc + 1 ∧ (y.sflag n).val0 = (x.sflag n).val0 ∧ (y.sflag n).dec = (x.sflag n).dec ∧
       ∀ m, m ≠ n → y.sflag m = x.sflag m) ∧
  (∀ (s : State) (t n : Nat), t < 1536 →
     let x := s.tile t
     let f := x.sflag n
     let taken := x.setSflag n { f with dec := 1 }
     ((f.val0 = 0 ∨ f.dec ≠ 0) → exec (.syncFlagGrant t n) s = .next (s.setTile t x)) ∧
     (1 ≤ f.val0 → f.dec = 0 →
       (∀ q, x.mxWants s.cc n = some q → exec (.syncFlagGrant t n) s = .next (s.setTile t (taken.grantHead (mqOf q)))) ∧
       (x.mxWants s.cc n = none → x.vWants s.cc n = true →
         exec (.syncFlagGrant t n) s = .next (s.setTile t ((taken.grantHead .v).vWaited n))) ∧
       (x.mxWants s.cc n = none → x.vWants s.cc n = false → x.dWants (s.wrelOk t) n = true →
         exec (.syncFlagGrant t n) s = .next (s.setTile t (taken.grantHead .d))) ∧
       (x.mxWants s.cc n = none → x.vWants s.cc n = false → x.dWants (s.wrelOk t) n = false → x.sleep = .flag n →
         exec (.syncFlagGrant t n) s = .next (s.setTile t { taken with sleep := .granted n s.cc })) ∧
       (x.mxWants s.cc n = none → x.vWants s.cc n = false → x.dWants (s.wrelOk t) n = false → x.sleep ≠ .flag n →
         exec (.syncFlagGrant t n) s = .next (s.setTile t x)))) ∧
  (∀ (x : Tile) (n : Nat),
     let f := x.sflag n
     let v := f.hand.getD f.val0 + f.inc - f.dec
     let y := x.settleFlag n
     y.sflag n = ⟨min v 255, none, 0, 0, f.ovf || decide (255 < v), f.rsv⟩ ∧
     (∀ m, m ≠ n → y.sflag m = x.sflag m) ∧
     y.reports = (if f.ovf = false ∧ 255 < v then x.reports ++ [0x0105] else x.reports) ∧
     y = { x with sf := y.sf, reports := y.reports })

/-- **Barrier arrivals and the nodes that combine them.** BAR.ARRIVE carries XPN, LEVEL, ROP, the value and, for the two-result reductions, the
index, marked where LEVEL is not that of the directory entry; the core sleeps. At a node (premise: the grid has at most 48 rows, part of
the invariant): an uncorrectable error in a reduction's value poisons it and sets CAL.ERR.UE; an arrival that is not the last leaves the
barrier open; a marked or disagreeing one holds it and sets CAL.ERR.MISMATCH; the last one completes the node with the combined value,
which it releases at its own level and hands upward below it. Device range, ports and DEV.STATE stay. -/
def Obligations.BarrierArrivalsCombine : Prop :=
  (∀ (s : State) (t : Nat) (rd rs1 : BitVec 5) (rop level : BitVec 3) (xpn : BitVec 8) (y : Tile),
     let two := 6 ≤ rop.toNat
     s.Issues t (encR 0x31 rd.toNat rs1.toNat rop.toNat (256 * level.toNat + xpn.toNat))
       (if two then [rs1.toNat, rs1.toNat + 1] else [rs1.toNat]) y →
     let ctl := y.regPz rs1.toNat || (decide two && y.regPz (rs1.toNat + 1))
     let r := if ctl then y.tainted else y
     let pz := ctl || r.taint
     exec (.barArrive t rd rs1 rop level xpn) s = .next (s.setTile t { r with
       st := .wait
       sleep := .barrier
       arr := some {
         xpn := xpn.toNat
         level := level.toNat
         rop := rop.toNat
         rd := rd
         val := y.reg rs1.toNat
         idx := if two then y.reg (rs1.toNat + 1) else 0
         pzVal := pz
         pzIdx := pz
         bad := decide (fld (Sparse.get (0 : Dword) y.xdir xpn.toNat).toNat 38 36 ≠ level.toNat)
         at' := s.cc
         taken := false } })) ∧
  (∀ (s : State) (gid rank c : Nat) (v : NVal) (bad ue : Bool),
     s.rows ≤ 48 → gLevel gid ≠ 0 → gExists s.rows gid = true → (gChildren s.rows gid)[rank]? = some c → s.childArrival c = some (v, bad) →
     let n := s.node gid
     let err := ue = true ∧ v.rop ≠ 0
     let got := insertOn (·.1) (rank, if err then { v with pzVal := true, pzIdx := true } else v) n.got
     let agree := ∀ a ∈ n.got, a.2.xpn = v.xpn ∧ a.2.level = v.level ∧ a.2.rop = v.rop
     ∃ u : State, exec (.calderaArrival gid rank ue) s = .next u ∧ (err → u.cal.errUe = true) ∧
       (n.held = true ∨ (bad = false ∧ agree ∧ got.length < (gChildren s.rows gid).length) →
         (u.node gid).got = got ∧ (u.node gid).held = n.held ∧ u.cal.releases = s.cal.releases) ∧
       (n.held = false → (bad = true ∨ ¬ agree) →
         (u.node gid).held = true ∧ u.cal.errMismatch = true ∧ u.cal.releases = s.cal.releases ∧
         (s.cal.errMismatch = false → s.cal.errUe = false → u.cal.errLoc = gid)) ∧
       (n.held = false → bad = false → agree → (gChildren s.rows gid).length ≤ got.length →
         ∀ r, combineChildren (got.map (·.2)) = some r →
           (u.node gid).got = [] ∧
           (r.level ≠ gLevel gid → (u.node gid).fwd = some r ∧ u.cal.releases = s.cal.releases) ∧
           (r.level = gLevel gid → gid ≠ 0x5000 ∨ r.xpn ≠ s.parkXpn →
             u.cal.releases = s.cal.releases ++
               [⟨gid, r.at' + barLatency (gLevel gid) + 2048 * s.idleOf gid, s.idleOf gid, r⟩])) ∧
       u.mem.data = s.mem.data ∧ u.ports = s.ports ∧ u.vent.dev = s.vent.dev)

/-- **Release, exchange phase and watchdog.** A due release writes its result to rd of every waiting tile of the scope (the index to rd + 1 for
the two-result reductions), begins the exchange phase in its cycle, never in an earlier one, with the L_x that the scope's exchange program
has in its directory, and device-wide advances MIG.SSTEP and CAL.CNT_BAR. At release + L_x or later,
once every packet of the phase has been read and has landed, every tile of the scope that took part adds one to its superstep number and
a waiting core resumes from release + L_x; before that nothing changes. A node that has held a first arrival beyond the limit expires
once, with FIRED, the first GID and one event that counts the tiles not in WAIT; what it has gathered stays. -/
def Obligations.BarriersReleaseAndEnd : Prop :=
  (∀ (s : State) (gid : Nat) (r : Release),
     s.cal.releases.find? (fun r => r.gid == gid && decide (r.at' ≤ s.cc)) = some r →
     ∃ u : State, exec (.barrierRelease gid) s = .next u ∧
       u.cal.phases = s.cal.phases ++
         [⟨gid, r.v.xpn, max r.at' s.cc, dirLx ((s.tile (gHead s.rows gid)).dirEnt r.v.xpn), []⟩] ∧ u.cal.releases = s.cal.releases.erase r ∧
       (gid = 0x5000 → u.mig.sstep = s.mig.sstep + 1 ∧ u.cal.cntBar = sat32 s.cal.cntBar 1) ∧
       (gid ≠ 0x5000 → u.mig = s.mig ∧ u.cal.cntBar = s.cal.cntBar) ∧
       (∀ t, u.tile t = if t ∈ gTiles s.rows gid then (s.tile t).release r.v (max r.at' s.cc) else s.tile t) ∧
       (∀ t ∈ gTiles s.rows gid, ∀ a, (s.tile t).arr = some a → (s.tile t).sleep = .barrier →
         (a.rd ≠ 0 → (u.tile t).reg a.rd.toNat = r.v.val ∧ (u.tile t).regPz a.rd.toNat = r.v.pzVal) ∧
         (6 ≤ r.v.rop → (u.tile t).reg (a.rd.toNat + 1) = r.v.idx ∧ (u.tile t).regPz (a.rd.toNat + 1) = r.v.pzIdx))) ∧
  (∀ (s : State) (gid : Nat) (p : Phase),
     s.cal.phases.find? (fun p => p.gid == gid && decide (p.start + p.lx ≤ s.cc)) = some p →
     (s.phaseDone p = false → exec (.exchangePhaseEnd gid) s = .next s) ∧
     (s.phaseDone p = true → ∃ u : State, exec (.exchangePhaseEnd gid) s = .next u ∧ u.cal.phases = s.cal.phases.erase p ∧ u.mem = s.mem ∧ u.ports = s.ports ∧
       (∀ t, t ∉ gTiles s.rows gid → u.tile t = s.tile t) ∧
       (∀ t ∈ gTiles s.rows gid, ∀ a, (s.tile t).arr = some a →
         (u.tile t).ssn = (s.tile t).ssn + 1 ∧ (u.tile t).arr = none ∧ (u.tile t).SameStore (s.tile t) ∧
         ((s.tile t).sleep = .barrier →
           (u.tile t).st = .run ∧ (u.tile t).sleep = .none ∧ (u.tile t).pc = (s.tile t).pc + 4 ∧
             (u.tile t).issueAt = p.start + p.lx)))) ∧
  (∀ (s : State) (gid : Nat),
     let n := s.node gid
     (s.cal.wdog ≠ 0 → n.got ≠ [] → n.expired = false → n.firstAt + 65536 * s.cal.wdog < s.cc →
       ∃ u : State, exec (.barrierWatchdogExpiry gid) s = .next u ∧ u.cal.wdFired = true ∧
         u.cal.wdGid = (if s.cal.wdFired then s.cal.wdGid else gid) ∧ (u.node gid).expired = true ∧ (u.node gid).got = n.got ∧
         u.cal.releases = s.cal.releases ∧ u.tiles = s.tiles ∧
         u.host = s.host.post s.aon.ptp 0x04 (leBytes 2 gid ++ leBytes 2
           ((gTiles s.rows gid).filter fun t => (s.tile t).st ≠ .wait).length)) ∧
     (n.expired = true → exec (.barrierWatchdogExpiry gid) s = .next s))

/-- **MSG instructions.** With fewer than 8 sends unanswered MSG.SEND leaves with its fields, words, poison and answer flag, BADDEST already
answered; with 8 the tile stays as it is and a cycle in which the core is at it with its sources ready adds one to TILE.CNT_MSGOUTW; a
flag number from 48 to 62 stops the program. MSG.RECV and MSG.POLL return RD where the ring holds a record, a skip marker first taking RD to 0, and the
record is then the program's to read until MSG.FREE moves RD past it; on an empty ring MSG.RECV sleeps and MSG.POLL gives 0xFFFFFFFF.
MSG.CTL sets OPEN or EPOCH and nothing else of the ring. -/
def Obligations.MessagesFromAProgram : Prop :=
  (∀ (s : State) (t : Nat) (rp rs1 rs2 : BitVec 5) (flag : BitVec 6) (y : Tile),
     let x := s.tile t
     let dw := (x.reg rs1.toNat).toNat
     let tw := (x.reg rs2.toNat).toNat
     let pay := ((List.range (fld tw 18 16 + 1)).map (rp.toNat + ·)).filter fun r => decide (r < 32)
     s.Issues t (encR 0x32 rp.toNat rs1.toNat rs2.toNat flag.toNat) (rs1.toNat :: rs2.toNat :: pay) y →
     (48 ≤ flag.toNat → flag.toNat ≠ 0x3F → exec (.msgSend t rp rs1 rs2 flag) s = .next (s.afterTile t (y.stop 0x09))) ∧
     ((flag.toNat < 48 ∨ flag.toNat = 0x3F) → x.ring.outst < 8 →
       ∃ u : State, exec (.msgSend t rp rs1 rs2 flag) s = .next u ∧ (∀ v, v ≠ t → u.tile v = s.tile v) ∧
         (u.tile t).SameRegs x ∧ (u.tile t).SameStore x ∧
         u.msgs.fly = s.msgs.fly ++ [{
           id := s.msgs.no
           src := t
           esc := bitAt dw 16
           dest := fld dw 15 0
           tag := fld tw 15 0
           words := pay.map x.reg
           poison := (rs1.toNat :: rs2.toNat :: pay).any x.regPz || x.taint
           flag := flag.toNat
           answer := if s.badDest rp.toNat dw tw then some 6 else none
           sentTo := none }] ∧
         u.msgs.no = s.msgs.no + 1 ∧ (u.tile t).ring.outst = x.ring.outst + 1 ∧ (u.tile t).pc = x.pc + 4) ∧
     ((flag.toNat < 48 ∨ flag.toNat = 0x3F) → 8 ≤ x.ring.outst →
       exec (.msgSend t rp rs1 rs2 flag) s = .next (s.setTile t x))) ∧
  (∀ (x : Tile) (c : Nat) (rp rs1 rs2 : BitVec 5) (flag : BitVec 6),
     x.nextWord c = some (encR 0x32 rp.toNat rs1.toNat rs2.toNat flag.toNat) → (flag.toNat < 48 ∨ flag.toNat = 0x3F) →
     x.srcReady c (rs1.toNat :: rs2.toNat :: payRegs rp.toNat (x.reg rs2.toNat).toNat) = true → 8 ≤ x.ring.outst →
     Sparse.get 0 (x.cycle c).cnt 0x730 = sat32 (Sparse.get 0 x.cnt 0x730) 1) ∧
  ((∀ (s : State) (t : Nat) (rd : BitVec 5) (y : Tile),
     let skip := y.ring.rd ≠ y.ring.wr ∧ bitAt y.ringHead 15 = true
     let at0 := if skip then 0 else y.ring.rd
     let r := { y.headTouch with ring := { y.ring with rd := at0, lent := y.ring.lent || decide (at0 ≠ y.ring.wr) } }
     (s.Issues t (encR 0x32 rd.toNat 0 0 256) [] y →
       (at0 ≠ y.ring.wr → ∃ z : Tile, exec (.msgRecv t rd) s = .next (s.setTile t z) ∧
         r.Retired z s.cc rd.toNat 2 (BitVec.ofNat 32 at0) false 0 ∧ z.SameStore (s.tile t)) ∧
       (at0 = y.ring.wr → exec (.msgRecv t rd) s = .next (s.setTile t { r with st := .wait, sleep := .recv rd }))) ∧
     (s.Issues t (encR 0x32 rd.toNat 0 0 512) [] y →
       (at0 ≠ y.ring.wr → ∃ z : Tile, exec (.msgPoll t rd) s = .next (s.setTile t z) ∧
         r.Retired z s.cc rd.toNat 2 (BitVec.ofNat 32 at0) false 0 ∧ z.SameStore (s.tile t)) ∧
       (at0 = y.ring.wr → ∃ z : Tile, exec (.msgPoll t rd) s = .next (s.setTile t z) ∧
         r.Retired z s.cc rd.toNat 2 0xFFFFFFFF false 0 ∧ z.SameStore (s.tile t)))) ∧
   (∀ (s : State) (t : Nat) (y : Tile), s.Issues t (encR 0x32 0 0 0 768) [] y →
     exec (.msgFree t) s = .next (s.setTile t { y.headTouch with
       ring := { y.ring with
         rd := if y.ring.rd = y.ring.wr then y.ring.rd
           else (y.ring.rd + recordBytes (fld y.ringHead 14 12 + 1)) % (256 * 2 ^ y.ring.size)
         lent := y.ring.lent && decide (y.ring.rd = y.ring.wr) }
       pc := y.pc + 4
       issueAt := s.cc + 1 }))) ∧
  (∀ (s : State) (t : Nat) (ep : BitVec 4) (y : Tile),
     (s.Issues t (encR 0x32 0 0 0 1024) [] y →
       exec (.msgCtlClose t) s = .next (s.setTile t { y with
         ring := { y.ring with opened := false }
         pc := y.pc + 4
         issueAt := s.cc + 1 })) ∧
     (s.Issues t (encR 0x32 0 0 0 1025) [] y →
       exec (.msgCtlOpen t) s = .next (s.setTile t { y with
         ring := { y.ring with opened := true }
         pc := y.pc + 4
         issueAt := s.cc + 1 })) ∧
     (s.Issues t (encR 0x32 0 0 0 (1026 + 16 * ep.toNat)) [] y →
       exec (.msgCtlEpoch t ep) s = .next (s.setTile t { y with
         ring := { y.ring with epoch := ep.toNat }
         pc := y.pc + 4
         issueAt := s.cc + 1 })))

/-- **A message is checked, answered and signalled.** At its ring the checks answer in the order BADDEST, ABSENT, CLOSED, POISON, STALE, FULL, 0 where it is accepted; an
accepted message is written whole at WR, or at 0 behind a skip marker, WR moves past it and TILE.CNT_MSGIN counts; a refusal by the ring
counts in TILE.CNT_MSGREF; every other byte and every other tile stays. At the sender one send fewer is unanswered, a named flag up to SF43 is
incremented, and a refusal goes to the NACK queue of four, or counts in NOVF where that is full. -/
def Obligations.MessagesAreAnsweredOnce : Prop :=
  (∀ (s : State) (id t : Nat) (m : Msg),
     s.msgs.fly.find? (fun k => k.id == id && k.answer.isNone && k.sentTo.isNone) = some m → s.msgTile m.esc m.dest = some t →
     (∀ k ∈ s.msgs.fly, ¬ (k.src = m.src ∧ k.id < m.id ∧ k.answer = none ∧ s.msgTile k.esc k.dest = some t)) →
     let x := s.tile t
     let rcd := Arrived.record ⟨0xFFFF, m.src, m.esc, m.dest, m.tag, m.words, m.poison⟩
     let n := x.ring.bytes
     let atWr := (x.ring.rd ≤ x.ring.wr ∧ (x.ring.wr + rcd.length < n ∨ (x.ring.wr + rcd.length = n ∧ x.ring.rd ≠ 0))) ∨
       (x.ring.wr < x.ring.rd ∧ x.ring.wr + rcd.length < x.ring.rd)
     let at0 := x.ring.rd ≤ x.ring.wr ∧ ¬ atWr ∧ x.ring.rd ≠ 0 ∧ rcd.length < x.ring.rd
     let o := if atWr then x.ring.wr else 0
     let heard := x.st ≠ .idle ∧ x.ring.opened = true ∧ m.poison = false ∧ fld m.tag 15 12 = x.ring.epoch
     ∃ u code, exec (.messageArrival id) s = .next u ∧
       u.msgs.fly = s.msgs.fly.map (fun k => if k.id = id then { k with answer := some code } else k) ∧
       (∀ v, v ≠ t → u.tile v = s.tile v) ∧ (u.tile t).SameRegs x ∧
       (x.ring.present = false → code = 6 ∧ u.tile t = x) ∧
       (x.ring.present = true →
         (x.st = .idle → code = 3 ∧ u.tile t = x) ∧
         (x.st ≠ .idle → x.ring.opened = false → code = 2) ∧
         (x.st ≠ .idle → x.ring.opened = true → m.poison = true → code = 5) ∧
         (x.st ≠ .idle → x.ring.opened = true → m.poison = false → fld m.tag 15 12 ≠ x.ring.epoch → code = 4) ∧
         (heard → ¬ (atWr ∨ at0) → code = 1 ∧
           ∀ b, b < x.ringAddr x.ring.wr ∨ x.ringAddr x.ring.wr + 8 ≤ b → (u.tile t).byteAt b = x.byteAt b) ∧
         (heard → atWr ∨ at0 → code = 0 ∧ (u.tile t).bytes (x.ringAddr o) rcd.length = rcd ∧
           (u.tile t).ring.wr = (o + rcd.length) % n ∧ Sparse.get 0 (u.tile t).cnt 0x724 = sat32 (Sparse.get 0 x.cnt 0x724) 1 ∧
           ∀ b, (b < x.ringAddr o ∨ x.ringAddr o + rcd.length ≤ b) →
             (atWr ∨ b < x.ringAddr x.ring.wr ∨ x.ringAddr x.ring.wr + 8 ≤ b) → (u.tile t).byteAt b = x.byteAt b) ∧
         (¬ heard → (u.tile t).SameStore x) ∧
         (x.st ≠ .idle → code ≠ 0 → Sparse.get 0 (u.tile t).cnt 0x728 = sat32 (Sparse.get 0 x.cnt 0x728) 1))) ∧
  (∀ (s : State) (id : Nat) (m : Msg) (code : Nat),
     s.msgs.fly.find? (fun k => k.id == id) = some m → m.answer = some code →
     let x := s.tile m.src
     ∃ u : State, exec (.messageAnswer id) s = .next u ∧ u.msgs.fly = s.msgs.fly.filter (fun k => k.id != id) ∧
       (∀ v, v ≠ m.src → u.tile v = s.tile v) ∧
       (u.tile m.src).ring.outst = x.ring.outst - 1 ∧
       (m.flag < 44 → (u.tile m.src).sflag m.flag = { x.sflag m.flag with inc := (x.sflag m.flag).inc + 1 }) ∧
       (u.tile m.src).ring.nack =
         (if code ≠ 0 ∧ x.ring.nack.length < 4 then x.ring.nack ++ [⟨code, m.tag, m.dest⟩] else x.ring.nack) ∧
       (u.tile m.src).ring.novf =
         (if code ≠ 0 ∧ 4 ≤ x.ring.nack.length then min (x.ring.novf + 1) 255 else x.ring.novf) ∧
       (u.tile m.src).SameRegs x ∧ (u.tile m.src).SameStore x)

/-- **Checks of an engine instruction at its head.** A flag field that names no flag stops the program with SYNCF_RANGE; an undefined
instruction stops it with ENGINE_DESC, a failed check of a matrix or vector instruction with that check's code (for CVT and RNG an A or D of
0x3F is such a failure by log entry 83), and the address of the ENQ; a DNOP with a reserved field stops it with ENGINE_DESC. A vector
instruction that conflicts with an earlier one leaves the tile as it is. A cycle in which a matrix
head waits on an interlock adds one to TILE.CNT_MXLOCK, one in which it waits for the turn to TILE.CNT_MXTURN, one in which the vector
engine is occupied to TILE.CNT_VBUSY, one in which a SLICE waits for a register write to TILE.CNT_MXHOWAIT, one in which the V-queue head waits for an earlier instruction to TILE.CNT_VLOCK. -/
def Obligations.EngineChecksStopOrWait : Prop :=
  (∀ (s : State) (t : Nat) (q : MQueue) (e : QEnt) (l : List QEnt),
     t < 1536 → (s.tile t).queue (mqOf q) = e :: l →
     let x := s.tile t
     let w := e.word.toNat
     let s1 := { s with free := s.free + 1 }
     let all := [(Instr.mnop t q, s), (Instr.mld t q, s), (Instr.mma t q, s), (Instr.slice t q, s1)]
     (flagOk (eWflag w) = false ∨ flagOk (eSflag w) = false →
       ∀ i ∈ all, exec i.1 s = .next (i.2.afterTile t (x.stopAt 0x09 e.pchi))) ∧
     (∀ opc, s.MxIssues t q opc e l → opc ∉ [0x01, 0x10, 0x20, 0x30] →
       ∀ i ∈ all, exec i.1 s = .next (i.2.afterTile t (x.stopAt 0x08 e.pchi))) ∧
     (s.MxIssues t q 0x01 e l → fld w 42 0 ≠ 0 → exec (.mnop t q) s = .next (s.afterTile t (x.stopAt 0x08 e.pchi))) ∧
     (s.MxIssues t q 0x10 e l → ∀ c, x.mldCheck q w = some c → exec (.mld t q) s = .next (s.afterTile t (x.stopAt c e.pchi))) ∧
     (s.MxIssues t q 0x20 e l → x.mmaCheck q w = false → exec (.mma t q) s = .next (s.afterTile t (x.stopAt 0x08 e.pchi))) ∧
     (s.MxIssues t q 0x30 e l → ∀ c, x.sliceCheck q w = some c → exec (.slice t q) s = .next (s1.afterTile t (x.stopAt c e.pchi)))) ∧
  (∀ (s : State) (t : Nat) (e : QEnt) (l : List QEnt), t < 1536 → (s.tile t).qv = e :: l →
     let x := s.tile t
     let w := e.word.toNat
     let s1 := { s with free := s.free + 1 }
     (∀ r ∈ vecRows,
       (flagOk (eWflag w) = false ∨ flagOk (eSflag w) = false → exec (r.con t) s = .next (s1.afterTile t (x.stopAt 0x09 e.pchi))) ∧
       (flagOk (eWflag w) = true → flagOk (eSflag w) = true → (eWflag w = 0x3F ∨ e.granted = true) → x.vfree s.cc = true →
         vDefined w = false → exec (r.con t) s = .next (s1.afterTile t (x.stopAt 0x08 e.pchi))) ∧
       (s.VxIssues t e l → eOpc w = r.opc → vFn w = r.fn →
         (∀ code, x.elemPlan r.arity r.cost w = .error code → exec (r.con t) s = .next (s1.afterTile t (x.stopAt code e.pchi))) ∧
         (∀ p, x.elemPlan r.arity r.cost w = .ok p → x.vconflict p.use = true → exec (r.con t) s = .next (s1.setTile t x)))) ∧
     (s.VxIssues t e l → ∀ r ∈ [(Instr.cvt, 0x30, fun _ : Nat => true, cvtPlan), (.prism, 0x40, fun _ => true, prismPlan),
         (.rngBits, 0x60, fun v => fld v 7 5 == 0, rngPlan 0), (.rngUnif, 0x60, fun v => fld v 7 5 == 1, rngPlan 1),
         (.rngBern, 0x60, fun v => fld v 7 5 == 2, rngPlan 2), (.rngGumbel, 0x60, fun v => fld v 7 5 == 3, rngPlan 3),
         (.vredSum, 0x50, fun v => fld v 2 0 == 0, vredPlan), (.vredSumsq, 0x50, fun v => fld v 2 0 == 1, vredPlan),
         (.vredMax, 0x50, fun v => fld v 2 0 == 2, vredPlan), (.vredMin, 0x50, fun v => fld v 2 0 == 3, vredPlan),
         (.vredArgmax, 0x50, fun v => fld v 2 0 == 4, vredPlan), (.vredArgmin, 0x50, fun v => fld v 2 0 == 5, vredPlan),
         (.vredIsum, 0x50, fun v => fld v 2 0 == 6, vredPlan)],
       eOpc w = r.2.1 → r.2.2.1 w = true →
       (∀ code, r.2.2.2 x w = .error code → exec (r.1 t) s = .next (s1.afterTile t (x.stopAt code e.pchi))) ∧
       (∀ p, r.2.2.2 x w = .ok p → x.vconflict p.use = true → exec (r.1 t) s = .next (s1.setTile t x)))) ∧
  (∀ (s : State) (t : Nat) (e : QEnt) (l : List QEnt), t < 1536 → (s.tile t).qd = e :: l →
     let x := s.tile t
     let w := e.word.toNat
     (flagOk (eWflag w) = false ∨ flagOk (eSflag w) = false → ∀ i ∈ [Instr.dnop t, .feed t, .wrel t],
       exec i s = .next (s.afterTile t (x.stopAt 0x09 e.pchi))) ∧
     (flagOk (eWflag w) = true → flagOk (eSflag w) = true → (eWflag w = 0x3F ∨ e.granted = true) → eOpc w = 0x01 → fld w 43 0 ≠ 0 →
       exec (.dnop t) s = .next (s.afterTile t (x.stopAt 0x08 e.pchi)))) ∧
  (∀ (x : Tile) (c : Nat),
     let counted (off : Nat) : Prop := Sparse.get 0 (x.cycle c).cnt off = sat32 (Sparse.get 0 x.cnt off) 1
     (x.mxLocked c .f = true ∨ x.mxLocked c .b = true → counted 0x514) ∧ (x.mxTurnWaits c = true → counted 0x518) ∧
       (x.handWaits = true → counted 0x51C) ∧ (x.vfree c = false → counted 0x620) ∧ (x.vLocked c = true → counted 0x624))

/-- **MNOP and MLD.** MNOP leaves its queue and signals SFLAG; MLD leaves with the block that it has read, its poison and its tag, and no byte of
buffers, accumulators or tile store changes; from L cycles later on MLD_COMPLETE gives its slots that block, poison and tag, and signals
SFLAG; every other slot, accumulator, register and byte stays. Before that, or without an MLD in flight, MLD_COMPLETE leaves the tile. -/
def Obligations.MatrixLoads : Prop :=
  (∀ (s : State) (t : Nat) (q : MQueue) (e : QEnt) (l : List QEnt), s.MxIssues t q 0x01 e l → fld e.word.toNat 42 0 = 0 →
    ∃ z : Tile, exec (.mnop t q) s = .next (s.setTile t (z.signal (eSflag e.word.toNat))) ∧
      (s.tile t).MxLeft z s.cc q e.word.toNat l ∧ z.SameStore (s.tile t) ∧ z.sf = (s.tile t).sf) ∧
  (∀ (s : State) (t : Nat) (q : MQueue) (e : QEnt) (l : List QEnt), s.MxIssues t q 0x10 e l →
    let x := s.tile t
    let w := e.word.toNat
    let h := x.hndOf (mldH w)
    let y0 := x.touch (64 * hBase h + mldBlk w * (128 * fmtBits (mldFmt w))) (128 * fmtBits (mldFmt w))
    let y := if fmtBS (mldFmt w) then y0.touch (hByteAddr (x.hndOf (mldH w + 1)) (32 * mldBlk w)) 32 else y0
    x.mldCheck q w = none →
    ∃ z : Tile, exec (.mld t q) s = .next (s.setTile t z) ∧ x.MxLeft z s.cc q w l ∧ z.SameStore x ∧ z.sf = x.sf ∧
      z.mx.abuf = x.mx.abuf ∧ z.mx.bbuf = x.mx.bbuf ∧ z.mx.acc = x.mx.acc ∧
      z.mx.mld = some {
        due := s.cc + mldCycles (mldFmt w)
        buf := bitAt w 41
        slot := fld w 40 36
        nslots := slotsOf (mldFmt w)
        tag := ⟨true, bitAt w 42, mldFmt w⟩
        data := (x.mldData w).1
        pz := (y.mldData w).2
        sflag := eSflag w }) ∧
  (∀ (s : State) (t : Nat) (f : MldFly), t < 1536 → (s.tile t).mx.mld = some f →
    let x := s.tile t
    (s.cc < f.due → exec (.mldComplete t) s = .next (s.setTile t x)) ∧
    (f.due ≤ s.cc → ∃ z : Tile, exec (.mldComplete t) s = .next (s.setTile t (z.signal f.sflag)) ∧ z.mx.mld = none ∧
      z.SameStore x ∧ z.SameRegs x ∧ z.mx.acc = x.mx.acc ∧ z.mx.cst = x.mx.cst ∧ z.sf = x.sf ∧
      (let loaded (m : Sparse Byte) (k : Nat) : Byte :=
        if 1024 * f.slot ≤ k ∧ k < 1024 * f.slot + f.data.length then f.data.getD (k - 1024 * f.slot) 0 else Sparse.get 0 m k
       let marked (m : Sparse Bool) (k : Nat) : Bool :=
        if 128 * f.slot ≤ k ∧ k < 128 * f.slot + f.pz.length then f.pz.getD (k - 128 * f.slot) false else Sparse.get false m k
       let tagged (m : Sparse Tag) (i : Nat) : Tag :=
        if f.slot ≤ i ∧ i < f.slot + f.nslots then f.tag else Sparse.get ⟨false, false, 0⟩ m i
       if f.buf then
        (∀ k, Sparse.get 0 z.mx.bbuf k = loaded x.mx.bbuf k) ∧ (∀ k, Sparse.get false z.mx.bpz k = marked x.mx.bpz k) ∧ (∀ i, Sparse.get ⟨false, false, 0⟩ z.mx.btag i = tagged x.mx.btag i) ∧
          z.mx.abuf = x.mx.abuf ∧ z.mx.apz = x.mx.apz ∧ z.mx.atag = x.mx.atag
       else
        (∀ k, Sparse.get 0 z.mx.abuf k = loaded x.mx.abuf k) ∧ (∀ k, Sparse.get false z.mx.apz k = marked x.mx.apz k) ∧ (∀ i, Sparse.get ⟨false, false, 0⟩ z.mx.atag i = tagged x.mx.atag i) ∧
          z.mx.bbuf = x.mx.bbuf ∧ z.mx.bpz = x.mx.bpz ∧ z.mx.btag = x.mx.btag))) ∧
  (∀ (s : State) (t : Nat), t < 1536 → (s.tile t).mx.mld = none → exec (.mldComplete t) s = .next (s.setTile t (s.tile t)))

/-- **MMA and SLICE.** An MMA that passes its checks occupies the multipliers for n cycles and completes from
t + n + 6 on with its signal; only the accumulators of its C-block change; a cycle in which the multipliers are occupied adds one to
TILE.CNT_MXBUSY. A SLICE that passes its checks moves rows of the C-block, with
their poison, to vector registers, whose elements are undefined from then on (every element of each register, the model's reading, log
entry 70), or as whole words to a block of a handle; CLR empties the
C-block; it completes one cycle after its reading with its signal. Every byte, register and accumulator that it does not name stays,
the accumulators of every other C-block whatever CLR,
provided that no vector instruction in flight reads a register of it. -/
def Obligations.MatrixMultiplyAndSlice : Prop :=
  ((∀ (s : State) (t : Nat) (q : MQueue) (e : QEnt) (l : List QEnt) (p per : Nat), s.MxIssues t q 0x20 e l →
     let x := s.tile t
     let w := e.word.toNat
     pairClass (mmaFa w) (mmaFb w) (mmaFacet w) = some (p, per) → x.mmaCheck q w = true →
     let n := per * mmaKb w
     ∃ z : Tile, exec (.mma t q) s = .next (s.setTile t z) ∧ x.MxLeft z s.cc q w l ∧ z.SameStore x ∧ z.sf = x.sf ∧
       z.mx.abuf = x.mx.abuf ∧ z.mx.bbuf = x.mx.bbuf ∧ z.mx.atag = x.mx.atag ∧ z.mx.btag = x.mx.btag ∧
       (∀ k, k / 1024 ≠ mmaCb w → Sparse.get 0 z.mx.acc k = Sparse.get 0 x.mx.acc k) ∧
       (∀ c, z.cst c = if c = mmaCb w then (if fmtInt (mmaFa w) then .int32 else .fp32) else x.cst c) ∧
       z.mx.mmas = x.mx.mmas ++ [{
         busyEnd := s.cc + n
         due := s.cc + n + 6
         cb := mmaCb w
         a0 := mmaAs w
         a1 := mmaAEnd w
         bb0 := mmaBsl w
         bb1 := mmaBEnd w
         sflag := eSflag w }]) ∧
   (∀ (s : State) (t : Nat) (f : MmaFly) (rest : List MmaFly), t < 1536 → (s.tile t).mx.mmas = f :: rest →
     (f.due ≤ s.cc → exec (.mmaComplete t) s = .next (s.setTile t
       (Tile.signal { s.tile t with mx := { (s.tile t).mx with mmas := rest } } f.sflag))) ∧
     (s.cc < f.due → exec (.mmaComplete t) s = .next (s.setTile t (s.tile t)))) ∧
   (∀ (x : Tile) (c : Nat), Sparse.get 0 (x.cycle c).cnt 0x510 =
     if ∃ m ∈ x.mx.mmas, c < m.busyEnd then sat32 (Sparse.get 0 x.cnt 0x510) 1 else Sparse.get 0 x.cnt 0x510)) ∧
  ((∀ (s : State) (t : Nat) (q : MQueue) (e : QEnt) (l : List QEnt), s.MxIssues t q 0x30 e l →
     let x := s.tile t
     let w := e.word.toNat
     x.sliceCheck q w = none →
     let len := if slDst w then 4 * slNr w else slNr w
     let regs := if slDst w then [] else (List.range (slNr w)).map (slVd w + ·)
     let y := if x.cst (slCb w) = .empty then x
       else ((List.range (32 * slNr w)).map (512 * slCb w + 32 * slR0 w + ·)).foldl (Tile.mxTouch 3) x
     let addr (n : Nat) : Nat := hElemAddr (x.hndOf (slH w)) 8 (1024 * slBlk w + 32 * (2 * slR0 w + n / 16) + 2 * (n % 16))
     ∃ z : Tile, exec (.slice t q) s = .next (({ s with free := s.free + 1 } : State).setTile t z) ∧ x.MxLeft z s.cc q w l ∧ z.sf = x.sf ∧
       (∀ c, z.cst c = if c = slCb w ∧ slClr w = true then .empty else x.cst c) ∧
       (∀ k, slClr w = false ∨ k / 1024 ≠ slCb w → Sparse.get 0 z.mx.acc k = Sparse.get 0 x.mx.acc k) ∧
       z.mx.slices = x.mx.slices ++ [{
         readEnd := s.cc + len
         due := s.cc + len + 1
         cb := slCb w
         vregs := regs
         sflag := eSflag w }] ∧
       (slDst w = false →
         ((∀ f ∈ x.vx.fly, f.due ≤ s.cc ∨ ∀ r ∈ f.use.rregs, r ∉ regs) → z.SameStore x) ∧
         ∀ k,
           let a (u : Tile) := u.accOf (slCb w) (2 * slR0 w + (k - 64 * slVd w) / 32) ((k - 64 * slVd w) % 32)
           if 64 * slVd w ≤ k ∧ k < 64 * (slVd w + slNr w) then
             Sparse.get 0 z.vx.vreg k = (a x).1 ∧ Sparse.get false z.vx.vpz k = (a y).2 ∧ Sparse.get 0 z.vx.und k ≠ 0
           else Sparse.get 0 z.vx.vreg k = Sparse.get 0 x.vx.vreg k ∧ Sparse.get false z.vx.vpz k = Sparse.get false x.vx.vpz k) ∧
       (slDst w = true → z.vx.vreg = x.vx.vreg ∧
         (∀ n < 32 * slNr w, z.bytes (addr n) 8 =
           leBytes 4 (x.accOf (slCb w) (2 * slR0 w + n / 16) (2 * (n % 16))).1.toNat ++
             leBytes 4 (x.accOf (slCb w) (2 * slR0 w + n / 16) (2 * (n % 16) + 1)).1.toNat ∧
           z.wordPz (addr n / 8) = ((y.accOf (slCb w) (2 * slR0 w + n / 16) (2 * (n % 16))).2 || x.taint)) ∧
         ∀ b, (∀ n < 32 * slNr w, b < addr n ∨ addr n + 8 ≤ b) → z.byteAt b = x.byteAt b)) ∧
   (∀ (s : State) (t : Nat) (f : SliceFly) (rest : List SliceFly), t < 1536 → (s.tile t).mx.slices = f :: rest →
     (f.due ≤ s.cc → exec (.sliceComplete t) s = .next (s.setTile t
       (Tile.signal { s.tile t with mx := { (s.tile t).mx with
           slices := rest
           landed := if f.vregs = [] then (s.tile t).mx.landed else (s.tile t).mx.landed ++ [(f.vregs, f.sflag)] } } f.sflag))) ∧
     (s.cc < f.due → exec (.sliceComplete t) s = .next (s.setTile t (s.tile t)))))

/-- **The integer product is the exact matrix product.** An MMA of two integer formats leaves in accumulator (i, j) of its C-block the exact
sum of the products of row i of A and column j of B over all K-blocks, added to the old accumulator unless ZERO is set or the C-block is
EMPTY, modulo 2^32. -/
def Obligations.IntegerMatrixProduct : Prop :=
  ∀ (s : State) (t : Nat) (q : MQueue) (e : QEnt) (l : List QEnt), s.MxIssues t q 0x20 e l →
    let x := s.tile t
    let w := e.word.toNat
    fmtInt (mmaFa w) = true → x.mmaCheck q w = true →
    let a (i k : Nat) : Int := (slotEl x.mx.abuf x.mx.apz (mmaAs w + k / 32 * slotsOf (mmaFa w)) (mmaFa w)
      (Sparse.get ⟨false, false, 0⟩ x.mx.atag (mmaAs w + k / 32 * slotsOf (mmaFa w))).mir i (k % 32)).int
    let b (k j : Nat) : Int := (slotEl x.mx.bbuf x.mx.bpz (mmaBsl w + k / 32 * slotsOf (mmaFb w)) (mmaFb w)
      (Sparse.get ⟨false, false, 0⟩ x.mx.btag (mmaBsl w + k / 32 * slotsOf (mmaFb w))).mir (k % 32) j).int
    ∃ z : Tile, exec (.mma t q) s = .next (s.setTile t z) ∧
      ∀ i j, i < 32 → j < 32 →
        let old : Int := if mmaZero w = true ∨ x.cst (mmaCb w) = .empty then 0
          else (Sparse.get 0 x.mx.acc (1024 * mmaCb w + 32 * i + j)).toInt
        Sparse.get 0 z.mx.acc (1024 * mmaCb w + 32 * i + j) =
          BitVec.ofInt 32 (old + ((List.range (32 * mmaKb w)).map fun k => a i k * b k j).sum)

/-- **Element-wise vector instructions.** Each of the thirty-three, where it passes its checks and conflicts with no earlier instruction,
leaves its queue, occupies the engine for the cycles of its strips and completes six later. Where no strip reads an element that an earlier
strip has written, element i of the result
is the operation on elements i of the sources as they stood before, in a register (whose elements R112 does not leave undefined, log entry 70)
with the poison of any of them; every other register
element and every byte outside a stream destination's elements stays, whatever the number of strips. -/
def Obligations.VectorElementwiseInstructions : Prop :=
  ∀ r ∈ vecRows, ∀ (s : State) (t : Nat) (e : QEnt) (l : List QEnt) (d a b c : VOp) (p : VPlan), s.VxIssues t e l →
    let x := s.tile t
    let w := e.word.toNat
    let n := vN w
    let srcs := [a, b, c].take r.arity
    eOpc w = r.opc → vFn w = r.fn → x.vDABC w = some (d, a, b, c) → x.elemPlan r.arity r.cost w = .ok p → x.vconflict p.use = false →
    let y := (List.range (ceilDiv n 64)).foldl (fun u j => srcs.foldl (fun z o => z.vtouch o (stripEls n j)) u) x
    let apart := ∀ o ∈ srcs, x.Apart n o d
    let res (i : Nat) : Word := (r.op (BitVec.ofNat 32 (x.vread s.free a i).1) (BitVec.ofNat 32 (x.vread s.free b i).1)
      (BitVec.ofNat 32 (x.vread s.free c i).1)).1
    ∃ z : Tile, exec (r.con t) s = .next (({ s with free := s.free + 1 } : State).setTile t z) ∧
      x.VxLeft z s.cc w (x.vcycles n r.cost (d :: srcs)) 6 p.use l ∧
      (∀ v, d = .reg v → z.SameStore x ∧ x.SameVregsBut z v n ∧
        (apart → (∀ i < n, x.undAfter (v + i / 64) = 0) → ∀ i < n, ∀ fr, z.vget fr (64 * v + i) =
          (res i, (y.vread s.free a i).2 || (y.vread s.free b i).2 || (y.vread s.free c i).2))) ∧
      (∀ k hn h w2 off, d = .strm k hn h w2 off → z.vx.vreg = x.vx.vreg ∧
        (∀ q, (∀ i < n, q < strmAddr h w2 off i ∨ strmAddr h w2 off i + 4 ≤ q) → z.byteAt q = x.byteAt q) ∧
        (apart → ∀ i < n, z.bytes (strmAddr h w2 off i) 4 = leBytes 4 (res i).toNat))

/-- **Vector control instructions and completion.** VNOP, VSD, PKLD, RNGSET.S and RNGSET.B leave their queue where their checks pass and occupy
the engine for one cycle. VNOP does no more; VSD sets a stream slot; PKLD, where no earlier instruction writes through its handle, loads the
eight constants with their poison; RNGSET.S sets a context's stream and the high byte of its base and clears the rest; RNGSET.B sets the
low 32 bits of the base. Every vector register element and byte stays. An instruction whose completion is due leaves the engine and
signals its SFLAG; while none is due VECTOR_COMPLETE leaves the tile. -/
def Obligations.VectorControlAndCompletion : Prop :=
  (∀ (s : State) (t : Nat) (e : QEnt) (l : List QEnt), s.VxIssues t e l →
     let x := s.tile t
     let w := e.word.toNat
     (eOpc w = 0x01 → fld w 43 0 = 0 →
       ∃ z : Tile, exec (.vnop t) s = .next (s.setTile t z) ∧ x.VxLeft z s.cc w 1 0 VUse.none l ∧ z.SameStore x ∧
         z.vx.vreg = x.vx.vreg ∧ z.vx.slots = x.vx.slots ∧ z.vx.ctx = x.vx.ctx ∧ z.vx.kc = x.vx.kc) ∧
     (eOpc w = 0x10 → fld w 15 0 = 0 →
       ∃ z : Tile, exec (.vsd t) s = .next (s.setTile t z) ∧ x.VxLeft z s.cc w 1 0 VUse.none l ∧ z.SameStore x ∧
         z.vx.vreg = x.vx.vreg ∧ ∀ k, z.vslot k = if k = fld w 43 42 then ⟨true, fld w 41 36, fld w 35 16⟩ else x.vslot k) ∧
     (let hd := x.hndOf (fld w 43 38)
      let a := 64 * hBase hd + 4 * fld w 37 18
      eOpc w = 0x11 → fld w 17 0 = 0 → hValid hd = true → hLayout hd = 0 → (hFmt hd = 0 ∨ hFmt hd = 9) →
       4 * fld w 37 18 + 32 ≤ 64 * hLen hd → (∀ f ∈ x.vx.fly, fld w 43 38 ∉ f.use.whnd) →
       ∃ z : Tile, exec (.pkld t) s = .next (s.setTile t z) ∧
         x.VxLeft z s.cc w 1 0 { VUse.none with rhnd := [fld w 43 38] } l ∧ z.SameStore x ∧ z.vx.vreg = x.vx.vreg ∧
         ∀ i < 8, Sparse.get 0 z.vx.kc i = BitVec.ofNat 32 (leNat (x.seen (a + 4 * i) 4)) ∧
           Sparse.get false z.vx.kpz i = (x.touch a 32).wordPz ((a + 4 * i) / 8)) ∧
     (eOpc w = 0x12 → fld w 10 0 = 0 →
       ∃ z : Tile, exec (.rngsetS t) s = .next (s.setTile t z) ∧ x.VxLeft z s.cc w 1 0 VUse.none l ∧ z.SameStore x ∧
         z.vx.vreg = x.vx.vreg ∧
         ∀ k, z.rngCtx k = if k = fld w 43 43 then ⟨fld w 42 19, fld w 18 11 * 2 ^ 32⟩ else x.rngCtx k) ∧
     (eOpc w = 0x13 → fld w 42 32 = 0 →
       ∃ z : Tile, exec (.rngsetB t) s = .next (s.setTile t z) ∧ x.VxLeft z s.cc w 1 0 VUse.none l ∧ z.SameStore x ∧
         z.vx.vreg = x.vx.vreg ∧
         ∀ k, z.rngCtx k = if k = fld w 43 43 then ⟨(x.rngCtx k).stream, (x.rngCtx k).base / 2 ^ 32 * 2 ^ 32 + fld w 31 0⟩
           else x.rngCtx k)) ∧
  (∀ (s : State) (t : Nat), t < 1536 →
     let x := s.tile t
     (∀ f, x.vx.fly.find? (fun f => decide (f.due ≤ s.cc)) = some f →
       exec (.vectorComplete t) s = .next (s.setTile t (Tile.signal { x with vx := { x.vx with fly := x.vx.fly.erase f } } f.sflag))) ∧
     ((∀ f ∈ x.vx.fly, s.cc < f.due) → exec (.vectorComplete t) s = .next (s.setTile t x)))

/-- **Vector reductions.** Each of the seven, where it passes its checks and conflicts with no earlier instruction, leaves its queue, occupies
the engine for the cycles of its strips and completes twelve later: element 0 of D, whose elements R112 does not leave undefined (log entry
70), takes the tree's result, element 1 the element number
for ARGMAX and ARGMIN and zero for the others, both with the poison of any source element, the rest zero; every other register element and
every byte stays, whatever the number of strips and the source. The tree of ISUM gives the sum of all elements modulo 2^32, without a flag on unpoisoned elements. -/
def Obligations.VectorReductions : Prop :=
  (∀ r ∈ [(Instr.vredSum, 0), (Instr.vredSumsq, 1), (Instr.vredMax, 2), (Instr.vredMin, 3), (Instr.vredArgmax, 4), (Instr.vredArgmin, 5),
       (Instr.vredIsum, 6)],
     ∀ (s : State) (t : Nat) (e : QEnt) (l : List QEnt) (a : VOp) (p : VPlan), s.VxIssues t e l →
     let x := s.tile t
     let w := e.word.toNat
     let n := vN w
     eOpc w = 0x50 → fld w 2 0 = r.2 → x.vop (vA w) n = some a → vredPlan x w = .ok p → x.vconflict p.use = false →
     x.undAfter (vD w) = 0 →
     let y := (List.range (ceilDiv n 64)).foldl (fun z j => z.vtouch a (stripEls n j)) x
     let els := (List.range n).map fun i => (BitVec.ofNat 32 (y.vread s.free a i).1, (y.vread s.free a i).2)
     ∃ z : Tile, exec (r.1 t) s = .next (({ s with free := s.free + 1 } : State).setTile t z) ∧
       x.VxLeft z s.cc w (x.vcycles n 1 [a]) 12 p.use l ∧ z.SameStore x ∧ x.SameVregsBut z (vD w) 64 ∧
       (∀ fr, z.vget fr (64 * vD w) = ((reduceAll r.2 els).1.1, (reduceAll r.2 els).2.1) ∧
         z.vget fr (64 * vD w + 1) = (BitVec.ofNat 32 (reduceAll r.2 els).1.2, (reduceAll r.2 els).2.1) ∧
         ∀ i, 2 ≤ i → i < 64 → z.vget fr (64 * vD w + i) = (0, false)) ∧
       (r.2 ≠ 4 → r.2 ≠ 5 → (reduceAll r.2 els).1.2 = 0)) ∧
  (∀ els : List (Word × Bool), (reduceAll 6 els).1.1 = (els.map (·.1)).sum ∧ (reduceAll 6 els).1.2 = 0 ∧
     (reduceAll 6 els).2.1 = els.any (·.2) ∧ ((els.any (·.2)) = false → (reduceAll 6 els).2.2 = 0))

/-- **Conversions, draws and prism programs.** CVT, RNG.BITS, RNG.UNIF, RNG.BERN, RNG.GUMBEL and PRISM, where they pass their checks and conflict
with no earlier instruction, leave their queue, occupy the engine for the cycles of their strips and complete six later. Where no strip
reads an element that an earlier strip has written, element i of a destination, a register (whose elements R112 does not leave undefined,
log entry 70) or a stream (of a format that is no block format), takes the conversion of element i, the mixer's word of the element in the form of the kind, or what the program puts out at that port; RNG, and PRISM with
a program that draws, advance their context's base where ADV is set. Register elements and bytes that no destination names stay. -/
def Obligations.ConversionsDrawsAndPrism : Prop :=
  (∀ (s : State) (t : Nat) (e : QEnt) (l : List QEnt) (a d : VOp) (p : VPlan), s.VxIssues t e l →
    let x := s.tile t
    let w := e.word.toNat
    let n := vN w
    eOpc w = 0x30 → x.cvtAD w = some (a, d) → cvtPlan x w = .ok p → x.vconflict p.use = false →
    let code (i : Nat) : Nat :=
      (cvtElem (cvDst w) (rndOf (cvRnd w)) (if cvRnd w = 2 then x.srBits (x.rngCtx (cvRcx w)) i else 0) (cvSat w)
        (x.cvtSrc s.free (cvSrc w) a i).1 (x.cvtSrc s.free (cvSrc w) a i).2.1).1
    let y := (List.range (ceilDiv n 64)).foldl (fun u j => u.vtouch a (stripEls n j)) x
    ∃ z : Tile, exec (.cvt t) s = .next (({ s with free := s.free + 1 } : State).setTile t z) ∧
      x.VxLeft z s.cc w (x.vcycles n (if fmtBS (cvDst w) then 2 else 1) [a, d]) 6 p.use l ∧
      (∀ v, d = .reg v → z.SameStore x ∧ x.SameVregsBut z v n ∧
        (x.Apart n a d → (∀ i < n, x.undAfter (v + i / 64) = 0) → ∀ i < n, ∀ fr, z.vget fr (64 * v + i) =
          (BitVec.ofNat 32 (code i), (y.cvtSrc s.free (cvSrc w) a i).2.2))) ∧
      (∀ k hn h w2 off, d = .strm k hn h w2 off → z.vx.vreg = x.vx.vreg ∧
        (∀ q, (∀ i < n, q < strmAddr h w2 off i ∨ strmAddr h w2 off i + ceilDiv w2 2 ≤ q) →
          (fmtBS (cvDst w) = true → ∀ i < n, q ≠ x.scaleAddr hn (off + i)) → z.byteAt q = x.byteAt q) ∧
        (x.Apart n a d → fmtBS (cvDst w) = false → ∀ i < n,
          let q := strmAddr h w2 off i
          if w2 = 1 then (z.byteAt q).toNat / (if (off + i) % 2 = 1 then 16 else 1) % 16 = code i % 16
          else z.bytes q (w2 / 2) = leBytes (w2 / 2) (code i)))) ∧
  (∀ r ∈ [(Instr.rngBits, 0), (Instr.rngUnif, 1), (Instr.rngBern, 2), (Instr.rngGumbel, 3)],
    ∀ (s : State) (t : Nat) (e : QEnt) (l : List QEnt) (a d : VOp) (p : VPlan), s.VxIssues t e l →
    let x := s.tile t
    let w := e.word.toNat
    let n := vN w
    let c := x.rngCtx (fld w 4 4)
    eOpc w = 0x60 → fld w 7 5 = r.2 → x.rngDA w = some (d, a) → rngPlan r.2 x w = .ok p → x.vconflict p.use = false →
    let draw (i : Nat) : Word := (rngElem r.2 (fld w 19 8) (mixer x.vx.seed.toNat c.stream ((c.base + i) % 2 ^ 40))
      (if a.isNone then none else some (BitVec.ofNat 32 (x.vread s.free a i).1))).1
    ∃ z : Tile, exec (r.1 t) s = .next (({ s with free := s.free + 1 } : State).setTile t z) ∧
      x.VxLeft z s.cc w (x.vcycles n (if r.2 = 3 then (if a.isNone then 10 else 11) else 1) [a, d]) 6 p.use l ∧
      (∀ v, d = .reg v → z.SameStore x ∧ x.SameVregsBut z v n ∧
        (x.Apart n a d → (∀ i < n, x.undAfter (v + i / 64) = 0) → ∀ i < n, ∀ fr, (z.vget fr (64 * v + i)).1 = draw i)) ∧
      (∀ k hn h w2 off, d = .strm k hn h w2 off → z.vx.vreg = x.vx.vreg ∧
        (∀ q, (∀ i < n, q < strmAddr h w2 off i ∨ strmAddr h w2 off i + 4 ≤ q) → z.byteAt q = x.byteAt q) ∧
        (x.Apart n a d → ∀ i < n, z.bytes (strmAddr h w2 off i) 4 = leBytes 4 (draw i).toNat)) ∧
      (∀ k, z.rngCtx k = if k = fld w 4 4 ∧ bitAt w 3 = true then ⟨c.stream, (c.base + n) % 2 ^ 40⟩ else x.rngCtx k)) ∧
  (∀ (s : State) (t : Nat) (e : QEnt) (l : List QEnt) (ps : List VOp) (p : VPlan), s.VxIssues t e l →
    let x := s.tile t
    let w := e.word.toNat
    let n := vN w
    let prog := x.program (fld w 7 5)
    let ins := atPorts ps (progIns prog)
    let outs := atPorts ps (progOuts prog)
    eOpc w = 0x40 → x.prismPorts w = some ps → prismPlan x w = .ok p → x.vconflict p.use = false →
    ∃ z : Tile, exec (.prism t) s = .next (({ s with free := s.free + 1 } : State).setTile t z) ∧
      x.VxLeft z s.cc w (x.vcycles n ((prog.map fun m => uopCost (uUop m)).sum) (ins ++ outs)) 6 p.use l ∧
      (∀ q, (∀ o ∈ outs, ∀ k hn h w2 off, o = .strm k hn h w2 off → ∀ i < n, q < strmAddr h w2 off i ∨ strmAddr h w2 off i + 4 ≤ q) →
        z.byteAt q = x.byteAt q) ∧
      (∀ k, k / 64 ∉ (outs.map (VOp.regs n)).flatten → Sparse.get 0 z.vx.vreg k = Sparse.get 0 x.vx.vreg k) ∧
      (let ctx := x.rngCtx (fld w 4 4)
       let consts := (List.range 8).map fun i => (Sparse.get (0 : Word) x.vx.kc i, Sparse.get false x.vx.kpz i)
       let ports (i : Nat) : List (Word × Bool) := (List.range 4).map fun k =>
        if (progIns prog).contains k then
          (BitVec.ofNat 32 (x.vread s.free (ps.getD k .absent) i).1, (x.vread s.free (ps.getD k .absent) i).2)
        else (0, false)
       let run (i : Nat) : PrismRun := prog.foldl
        (PrismRun.step (ports i) consts (mixer x.vx.seed.toNat ctx.stream ((ctx.base + i) % 2 ^ 40)))
        ⟨List.replicate 8 (0, false), [], 0⟩
       let port (o : Nat) : VOp := ps.getD o .absent
       (∀ i ∈ ins, ∀ o ∈ outs, x.Apart n i o) → ∀ o ∈ progOuts prog, (∀ o' ∈ progOuts prog, o' ≠ o → x.Disjoint n (port o) (port o')) →
        (∀ v, port o = .reg v → (∀ i < n, x.undAfter (v + i / 64) = 0) →
          ∀ i < n, ∀ fr, (z.vget fr (64 * v + i)).1 = (Sparse.get (0, false) (run i).outs o).1) ∧
        (∀ k hn h w2 off, port o = .strm k hn h w2 off →
          ∀ i < n, z.bytes (strmAddr h w2 off i) 4 = leBytes 4 (Sparse.get (0, false) (run i).outs o).1.toNat)) ∧
      (∀ k, z.rngCtx k = if k = fld w 4 4 ∧ progRandom prog = true ∧ bitAt w 3 = true then ⟨(x.rngCtx k).stream, ((x.rngCtx k).base + n) % 2 ^ 40⟩
        else x.rngCtx k))

/-- **Feeds.** DNOP leaves and signals. A FEED reads its descriptor once, which taints the tile where it is poisoned; a failed check of its
table or its descriptor stops the program; with fewer than 8 feeds in flight, none of which it overlaps, it leaves the queue and is in
flight, otherwise it stays at the head. An instruction outside Table 9-6 stops the program. Held by a window, a page or a retry
FEED_COMPLETE does nothing; otherwise the feed copies its bytes, changes no other byte of tile store or device range, is gone, and
increments an SFLAG up to SF43. -/
def Obligations.FeedsStartAndMove : Prop :=
  (∀ (s : State) (t : Nat) (e : QEnt) (l : List QEnt), t < 1536 → (s.tile t).qd = e :: l →
     let x := s.tile t
     let w := e.word.toNat
     flagOk (eWflag w) = true → flagOk (eSflag w) = true → (eWflag w = 0x3F ∨ e.granted = true) →
     let starts (y : Tile) (d : FeedDesc) : Prop :=
       ((8 ≤ y.feeds.length ∨ y.feeds.any (feedsMeet d) = true) →
         exec (.feed t) s = .next (s.setTile t { y with fdesc := some d })) ∧
       (y.feeds.length < 8 → y.feeds.any (feedsMeet d) = false →
         exec (.feed t) s = .next (s.setTile t { y with
           qd := l
           fdesc := none
           feedNo := y.feedNo + 1
           feeds := y.feeds ++ [{
             id := y.feedNo
             sid := d.sid
             daddr := d.daddr
             out := d.out
             ts := d.ts
             len := d.len
             sflag := eSflag w }] }))
     (eOpc w = 0x01 → fld w 43 0 = 0 → exec (.dnop t) s = .next (s.setTile t (Tile.signal { x with qd := l } (eSflag w)))) ∧
     (eOpc w = 0x20 →
       (∀ d, x.fdesc = some d → starts x d) ∧
       (x.fdesc = none → ∀ c, x.feedTable w = .error c → exec (.feed t) s = .next (s.afterTile t (x.stopAt c e.pchi))) ∧
       (x.fdesc = none → ∀ a, x.feedTable w = .ok a →
         let u := (x.touch a 16).ask .feed [⟨banksOf a 16, false⟩] []
         let y := if u.anyPz a 16 then u.tainted else u
         (∀ c, y.feedDesc a = .error c → exec (.feed t) s = .next (s.afterTile t (y.stopAt c e.pchi))) ∧
         (∀ d, y.feedDesc a = .ok d → starts y d))) ∧
     (eOpc w ∉ [0x01, 0x20, 0x30] → ∀ i ∈ [Instr.dnop t, Instr.feed t, Instr.wrel t],
       exec i s = .next (s.afterTile t (x.stopAt 0x08 e.pchi)))) ∧
  (∀ (s : State) (t id : Nat) (f : FeedFly), t < 1536 → (s.tile t).feeds.find? (fun g => g.id == id) = some f →
     (s.feedHeld f = true → exec (.feedComplete t id) s = .next s) ∧
     (s.feedHeld f = false →
       ∃ u : State, exec (.feedComplete t id) s = .next u ∧ (∀ v, v ≠ t → u.tile v = s.tile v) ∧
         (u.tile t).feeds = (s.tile t).feeds.filter (fun g => g.id != id) ∧ (u.tile t).SameRegs (s.tile t) ∧
         (f.sflag < 44 → (u.tile t).sflag f.sflag =
           { (s.tile t).sflag f.sflag with inc := ((s.tile t).sflag f.sflag).inc + 1 }) ∧
         (f.out = true → (u.tile t).SameStore (s.tile t) ∧
           ∀ a, Sparse.get 0 u.mem.data a = if f.daddr ≤ a ∧ a < f.daddr + f.len then (s.tile t).seenByte (f.ts + (a - f.daddr))
             else Sparse.get 0 s.mem.data a) ∧
         (f.out = false → u.mem.data = s.mem.data ∧
           ∀ b, (u.tile t).byteAt b = if f.ts ≤ b ∧ b < f.ts + f.len / 8 * 8 then Sparse.get 0 s.mem.data (f.daddr + (b - f.ts))
             else (s.tile t).byteAt b)))

/-- **Window release.** A WREL is issued once per holding by a tile of CONS while the inside holds the window, and otherwise stops the program.
WREL_TAKE_EFFECT waits for every earlier feed of the tile; then it signals, and the window stays inside until the last tile of CONS has
released it, with which it passes to the outside: a host window that no audit ends with posts WIN_RELEASE, a partner window that is the
source of no collective passes without an event. -/
def Obligations.WindowRelease : Prop :=
  (∀ (s : State) (t : Nat) (e : QEnt) (l : List QEnt), t < 1536 → (s.tile t).qd = e :: l →
    let x := s.tile t
    let w := e.word.toNat
    flagOk (eWflag w) = true → flagOk (eSflag w) = true → (eWflag w = 0x3F ∨ e.granted = true) → eOpc w = 0x30 →
    (s.wrelOk t w = false → exec (.wrel t) s = .next (s.afterTile t (x.stopAt 0x08 e.pchi))) ∧
    (fld w 37 0 = 0 → ∀ v, s.win (fld w 43 38) = some v → t ∈ gTiles s.rows v.cons → v.outside = false → t ∉ v.issued →
      ∃ u : State, exec (.wrel t) s = .next u ∧
        u.tile t = { x with qd := l, wrels := x.wrels ++ [⟨fld w 43 38, eSflag w, x.feeds.map (·.id)⟩] } ∧
        u.win (fld w 43 38) = some { v with issued := v.issued ++ [t] } ∧ u.mem.data = s.mem.data)) ∧
  (∀ (s : State) (t : Nat) (r : WrelFly) (rest : List WrelFly), t < 1536 → (s.tile t).wrels = r :: rest →
    ((∃ f ∈ (s.tile t).feeds, f.id ∈ r.after) → exec (.wrelTakeEffect t) s = .next s) ∧
    ((∀ f ∈ (s.tile t).feeds, f.id ∉ r.after) → ∀ v, s.win r.win = some v →
      let done := ∀ k ∈ gTiles s.rows v.cons, k = t ∨ k ∈ v.released
      (¬ done → ∃ u : State, exec (.wrelTakeEffect t) s = .next u ∧ u.tile t = Tile.signal { s.tile t with wrels := rest } r.sflag ∧
        (∃ v', u.win r.win = some v' ∧ t ∈ v'.released ∧ v'.outside = v.outside ∧ v'.xfer = v.xfer) ∧ u.host = s.host) ∧
      (let passed (u : State) : Prop := exec (.wrelTakeEffect t) s = .next u ∧
         u.tile t = Tile.signal { s.tile t with wrels := rest } r.sflag ∧
         u.win r.win = some { v with
           outside := true
           xfer := (v.xfer + 1) % 65536
           issued := []
           released := []
           handed := [] }
       (done → v.side1 = false → (∀ a, s.txp.audit = some a → a.running = false) →
         ∃ u : State, passed u ∧ u.host = s.host.post s.aon.ptp 0x05 (leBytes 1 r.win)) ∧
       (done → v.side1 = true → s.coll.waiting = [] → (∀ d ∈ s.coll.decls, d.2.srcWin ≠ r.win) →
         ∃ u : State, passed u ∧ u.host = s.host))))

/-- **Pages move, errors are contained, and no value changes.** TILE_STORE_SCRUB corrects and counts a single-bit error, and marks an
uncorrectable word poisoned, counts and reports it, in a cycle in which no requester claims the word's bank; it does nothing otherwise.
BASIN_READ_RETRY: a stored error in Basin fails once and is then lost, in Terrace it
is lost at once; one of the read path is gone where the reread succeeds; a lost word is poisoned and counted. Schedule entries,
promotions, write-backs and frame waits (with no collective waiting for a page) take each page as Table 9-3 says in the cases below and
leave every byte, tile, window and port. While Vent holds the clock domains in reset no retry and no schedule entry runs (log entry 90). -/
def Obligations.PagesAndReadErrors : Prop :=
  ((∀ (s : State) (t word : Nat), t < 1536 → word < 49152 →
     let x := s.tile t
     let k := word
     (x.claimed (bankOf (8 * word)) = true → exec (.tileStoreScrub t word) s = .next (s.setTile t x)) ∧
     (x.claimed (bankOf (8 * word)) = false → ∃ z : Tile, exec (.tileStoreScrub t word) s = .next (s.setTile t z) ∧ z.SameStore x ∧ z.SameRegs x ∧
       Sparse.get Ecc.ok z.ecc k = .ok ∧
       (Sparse.get Ecc.ok x.ecc k = .ok → z = x) ∧
       (Sparse.get Ecc.ok x.ecc k = .ce → z.spz = x.spz ∧ Sparse.get 0 z.cnt 0x810 = sat32 (Sparse.get 0 x.cnt 0x810) 1) ∧
       (Sparse.get Ecc.ok x.ecc k = .ue → z.wordPz word = true ∧ Sparse.get 0 z.cnt 0x814 = sat32 (Sparse.get 0 x.cnt 0x814) 1 ∧
         z.reports = x.reports ++ [0x0102]))) ∧
   (∀ (s : State) (word : Nat) (ok : Bool),
     let err (u : State) : Ecc := Sparse.get Ecc.ok u.mem.ecc word
     let tt := s.inTerrace word
     (s.vent.startup.held = true → exec (.basinReadRetry word ok) s = .next s) ∧
     (s.vent.startup.held = false → ∃ u : State, exec (.basinReadRetry word ok) s = .next u ∧ u.mem.data = s.mem.data ∧ u.tiles = s.tiles ∧
       (err s = .ue → tt = false → err u = .ue1 ∧ u.mem.pz = s.mem.pz) ∧
       (ok = false → tt = false → err s = .ok ∨ err s = .ce ∨ err s = .path → err u = .path1 ∧ u.mem.pz = s.mem.pz) ∧
       (err s = .ue1 ∨ (err s = .ue ∧ tt = true) ∨
           (ok = false ∧ (err s = .path1 ∨ (tt = true ∧ (err s = .ok ∨ err s = .ce ∨ err s = .path)))) →
         err u = .ok ∧ u.mem.wordPz word = true ∧
         Sparse.get 0 u.mem.cnt (if tt then 0x00C else 0x004) = sat32 (Sparse.get 0 s.mem.cnt (if tt then 0x00C else 0x004)) 1) ∧
       (ok = true → err s ≠ .ue → err s ≠ .ue1 →
         err u = .ok ∧ u.mem.pz = s.mem.pz ∧ Sparse.get 0 u.mem.cnt 0x010 = sat32 (Sparse.get 0 s.mem.cnt 0x010) 1)))) ∧
  (∀ (s : State) (n page part : Nat), s.coll.waiting = [] →
     ∀ c ∈ [Instr.scheduleEntryApply n, .frameWaitGrant part, .promotionComplete page, .writeBackComplete page],
     ∃ u : State, exec c s = .next u ∧ u.mem.data = s.mem.data ∧ u.mem.wins = s.mem.wins ∧ u.tiles = s.tiles ∧ u.ports = s.ports ∧
       u.vent = s.vent ∧ u.cal = s.cal ∧ u.mig.sched = s.mig.sched ∧ u.mig.sstep = s.mig.sstep ∧
       (s.mem.ecc = [] ∨ c = .scheduleEntryApply n ∨ c = .frameWaitGrant part → u.mem.pz = s.mem.pz ∧ u.host = s.host)) ∧
  ((∀ (s : State) (n : Nat), s.vent.startup.held = true → exec (.scheduleEntryApply n) s = .next s) ∧
   (∀ (s : State) (ss done : Nat) (e : SchedEnt) (rest : List (Nat × SchedEnt × Nat)), s.vent.startup.held = false →
     s.mig.fired = (ss, e, done) :: rest →
     let p := e.first + done
     let x := s.page p
     let part := s.partOf e.part p
     ∃ u : State, exec (.scheduleEntryApply 1) s = .next u ∧
       u.mig.fired = (if done + 1 < e.npages then (ss, e, done + 1) :: rest else rest) ∧
       (e.act = 1 → e.sid ∈ x.pins → u.page p = x ∧ u.mig.cnt = s.mig.cnt) ∧
       (e.act = 1 → e.sid ≠ 0xFFF → x.st = .home → x.queued = none → e.sid ∉ x.pins → x.pins.length < 15 → s.waitList part = [] →
         ∀ f, s.freeFrame part = some f →
           u.page p = { x with
             st := .promoting
             part := part
             frame := f
             pins := x.pins ++ [e.sid]
             keep := x.keep || e.keep } ∧
           Sparse.get 0 u.mig.cnt 0x020 = sat32 (Sparse.get 0 s.mig.cnt 0x020) 1) ∧
       (e.act = 1 → e.sid ≠ 0xFFF → (x.st = .promoting ∨ x.st = .resident ∨ x.st = .dirty) → e.sid ∉ x.pins → x.pins.length < 15 →
         u.page p = { x with pins := x.pins ++ [e.sid], keep := x.keep || e.keep }) ∧
       (e.act = 1 → e.sid ∉ x.pins → e.sid = 0xFFF ∨ 15 ≤ x.pins.length →
         u.mig.errPin = true ∧ u.page p = x ∧ Sparse.get 0 u.mig.cnt 0x034 = sat32 (Sparse.get 0 s.mig.cnt 0x034) 1) ∧
       (e.act = 2 → x.pins = [e.sid] → x.st = .resident → (x.keep = false ∨ x.evpend = true) → (u.page p).st = .home) ∧
       (e.act = 2 → x.pins = [e.sid] → x.st = .dirty → (x.keep = false ∨ x.evpend = true) →
         (u.page p).st = .evicting ∧ (u.page p).keep = false ∧ (u.page p).evpend = false) ∧
       (e.act = 2 → x.pins = [e.sid] → (x.st = .resident ∨ x.st = .dirty) → x.keep = true → x.evpend = false →
         u.page p = { x with pins := [], emptyAt := s.mig.applyNo + 1 }) ∧
       (e.act = 2 → e.sid ∉ x.pins → u.mig.errPin = true ∧ u.page p = x) ∧
       (e.act = 3 → x.st = .promoting → u.page p = { x with evpend := true } ∧
         Sparse.get 0 u.mig.cnt 0x02C = sat32 (Sparse.get 0 s.mig.cnt 0x02C) 1)) ∧
   (∀ (s : State) (page : Nat), s.coll.waiting = [] → (s.page page).st = .promoting →
     ∃ u : State, exec (.promotionComplete page) s = .next u ∧
       ((s.page page).pins ≠ [] ∨ ((s.page page).keep = true ∧ (s.page page).evpend = false) →
         u.page page = { s.page page with st := .resident }) ∧
       ((s.page page).pins = [] → ((s.page page).keep = false ∨ (s.page page).evpend = true) → (u.page page).st = .home)) ∧
   (∀ (s : State) (page : Nat), s.coll.waiting = [] → (s.page page).st = .evicting → (s.page page).queued = none →
     ∃ u : State, exec (.writeBackComplete page) s = .next u ∧ (u.page page).st = .home ∧ (u.page page).pins = (s.page page).pins) ∧
   (∀ (s : State) (part p f : Nat) (rest : List Nat), s.waitList part = p :: rest → s.freeFrame part = some f →
     ∃ u : State, exec (.frameWaitGrant part) s = .next u ∧ u.waitList part = rest ∧ (u.page p).st = .promoting ∧
       (u.page p).part = part ∧ (u.page p).frame = f ∧ (u.page p).queued = none))

/-- **Exchange packets.** In cycle T + j of the phase or later the packet of a send entry leaves its source granule with its two words, their
poison and its addresses, once, on the routers of the entry's route, two cycles a hop and three an express hop, one more before the first
express hop on stepping B0; before that nothing happens. It is injected from SPAD + 1 cycles later on; the next router of its path
passes it in that router's cycle, not before; it lands at T + j + C or later, not before: sixteen bytes with their two poison bits, no
other byte of the module's tiles changing. A corrected error is counted; an uncorrectable data word is passed on poisoned, an
uncorrectable header drops the packet, an overflow drops the last one in input order (of several by one input the one read last, log entry
84), each with its bit of XCH.ERR. -/
def Obligations.ExchangePackets : Prop :=
  (∀ (s : State) (t k j dst : Nat) (p : Phase), t < 1536 → s.phaseOf t = some p →
    let x := s.tile t
    let d := x.dirEnt p.xpn
    let e := Sparse.get 0 x.xent k
    let a := 64 * hBase (x.hndOf (seSh e)) + 16 * (seSoff e + j)
    let u := (x.touch a 16).ask .arrival [⟨banksOf a 16, false⟩] []
    (s.cc < p.start + seT e + j → exec (.packetSendRead t k j) s = .next s) ∧
    (dirFirst d ≤ k → k < dirFirst d + dirCount d → j < seN e → p.start + seT e + j ≤ s.cc → (t, k, j) ∉ p.sent →
      seDst s.skipRow s.rows e = some dst →
      ∃ v : State, exec (.packetSendRead t k j) s = .next v ∧ v.tile t = u ∧ (∀ r, r ≠ t → v.tile r = s.tile r) ∧
        v.cal.phases = s.cal.phases.map (fun o => if o.gid = p.gid ∧ o.start = p.start then { o with sent := o.sent ++ [(t, k, j)] } else o) ∧
        let src := routerOf (physPos s.skipRow t)
        v.mesh.pkts = s.mesh.pkts ++ [{
          id := s.mesh.pktNo
          src := t
          dst := dst
          addr := 64 * hBase ((s.tile dst).hndOf (seDh e)) + 16 * (seDoff e + j)
          r := p.start + seT e + j
          c := classLat (seCls e)
          spad := seSpad e
          lpad := seLpad e
          trk := seTrk e
          st := .sendBuf
          path := hopsFrom (p.start + seT e + j + 2 + seSpad e + (if x.phys % 17 = 16 then 2 else 0)) (if s.vent.stepping = 2 then 1 else 0) src
            (if x.phys % 17 = 16 then 8 else 9) (routeHops (seRoute e) src (seDqx e, seDqy e))
          prev := none
          w0 := BitVec.ofNat 64 (leNat (x.bytes a 8))
          w1 := BitVec.ofNat 64 (leNat (x.bytes (a + 8) 8))
          pz0 := u.wordPz (a / 8) || x.taint
          pz1 := u.wordPz (a / 8 + 1) || x.taint }])) ∧
  (∀ (c x inp : Nat) (a : Nat × Nat) (l : List (Bool × Nat × Nat)),
    (hopsFrom c x a inp l).map (fun h => (h.qx, h.qy)) = a :: l.map (·.2) ∧ (hopsFrom c x a inp l).head?.map (·.cyc) = some c ∧
      (hopsFrom c x a inp l).getLast?.map (·.cyc) =
        some (c + 2 * l.length + (l.filter (·.1)).length + if l.any (·.1) = true then x else 0)) ∧
  (∀ (s : State) (id : Nat) (p : Packet), s.mesh.pkt id = some p →
    (p.st = .sendBuf → p.r + 1 + p.spad ≤ s.cc →
      exec (.packetInject id) s = .next { s with mesh := s.mesh.setPkt { p with st := .onTrack } }) ∧
    (p.st = .sendBuf → s.cc < p.r + 1 + p.spad → exec (.packetInject id) s = .next s) ∧
    (∀ h rest, p.st = .onTrack → p.path = h :: rest →
      let passed := s.mesh.setPkt { p with path := rest, prev := some h }
      let loc (u : State) : Prop := s.mesh.errOvf = false → s.mesh.errHdrUe = false → s.mesh.errDataUe = false →
        u.mesh.errLoc = 2 ^ 20 * h.qx + 2 ^ 15 * h.qy + 2 ^ 11 * h.inp
      (∀ link errs, s.cc < h.cyc ∨ link ≠ h.inp → exec (.packetRouterPass id link errs) s = .next s) ∧
      (h.cyc ≤ s.cc →
        exec (.packetRouterPass id h.inp []) s = .next { s with mesh := passed } ∧
        (∀ w, exec (.packetRouterPass id h.inp [.dataCe w]) s = .next { s with mesh := { passed with cntCe := sat32 s.mesh.cntCe 1 } }) ∧
        exec (.packetRouterPass id h.inp [.hdrCe]) s = .next { s with mesh := { passed with cntHdrCe := sat32 s.mesh.cntHdrCe 1 } } ∧
        (∃ u : State, exec (.packetRouterPass id h.inp [.dataUe 0]) s = .next u ∧ u.mesh.errDataUe = true ∧ u.tiles = s.tiles ∧ loc u ∧
          u.mesh.cntUe = sat32 s.mesh.cntUe 1 ∧ u.mesh.pkt id = some { p with path := rest, prev := some h, pz0 := true }) ∧
        (∃ u : State, exec (.packetRouterPass id h.inp [.hdrUe]) s = .next u ∧ u.mesh.pkt id = none ∧ u.mesh.errHdrUe = true ∧ loc u ∧
          u.mesh.cntHdrUe = sat32 s.mesh.cntHdrUe 1 ∧ u.tiles = s.tiles) ∧
        (∃ u : State, exec (.packetRouterPass id h.inp [.overflow]) s = .next u ∧ u.mesh.pkt (s.mesh.lastAt h p).1.id = none ∧
          u.mesh.errOvf = true ∧ u.mesh.cntHdrUe = sat32 s.mesh.cntHdrUe 1 ∧ u.tiles = s.tiles))) ∧
    (p.st = .landingBuf → s.cc < p.r + p.c → exec (.packetLanding id) s = .next s) ∧
    (p.st = .landingBuf → p.r + p.c ≤ s.cc → p.addr % 8 = 0 →
      ∃ u : State, exec (.packetLanding id) s = .next u ∧ u.mesh.pkt id = none ∧ u.mesh.cntPkt = (s.mesh.cntPkt + 1) % 2 ^ 64 ∧
        (∀ v, v ≠ p.dst → u.tile v = s.tile v) ∧ (u.tile p.dst).SameRegs (s.tile p.dst) ∧
        (∀ b, (u.tile p.dst).byteAt b =
          if p.addr ≤ b ∧ b < p.addr + 8 then (leBytes 8 p.w0.toNat).getD (b - p.addr) 0
          else if p.addr + 8 ≤ b ∧ b < p.addr + 16 then (leBytes 8 p.w1.toNat).getD (b - p.addr - 8) 0
          else (s.tile p.dst).byteAt b) ∧
        (∀ w, (u.tile p.dst).wordPz w = if w = p.addr / 8 then p.pz0 else if w = p.addr / 8 + 1 then p.pz1
          else (s.tile p.dst).wordPz w)))

/-- **The port arbiter.** A request that breaks its requester's limits is refused: the first is recorded in PARB.ERR, each is reported to
Vent; one of a masked requester is ignored, and so is any while Vent holds the clock domains in reset (log entry 90). An allowed one takes
the module's next XFER number of its CLASS (log entry 41) and a free grant, or waits behind the holder, and a holder granted in this same
cycle that has sent nothing competes with it again, ahead of every request of its rank. At the end of a frame, in a port that is UP with
room for replay (while no session closes behind a successor or reaches a limit), the frame is counted
and in DIRECT mode kept, and the session's SEQ rises. The holder keeps the grant to its last segment, but an unlocked one yields to a
request of higher rank, which counts a pre-emption and the next attempt; at its sixteenth it waits at its requester under a new XFER number. A transfer whose session is gone sends nothing. While a requester is
masked its pending requests are lost (log entry 41), but message egress keeps its messages for later (log entry 77), and a transfer it holds ends after the frame on the wire. -/
def Obligations.ArbiterGrantsAndFrames : Prop :=
  (∀ (s : State) (p : Nat) (r : Requester) (x : XferReq), p < 12 →
     let y := s.port p
     let g : Grant := {
       r := r
       x := x
       att := 0
       sent := 0
       resends := 0
       at' := s.cc
       gat := 0
       start := s.aon.ptp
       dead := false
       again := false
       sess := (s.sess x.dev).num
       cut := none }
     let s1 := { s with txp := { s.txp with xferNo := Sparse.set 0 s.txp.xferNo x.cls ((x.xfer + 1) % 65536) } }
     (r ∈ s.masks ∨ s.vent.startup.held = true → exec (.arbiterRequest p r x) s = .next s) ∧
     (r ∉ s.masks → s.vent.startup.held = false → reqAllowed r y.maxpay x = false →
       exec (.arbiterRequest p r x) s =
         .next { s with parbErr := if bitAt s.parbErr 0 then s.parbErr else 2 * p + 1,
                        vent := { s.vent with refusals := s.vent.refusals ++ [(p, r)] } }) ∧
     (r ∉ s.masks → s.vent.startup.held = false → reqAllowed r y.maxpay x = true →
       (∀ h, y.holder = some h → (h.gat ≠ s.cc ∨ h.sent ≠ 0 ∨ h.dead = true) →
         exec (.arbiterRequest p r x) s = .next (s1.setPort p { y with pend := y.pend ++ [g] })) ∧
       (∀ h, y.holder = some h → h.gat = s.cc → h.sent = 0 → h.dead = false →
         ∃ z, exec (.arbiterRequest p r x) s = .next (s1.setPort p z) ∧ y.Grants z (h :: (y.pend ++ [g])) s.cc s.aon.ptp) ∧
       (y.holder = none →
         ∃ z, exec (.arbiterRequest p r x) s = .next (s1.setPort p z) ∧ y.Grants z (y.pend ++ [g]) s.cc s.aon.ptp))) ∧
  (∀ (s : State) (p : Nat), p < 12 → ((s.port p).holder = none ∨ (s.port p).st ≠ .up ∨ (s.port p).replayFull = true) →
     exec (.frameTxEnd p) s = .next s) ∧
  (∀ (s : State) (p : Nat) (g : Grant), p < 12 → (s.port p).holder = some g → (s.port p).st = .up → (s.port p).replayFull = false →
     let y := s.port p
     let v := s.sess g.x.dev
     s.txp.old = [] → v.st ≠ .up ∨ (v.txSeq + 1 < 2 ^ 34 ∧ v.rxMax < 2 ^ 34 ∧ s.now < v.stAt + 86400 * nsPerSec) →
     ∃ u : State, exec (.frameTxEnd p) s = .next u ∧ (∀ q, q ≠ p → u.port q = s.port q) ∧ u.tiles = s.tiles ∧ u.mem = s.mem ∧
       (g.clear = false → s.carrier g = none → y.Grants (u.port p) y.pend s.cc s.aon.ptp) ∧
       (g.clear = true ∨ (s.carrier g).isSome = true →
         let bs := s.frameBytes p g
         ∃ z : Port, z = { y with tx := bs, replay := z.replay, txSeq := z.txSeq, tsq := z.tsq, cnt := z.cnt } ∧
           Sparse.get 0 z.cnt 0x60 = sat32 (Sparse.get 0 y.cnt 0x60) 1 ∧
           (y.mode = 1 → z.replay = y.replay ++ [(y.txSeq, 0, bs)] ∧ z.txSeq = (y.txSeq + 1) % 256) ∧
           (y.mode ≠ 1 → z.replay = y.replay ∧ z.txSeq = y.txSeq) ∧
           (g.x.ts = true → g.x.ev = none → y.tsq.length < 64 → z.tsq = y.tsq ++ [⟨g.start, true, 0, g.x.xfer⟩]) ∧
           (g.clear = false → (s.sess g.x.dev).num = g.sess → ((s.sess g.x.dev).st = .up ∨ g.dead = true) →
             (u.sess g.x.dev).txSeq = (s.sess g.x.dev).txSeq + 1 ∧ (u.sess g.x.dev).txAt = s.now) ∧
           (g.dead = true → z.Grants (u.port p) y.pend s.cc s.aon.ptp) ∧
           (g.dead = false → reqSegs g.x y.maxpay ≤ g.sent + 1 → z.Grants (u.port p) y.pend s.cc s.aon.ptp ∧
             (p, { g with sent := g.sent + 1 }) ∈ u.txp.sentX) ∧
           (g.dead = false → g.sent + 1 < reqSegs g.x y.maxpay → (g.x.lock = true ∨ ∀ h ∈ y.pend, reqRank h.r ≤ reqRank g.r) →
             u.port p = { z with holder := some { g with sent := g.sent + 1, again := false, start := s.aon.ptp } }) ∧
           (g.dead = false → g.sent + 1 < reqSegs g.x y.maxpay → g.x.lock = false → (∃ h ∈ y.pend, reqRank g.r < reqRank h.r) →
             (∃ h, (u.port p).holder = some h ∧ reqRank g.r < reqRank h.r) ∧
             (z.bump 0x7C 1).Grants (u.port p)
               (if g.att < 15 then y.pend ++ [{ g with att := g.att + 1, sent := 0, again := true, cut := some s.cc }] else y.pend)
               s.cc s.aon.ptp ∧
             (15 ≤ g.att → g.r ≠ .mgmt → u.txp.waiting = s.txp.waiting ++
               [⟨s.txp.waitNo, { g with x := { g.x with xfer := Sparse.get 0 s.txp.xferNo g.x.cls }, att := 0, sent := 0, resends := 0,
                                        dead := false, again := true }, p, false, s.now⟩])))) ∧
  (∀ (s : State) (r : Requester) (b : Bool), s.vent.startup.held = true → exec (.requesterMask r b) s = .next s) ∧
  (∀ (s : State) (r : Requester), s.vent.startup.held = false →
     (∃ u : State, exec (.requesterMask r true) s = .next u ∧ r ∈ u.masks ∧ (∀ q, q ≠ r → (q ∈ u.masks ↔ q ∈ s.masks)) ∧ u.tiles = s.tiles ∧
       u.mem = s.mem ∧ (r ≠ .msg → u.txp = s.txp) ∧
       (r = .msg → ∀ p, ∀ g ∈ (s.port p).pend, g.r = .msg → ∃ w ∈ u.txp.waiting, w.g = g ∧ w.port = p ∧ w.waitWin = false) ∧
       ∀ p, let y := { s.port p with pend := (s.port p).pend.filter fun h => h.r ≠ r }
         (y.holder = none → u.port p = y) ∧
         (∀ g, y.holder = some g → g.r ≠ r → u.port p = y) ∧
         (∀ g, y.holder = some g → g.r = r → y.replayFull = false → u.port p = { y with holder := some { g with dead := true } }) ∧
         (∀ g, y.holder = some g → g.r = r → y.replayFull = true → y.Grants (u.port p) y.pend s.cc s.aon.ptp)) ∧
     exec (.requesterMask r false) s = .next { s with masks := s.masks.filter fun q => q ≠ r })

/-- **Received frames: DIRECT and ETH.** A DIRECT DATA frame in sequence is taken, acknowledges the frames up to its ACKSEQ and is itself
acknowledged by an LACK that leaves the port and counts; one with a
bad CRC, or a LEN that does not count its body, is counted and one out of sequence discarded, and either is answered by an LNAK frame; one of a reserved FTYPE, of another CVER or of a reserved
CLASS is dropped and counted. LACK frees frames; LNAK replays the rest, each with the ACKSEQ of now and counted, and the eighth replay of a
frame retrains the port; LACK and LNAK count as frames received. Every ETH frame
counts; one with a bad FCS or an excluded feature, and one that the port does not take, is dropped and counted; an IEEE 1588 event message
enters the stamp queue with the counter's time, and so does a carriage with TS. FEC codewords are counted as they are reported. That a reserved
FTYPE counts in CNT_DROP, that a wrong LEN is a CRC failure, that each frame in sequence is acknowledged at once and that CNT_REPLAY counts
LNAKs is the model's reading (log entry 42). -/
def Obligations.LinkAndEthFrames : Prop :=
  (∀ (s : State) (p : Nat), p < 12 → (s.port p).st = .up → (s.port p).mode = 1 →
     let y := s.port p
     (∀ f : DFrame,
       let c := bodyCar f.body
       let n := fld f.hdr 55 48
       let ok := crc32 (beBytes 8 f.hdr ++ f.body) = f.crc ∧ fld f.hdr 39 28 = f.body.length
       ∃ u : State, exec (.directDataFrame p f) s = .next u ∧ (∀ q, q ≠ p → u.port q = s.port q) ∧ u.tiles = s.tiles ∧ u.mem = s.mem ∧
         Sparse.get 0 (u.port p).cnt 0x68 = sat32 (Sparse.get 0 y.cnt 0x68) f.feccw ∧
         Sparse.get 0 (u.port p).cnt 0x6C = sat32 (Sparse.get 0 y.cnt 0x6C) f.fecuc ∧
         (¬ ok → (u.port p).tx = directFrame 3 0 y.rxSeq [] ∧ Sparse.get 0 (u.port p).cnt 0x60 = sat32 (Sparse.get 0 y.cnt 0x60) 1 ∧
           (u.port p).lnak = some y.rxSeq ∧ (u.port p).rxSeq = y.rxSeq ∧ (u.port p).replay = y.replay ∧ (u.port p).tsq = y.tsq ∧
           Sparse.get 0 (u.port p).cnt 0x70 = sat32 (Sparse.get 0 y.cnt 0x70) 1) ∧
         (ok → (u.port p).replay = (y.ack (fld f.hdr 47 40) s.aon.ptp).replay ∧
           Sparse.get 0 (u.port p).cnt 0x64 = sat32 (Sparse.get 0 y.cnt 0x64) 1 ∧
           (fld f.hdr 63 56 ≠ 1 → (u.port p).rxSeq = y.rxSeq ∧ Sparse.get 0 (u.port p).cnt 0x78 = sat32 (Sparse.get 0 y.cnt 0x78) 1) ∧
           (fld f.hdr 63 56 = 1 → n = (y.rxSeq + 1) % 256 → (u.port p).rxSeq = n ∧ (u.port p).lnak = none ∧
             (u.port p).tx = directFrame 2 0 n [] ∧ Sparse.get 0 (u.port p).cnt 0x60 = sat32 (Sparse.get 0 y.cnt 0x60) 1 ∧
             (c.cver ≠ 1 ∨ 5 ≤ c.cls → Sparse.get 0 (u.port p).cnt 0x78 = sat32 (Sparse.get 0 y.cnt 0x78) 1 ∧ (u.port p).tsq = y.tsq) ∧
             (c.cver = 1 → c.cls < 5 → Sparse.get 0 (u.port p).cnt 0x78 = Sparse.get 0 y.cnt 0x78 ∧
               (c.ts = true → y.tsq.length < 64 → (u.port p).tsq = y.tsq ++ [⟨s.aon.ptp, false, 0, c.xfer⟩]))) ∧
           (fld f.hdr 63 56 = 1 → n ≠ (y.rxSeq + 1) % 256 → (u.port p).rxSeq = y.rxSeq ∧ (u.port p).tsq = y.tsq ∧
             (u.port p).lnak = if y.lnak = none ∧ 128 ≤ (y.rxSeq + 256 - n) % 256 then some y.rxSeq else y.lnak) ∧
           (fld f.hdr 63 56 = 1 → n ≠ (y.rxSeq + 1) % 256 → y.lnak = none → 128 ≤ (y.rxSeq + 256 - n) % 256 →
             (u.port p).tx = directFrame 3 0 y.rxSeq [] ∧ Sparse.get 0 (u.port p).cnt 0x60 = sat32 (Sparse.get 0 y.cnt 0x60) 1))) ∧
     (∀ n pre post r bs, y.replay = pre ++ (n, r, bs) :: post → (∀ e ∈ pre, e.1 ≠ n) →
       (y.replay.length < 64 → exec (.lack p n) s = .next (s.setPort p (Port.bump { y with replay := post } 0x64 1))) ∧
       (64 ≤ y.replay.length → exec (.lack p n) s =
         .next (s.setPort p (Port.bump { y with replay := post, holder := y.holder.map fun g => { g with start := s.aon.ptp } } 0x64 1))) ∧
       (∀ e, post.getLast? = some e →
         ∃ u : State, exec (.lnak p n) s = .next u ∧ (∀ q, q ≠ p → u.port q = s.port q) ∧ u.tiles = s.tiles ∧ u.mem = s.mem ∧
           Sparse.get 0 (u.port p).cnt 0x74 = sat32 (Sparse.get 0 y.cnt 0x74) 1 ∧ (u.port p).tx = y.again e.1 e.2.2 ∧
           Sparse.get 0 (u.port p).cnt 0x60 = sat32 (Sparse.get 0 y.cnt 0x60) post.length ∧
           Sparse.get 0 (u.port p).cnt 0x64 = sat32 (Sparse.get 0 y.cnt 0x64) 1 ∧
           ((∀ d ∈ post, d.2.1 < 7) → (u.port p).st = .up ∧ (u.port p).replay = post.map fun d => (d.1, d.2.1 + 1, y.again d.1 d.2.2)) ∧
           ((∃ d ∈ post, 7 ≤ d.2.1) → (u.port p).st ≠ .up ∧ (u.port p).replay = [] ∧
             Sparse.get 0 (u.port p).cnt 0x80 = sat32 (Sparse.get 0 y.cnt 0x80) 1)))) ∧
  (∀ (s : State) (p : Nat) (f : EFrame), p < 12 → (s.port p).st = .up → (s.port p).mode = 2 →
     let y := s.port p
     let c := bodyCar f.body
     ∃ z : Port, exec (.ethFrame p f) s = .next (s.setPort p z) ∧ z = { y with tsq := z.tsq, cnt := z.cnt } ∧
       Sparse.get 0 z.cnt 0x64 = sat32 (Sparse.get 0 y.cnt 0x64) 1 ∧
       Sparse.get 0 z.cnt 0x68 = sat32 (Sparse.get 0 y.cnt 0x68) f.feccw ∧ Sparse.get 0 z.cnt 0x6C = sat32 (Sparse.get 0 y.cnt 0x6C) f.fecuc ∧
       (f.fcsOk = false → z.tsq = y.tsq ∧ Sparse.get 0 z.cnt 0x70 = sat32 (Sparse.get 0 y.cnt 0x70) 1 ∧
         Sparse.get 0 z.cnt 0x78 = sat32 (Sparse.get 0 y.cnt 0x78) 1) ∧
       (f.fcsOk = true → Sparse.get 0 z.cnt 0x70 = Sparse.get 0 y.cnt 0x70 ∧
         (f.unsupported = true → z.tsq = y.tsq ∧ Sparse.get 0 z.cnt 0x78 = sat32 (Sparse.get 0 y.cnt 0x78) 1) ∧
         (f.unsupported = false → f.etype = 0x88F7 → ∀ n, f.ev1588 = some n → y.tsq.length < 64 →
           z.tsq = y.tsq ++ [⟨s.aon.ptp, false, 1, n⟩]) ∧
         (f.unsupported = false → eventFrame f = false → y.ethTakes f = false →
           z.tsq = y.tsq ∧ Sparse.get 0 z.cnt 0x78 = sat32 (Sparse.get 0 y.cnt 0x78) 1) ∧
         (f.unsupported = false → eventFrame f = false → y.ethTakes f = true → Sparse.get 0 z.cnt 0x78 = Sparse.get 0 y.cnt 0x78 ∧
           (c.ts = false → z.tsq = y.tsq) ∧
           (c.ts = true → y.tsq.length < 64 → z.tsq = y.tsq ++ [⟨s.aon.ptp, false, 0, c.xfer⟩]))))

/-- **The states of a port.** Training that ends within 150 ms gives UP, in DIRECT mode with the identification within 10 ms; an attempt of
150 ms, or a wait of 10 ms, ends in another attempt, which counts. A loss of lane lock or the 65th codeword is a flap: the port leaves UP,
counts, and trains again, and the fourth within 60 s holds it down; pending requests wait, the transfer in progress is aborted and kept
with its next attempt, or after the sixteenth under a new number, by every requester but management (for message egress and plume export the
model's reading, log entries 44 and 77); one that a pre-emption of this very cycle has cut off is aborted too and no longer counted as
pre-empted, and one whose last frames stood unacknowledged is recovered (log entry 44).
MODE = 0 disables the port; a change from one mode to another, and by log entry 43 a reserved code, is ignored with REJ; enabling it trains
it; while Vent holds the clock domains in reset neither is done (log entry 90). -/
def Obligations.PortStates : Prop :=
  ∀ (s : State) (p : Nat), p < 12 →
    let y := s.port p
    (y.st = .training → s.cc ≤ y.tryAt + attemptCc → (∀ a, y.identAt = some a → s.cc ≤ a + identCc) →
      (y.mode = 1 ∨ (y.mode = 2 ∧ (y.encap ≠ 0 ∨ y.etype ≠ 0)) →
        ∃ u : State, exec (.portTrained p true) s = .next u ∧ (u.port p).st = .up ∧ (u.port p).replay = [] ∧ (u.port p).txSeq = 0 ∧
          (u.port p).rxSeq = 255 ∧ (u.port p).laneUp = 15 ∧ ∀ q, q ≠ p → u.port q = s.port q) ∧
      (y.mode = 1 → exec (.portTrained p false) s =
        .next (s.setPort p { y with laneUp := 15, identAt := some (y.identAt.getD s.cc) }))) ∧
    (y.st = .training → y.tryAt + attemptCc < s.cc → ∀ b, exec (.portTrained p b) s = .next s) ∧
    (y.st = .up → ∀ lane < 4,
      ∀ c ∈ [Instr.laneLockLoss p lane, Instr.fecBurst p lane],
      ∃ u : State, exec c s = .next u ∧ u.tiles = s.tiles ∧ u.mem = s.mem ∧ (∀ q, q ≠ p → u.port q = s.port q) ∧
        (u.port p).holder = none ∧ (u.port p).replay = [] ∧
        (u.port p).st = (if 3 ≤ (y.flaps.filter fun f => decide (s.cc < f.1 + 60 * ccPerSec)).length then .held else .training) ∧
        Sparse.get 0 (u.port p).cnt 0x80 = sat32 (Sparse.get 0 y.cnt 0x80) 1 ∧
        Sparse.get 0 (u.port p).cnt 0x6C = sat32 (Sparse.get 0 y.cnt 0x6C) (if c = Instr.fecBurst p lane then 65 else 0) ∧
        (let cut := y.pend.filter fun h => h.cut = some s.cc
         let rest := y.pend.filter fun h => h.cut ≠ some s.cc
         let lost := s.unacked p
         Sparse.get 0 (u.port p).cnt 0x7C = Sparse.get 0 y.cnt 0x7C - BitVec.ofNat 32 cut.length ∧
         (∀ h ∈ cut, ∃ w ∈ u.txp.waiting, w.g = h ∧ w.port = p ∧ w.waitWin = false) ∧
         (∀ e ∈ lost, e ∉ u.txp.sentX ∧ ∃ w ∈ u.txp.waiting, w.port = p ∧ w.g.r = e.2.r ∧ w.g.x = { e.2.x with xfer := w.g.x.xfer } ∧ w.g.sent = 0) ∧
         (cut = [] → lost = [] → y.holder = none → u.txp.waiting = s.txp.waiting) ∧
         (y.holder = none → (u.port p).pend = rest) ∧
         ∀ g, y.holder = some g →
          (g.dead = true → (u.port p).pend = rest ∧ (cut = [] → lost = [] → u.txp.waiting = s.txp.waiting) ∧
            ∀ id, g.msgId = some id → (s.msgs.fly.any fun m => m.id == id && m.sentTo.isSome) = true → ∀ m ∈ u.msgs.fly, m.id = id → m.answer.isSome = true) ∧
          (g.dead = false → g.gat = s.cc → g.sent = 0 → (u.port p).pend = rest ++ [g] ∧ (cut = [] → lost = [] → u.txp.waiting = s.txp.waiting)) ∧
          (g.dead = false → (g.gat ≠ s.cc ∨ g.sent ≠ 0) → (u.port p).pend = rest ∧
            (cut = [] → lost = [] → g.r = .mgmt → u.txp.waiting = s.txp.waiting) ∧
            (cut = [] → lost = [] → g.r ≠ .mgmt →
              (g.att < 15 → u.txp.waiting = s.txp.waiting ++
                [⟨s.txp.waitNo, { g with att := g.att + 1, sent := 0, dead := false, again := true }, p, false, s.now⟩]) ∧
              (15 ≤ g.att → u.txp.waiting = s.txp.waiting ++
                [⟨s.txp.waitNo, { g with x := { g.x with xfer := Sparse.get 0 s.txp.xferNo g.x.cls }, att := 0, sent := 0, resends := 0,
                                         dead := false, again := true }, p, false, s.now⟩]))))) ∧
    (let again := s.setPort p (Port.bump { y with laneUp := 0, tryAt := s.cc, identAt := none } 0x80 1)
     (y.st = .training → y.tryAt + attemptCc ≤ s.cc → exec (.retrainAttemptTimeout p) s = .next again) ∧
     (s.cc < y.tryAt + attemptCc → exec (.retrainAttemptTimeout p) s = .next s) ∧
     (y.st = .training → y.mode = 1 → ∀ a, y.identAt = some a → a + identCc ≤ s.cc →
       exec (.directIdentTimeout p) s = .next again) ∧
     ((∀ a, y.identAt = some a → s.cc < a + identCc) → exec (.directIdentTimeout p) s = .next s)) ∧
    (s.vent.startup.held = true → ∀ v : Word,
      exec (.portnCfgWriteDisable p v) s = .next s ∧ exec (.portnCfgWriteEnable p v) s = .next s) ∧
    (s.vent.startup.held = false → ∀ v : Word, fld v.toNat 1 0 = 0 → cfgReserved v = false →
      ∃ u : State, exec (.portnCfgWriteDisable p v) s = .next u ∧ (u.port p).st = .disabled ∧ (u.port p).mode = 0 ∧ (u.port p).laneUp = 0 ∧
        (y.st = .up → (u.port p).holder = none ∧ (u.port p).replay = [])) ∧
    (s.vent.startup.held = false → ∀ v : Word, fld v.toNat 1 0 = 0 → cfgReserved v = true →
      exec (.portnCfgWriteDisable p v) s = .next (s.setPort p { y with rej := true })) ∧
    (s.vent.startup.held = false → ∀ v : Word, fld v.toNat 1 0 ≠ 0 → (y.mode ≠ 0 ∧ y.mode ≠ fld v.toNat 1 0) ∨ cfgReserved v = true →
      exec (.portnCfgWriteEnable p v) s = .next (s.setPort p { y with rej := true })) ∧
    (s.vent.startup.held = false → ∀ v : Word, fld v.toNat 1 0 ≠ 0 → (y.mode = 0 ∨ y.mode = fld v.toNat 1 0) → cfgReserved v = false →
      Sparse.get false s.vent.map.ports p = false → s.vent.dev ≠ .boot → s.vent.dev ≠ .dormant →
      ∃ u : State, exec (.portnCfgWriteEnable p v) s = .next u ∧ (u.port p).st = .training ∧ (u.port p).flaps = [] ∧
        (u.port p).heldLane = 0 ∧ (u.port p).cfg = v &&& cfgMask)

/-- **DATA segments land whole and only where they may.** A segment of the transfer's attempt lands its bytes with its poison mask, and every
other byte of the device range stays while no collective waits to start; its number is remembered, and its LAST bit; with segments 0 to LAST
the transfer is complete, and a contribution that is one segment has landed. A window takes one from a partner of its set with write
permission while it is outside; another is answered PERM or WINHELD and writes nothing. One of an older attempt, or of another CVER, is dropped
and counted in PORTn.CNT_DROP; one of a reserved CLASS or of more than 2,048 bytes in CNT_BADSEG. One of an older epoch is refused with
STALE_EPOCH and one of an epoch not known here makes the module ask for it (log entry 46). Where a segment goes (log entry 20), that its
engine holds it back while pages, an earlier run or its staging slot do not take it, in which case nothing happens (log entry 79), and which
completed transfers are forgotten (log entry 80) is the model's choice. -/
def Obligations.DataSegmentsLand : Prop :=
  ∀ (s : State) (p dev : Nat) (c : Carriage) (g : Seg) (dst : SegDst) (data : List Byte) (mask : List Bool),
    p < 12 → (s.port p).st = .up →
    let next := exec (.dataSegment p dev c g dst data mask) s
    let n := data.length
    (s.segWaits dev c.cls g.step dst n = true → next = .next s) ∧
    (∀ w off, dst = .win w off →
      (∀ x, s.win w = some x →
        let may := x.side1 = true ∧ off + n ≤ x.size ∧ bitAt x.perm 1 = true ∧ ((s.groupOf x.pset).any fun m => m.dev == dev) = true
        (may → x.outside = true → s.landing dev c.cls g.step dst n = .ok (x.base + off)) ∧
        (may → x.outside = false → s.landing dev c.cls g.step dst n = .error (some 0x0D)) ∧
        (¬ may → s.landing dev c.cls g.step dst n = .error (some 0x0E))) ∧
      (s.win w = none → s.landing dev c.cls g.step dst n = .error (some 0x0E))) ∧
    (∀ u : State, s.segWaits dev c.cls g.step dst n = false → s.Hears dev g u →
      (g.epoch ≠ 0 → g.epoch < s.txp.epoch → next = .next (u.rejectStale dev c g.seq)) ∧
      (s.knowsEpoch g.epoch = false → next = .next (s.resend dev 2 [g.epoch]))) ∧
    (∀ u : State, s.segWaits dev c.cls g.step dst n = false → s.Hears dev g u → g.seq < 2 ^ 34 →
      g.epoch = 0 ∨ s.txp.epoch ≤ g.epoch → s.knowsEpoch g.epoch = true → (s.txp.old.find? fun e => e.1 == dev) = none →
      let v := u.retireRx dev c.cls c.xfer c.att
      let old := c.cver ≠ 1 ∨ ∃ x, v.rxOf dev c.cls c.xfer = some x ∧ c.att < x.att
      (old → next = .next (v.setPort p ((s.port p).bump 0x78 1))) ∧
      (¬ old → (c.cls = 0 ∨ 5 ≤ c.cls ∨ 2048 < n) → next = .next (v.txpBump 3 1)) ∧
      (¬ old → 1 ≤ c.cls → c.cls < 5 → n ≤ 2048 →
        (s.landing dev c.cls g.step dst n = .error none → next = .next v) ∧
        (∀ code, s.landing dev c.cls g.step dst n = .error (some code) →
          ∃ t : State, ∃ m : OutMsg, next = .next t ∧ t.mem.data = s.mem.data ∧ t.mem.pz = s.mem.pz ∧ t.txp.out = s.txp.out ++ [m] ∧
            m.dev = dev ∧ m.mtype = 0x13 ∧ m.kind = code ∧ (code = 0x0D ∨ code = 0x0E)) ∧
        (∀ a, s.landing dev c.cls g.step dst n = .ok a → s.coll.waiting = [] →
          ∃ t : State, next = .next t ∧ t.ports = s.ports ∧
            (∀ b, Sparse.get 0 t.mem.data b = if a ≤ b ∧ b < a + n then data.getD (b - a) 0 else Sparse.get 0 s.mem.data b) ∧
            ((∀ w ∈ wordsOf a n, Sparse.get Ecc.ok s.mem.ecc w = .ok) →
              ∀ w, t.mem.wordPz w = true ↔
                (w ∈ wordsOf a n ∧ c.pm = true ∧ ∃ i, mask[i]? = some true ∧ a + 8 * i < 8 * w + 8 ∧ 8 * w < a + 8 * i + 8) ∨
                (¬ (a ≤ 8 * w ∧ 8 * w + 8 ≤ a + n) ∧ s.mem.wordPz w = true)) ∧
            (∃ x, t.rxOf dev c.cls c.xfer = some x ∧ x.att = c.att ∧ x.sess = g.session ∧ c.segno ∈ x.segs ∧ (c.last = true → x.last = some c.segno) ∧
              (∀ m, x.last = some m → (∀ k ≤ m, k ∈ x.segs) → x.complete = true)) ∧
            (∀ cid rank blk off d r, dst = .coll cid rank blk off → s.collOf cid = some (d, r) → r.step = g.step → c.segno = 0 →
              c.last = true → ∃ q, t.collOf cid = some (d, q) ∧ (rank, blk, off, n) ∈ q.landed))))

/-- **The collective engine and window DMA.** A block whose contributions have all landed is summed in rank order, written into DSTWIN,
released and counted, once; the owner of an ALLREDUCE has a transfer of the result for every other member; before the inclusion record a RECORD
block is summed provisionally. SRCWIN arrives once no transfer that reads it is left, and waits while one is; the last partner's hand-over is
the window's arrival, one to a window that is inside is answered WINHELD and one of an older epoch STALE_EPOCH; a kept transfer is requested
again on the partner's next port. -/
def Obligations.CollectivesReleaseAndArrive : Prop :=
  (∀ (s : State) (cid blk : Nat) (d : CollDecl) (r : CollRun),
    s.collOf cid = some (d, r) → d.reduces = true → blk < ceilDiv (r.hi d - r.lo d) d.per → (r.released.any fun p => p.1 == blk) = false →
    let a0 := r.lo d + blk * d.per
    let n := min (r.hi d) (a0 + d.per) - a0
    (∀ need, s.needed d r = some need →
      let out := ((List.range n).map fun i =>
        let v := (foldRanks d.rop (need.map fun k => s.contribElem d r blk a0 n k i)).1
        if d.ofmt = cINT32 then leBytes 4 v.toNat else narrow d.ofmt v).flatten
      let off := fmtBits d.ofmt / 8 * (if d.op = 1 then a0 - r.lo d else a0)
      ((need.all fun k => r.hasBlock d k blk) = true → s.dstOpen d = true → s.coll.waiting = [] →
        ∃ t : State, ∃ q, exec (.reductionBlockRelease cid blk) s = .next t ∧
          t.collOf cid = some (d, q) ∧ q.released = r.released ++ [(blk, need)] ∧
          Sparse.get 0 t.coll.cnt 0x004 = sat32 (Sparse.get 0 s.coll.cnt 0x004) 1 ∧
          Sparse.get 0 t.coll.cnt 0x008 =
            sat32 (Sparse.get 0 s.coll.cnt 0x008) (if (r.provisional.any fun p => p.1 == blk && p.2 != need) = true then 1 else 0) ∧
          t.mem.data = Sparse.setRun 0 s.mem.data (s.winBase d.dstWin + off) out ∧
          (d.op = 3 → s.masks.contains .coll = false → out.length ≤ 1048576 → ∀ k < r.members.length, k ≠ r.me →
            t.Carries fun g => g.r = .coll ∧ g.x.dev = r.members.getD k 0 ∧ g.x.dst = some (.win d.dstWin off) ∧ g.x.data = out)) ∧
      (((need.all fun k => r.hasBlock d k blk) = false ∨ s.dstOpen d = false) → exec (.reductionBlockRelease cid blk) s = .next s)) ∧
    (s.needed d r = none → ((List.range r.members.length).all fun k => r.hasBlock d k blk) = true →
      (r.provisional.any fun p => p.1 == blk) = false →
      exec (.reductionBlockRelease cid blk) s =
        .next (s.setRun cid { r with provisional := r.provisional ++ [(blk, List.range r.members.length)] }))) ∧
  (∀ (s : State) (cid blk : Nat) (d : CollDecl) (r : CollRun), s.collOf cid = some (d, r) → (r.released.any fun p => p.1 == blk) = true →
    exec (.reductionBlockRelease cid blk) s = .next s) ∧
  (∀ (s : State) (cid : Nat) (d : CollDecl) (r : CollRun), s.collOf cid = some (d, r) →
    (∀ x, r.srcDone = false → s.srcBusy cid d = false → s.win d.srcWin = some x → s.coll.waiting = [] → d.oneWindow = false →
      ∃ t : State, exec (.srcwinArrival cid) s = .next t ∧ t.collOf cid = some (d, { r with srcDone := true }) ∧
        t.win d.srcWin = some { x with outside := false, xfer := (x.xfer + 1) % 2 ^ 16, issued := [], released := [], handed := [] } ∧
        t.mem.data = s.mem.data ∧ ∀ k ∈ gTiles s.rows x.cons, t.tile k = (s.tile k).incFlag x.aflag) ∧
    ((r.srcDone = true ∨ s.srcBusy cid d = true) → exec (.srcwinArrival cid) s = .next s)) ∧
  (∀ (s u : State) (dev w : Nat) (g : Seg), s.Hears dev g u → g.epoch ≠ 0 → g.epoch < s.txp.epoch →
    exec (.winHandover dev w g) s = .next (u.reject dev 0x02 none s.txp.epoch g.seq)) ∧
  (∀ (s u : State) (dev w : Nat) (g : Seg) (x : Win), s.HearsNow dev g u → s.win w = some x → x.side1 = true →
    let ms := ((s.groupOf x.pset).map (·.dev)).filter fun d => d != s.vent.devId
    let h := if x.handed.contains dev then x.handed else x.handed ++ [dev]
    ms.contains dev = true →
    (x.outside = true → s.collServes w = false →
      ∃ t : State, exec (.winHandover dev w g) s = .next t ∧ t.mem.data = s.mem.data ∧ t.txp = u.txp ∧
        ((ms.all h.contains) = false → t.win w = some { x with handed := h } ∧ t.tiles = s.tiles) ∧
        ((ms.all h.contains) = true → (∀ k ∈ gTiles s.rows x.cons, t.tile k = (s.tile k).incFlag x.aflag) ∧
          t.win w = some { x with outside := false, xfer := (x.xfer + 1) % 2 ^ 16, issued := [], released := [], handed := [] })) ∧
    (x.outside = false → exec (.winHandover dev w g) s = .next (u.reject dev 0x0D none 0 g.seq))) ∧
  (∀ (s : State) (id q : Nat) (w : WaitXfer), s.txp.waiting.find? (fun w => w.id == id) = some w → w.waitWin = false →
    s.sessUp w.g.x.dev = true → s.masks.contains w.g.r = false → s.nextPort w.g.x.dev w.port = some q →
    ∃ t : State, exec (.transferRestart id) s = .next t ∧ t.txp.waiting = s.txp.waiting.filter (fun v => v.id != id) ∧
      t.port q = (s.port q).request s.cc s.aon.ptp { w.g with at' := s.cc, sess := (s.sess w.g.x.dev).num, cut := none } ∧
      (∀ p, p ≠ q → t.port p = s.port p) ∧ t.mem = s.mem)

/-- **Messages between modules.** A message to a group above the device leaves once, to the group's head, as a transfer with its fields and its
mark; it waits behind an earlier message of its tile to the same head and while message egress is masked (log entry 77); without a head in the group, or with
the head's session down, it is answered ABSENT. One from another module is taken by the ring of virtual tile 0 and answered, with ABSENT where
this module is not the head; the answer that comes back is the message's answer. The fields and the layout of the segment and of its answer are
the model's choice (log entry 20). -/
def Obligations.MessageEgress : Prop :=
  (∀ (s : State) (id : Nat) (m : Msg), s.msgs.fly.find? (fun m => m.id == id && m.outward) = some m →
    let next := exec (.messageEgress (.send id)) s
    (s.groupHead m.dest = none → next = .next (s.answerMsg id 3)) ∧
    (∀ d, s.groupHead m.dest = some d →
      (d = s.vent.devId ∨ s.egressEarlier m = true → next = .next s) ∧
      (d ≠ s.vent.devId → s.egressEarlier m = false →
        (s.sessUp d = false → next = .next ((s.answerMsg id 3).needPeer d)) ∧
        (s.sessUp d = true → s.masks.contains .msg = true → next = .next s) ∧
        (s.sessUp d = true → s.masks.contains .msg = false →
          let args := [m.id, m.src, m.dest, m.tag, b2n m.poison] ++ m.words.map (·.toNat)
          ∃ t : State, ∃ o : OutMsg, next = .next t ∧ t.tiles = s.tiles ∧ t.mem = s.mem ∧
            t.msgs.fly = s.msgs.fly.map (fun k => if k.id = id then { k with sentTo := some d } else k) ∧
            t.txp.out = s.txp.out ++ [o] ∧ o.dev = d ∧ o.mtype = 0 ∧ o.args = args ∧ o.session = (s.sess d).num ∧
            t.Carries fun g => g.r = .msg ∧ g.x.dev = d ∧ g.x.cls = 3 ∧ g.x.data = msgBytes args ∧
              g.x.pz = List.replicate (ceilDiv args.length 2) m.poison)))) ∧
  (∀ (s : State) (id : Nat), (∀ m ∈ s.msgs.fly, m.id = id → m.outward = false) → exec (.messageEgress (.send id)) s = .next s) ∧
  (∀ (s : State) (dev : Nat) (m : RMsg),
    let next := exec (.messageEgress (.incoming dev m)) s
    (s.sessUp dev = false ∨ s.masks.contains .msg = true → next = .next s) ∧
    (s.sessUp dev = true → s.masks.contains .msg = false →
      let r : Tile × Nat := if s.groupHead m.dest = some s.vent.devId
        then (s.tile 0).receive ⟨s.rankOf dev, m.src, true, m.dest, m.tag, m.words, m.poison⟩ else (s.tile 0, 3)
      ∃ t : State, ∃ o : OutMsg, next = .next t ∧ t.tile 0 = r.1 ∧
        (∀ k, k ≠ 0 → t.tile k = s.tile k) ∧ t.txp.out = s.txp.out ++ [o] ∧ o.dev = dev ∧ o.args = [m.src, m.dest, m.tag, r.2] ∧
        t.Carries fun g => g.r = .msg ∧ g.x.dev = dev ∧ g.x.data = msgBytes [m.src, m.dest, m.tag, r.2])) ∧
  (∀ (s : State) (id code : Nat),
    ((s.msgs.fly.any fun m => m.id == id && m.sentTo.isSome) = true →
      exec (.messageEgress (.answer id code)) s = .next (s.answerMsg id code)) ∧
    ((s.msgs.fly.any fun m => m.id == id && m.sentTo.isSome) = false → exec (.messageEgress (.answer id code)) s = .next s))

/-- **Session set-up.** An OFFER is refused in clear where its sender is not listed or its incarnation has passed, counts where its certificate
fails, loses against this module's own where the lower device id crosses it, and is answered otherwise, in locked transfers of at most 16
segments; a repeated one has its ANSWER again, with RETRY = 1. A verified ANSWER sends CONFIRM and the session is UP under the derived keys and
number; a verified CONFIRM does so at the other end; one that fails its checks counts and changes nothing else; one that nothing awaits is
ignored. While the domains are held in reset an OFFER does nothing. That an OFFER of another major version, or of a minor version of 256 or
more, is dropped and counted in CNT_BADSEG is the model's choice (log entry 45), not a rule. -/
def Obligations.SessionSetUp : Prop :=
  (∀ (s : State) (p dev code : Nat),
    let t := s.rejectHello p dev code
    ∃ m : OutMsg, t.txp.out = s.txp.out ++ [m] ∧ m.dev = dev ∧ m.mtype = 0x13 ∧ m.kind = code ∧ m.session = 0 ∧
      Sparse.get 0 t.txp.cnt 6 = satN 64 (Sparse.get 0 s.txp.cnt 6 + 1) ∧ t.txp.sessions = s.txp.sessions ∧ t.txp.hands = s.txp.hands) ∧
  (∀ (s : State) (p dev vmaj vmin : Nat) (payload : List Byte), p < 12 →
    let next := exec (.helloOffer p dev vmaj vmin payload) s
    let good := payload.length = 31536 ∧ beNat (slice payload 0 8) = dev ∧ certOk (slice payload 1616 29920) dev = true
    let inc := beNat (slice payload 8 4)
    (s.vent.startup.held = true → next = .next s) ∧
    (s.vent.startup.held = false →
    (vmaj ≠ 1 ∨ 256 ≤ vmin → next = .next (s.txpBump 3 1)) ∧
    (vmaj = 1 → vmin < 256 → s.partner dev = none → next = .next (s.rejectHello p dev 0x0F)) ∧
    (vmaj = 1 → vmin < 256 → s.partner dev ≠ none → ¬ good → next = .next (s.txpBump 2 1)) ∧
    (vmaj = 1 → vmin < 256 → s.partner dev ≠ none → good →
      (∀ h, s.hand dev = some h → h.opener = true → h.phase = 1 → s.vent.devId < dev → next = .next s) ∧
      ((∀ h, s.hand dev = some h → h.opener = true → h.phase = 1 → dev ≤ s.vent.devId) →
        (inc < s.knownInc dev → next = .next (s.rejectHello p dev 0x01)) ∧
        (s.knownInc dev ≤ inc →
          (∀ h, s.hand dev = some h → h.opener = false → h.msgs.take payload.length = payload →
            next = .next (s.sendHello p dev 2 true h.last)) ∧
          ((∀ h, s.hand dev = some h → h.opener = false → h.msgs.take payload.length ≠ payload) →
            ∃ t : State, ∃ m : OutMsg, ∃ h : Hand, next = .next t ∧ t.txp.out = s.txp.out ++ [m] ∧ m.dev = dev ∧ m.mtype = 0x01 ∧ m.kind = 2 ∧
              t.hand dev = some h ∧ h.opener = false ∧ h.phase = 2 ∧ h.inc = inc ∧ m.bytes = h.last ∧ t.knownInc dev = inc ∧
              (t.sess dev).st = (if (s.sess dev).st = .up ∧ s.knownInc dev = inc then .up else .opening) ∧
              ∀ q, s.outPort dev p = some q → s.masks.contains .mgmt = false →
                let n := 16 * (s.port q).maxpay
                ∀ d ∈ pieces n (h.last.length / n + 1) h.last,
                  t.Carries fun g => g.r = .mgmt ∧ g.x.dev = dev ∧ g.x.lock = true ∧ g.x.data = d ∧ g.sess = 0)))))) ∧
  (∀ (s : State) (p dev : Nat) (payload : List Byte), p < 12 →
    ((∀ h, s.hand dev = some h → h.opener = false) → exec (.helloAnswer p dev payload) s = .next s) ∧
    ((∀ h, s.hand dev = some h → h.opener = true ∨ h.phase ≠ 2) → exec (.helloConfirm p dev payload) s = .next s)) ∧
  (∀ (s : State) (p dev : Nat) (payload : List Byte) (h : Hand), p < 12 → s.hand dev = some h → h.opener = true →
    let cert := slice payload 1616 29920
    let th2 := shake256 64 (shake256 64 h.last ++ payload.take 31536)
    let good := payload.length = 61328 ∧ beNat (slice payload 0 8) = dev ∧ certOk cert dev = true ∧
      Config.verify256 (slice cert 16 64) th2 (payload.drop 31536) = true
    (h.phase = 3 → h.msgs = payload → exec (.helloAnswer p dev payload) s = .next (s.sendHello p dev 3 true h.last)) ∧
    (h.phase = 3 → h.msgs ≠ payload → exec (.helloAnswer p dev payload) s = .next s) ∧
    (h.phase ≠ 3 → ¬ good → exec (.helloAnswer p dev payload) s = .next (s.txpBump 2 1)) ∧
    (h.phase ≠ 3 → good → ∃ w : State, ∃ m : OutMsg, exec (.helloAnswer p dev payload) s = .next (w.sessionUp dev) ∧
      (s.isLeader = false → exec (.helloAnswer p dev payload) s = .next w) ∧ (w.sess dev).st = .up ∧
      (w.sess dev).opener = true ∧ (w.sess dev).inc = beNat (slice payload 8 4) ∧ (w.sess dev).txSeq = 0 ∧
      (w.sess dev).num = sessionNumber (h.last ++ payload ++ m.bytes) ∧
      (w.sess dev).okm = sessionKeys (leBytes 32 (Config.kemDecaps h.draw (slice payload 48 1568)).toNat) th2 ∧
      Sparse.get 0 w.txp.cnt 0 = satN 64 (Sparse.get 0 s.txp.cnt 0 + 1) ∧
      m ∈ w.txp.out ∧ m.dev = dev ∧ m.mtype = 0x01 ∧ m.kind = 3)) ∧
  (∀ (s : State) (p dev : Nat) (payload : List Byte) (h : Hand), p < 12 → s.hand dev = some h → h.opener = false → h.phase = 2 →
    let good := payload.length = 29840 ∧ slice payload 16 32 = keyConfirm h.k h.th2 ∧
      Config.verify256 h.key (transcript3 h.k h.th2) (payload.drop 48) = true
    (¬ good → exec (.helloConfirm p dev payload) s = .next (s.txpBump 2 1)) ∧
    (good → ∃ w : State, exec (.helloConfirm p dev payload) s = .next (w.sessionUp dev) ∧
      (s.isLeader = false → exec (.helloConfirm p dev payload) s = .next w) ∧ (w.sess dev).st = .up ∧
      (w.sess dev).opener = false ∧ (w.sess dev).inc = h.inc ∧ (w.sess dev).num = sessionNumber (h.msgs ++ payload) ∧
      (w.sess dev).okm = sessionKeys h.k h.th2 ∧ w.hand dev = none ∧
      Sparse.get 0 w.txp.cnt 0 = satN 64 (Sparse.get 0 s.txp.cnt 0 + 1)))

/-- **Sessions in use, their ends and their timers.** A message through an UP session leaves as transfers under its number; without one the
session opens. A segment of a reserved MTYPE, or with a reserved header field that is not zero, is counted and dropped, and so is one that is
too old or repeated, on the session or on the old one that closes behind it, which sends phase 6 once its transfers are complete both ways. PING
is answered with PONG; CLOSE, the sixteenth tag failure within a second and T_SESS end the session, whose transfers are abandoned, whose messages
are answered ABSENT and whose partial transfers are forgotten. The timers, once they have run, send PING, OFFER or the phase again (RETRY = 1),
before a limit a successor is opened, and a session that stays down is reported. That a session at a limit of R300 ends with its next segment,
the old one too, is the model's choice (log entry 45): the rule only says that it lasts at most so long. -/
def Obligations.SessionsInUse : Prop :=
  let ended (t : State) (dev : Nat) (st : SessSt) : Prop :=
    (t.sess dev).st = st ∧ (∀ r ∈ t.txp.rx, r.dev = dev → r.complete = true) ∧
    (∀ p < 12, (∀ g ∈ (t.port p).pend, g.x.dev ≠ dev) ∧ ∀ g, (t.port p).holder = some g → g.x.dev = dev → g.dead = true) ∧
    ∀ m ∈ t.msgs.fly, m.sentTo = some dev → m.answer ≠ none
  let oldEnded (s t : State) (dev num : Nat) : Prop :=
    (∀ e ∈ t.txp.old, e.1 ≠ dev) ∧ (∀ r ∈ t.txp.rx, r.dev = dev → r.sess = num → r.complete = true) ∧ t.sess dev = s.sess dev ∧
    (∀ p < 12, (∀ g ∈ (t.port p).pend, g.x.dev = dev → g.sess ≠ num) ∧
      ∀ g, (t.port p).holder = some g → g.x.dev = dev → g.sess = num → g.dead = true)
  let offered (s t : State) (dev : Nat) : Prop :=
    ∃ m : OutMsg, ∃ h : Hand, t.txp.out = s.txp.out ++ [m] ∧ m.dev = dev ∧ m.mtype = 0x01 ∧ m.kind = 1 ∧ t.hand dev = some h ∧
      h.opener = true ∧ h.phase = 1 ∧ h.sends = 1 ∧ (t.sess dev).st = (if (s.sess dev).st = .up then .up else .opening)
  (∀ (s : State) (m : OutMsg),
    let x := s.sess m.dev
    let t := s.send m
    (x.st = .up → x.spent s.now = false →
      t.txp.out = s.txp.out ++ [{ m with session := x.num, epoch := s.txp.epoch }] ∧ t.txp.sessions = s.txp.sessions ∧
      t.tiles = s.tiles ∧ t.mem = s.mem ∧
      ∀ q, s.outPort m.dev x.port = some q → s.masks.contains .mgmt = false →
        let n := if m.isHello || m.fwd then 16 * (s.port q).maxpay else 65536
        ∀ d ∈ pieces n (m.payload.length / n + 1) m.payload,
          t.Carries fun g => g.r = .mgmt ∧ g.x.dev = m.dev ∧ g.x.head = m.head ∧ g.x.lock = (m.isHello || m.fwd) ∧ g.x.data = d ∧ g.sess = x.num) ∧
    (x.st = .closed → s.partner m.dev ≠ none → s.handBusy m.dev = false → offered s t m.dev)) ∧
  (∀ (s : State) (dev : Nat) (g : Seg),
    let next := exec (.helloPong dev g) s
    (mtypeKnown g.mtype = false ∨ g.rsv = true → next = .next (s.txpBump 3 1)) ∧
    (mtypeKnown g.mtype = true → g.rsv = false → (s.sess dev).st = .up → (s.sess dev).num = g.session →
      ((s.sess dev).spent s.now = true → ∃ t : State, next = .next t ∧ ended t dev .closed) ∧
      ((s.sess dev).spent s.now = false → (s.sess dev).fresh g.seq = false → next = .next (s.txpBump 2 1))) ∧
    (mtypeKnown g.mtype = true → g.rsv = false → (s.sess dev).st ≠ .up ∨ (s.sess dev).num ≠ g.session →
      (s.txp.old.find? (fun e => e.1 == dev) = none → next = .next s) ∧
      ∀ e, s.txp.old.find? (fun e => e.1 == dev) = some e →
        (e.2.num ≠ g.session ∨ e.2.st ≠ .up → next = .next s) ∧
        (e.2.num = g.session → e.2.st = .up →
          (e.2.spent s.now = true → ∃ t : State, next = .next t ∧ oldEnded s t dev e.2.num) ∧
          (e.2.spent s.now = false → e.2.fresh g.seq = false → next = .next (s.txpBump 2 1)) ∧
          (e.2.spent s.now = false → e.2.fresh g.seq = true →
            next = .next { s with txp := { s.txp with old := Sparse.put s.txp.old dev (e.2.took g.seq s.now) } } ∧
            exec (.helloClose dev g) s =
              .next { s with txp := { s.txp with old := Sparse.del (Sparse.put s.txp.old dev (e.2.took g.seq s.now)) dev } })))) ∧
  (∀ (s : State) (dev : Nat) (e : Nat × Session), s.txp.old.find? (fun e => e.1 == dev) = some e → e.2.st ≠ .closed →
    (∀ q ∈ s.ports, (∀ g ∈ q.2.pend, g.x.dev = dev → g.sess ≠ e.2.num) ∧
      ∀ g, q.2.holder = some g → g.x.dev = dev → g.sess = e.2.num → g.dead = true) →
    (∀ w ∈ s.txp.waiting, w.g.x.dev = dev → w.g.sess ≠ e.2.num) →
    (∀ r ∈ s.txp.rx, r.dev = dev → r.sess = e.2.num → r.complete = true) →
    (s.closeOld dev).txp.out = s.txp.out ++ [{ outMsg dev 0x01 6 0 [] [] with session := e.2.num, epoch := s.txp.epoch }]) ∧
  (∀ (s u : State) (dev : Nat) (g : Seg), s.Hears dev g u →
    (g.seq < 2 ^ 34 → ∃ t : State, exec (.helloPing dev g) s = .next t ∧ t.txp.out = s.txp.out ++
      [{ outMsg dev 0x01 5 0 [] [] with ref := g.seq % 65536, session := g.session, epoch := s.txp.epoch }]) ∧
    exec (.helloPong dev g) s = .next u ∧
    (∃ t : State, exec (.helloClose dev g) s = .next t ∧ ended t dev .closed)) ∧
  (∀ (s : State) (dev : Nat) (why : AuthFail),
    let fl := ((s.sess dev).fails.filter fun c => decide (s.now < c + nsPerSec)) ++ [s.now]
    (s.vent.startup.held = true → exec (.segmentAuthFail dev why) s = .next s) ∧
    (s.vent.startup.held = false →
    (why ≠ .badTag ∨ (s.sess dev).st ≠ .up → exec (.segmentAuthFail dev why) s = .next (s.txpBump 2 1)) ∧
    (why = .badTag → (s.sess dev).st = .up → fl.length < 16 →
      exec (.segmentAuthFail dev why) s = .next ((s.txpBump 2 1).setSess dev { s.sess dev with fails := fl })) ∧
    (why = .badTag → (s.sess dev).st = .up → 16 ≤ fl.length →
      ∃ t : State, exec (.segmentAuthFail dev why) s = .next t ∧ ended t dev .closed ∧
        0 < (Sparse.get (⟨0, 0, 0⟩ : Summary) (t.node 0x5000).sums 0x0501).count))) ∧
  (∀ (s : State) (dev : Nat) (h : Hand), s.hand dev = some h →
    (3 ≤ h.phase ∨ s.now < h.at' + 2 * nsPerSec → exec (.tHsExpiry dev) s = .next s) ∧
    (h.phase < 3 → h.at' + 2 * nsPerSec ≤ s.now →
      (h.sends < 5 → exec (.tHsExpiry dev) s =
        .next ((s.setHand dev { h with sends := h.sends + 1, at' := s.now }).sendHello h.port dev h.phase true h.last)) ∧
      (5 ≤ h.sends → ∃ t : State, exec (.tHsExpiry dev) s = .next t ∧ t.hand dev = none ∧
        (t.sess dev).st = (if (s.sess dev).st = .up then .up else .closed)))) ∧
  (∀ (s : State) (dev : Nat), (s.sess dev).st = .up →
    ((s.sess dev).txAt + 100 * nsPerMs ≤ s.now → exec (.tPingExpiry dev) s = .next (s.send (outMsg dev 0x01 4 0 [] []))) ∧
    (s.now < (s.sess dev).txAt + 100 * nsPerMs → exec (.tPingExpiry dev) s = .next s) ∧
    exec (.sessionDown60s dev) s = .next s ∧
    ((s.sess dev).since + s.txp.tSessMs * nsPerMs ≤ s.now → ∃ t : State, exec (.tSessExpiry dev) s = .next t ∧ ended t dev .lost ∧
      Sparse.get 0 t.txp.cnt 1 = satN 64 (Sparse.get 0 s.txp.cnt 1 + 1)) ∧
    (s.now < (s.sess dev).since + s.txp.tSessMs * nsPerMs → exec (.tSessExpiry dev) s = .next s) ∧
    ((s.sess dev).spent s.now = false → (∀ e ∈ s.txp.old, e.1 = dev → e.2.spent s.now = false) →
      s.partner dev ≠ none → s.handBusy dev = false →
      ∃ t : State, exec (.sessionLifetimeLimit dev) s = .next t ∧ offered s t dev) ∧
    ((s.sess dev).spent s.now = true → ∃ t : State, exec (.sessionLifetimeLimit dev) s = .next t ∧ ended t dev .closed)) ∧
  (∀ (s : State) (dev : Nat), (s.sess dev).st = .lost ∨ (s.sess dev).st = .closed →
    exec (.tPingExpiry dev) s = .next s ∧ exec (.tSessExpiry dev) s = .next s ∧
    ((s.sess dev).since + 60 * nsPerSec ≤ s.now → exec (.sessionDown60s dev) s = .next (s.health 0x0031 (leBytes 8 dev))) ∧
    (s.now < (s.sess dev).since + 60 * nsPerSec → exec (.sessionDown60s dev) s = .next s) ∧
    ((s.sess dev).stAt + nsPerSec ≤ s.now → s.partner dev ≠ none → s.handBusy dev = false →
      ∃ t : State, exec (.tReconExpiry dev) s = .next t ∧ offered s t dev) ∧
    (s.now < (s.sess dev).stAt + nsPerSec → exec (.tReconExpiry dev) s = .next s))

/-- **Membership and the opening of a step.** A message of an older epoch is refused with STALE_EPOCH; one of an epoch that this module does
not have is kept and the epoch is asked for. JOIN and LEAVE are refused with NOTLEADER elsewhere and with their reason where R304 names one,
and are otherwise kept for the next epoch and accepted. Requests for the list, the epoch or the contributions are answered. An EPOCH that is
known is acknowledged again, unless its record is still on its way to the journal; one whose list fails its digest makes the member ask for the
full list; a verified one is journaled, to be acknowledged with its SEQ as REF, and in force at once for a takeover and at the step boundary
otherwise. A STEP_OPEN opens the step at a member of the job that has not closed it. The model's choices, which no rule states: that the founding
module makes epoch 1 and opens the first step once every OWNER slot has its joiner (log entry 78); that LEAVE of a device that is no member is
refused with NOTMEMBER, the later acknowledgement of a known EPOCH, and that a request for the list or the epoch is answered though its sender's
epoch is older (46); the deputy that a member takes the new leader to have, and that a STEP_OPEN of a suspended device is ignored (47). -/
def Obligations.Membership : Prop :=
  (∀ (s u : State) (dev : Nat) (g : Seg), s.Hears dev g u → g.session ≠ 0 → dev ≠ s.vent.devId →
     ∀ (vmaj : Nat) (j : JoinMsg) (so : StepOpenMsg) (cm : ContribMsg) (am : AcceptMsg) (rm : RejectMsg) (cls xfer att : Nat)
       (rs : List Nat) (fm : FinalMsg) (id : ContribId) (reply : Option ContribMsg) (status : AuditStatus) (odig : List Byte),
     ∀ w : Nat, ∀ e ∈ ([(.join dev vmaj g j, .join vmaj j), (.leave dev g, .leave), (.stepOpen dev g so, .stepOpen so),
             (.stepOpenTakeover dev g, .takeover), (.contrib dev g cm, .contrib cm), (.contribFwd dev g cm, .contribFwd cm),
             (.accept dev g am, .accept am), (.reject dev g rm, .reject rm), (.resendXfer dev g cls xfer att, .resendXfer cls xfer att),
             (.resendContrib dev g, .resendContrib), (.resendList dev g, .resendList), (.resendEpoch dev g, .resendEpoch),
             (.winHandover dev w g, .handover w), (.stepCloseFreeze dev g, .freeze), (.stepCloseFreezeAck dev g rs, .freezeAck rs),
             (.stepCloseFinal dev g fm, .final fm), (.auditReq dev g id, .auditReq id), (.auditReply dev g reply id, .auditReply reply id),
             (.auditReport dev g id status odig, .auditReport id status odig)] : List (Instr × TxpMsg)),
       (g.epoch ≠ 0 → g.epoch < s.txp.epoch → e.2.asksEpoch = false → exec e.1 s = .next (u.reject dev 0x02 none s.txp.epoch g.seq)) ∧
       (s.awaits g e.2 = true → exec e.1 s = .next
         (({ u with txp := { u.txp with heldMsgs := u.txp.heldMsgs ++ [(dev, g, e.2)] } } : State).send
           (outMsg dev 0x14 2 0 [max g.epoch e.2.epoch] [])))) ∧
  (∀ (s u : State) (dev : Nat) (g : Seg), s.HearsNow dev g u →
     (∀ (vmaj : Nat) (j : JoinMsg),
       let l := (s.txp.joiners.filter fun k => k.dev != dev) ++ [⟨dev, j.inc, s.joinSlot dev j, j.coords, false⟩]
       (s.isLeader = false → exec (.join dev vmaj g j) s = .next (u.reject dev 0x03 none s.txp.leader g.seq)) ∧
       (s.isLeader = true → ∀ code, s.joinRefusal dev vmaj j = some code →
         exec (.join dev vmaj g j) s = .next (u.reject dev code none 0 g.seq)) ∧
       (s.isLeader = true → s.joinRefusal dev vmaj j = none → g.seq < 2 ^ 34 →
         (s.founder = false → ∃ t : State, ∃ m : OutMsg, exec (.join dev vmaj g j) s = .next t ∧
           t.txp.joiners = l ∧ t.txp.members = s.txp.members ∧ t.txp.out = s.txp.out ++ [m] ∧ m.dev = dev ∧ m.mtype = 0x12 ∧ m.kind = 2) ∧
         (∀ im, s.founder = true → s.vent.image = some im → (im.slots.all fun e => !e.2 || l.any fun m => m.slot == e.1) = true →
           ∃ t : State, ∃ o : StepSt, exec (.join dev vmaj g j) s = .next t ∧ t.txp.epoch = 1 ∧ t.txp.open' = some o ∧
             o.step = s.txp.lastClosed + 1 ∧ o.epoch = 1 ∧ t.txp.joiners = []))) ∧
     ((s.isLeader = false → exec (.leave dev g) s = .next (u.reject dev 0x03 none s.txp.leader g.seq)) ∧
       (s.isLeader = true → s.member dev = none → exec (.leave dev g) s = .next (u.reject dev 0x08 none 0 g.seq)) ∧
       (s.isLeader = true → s.member dev ≠ none → ∃ t : State, exec (.leave dev g) s = .next t ∧
         t.txp.leaves = (s.txp.leaves.filter fun e => e.1 != dev) ++ [(dev, g.step)] ∧ t.txp.members = s.txp.members)) ∧
     (s.suspended dev = false → exec (.resendContrib dev g) s = .next
       ((s.txp.outs.filter fun o => o.settled.isNone).foldl (fun (v : State) o => v.sendContrib o.c)
         { u with txp := { u.txp with leader := dev } })) ∧
     (s.suspended dev = true → exec (.resendContrib dev g) s = .next u)) ∧
  (∀ (s u : State) (dev : Nat) (g : Seg), s.Hears dev g u → s.knowsEpoch g.epoch = true →
     (∀ e l rest, s.txp.epochs = (e, l) :: rest →
       exec (.resendEpoch dev g) s = .next (u.send { outMsg dev 0x04 0 0 [] (epochBytes e) with ref := g.seq % 65536, takeover := e.takeover, retry := true }) ∧
       (s.isLeader = true → exec (.resendList dev g) s = .next ((pieces 1600 4 l).foldl (fun (v : State) p =>
         v.send { outMsg dev 0x04 1 0 [] (epochBytes { e with joiners := p, leavers := l.filter (·.suspended), full := true }) with
           ref := g.seq % 65536
           takeover := e.takeover }) u))) ∧
     (s.txp.epochs = [] → exec (.resendEpoch dev g) s = .next u ∧ (s.isLeader = true → exec (.resendList dev g) s = .next u)) ∧
     (s.isLeader = false → exec (.resendList dev g) s = .next (u.reject dev 0x03 none s.txp.leader g.seq))) ∧
  (∀ (s u : State) (dev : Nat) (g : Seg) (m : EpochMsg), s.Hears dev g u →
     let next := exec (.epoch dev g m) s
     (g.epoch ≠ 0 → g.epoch < s.txp.epoch → next = .next (u.reject dev 0x02 none s.txp.epoch g.seq)) ∧
     (g.epoch = 0 ∨ s.txp.epoch ≤ g.epoch →
       (m.takeover = true → s.suspended dev = true → next = .next (u.rejectTakeover dev 0x10 g.step g.seq)) ∧
       (m.takeover = false ∨ s.suspended dev = false →
         (s.txp.epoch ≠ 0 → s.knowsEpoch m.epoch = true →
           (s.epochWaits = true → next = .next u) ∧
           (s.epochWaits = false → next = .next (u.send { acceptMsg dev 4 [] [] with ref := g.seq % 65536 }))) ∧
         (s.txp.epoch = 0 ∨ s.knowsEpoch m.epoch = false →
           (∀ ps, s.epochList m = (none, ps) → next = .next { u with txp := { u.txp with parts := ps } }) ∧
           (∀ l ps, s.epochList m = (some l, ps) →
             (¬ (l.length = m.count ∧ listDigest l = padTo 32 m.ldig) → next = .next
               (({ u with txp := { u.txp with parts := [] } } : State).send (outMsg dev 0x14 1 0 [m.epoch] []))) ∧
             (l.length = m.count → listDigest l = padTo 32 m.ldig →
               let t := u.takeEpoch dev g.seq m l
               next = .next t.runHeld ∧
               (m.takeover = true → s.vent.journal.mounted = true → s.vent.journal.damaged = false →
                 t.vent.journal = s.vent.journal.push 0x41 (epochBytes m ++ m.ldig) (.epochMade dev g.seq)) ∧
               (m.takeover = true → t.txp.epoch = m.epoch ∧ t.txp.members = l ∧ t.txp.leader = dev) ∧
               (m.takeover = false → s.txp.open' ≠ none →
                 t.txp.next = some (m, l) ∧ t.txp.epoch = s.txp.epoch ∧ t.txp.members = s.txp.members) ∧
               (m.takeover = false → s.txp.open' = none → m.first ≤ s.txp.lastClosed + 1 → t.txp.epoch = m.epoch ∧ t.txp.members = l))))))) ∧
  (∀ (s u : State) (dev : Nat) (g : Seg) (m : StepOpenMsg), s.Hears dev g u → g.epoch = 0 ∨ s.txp.epoch ≤ g.epoch →
     s.awaits g (.stepOpen m) = false →
     (s.suspended dev = true → exec (.stepOpen dev g m) s = .next u) ∧
     (s.suspended dev = false →
       let v := (u.boundary m.step).takeTimers
       (∀ e, s.txp.next = some e → e.1.first ≤ m.step → v.txp.epoch = e.1.epoch ∧ v.txp.members = e.2 ∧ v.txp.next = none) ∧
       (∀ a b c, s.txp.newTimers = some (a, b, c) → v.txp.tSessMs = a ∧ v.txp.tInclMs = b ∧ v.txp.tLeadMs = c) ∧
       (¬ v.txp.devs.contains s.vent.devId ∨ m.step ≤ s.txp.lastClosed ∨ (∃ o, s.txp.open' = some o ∧ m.step ≤ o.step) →
         exec (.stepOpen dev g m) s = .next v) ∧
       (v.txp.devs.contains s.vent.devId → s.txp.lastClosed < m.step → (∀ o, s.txp.open' = some o → o.step < m.step) →
         exec (.stepOpen dev g m) s = .next (({ v with
           txp := { v.txp with
             open' := some ⟨m.step, m.epoch, m.b, m.tInclMs, m.chain, [], none, none, []⟩
             leader := dev
             deputy := v.standing.find? fun d => d != dev
             chain := if m.step = s.txp.lastClosed + 1 then m.chain else s.txp.chain } } : State).sendOuts m.step))))

/-- **Contributions are checked, journaled, then accepted.** A module that does not lead refuses a contribution, a suspended member's with FENCED.
The leader makes the checks of Table 12-7 in their order, each with its reason and detail: one that it holds with the same digests is accepted
again and counted, unless its record still waits for the deputy's copy, with whose ACCEPT it is answered; with other digests it is a fault,
journaled and refused, whose device is suspended; one that passes is journaled as a WATERMARK record before any answer, at the leader and, with
FWD = 1, at the deputy, which answers a copy that it holds again. The deputy's ACCEPT accepts the contribution. ACCEPT settles it at its member,
and that is journaled. FENCED before NOTLEADER at a module that does not lead is R329's order, as the model reads it, and the deputy's BUSY is the
model's choice (log entry 47). -/
def Obligations.ContributionsAreJournaledFirst : Prop :=
  (∀ (s u : State) (dev : Nat) (g : Seg) (m : ContribMsg), s.HearsNow dev g u → dev ≠ s.vent.devId →
    let full := 95 ≤ s.vent.journal.usePct ∨ s.vent.journal.damaged = true ∨ s.vent.journal.mounted = false
    let record := contribBytes m ++ leBytes 2 (m.id.seq + 1)
    let mine := s.txp.wms.find? fun w => w.c.id = m.id
    let next := exec (.contrib dev g m) s
    (s.isLeader = false → s.suspended m.id.dev = true → next = .next (u.reject dev 0x10 (some m.id) 0 g.seq)) ∧
    (s.isLeader = false → s.suspended m.id.dev = false → next = .next (u.reject dev 0x03 (some m.id) s.txp.leader g.seq)) ∧
    (s.isLeader = true →
      (∀ w, mine = some w →
        (w.committed = false → next = .next { u with txp := { u.txp with held := u.txp.held ++ [(dev, g.seq, m)] } }) ∧
        (w.committed = true → m.idig = w.c.idig ∧ m.odig = w.c.odig → s.copyAwaited w = true → next = .next { u with
          txp := { u.txp with
            wms := u.txp.wms.map fun v => if v.c.id = m.id then { v with from' := dev, ref := g.seq, fwd := false } else v } }) ∧
        (w.committed = true → ¬ (m.idig = w.c.idig ∧ m.odig = w.c.odig) ∨ s.copyAwaited w = false →
          m.id.dev ≠ s.vent.devId → g.seq < 2 ^ 34 →
          ∃ t : State, ∃ a : OutMsg, next = .next t ∧ t.txp.out = s.txp.out ++ [a] ∧ a.dev = dev ∧
            (m.idig = w.c.idig ∧ m.odig = w.c.odig → a.mtype = 0x12 ∧ a.kind = 0 ∧ a.args = [w.wm] ∧ a.bytes = idBytes m.id ∧ a.ref = g.seq % 65536 ∧
              (∀ v ∈ t.txp.wms, v.c.id = m.id → v.accepted = true) ∧
              Sparse.get 0 t.txp.cnt 5 = satN 64 (Sparse.get 0 s.txp.cnt 5 + 1)) ∧
            (¬ (m.idig = w.c.idig ∧ m.odig = w.c.odig) → a.mtype = 0x13 ∧ a.kind = 0x07 ∧ m.id.dev ∈ t.txp.suspend ∧
              Sparse.get 0 t.txp.cnt 12 = satN 64 (Sparse.get 0 s.txp.cnt 12 + 1) ∧
              (s.vent.journal.mounted = true → s.vent.journal.damaged = false → t.vent.journal = s.vent.journal.push 0x46
                (idBytes m.id ++ (padTo 32 w.c.idig ++ padTo 32 w.c.odig ++ padTo 32 m.idig ++ padTo 32 m.odig)) .nothing)))) ∧
      (mine = none →
        let member := ((s.txp.listAt m.id.step).any fun x => x.dev == m.id.dev && x.inc == m.id.inc) = true
        let future := s.txp.lastClosed < m.id.step ∧ s.txp.open'.map (·.step) ≠ some m.id.step
        let closed := m.id.step ≤ s.txp.lastClosed ∨ s.closeOf m.id.step ≠ none
        let n := s.watermark m.id.dev m.id.step
        let no (code detail : Nat) : Prop := next = .next (u.reject dev code (some m.id) detail g.seq)
        (¬ member → no 0x08 0) ∧
        (member → m.id.inc < s.knownInc m.id.dev → no 0x01 0) ∧
        (member → s.knownInc m.id.dev ≤ m.id.inc →
          (s.suspended m.id.dev = true → no 0x10 0) ∧
          (s.suspended m.id.dev = false →
            (future → no 0x04 0) ∧
            (¬ future → closed → no 0x05 0) ∧
            (¬ future → ¬ closed →
              (m.id.seq ≠ n → no 0x06 n) ∧
              (m.id.seq = n → full → no 0x11 0) ∧
              (m.id.seq = n → ¬ full →
                ∃ t : State, next = .next t ∧ t.txp.out = s.txp.out ∧
                  t.txp.wms = s.txp.wms ++ [⟨m, m.id.seq + 1, dev, g.seq, false, false, false, 0, 0⟩] ∧
                  t.vent.journal = s.vent.journal.push 0x44 record (.watermark m.id))))))) ∧
    (let fwd := exec (.contribFwd dev g m) s
     (s.suspended dev = true → fwd = .next (u.reject dev 0x10 (some m.id) 0 g.seq)) ∧
     (s.suspended dev = false →
       (∀ w, mine = some w → (w.committed = false → fwd = .next u) ∧
         (w.committed = true → fwd = .next (u.send { acceptMsg dev 1 [w.wm] (idBytes m.id) with
           fwd := true
           step := m.id.step
           ref := g.seq % 65536 }))) ∧
       (mine = none → full → fwd = .next (u.reject dev 0x11 (some m.id) 0 g.seq)) ∧
       (mine = none → ¬ full →
         ∃ t : State, fwd = .next t ∧ t.txp.out = s.txp.out ∧ t.txp.deputy = some s.vent.devId ∧
           t.txp.wms = s.txp.wms ++ [⟨m, m.id.seq + 1, dev, g.seq, true, false, false, 0, 0⟩] ∧
           t.vent.journal = s.vent.journal.push 0x44 record (.watermark m.id))))) ∧
  (∀ (s u : State) (dev : Nat) (g : Seg) (id : ContribId), s.HearsNow dev g u →
    (s.isLeader = true → s.txp.deputy = some dev → (∃ w ∈ s.txp.wms, w.c.id = id ∧ w.committed = true ∧ w.accepted = false) →
      ∃ t : State, exec (.accept dev g (.fwd id)) s = .next t ∧ (∀ w ∈ t.txp.wms, w.c.id = id → w.accepted = true) ∧
        Sparse.get 0 t.txp.cnt 4 = satN 64 (Sparse.get 0 s.txp.cnt 4 + 1)) ∧
    (∀ wm, (s.txp.outs.any fun o => o.c.id = id ∧ o.settled.isNone) = true →
      ∃ t : State, exec (.accept dev g (.contrib id wm)) s = .next t ∧
        t.txp.outs = s.txp.outs.map (fun o => if o.c.id = id then { o with settled := some 0 } else o) ∧
        (s.vent.journal.mounted = true → s.vent.journal.damaged = false →
          t.vent.journal = s.vent.journal.push 0x43 (idBytes id ++ leBytes 1 0) .nothing)))

/-- **Refusals, resends and restarts.** A refused OFFER ends its exchange; a contribution that is refused goes to the leader that the refusal
names, is taken up at the part that the refusal names, waits for its timer, or is settled with the reason; a reserved reason does nothing; a
transfer that was of an old epoch starts again, and the epoch is asked for; a WINHELD transfer waits for T_WIN; a transfer asked for again restarts
under its next ATT, after the fifteenth RESEND or at ATT 15 under a new XFER. T_CONTRIB, T_JOIN, T_XFER and T_WIN, once they have run, repeat what
Table 12-10 says, the leader's copy to its deputy too, and 60 s after a JOIN has failed it is made afresh; before that they do nothing. The
founder's case of T_JOIN and of the fresh JOIN is the model's choice (log entry 78), and so are the new XFER at ATT 15 and the restart on another
port (44), the transfer that a STALE_EPOCH refusal names (46) and what a REJECT MISMATCH of another's contribution does (49). -/
def Obligations.RefusalsAndResends : Prop :=
  (∀ (s : State) (dev : Nat) (g : Seg) (m : RejectMsg) (h : Hand), g.session = 0 → s.hand dev = some h → h.opener = true → h.phase = 1 →
    m.code = 0x01 ∨ m.code = 0x0F →
    ∃ t : State, exec (.reject dev g m) s = .next t ∧ t.hand dev = none ∧
      (t.sess dev).st = (if (s.sess dev).st = .up then .up else .closed)) ∧
  (∀ (s u : State) (dev : Nat) (g : Seg) (m : RejectMsg), g.session ≠ 0 → s.HearsNow dev g u →
    let next := exec (.reject dev g m) s
    (∀ id, m.id = some id →
      (m.code = 0x07 → id.dev ≠ s.vent.devId → next = .next (u.health 0x0034 (leBytes 8 s.vent.devId))) ∧
      (m.code ≠ 0x07 ∨ id.dev = s.vent.devId → s.isLeader = true → next = .next u) ∧
      (m.code = 0x04 ∨ m.code = 0x11 ∨ m.code = 0 ∨ 0x12 < m.code → next = .next u) ∧
      (m.code = 0x02 → s.isLeader = false → next = .next (u.resend s.txp.leader 2 [m.detail])) ∧
      (m.code = 0x06 → s.isLeader = false →
        next = .next ((s.txp.outs.filter fun o => o.settled.isNone && o.c.id.step == id.step && o.c.id.seq == m.detail).foldl
          (fun (v : State) o => v.sendContrib o.c) u)) ∧
      (m.code = 0x03 → s.isLeader = false → m.detail ≠ 0 → m.detail ≠ s.vent.devId → m.detail ≠ s.txp.leader →
        next = .next ((s.txp.outs.filter fun o => o.settled.isNone && o.c.id.step == id.step && o.c.id.seq == id.seq).foldl
          (fun (v : State) o => v.sendContrib o.c) { u with txp := { u.txp with leader := m.detail } })) ∧
      (m.code ∉ [0x02, 0x03, 0x04, 0x06, 0x11] → 1 ≤ m.code → m.code ≤ 0x12 → m.code ≠ 0x07 ∨ id.dev = s.vent.devId → s.isLeader = false → (s.txp.outs.any fun o => o.c.id = id ∧ o.settled.isNone) = true →
        ∃ t : State, next = .next t ∧
          t.txp.outs = s.txp.outs.map (fun o => if o.c.id = id then { o with settled := some m.code } else o) ∧
          (s.vent.journal.mounted = true → s.vent.journal.damaged = false →
            t.vent.journal = s.vent.journal.push 0x43 (idBytes id ++ leBytes 1 m.code) .nothing))) ∧
    (m.id = none → m.code = 0x02 → m.detail / 2 ^ 48 = 0 → next = .next (u.resend dev 2 [m.detail % 2 ^ 32])) ∧
    (∀ p h, m.id = none → m.code = 0x02 → m.detail / 2 ^ 48 ≠ 0 → g.seq < 2 ^ 34 → h.att < 15 → s.txp.sentX.find? (fun e => e.2.x.dev == dev &&
        e.2.x.cls == m.detail / 2 ^ 48 && e.2.x.xfer == m.detail / 2 ^ 32 % 65536 && !e.2.dead) = some (p, h) →
      ∃ t : State, ∃ w : WaitXfer, next = .next t ∧ t.txp.waiting = s.txp.waiting ++ [w] ∧ w.waitWin = false ∧ w.port = p ∧ w.g.x = h.x ∧
        w.g.att = h.att + 1 ∧ t.txp.out = s.txp.out ++ [{ outMsg dev 0x14 2 0 [m.detail % 2 ^ 32] [] with
          session := g.session
          epoch := s.txp.epoch }]) ∧
    (∀ p h, m.id = none → (s.sentGrant dev 2 m.detail).orElse (fun _ => s.sentGrant dev 1 m.detail) = some (p, h) →
      (m.code = 0x0D → h.att < 15 → ∃ t : State, ∃ w : WaitXfer, next = .next t ∧ t.txp.waiting = s.txp.waiting ++ [w] ∧ w.waitWin = true ∧
        w.port = p ∧ w.at' = s.now ∧ w.g.x = h.x ∧ w.g.att = h.att + 1) ∧
      (m.code = 0x0E → ∃ t : State, next = .next t ∧ t.txp.waiting = s.txp.waiting ∧
        let same (k : Grant) : Prop := k.x.dev = dev ∧ k.x.cls = h.x.cls ∧ k.x.xfer = h.x.xfer
        (∀ e ∈ t.txp.sentX, ¬ same e.2) ∧ (∀ k ∈ (t.port p).pend, ¬ same k) ∧
          ∀ k, (t.port p).holder = some k → same k → k.dead = true))) ∧
  (∀ (s u : State) (dev p cls xfer att : Nat) (g : Seg) (h : Grant), s.HearsNow dev g u → s.sentGrant dev cls xfer = some (p, h) →
    (att < h.att → exec (.resendXfer dev g cls xfer att) s = .next u) ∧
    (h.att ≤ att → ∃ t : State, ∃ w : WaitXfer, exec (.resendXfer dev g cls xfer att) s = .next t ∧
      t.txp.waiting = s.txp.waiting ++ [w] ∧ w.waitWin = false ∧ w.port = p ∧ w.g.r = h.r ∧ w.g.x.dev = h.x.dev ∧ w.g.x.data = h.x.data ∧
      (h.resends < 14 → h.att < 15 → w.g.x = h.x ∧ w.g.att = h.att + 1 ∧ w.g.resends = h.resends + 1) ∧
      (14 ≤ h.resends ∨ 15 ≤ h.att → w.g.x.xfer = Sparse.get 0 s.txp.xferNo h.x.cls ∧ w.g.att = 0 ∧ w.g.resends = 0))) ∧
  (∀ (s u : State) (dev cls xfer att : Nat) (g : Seg), s.HearsNow dev g u → s.sentGrant dev cls xfer = none →
    exec (.resendXfer dev g cls xfer att) s = .next u) ∧
  (∀ (s : State) (part : Nat),
    (s.dueOut part = none ↔ ∀ o ∈ s.txp.outs, o.settled = none → o.c.id.seq = part → 1 ≤ o.sends → o.at' + tContrib o.sends ≤ s.now →
      s.isLeader = true ∧ ∃ w ∈ s.txp.wms, w.c.id = o.c.id) ∧
    (s.dueOut part = none → s.isLeader = false ∨ s.txp.deputy = none ∨ s.dueCopy part = none → exec (.tContribExpiry part) s = .next s) ∧
    (∀ d w, s.dueOut part = none → s.isLeader = true → s.txp.deputy = some d → s.dueCopy part = some w → s.sessUp d = true →
      (s.sess d).spent s.now = false →
      ∃ t : State, ∃ m : OutMsg, exec (.tContribExpiry part) s = .next t ∧ t.txp.out = s.txp.out ++ [m] ∧ m.dev = d ∧ m.mtype = 0x11 ∧
        m.fwd = true ∧ m.retry = true ∧ m.args = [w.wm] ∧ m.bytes = contribBytes w.c ∧
        t.txp.wms = s.txp.wms.map (fun v => if v.c.id = w.c.id then { v with copies := w.copies + 1, copyAt := s.now } else v)) ∧
    (∀ o, s.dueOut part = some o → s.isLeader = false → s.txp.leader ≠ 0 → s.sessUp s.txp.leader = true →
      (s.sess s.txp.leader).spent s.now = false →
      ∃ t : State, ∃ m : OutMsg, exec (.tContribExpiry part) s = .next t ∧ t.txp.out = s.txp.out ++ [m] ∧ m.dev = s.txp.leader ∧
        m.mtype = 0x11 ∧ m.retry = true ∧ m.bytes = contribBytes o.c ∧
        t.txp.outs = s.txp.outs.map (fun k => if k.c.id = o.c.id then { k with sends := k.sends + 1, at' := s.now } else k) ∧
        t.host = if o.sends = 16 then s.host.post s.aon.ptp 0x03
          (leBytes 2 0x0032 ++ padTo 12 (leBytes 6 o.c.id.step ++ leBytes 2 part)) else s.host)) ∧
  (∀ s : State,
    (s.txp.joinPending = false ∨ s.founder = true ∨ s.now < s.txp.joinAt + 10 * nsPerSec → exec .tJoinExpiry s = .next s) ∧
    (s.txp.joinPending = true → s.founder = false → s.txp.joinAt + 10 * nsPerSec ≤ s.now →
      (s.txp.joinSends < 4 → exec .tJoinExpiry s = .next
        (({ s with txp := { s.txp with joinSends := s.txp.joinSends + 1 } } : State).sendJoin (s.txp.partners.map (·.dev)) true)) ∧
      (4 ≤ s.txp.joinSends → exec .tJoinExpiry s = .next
        (({ s with txp := { s.txp with joinPending := false, joinAt := s.now } } : State).health 0x0035 (leBytes 1 0))))) ∧
  (∀ (s : State) (j : JoinMsg) (im : Image), s.txp.joinMsg = some j → s.txp.joinPending = false → s.txp.devs.contains s.vent.devId = false →
    s.vent.image = some im → im.man.txpmaj ≠ 0 →
    let k : JoinMsg := { j with inc := s.vent.incarnation, digest := im.digest.take 32 }
    (s.now < s.txp.joinAt + 60 * nsPerSec → exec .freshJoin s = .next s) ∧
    (s.txp.joinAt + 60 * nsPerSec ≤ s.now → s.txp.epoch ≠ 0 ∨ s.firstSlot ≠ some j.slot →
      ∃ t : State, exec .freshJoin s = .next t ∧ t.txp.joinPending = true ∧ t.txp.joinSends = 1 ∧ t.txp.joinAt = s.now ∧
        t.txp.joinMsg = some k ∧ t.txp.joiners = s.txp.joiners) ∧
    (s.txp.joinAt + 60 * nsPerSec ≤ s.now → s.txp.epoch = 0 → s.firstSlot = some j.slot →
      let l := (s.txp.joiners.filter fun m => m.dev != s.vent.devId) ++ [⟨s.vent.devId, k.inc, j.slot, j.coords, false⟩]
      (∃ e ∈ im.slots, e.2 = true ∧ ∀ m ∈ l, m.slot ≠ e.1) →
      ∃ t : State, exec .freshJoin s = .next t ∧ t.txp.joinPending = true ∧ t.txp.joinMsg = some k ∧ t.txp.joiners = l)) ∧
  (∀ (s : State) (dev cls xfer : Nat) (r : RxXfer),
    s.txp.rx.find? (fun r => r.dev == dev && r.cls == cls && r.xfer == xfer && !r.complete) = some r →
    (s.now < r.at' + tXfer dev s.now → exec (.tXferExpiry dev cls xfer) s = .next s) ∧
    (r.at' + tXfer dev s.now ≤ s.now → s.sessUp dev = true → (s.sess dev).spent s.now = false →
      ∃ t : State, ∃ m : OutMsg, exec (.tXferExpiry dev cls xfer) s = .next t ∧ t.txp.out = s.txp.out ++ [m] ∧ m.dev = dev ∧
        m.mtype = 0x14 ∧ m.kind = 0 ∧ m.args = [cls, xfer, r.att] ∧ t.mem = s.mem ∧
        Sparse.get 0 t.txp.cnt 9 = satN 64 (Sparse.get 0 s.txp.cnt 9 + 1))) ∧
  (∀ (s : State) (id : Nat) (w : WaitXfer), s.txp.waiting.find? (fun w => w.id == id && w.waitWin) = some w →
    (s.now < w.at' + nsPerMs → exec (.tWinExpiry id) s = .next s) ∧
    (w.at' + nsPerMs ≤ s.now → exec (.tWinExpiry id) s = .next ((({ s with
      txp := { s.txp with waiting := s.txp.waiting.map fun w => if w.id = id then { w with waitWin := false } else w } } : State).txpBump
        10 1).restart id)))

/-- **Freezing and closing a step.** A frozen member stops its EARLY releases of that step and answers with the ranks it has released; the leader
counts each answer once. It closes the step, with the ranks that are not ABSENT, once every member is COMPLETE, or once the freeze is answered and
each is ABSENT or COMPLETE. A member journals FINAL before it answers, and acknowledges one that it has journaled again; with its ACCEPT the leader
owes it no FINAL any more. T_INCL, counted from the first COMPLETE member, starts the freeze, and T_FREEZE repeats it with RETRY = 1, then suspends
and fences the silent. That FREEZE and FINAL of a suspended device are ignored, and the members that a bitmap counts after a reset, are the model's
choices (log entry 47): R329 names CONTRIB, FREEZE_ACK and the takeover messages alone. -/
def Obligations.FreezingAndClosing : Prop :=
  (∀ (s u : State) (dev : Nat) (g : Seg), s.HearsNow dev g u →
    (s.isLeader = true ∨ s.suspended dev = true → exec (.stepCloseFreeze dev g) s = .next u) ∧
    (s.isLeader = false → s.suspended dev = false → g.seq < 2 ^ 34 →
      ∃ t : State, ∃ m : OutMsg, exec (.stepCloseFreeze dev g) s = .next t ∧
        t.txp.frozenStep = some g.step ∧ t.txp.open' = s.txp.open' ∧ m.ref = g.seq % 65536 ∧
        t.txp.out = s.txp.out ++ [m] ∧ m.dev = dev ∧ m.mtype = 0x15 ∧ m.kind = 1 ∧ m.step = g.step ∧ m.args = s.releasedRanks g.step ∧
        m.bytes = rankMapTx s.mapLen (s.releasedRanks g.step))) ∧
  (∀ (s u : State) (dev : Nat) (g : Seg) (released : List Nat), s.HearsNow dev g u →
    (s.suspended dev = true → exec (.stepCloseFreezeAck dev g released) s = .next (u.reject dev 0x10 none 0 g.seq)) ∧
    (∀ o f, s.suspended dev = false → s.isLeader = true → s.txp.open' = some o → o.freeze = some f → o.step = g.step →
      s.standing.contains dev = true →
      ∃ w : State, exec (.stepCloseFreezeAck dev g released) s = .next w.tryClose ∧
        ∃ p : StepSt, w.txp.open' = some p ∧
          p.committedDevs = o.committedDevs ++ (released.filterMap fun k => s.txp.devs[k]?).filter (fun d => !o.committedDevs.contains d) ∧
          p.freeze = some { f with answered := if f.answered.contains dev then f.answered else f.answered ++ [dev] } ∧
          p.step = o.step ∧ w.txp.closes = s.txp.closes ∧ w.txp.wms = s.txp.wms)) ∧
  (∀ (s : State) (o : StepSt), s.txp.open' = some o →
    let complete := ∀ d ∈ s.txp.devs, s.npart ≤ s.acceptedParts d o.step
    let answered := ∃ f, o.freeze = some f ∧ ∀ d ∈ s.standing, d = s.vent.devId ∨ d ∈ f.answered
    let settled := ∀ d ∈ s.txp.devs, s.absent? o d = true ∨ s.npart ≤ s.acceptedParts d o.step
    (s.isLeader = true → s.closeOf o.step = none → complete ∨ (answered ∧ settled) →
      ∃ c : CloseRec, s.tryClose.txp.closes = s.txp.closes ++ [c] ∧ c.step = o.step ∧
        c.epoch = o.epoch ∧ c.devs = s.txp.devs ∧ c.made = false ∧
        c.included = (List.range s.txp.members.length).filter (fun r => !s.absent? o (s.txp.devs.getD r 0)) ∧
        c.excluded = s.txp.members.length - c.included.length ∧ c.chain = s.chainOf o c.included ∧ c.owed = [] ∧ c.prev = o.chain ∧
        s.tryClose.txp.members = s.txp.members ∧ s.tryClose.txp.out = s.txp.out ∧
        (s.vent.journal.mounted = true → s.vent.journal.damaged = false →
          s.tryClose.vent.journal = s.vent.journal.push 0x45 (closeBytes s.txp.members.length c) (.closeMade 0))) ∧
    ((s.isLeader = false ∨ s.closeOf o.step ≠ none ∨ ¬ (complete ∨ (answered ∧ settled))) → s.tryClose = s)) ∧
  (∀ (s u : State) (dev : Nat) (g : Seg) (m : FinalMsg), s.HearsNow dev g u → s.knowsEpoch m.epoch = true →
    (s.isLeader = true ∨ s.suspended dev = true → exec (.stepCloseFinal dev g m) s = .next u) ∧
    (s.isLeader = false → s.suspended dev = false →
      (s.closeOf m.step = none →
        let ds := (s.txp.listAt m.step).map (·.dev)
        let c : CloseRec := ⟨m.step, m.epoch, ds, m.included, m.excluded, m.chain, false, false, [], (s.chainBefore m.step).getD []⟩
        ∃ t : State, exec (.stepCloseFinal dev g m) s = .next t ∧ t.txp.closes = s.txp.closes ++ [c] ∧ t.txp.out = s.txp.out ∧
          (s.vent.journal.mounted = true → s.vent.journal.damaged = false → t.vent.journal =
            s.vent.journal.push 0x45 (closeBytes (if ds.isEmpty then s.mapLen else ds.length) c) (.closeMade g.seq))) ∧
      (∀ c, s.closeOf m.step = some c → c.made = false → exec (.stepCloseFinal dev g m) s = .next u) ∧
      (∀ c, s.closeOf m.step = some c → c.made = true → g.seq < 2 ^ 34 →
        ∃ t : State, ∃ o : OutMsg, exec (.stepCloseFinal dev g m) s = .next t ∧
          t.txp.closes = s.txp.closes ∧ t.txp.out = s.txp.out ++ [o] ∧ o.dev = dev ∧ o.mtype = 0x12 ∧ o.kind = 5 ∧ o.step = m.step ∧ o.ref = g.seq % 65536))) ∧
  (∀ (s u : State) (dev : Nat) (g : Seg), s.HearsNow dev g u → s.txp.deputy ≠ some dev →
    exec (.accept dev g .close) s = .next { u with txp := { u.txp with
      closes := u.txp.closes.map fun c => if c.step = g.step then { c with owed := c.owed.filter fun e => e.1 != dev } else c } }) ∧
  (∀ (s : State) (o : StepSt), s.txp.open' = some o → s.isLeader = true → s.closeOf o.step = none →
    (∀ a, o.inclAt = some a → a + o.tInclMs * nsPerMs ≤ s.now → o.freeze = none →
      ∃ t : State, ∃ p : StepSt, exec .tInclExpiry s = .next t ∧ t.txp.open' = some p ∧ p.step = o.step ∧ t.txp.frozenStep = some o.step ∧
        p.freeze = some ⟨1, s.now, []⟩ ∧
        ∀ d ∈ s.standing, d ≠ s.vent.devId → s.sessUp d = true → (s.sess d).spent s.now = false →
          ∃ m ∈ t.txp.out, m.dev = d ∧ m.mtype = 0x15 ∧ m.kind = 0 ∧ m.step = o.step) ∧
    ((∀ a, o.inclAt = some a → s.now < a + o.tInclMs * nsPerMs) → exec .tInclExpiry s = .next s) ∧
    (∀ f, o.freeze = some f →
      let missing := s.standing.filter fun d => d != s.vent.devId && !f.answered.contains d
      (missing = [] ∨ s.now < f.at' + 2 * nsPerSec → exec .tFreezeExpiry s = .next s) ∧
      (missing ≠ [] → f.at' + 2 * nsPerSec ≤ s.now →
        (f.sends < 3 → exec .tFreezeExpiry s = .next (({ s with
          txp := { s.txp with open' := some { o with freeze := some { f with sends := f.sends + 1, at' := s.now } } } } : State).sendFreeze
            { o with freeze := some { f with sends := f.sends + 1, at' := s.now } } true missing)) ∧
        (3 ≤ f.sends → ∃ w : State, exec .tFreezeExpiry s = .next w.tryClose ∧ w.txp.fenced = s.txp.fenced ++ missing ∧
          w.txp.suspend = s.txp.suspend ++ missing.filter fun d => !s.txp.suspend.contains d))))

/-- **Leader failover.** A vote is given only to a standing proposer, while this module has had no UP session to the leader for T_LEAD, and is
counted once for a proposer and an epoch; what is not voted for is refused in an answer with TAKEOVER = 1. After T_LEAD the deputy proposes, again
with RETRY = 1, and a member without a deputy in reach, or the deputy of two standing members, of whom no majority forms, reports that the job
holds. The votes of more than half of the standing members, the deputy's own among them, are journaled as the takeover. A leader that has reached
fewer than half of the standing members for T_LEAD steps down; a deputy lost for T_LEAD is replaced by the next standing member in reach, to
which a waiting CLOSE record goes. -/
def Obligations.LeaderFailover : Prop :=
  let lost (s : State) (d : Nat) : Prop := (s.sess d).st ≠ .up ∧ (s.sess d).since + s.txp.tLeadMs * nsPerMs ≤ s.now
  (∀ (s u : State) (dev : Nat) (g : Seg), s.HearsNow dev g u →
    let grant := s.txp.leader ≠ s.vent.devId ∧ lost s s.txp.leader
    let yes : OutMsg := { acceptMsg dev 6 [] [] with takeover := true, step := g.step, ref := g.seq % 65536 }
    let next := exec (.stepOpenTakeover dev g) s
    (s.suspended dev = true → next = .next (u.rejectTakeover dev 0x10 g.step g.seq)) ∧
    (s.suspended dev = false → grant → s.txp.votedFor = some (dev, s.txp.epoch) → next = .next (u.send yes)) ∧
    (s.suspended dev = false → grant → s.txp.votedFor ≠ some (dev, s.txp.epoch) → next = .next
      ((({ u with txp := { u.txp with votedFor := some (dev, s.txp.epoch) } } : State).txpBump 8 1).send yes)) ∧
    (s.suspended dev = false → ¬ grant → next = .next ((u.txpBump 6 1).send
      { outMsg dev 0x13 0x12 g.step [0] (rejectBytes 0x12 none 0) with takeover := true, ref := g.seq % 65536 }))) ∧
  (∀ (s u : State) (dev : Nat) (g : Seg), s.HearsNow dev g u →
    let next := exec (.accept dev g .takeover) s
    (s.suspended dev = true → next = .next (u.rejectTakeover dev 0x10 g.step g.seq)) ∧
    (s.suspended dev = false →
      (s.txp.voting = false ∨ dev ∈ s.txp.votes ∨ dev ∉ s.standing → next = .next u) ∧
      (s.txp.voting = true → dev ∉ s.txp.votes → dev ∈ s.standing →
        ∃ t : State, next = .next t ∧ t.txp.votes = s.txp.votes ++ [dev] ∧ t.txp.out = s.txp.out ∧
          (2 * (s.txp.votes.length + 2) ≤ s.standing.length → t.txp.voting = true ∧ t.vent.journal = s.vent.journal) ∧
          (s.standing.length < 2 * (s.txp.votes.length + 2) → t.txp.voting = false ∧
            (s.vent.journal.mounted = true → s.vent.journal.damaged = false → t.vent.journal = s.vent.journal.push 0x47
              (leBytes 4 (s.txp.epoch + 1) ++ leBytes 6 s.stepNo ++ leBytes 8 s.txp.leader) .takeover))))) ∧
  (∀ s : State,
    (s.txp.leader = s.vent.devId ∨ s.txp.devs.contains s.vent.devId = false ∨ ¬ lost s s.txp.leader → exec .tLeadDeputyExpiry s = .next s) ∧
    (s.txp.leader ≠ s.vent.devId → s.txp.devs.contains s.vent.devId = true → lost s s.txp.leader →
      (s.txp.deputy = some s.vent.devId → s.suspended s.vent.devId = false →
        let w : State := { s with txp := { s.txp with voting := true, votes := if s.txp.voting then s.txp.votes else [] } }
        let t := w.sendAll (s.standing.filter fun d => d != s.txp.leader)
          { outMsg 0 0x10 1 s.stepNo [] [] with takeover := true, retry := s.txp.voting }
        (2 < s.standing.length → exec .tLeadDeputyExpiry s = .next t) ∧
        (s.standing.length ≤ 2 → exec .tLeadDeputyExpiry s = .next (t.health 0x0033 (leBytes 8 s.txp.leader)))) ∧
      (s.txp.deputy = some s.vent.devId → s.suspended s.vent.devId = true → exec .tLeadDeputyExpiry s = .next s) ∧
      (∀ d, s.txp.deputy = some d → d ≠ s.vent.devId → s.sessUp d = true → exec .tLeadDeputyExpiry s = .next s) ∧
      (s.txp.deputy = none ∨ (∃ d, s.txp.deputy = some d ∧ d ≠ s.vent.devId ∧ s.sessUp d = false) →
        exec .tLeadDeputyExpiry s = .next (s.health 0x0033 (leBytes 8 s.txp.leader))))) ∧
  (∀ s : State,
    (let up := (s.standing.filter fun d => d == s.vent.devId || s.sessUp d).length
     s.leadCheck.txp.minorAt = if s.isLeader = true ∧ 2 * up < s.standing.length then some (s.txp.minorAt.getD s.now) else none) ∧
    (∀ a, s.isLeader = true → s.txp.minorAt = some a → a + s.txp.tLeadMs * nsPerMs ≤ s.now →
      exec .tLeadStepDown s = .next { s with txp := { s.txp with steppedDown := true } } ∧
      (s.founder = false → ({ s with txp := { s.txp with steppedDown := true } } : State).isLeader = false)) ∧
    ((s.isLeader = false ∨ ∀ a, s.txp.minorAt = some a → s.now < a + s.txp.tLeadMs * nsPerMs) → exec .tLeadStepDown s = .next s)) ∧
  (∀ (s : State) (d : Nat), s.txp.deputy = some d →
    (s.isLeader = false ∨ ¬ lost s d → exec .tLeadDeputyLost s = .next s) ∧
    (s.isLeader = true → lost s d →
      let t := s.nameDeputy
      (∀ e, s.standing.find? (fun k => k != s.vent.devId && s.sessUp k) = some e → t.txp.deputy = some e) ∧
      (s.standing.find? (fun k => k != s.vent.devId && s.sessUp k) = none → t.txp.deputy = none) ∧
      (t.closeWaiting = none → exec .tLeadDeputyLost s = .next t) ∧
      (∀ c, t.closeWaiting = some c →
        (∀ e, t.txp.deputy = some e → exec .tLeadDeputyLost s = .next (t.copyClose e false c)) ∧
        (t.txp.deputy = none → exec .tLeadDeputyLost s = .next (t.finishClose c))))) ∧
  (∀ s : State, s.txp.deputy = none → exec .tLeadDeputyLost s = .next s)

/-- **Audits.** The leader or the deputy answers REQ with the accepted contribution of a closed step, or EXPIRED; a module assigned by the leader
asks for it, or is UNABLE for a part that its image does not mark as auditable; REPLY asks the host for the input, or ends the audit; the release
of AOUTWIN ends it with a REPORT and is counted. At the leader a MISMATCH goes to a second auditor; two that agree against the record suspend the
contributor. T_AUDIT, after 600 s, asks the deputy once and then gives up. The model's choices, which R325 and R326 do not state (log entry 49):
UNABLE where CHAIN of the step before is not known, that a second request is ignored, and that every second report that does not confirm the first
posts event 0x0A naming the first auditor and two HEALTH 0x0034 at the leader, whose REJECT MISMATCH tells both auditors. Poisoned output matches
nothing (86). -/
def Obligations.Audits : Prop :=
  (∀ (s u : State) (dev : Nat) (g : Seg) (id : ContribId), s.HearsNow dev g u → dev ≠ s.vent.devId →
    let next := exec (.auditReq dev g id) s
    let rec' := s.txp.wms.find? fun w => decide (w.c.id = id) && w.committed && (w.accepted || w.fwd) && decide (id.step ≤ s.txp.lastClosed)
    (s.isLeader = true ∨ (dev ≠ s.txp.leader ∧ s.txp.deputy = some s.vent.devId) →
      (∀ w, rec' = some w → next = .next (u.send
        { auditMsg dev 1 [0, w.wm] (contribBytes w.c ++ beBytes 2 w.wm) with step := id.step, ref := g.seq % 65536 })) ∧
      (rec' = none → next = .next (u.send { auditMsg dev 1 [1] (idBytes id) with step := id.step, ref := g.seq % 65536 }))) ∧
    (s.isLeader = false → dev ≠ s.txp.leader → s.txp.deputy ≠ some s.vent.devId →
      next = .next (u.reject dev 0x03 none s.txp.leader g.seq)) ∧
    (s.isLeader = false → dev = s.txp.leader →
      ((∀ a, s.vent.image.bind (·.audit) = some a → bitAt a.mask id.seq = false) ∨ s.chainBefore id.step = none →
        next = .next (u.send { auditMsg dev 2 [2] (idBytes id) with step := id.step, ref := g.seq % 65536 })) ∧
      (∀ a, s.vent.image.bind (·.audit) = some a → bitAt a.mask id.seq = true → s.chainBefore id.step ≠ none →
        (s.txp.audit ≠ none → next = .next u) ∧
        (s.txp.audit = none → g.seq < 2 ^ 34 →
          ∃ t : State, ∃ m : OutMsg, next = .next t ∧ t.txp.audit = some ⟨id, false, s.now, none, false⟩ ∧
            t.txp.out = s.txp.out ++ [m] ∧ m.dev = dev ∧ m.mtype = 0x20 ∧ m.kind = 0 ∧ m.bytes = idBytes id)))) ∧
  (∀ (s u : State) (dev : Nat) (g : Seg) (id : ContribId), s.HearsNow dev g u →
    (∀ a, s.txp.audit = some a → a.id = id → a.reply = none →
      exec (.auditReply dev g none id) s = .next { u with txp := { u.txp with audit := none } } ∧
      (∀ c : ContribMsg, c.id = id → exec (.auditReply dev g (some c) id) s = .next
        (({ u with txp := { u.txp with audit := some { a with reply := some c } } } : State).post 0x0E
          (leBytes 6 id.step ++ leBytes 8 c.sfirst)))) ∧
    (s.txp.audit = none → ∀ reply, exec (.auditReply dev g reply id) s = .next u)) ∧
  (∀ (s u : State) (dev : Nat) (g : Seg) (id : ContribId) (odig : List Byte), s.HearsNow dev g u →
    (s.isLeader = false → ∀ status, exec (.auditReport dev g id status odig) s = .next (u.reject dev 0x03 none s.txp.leader g.seq)) ∧
    (s.isLeader = true → s.txp.cases.find? (fun k => decide (k.id = id)) = none →
      exec (.auditReport dev g id .matched odig) s = .next u ∧
      (∀ d, s.nextAuditor id dev [id.dev] = some d → s.sessUp d = true → (s.sess d).spent s.now = false → d ≠ dev → d ≠ s.vent.devId →
        ∃ t : State, ∃ m : OutMsg, exec (.auditReport dev g id .mismatch odig) s = .next t ∧
          t.txp.cases = s.txp.cases ++ [⟨id, dev, odig, d⟩] ∧ t.txp.out = s.txp.out ++ [m] ∧ m.dev = d ∧ m.mtype = 0x20 ∧ m.kind = 0)) ∧
    (∀ k, s.isLeader = true → s.txp.cases.find? (fun k => decide (k.id = id)) = some k →
      (dev ≠ k.second → ∀ status, exec (.auditReport dev g id status odig) s = .next u) ∧
      (dev = k.second →
        let found := padTo 32 odig = padTo 32 k.odig ∧ padTo 32 odig ≠ (s.recorded id).2
        (found → ∃ t : State, exec (.auditReport dev g id .mismatch odig) s = .next t ∧ id.dev ∈ t.txp.suspend ∧
          t.txp.cases = s.txp.cases.filter (fun k => decide (k.id ≠ id)) ∧
          Sparse.get 0 t.txp.cnt 12 = satN 64 (Sparse.get 0 s.txp.cnt 12 + 1)) ∧
        (¬ found → dev ≠ s.vent.devId → k.auditor ≠ s.vent.devId → g.seq < 2 ^ 34 → s.sessUp k.auditor = true →
          (s.sess k.auditor).spent s.now = false →
          ∃ t : State, ∃ m n : OutMsg, exec (.auditReport dev g id .mismatch odig) s = .next t ∧ t.txp.suspend = s.txp.suspend ∧
          t.txp.out = s.txp.out ++ [m, n] ∧ m.dev = k.auditor ∧ m.mtype = 0x13 ∧ m.kind = 0x07 ∧ n.dev = dev ∧ n.mtype = 0x13 ∧ n.kind = 0x07 ∧
          t.txp.cases = s.txp.cases.filter (fun k => decide (k.id ≠ id)) ∧
          t.host = ((s.host.post s.aon.ptp 0x0A (leBytes 8 k.auditor ++ leBytes 4 id.step)).post s.aon.ptp 0x03
            (leBytes 2 0x0034 ++ padTo 12 (leBytes 8 k.auditor))).post s.aon.ptp 0x03 (leBytes 2 0x0034 ++ padTo 12 (leBytes 8 dev)))))) ∧
  (∀ (s : State) (t : Nat) (r : WrelFly) (rest : List WrelFly) (v : Win) (a : Audit) (c : ContribMsg), t < 1536 →
    (s.tile t).wrels = r :: rest → (∀ f ∈ (s.tile t).feeds, f.id ∉ r.after) → s.win r.win = some v → v.side1 = false →
    (∀ k ∈ gTiles s.rows v.cons, k = t ∨ k ∈ v.released) → s.isAout r.win = true → s.txp.audit = some a → a.running = true →
    a.reply = some c → s.isLeader = false → s.sessUp s.txp.leader = true → (s.sess s.txp.leader).spent s.now = false →
    let n := leNat (s.memBytes v.base 8)
    let od := shake256 32 (s.memBytes (v.base + 8) n)
    let pz := ((s.memRead v.base 8).memRead (v.base + 8) n).mem.rangePz v.base (8 + n)
    ∃ u : State, ∃ m : OutMsg, exec (.wrelTakeEffect t) s = .next u ∧ u.txp.audit = none ∧ u.txp.out = s.txp.out ++ [m] ∧
      m.dev = s.txp.leader ∧ m.mtype = 0x20 ∧ m.kind = 2 ∧ m.args = [if od = padTo 32 c.odig ∧ pz = false then 0 else 1] ∧ m.bytes = idBytes a.id ++ od ∧
      Sparse.get 0 u.txp.cnt 11 = satN 64 (Sparse.get 0 s.txp.cnt 11 + 1)) ∧
  (∀ (s : State) (a : Audit), s.txp.audit = some a → a.reply = none →
    (s.now < a.at' + 600 * nsPerSec → exec .tAuditExpiry s = .next s) ∧
    (a.at' + 600 * nsPerSec ≤ s.now →
      (a.toDeputy = true ∨ s.txp.deputy = none → exec .tAuditExpiry s = .next { s with txp := { s.txp with audit := none } }) ∧
      (∀ d, a.toDeputy = false → s.txp.deputy = some d → exec .tAuditExpiry s = .next
        (({ s with txp := { s.txp with audit := some { a with toDeputy := true, at' := s.now } } } : State).send
          { auditMsg d 0 [] (idBytes a.id) with step := a.id.step }))))

/-- **The journal.** A batch write takes the records of the batch in their order, each at the next SEQ, into the OPEN sector where it fits and
into the next ERASED one otherwise, whose header then bears MARK, STATE, GEN and its check; an OUTBOUND or WATERMARK record waits while use is at
95 % or more when its turn comes; without a record that can be written, or in a journal that is not mounted or damaged, nothing happens. The mark of
95 % is posted once and that of 99 % ends in Dormant. Compaction, beyond 75 %, moves the base to its own beginning and leaves the sectors before it
OBSOLETE, which are then erased one at a time. That every record but OUTBOUND and WATERMARK is still written from 95 % on, and when the marks are
taken, is the model's choice (log entry 50): R396 lists some types as kept and no others. -/
def Obligations.JournalWrites : Prop :=
  (∀ (j : Journal) (p : PendRec),
    (j.usePct < 95 → j.waits p = false) ∧ (95 ≤ j.usePct → (j.waits p = true ↔ p.typ = 0x42 ∨ p.typ = 0x44))) ∧
  (∀ s : State, s.vent.journal.mounted = false ∨ s.vent.journal.damaged = true ∨ s.vent.startup.held = true →
    exec .journalBatchWrite s = .next s ∧ exec .journalCompaction s = .next s) ∧
  (∀ s : State, (∀ p ∈ s.vent.journal.batch, s.vent.journal.waits p = true) → exec .journalBatchWrite s = .next s) ∧
  (∀ s : State, s.vent.journal.mounted = true → s.vent.journal.damaged = false → s.vent.startup.held = false →
    (∃ p ∈ s.vent.journal.batch, s.vent.journal.waits p = false) →
    let w := s.writeBatch State.commitFull
    exec .journalBatchWrite s = .next w.checkUse ∧
    (∀ p k, p.next = .nothing → s.vent.journal.append p.typ p.payload = some k →
      (s.vent.journal.batch = [p] → w.vent.journal = { k with batch := [] } ∧ k.nextSeq = s.vent.journal.nextSeq + 1 ∧
        (∃ r ∈ (k.sector k.cur).recs, r.typ = p.typ ∧ r.payload = p.payload ∧ r.seq = s.vent.journal.nextSeq ∧ r.committed = true)) ∧
      (∀ q, s.vent.journal.batch = [p, q] → s.vent.journal.waits p = false → k.waits q = true → w.vent.journal = { k with batch := [q] }) ∧
      (∀ q, s.vent.journal.batch = [q, p] → s.vent.journal.waits q = true → w.vent.journal = { k with batch := [q] }))) ∧
  (∀ s : State,
    (s.vent.journal.high = true → s.vent.journal.highPosted = false → s.vent.journal.above 99 = false → ∃ t : State, s.checkUse = t ∧
      t.vent.journal = { s.vent.journal with highPosted := true } ∧
      t.host = s.host.post s.aon.ptp 0x03 (leBytes 2 0x0040 ++ padTo 12 (leBytes 1 s.vent.journal.usePct))) ∧
    (s.vent.journal.high = false ∨ s.vent.journal.highPosted = true → s.vent.journal.above 99 = false → s.checkUse = s) ∧
    (s.vent.journal.above 99 = true → s.vent.dev ≠ .dormant → s.checkUse.vent.dev = .dormant ∧ s.checkUse.vent.dcause = 0x0402)) ∧
  (∀ (j : Journal) (typ : Nat) (payload : List Byte), j.damaged = false →
    ((j.sector j.cur).st = .opened → (j.sector j.cur).used + recSize payload.length ≤ 65536 →
      ∃ k, j.append typ payload = some k ∧ k.cur = j.cur ∧
        (k.sector k.cur).recs = (j.sector j.cur).recs ++ [⟨typ, payload, j.nextSeq, true, none⟩]) ∧
    (∀ i, (j.sector j.cur).st = .opened → 65536 < (j.sector j.cur).used + recSize payload.length → j.nextErased 3584 j.cur = some i →
      i ≠ j.cur → ∃ k, j.append typ payload = some k ∧ k.cur = i ∧ (k.sector j.cur).st = .full ∧ (k.sector i).st = .opened ∧
        (k.sector i).gen = j.nextSeq ∧ (k.sector i).header.take 16 = [0x53, 0x5A, 0xFE, 0xFF, 0xFF, 0xFF, 0xFF, 0xFF] ++ leBytes 8 j.nextSeq ∧
        (k.sector i).headOk = true)) ∧
  (∀ s : State, s.vent.journal.mounted = true → s.vent.journal.damaged = false → s.vent.startup.held = false →
    (∀ i, s.vent.journal.obsolete = some i →
      ∃ k : Journal, exec .journalCompaction s = .next { s with vent := { s.vent with journal := k } } ∧ (k.sector i).st = .erased ∧
        (∀ n, n ≠ i → k.sector n = s.vent.journal.sector n) ∧ k.highPosted = (s.vent.journal.highPosted && k.high)) ∧
    (s.vent.journal.obsolete = none →
      (s.vent.journal.above 75 = false → exec .journalCompaction s = .next s) ∧
      (∀ k, s.vent.journal.above 75 = true → s.vent.journal.compact s.liveRecords = some k →
        exec .journalCompaction s = .next ({ s with vent := { s.vent with journal := k } } : State).checkUse ∧
        k.base = s.vent.journal.nextSeq ∧
        ∀ e ∈ k.sectors, e.1 ≠ k.cur → (∀ r ∈ e.2.recs, r.seq < s.vent.journal.nextSeq) → e.2.st = .obsolete)))

/-- **Vent's periodic duties.** The heartbeat counts; a refusal is reported at most once a millisecond; the poll clears every RC counter,
and its shadow takes what it held (shown for CAL.CNT_BAR); the PLDM sensors are refreshed. Current and power are free values (log entry
9) and are not stated. -/
def Obligations.VentsPeriodicDuties : Prop :=
  (∀ s : State, s.ventRuns = true → exec .heartbeatTick s = .next { s with host := { s.host with hbeat := s.host.hbeat + 1 } }) ∧
  (∀ s : State, s.ventRuns = false → exec .heartbeatTick s = .next s) ∧
  (∀ s : State, s.host.refused = 0 → exec .winRefusedEvent s = .next s) ∧
  (∀ s : State, s.aon.power = false → exec .pldmSensorUpdate s = .next s) ∧
  (∀ s : State, s.host.refused ≠ 0 →
    (s.host.refusedAt = 0 ∨ s.host.refusedAt + ccPerMs ≤ s.cc + 1 → ∃ t : State, exec .winRefusedEvent s = .next t ∧ t.host.refused = 0 ∧
      t.host.refusedAt = s.cc + 1 ∧ t.host.tail = (s.host.post s.aon.ptp 0x06
        (leBytes 1 s.host.refusedWin ++ [0] ++ leBytes 4 s.host.refused)).tail) ∧
    (s.host.refusedAt ≠ 0 → s.cc + 1 < s.host.refusedAt + ccPerMs → exec .winRefusedEvent s = .next s)) ∧
  (∀ s : State, s.ventRuns = true → ∃ t : State, exec .counterShadowPoll s = .next t ∧ t.mem.cnt = [] ∧ t.mem.stall = [] ∧ t.mig.cnt = [] ∧
    t.mesh.cntPkt = 0 ∧ t.cal.cntBar = 0 ∧ t.coll.cnt = [] ∧ (∀ p, (t.port p).cnt = []) ∧ (∀ k, (t.tile k).cnt = []) ∧
    t.mem.data = s.mem.data ∧
    (s.mem.cnt = [] → s.mem.stall = [] → s.mig.cnt = [] → s.ports = [] → s.coll.cnt = [] → s.tiles = [] →
      Sparse.get 0 t.host.shadow (shadowKey 4 0 0x010) =
        satN 64 (Sparse.get 0 s.host.shadow (shadowKey 4 0 0x010) + s.cal.cntBar.toNat))) ∧
  (∀ s : State, s.aon.power = true → ∃ t : State, exec .pldmSensorUpdate s = .next t ∧ t.aon = s.aon ∧ t.host = s.host ∧
    Sparse.get 0 t.side.sensors 1 = s.aon.hottest 0 39 / 256 ∧ Sparse.get 0 t.side.sensors 2 = s.aon.hottest 40 47 / 256 ∧
    Sparse.get 0 t.side.sensors 3 = s.aon.hottest 48 63 / 256 ∧ Sparse.get 0 t.side.sensors 4 = (Sparse.get 0 s.aon.volts 23 / 1000 : Nat) ∧
    Sparse.get 0 t.side.sensors 7 = (s.vent.dev.code : Nat) ∧ Sparse.get 0 t.side.sensors 8 = (if s.aon.pace = 0 then 0 else 1) ∧
    Sparse.get 0 t.side.sensors 9 = (s.vent.ledger.used : Nat))

/-- **Monitors and thermal pacing.** A sample replaces every reading, and a sensor out of range no longer counts; the level rises at once to
what readings and inputs ask, and falls by one once every sensor has stood 3 °C below for 100 ms and no input holds it; a sensor that has stood at
its trip for 10 ms halts the image and makes the module Dormant; a voltage excursion is reported, and so is, once, an oscillator that has fallen by
more than 8 % of its baseline in the MANUFACTURE record. The shift of a baseline to the present temperature is an operand (log entry 53). -/
def Obligations.MonitorsAndPacing : Prop :=
  (∀ (s : State) (temps : List Int) (volts oscs : List Nat), s.aon.power = true →
    ∃ t : State, exec (.monitorSample temps volts oscs) s = .next t ∧ t.vent = s.vent ∧ t.aon.ptp = s.aon.ptp ∧ t.aon.pace = s.aon.pace ∧
      (∀ i v, i < 64 → temps[i]? = some v → Sparse.get 0 t.aon.temps i = v ∧ (v < -10240 ∨ 38400 < v → t.aon.excluded.contains i = true)) ∧
      (∀ i v, i < 24 → volts[i]? = some v → Sparse.get 0 t.aon.volts i = v) ∧
      (∀ i v, i < 32 → oscs[i]? = some v → Sparse.get 0 t.aon.oscs i = v)) ∧
  (∀ s : State, s.aon.power = true → s.vent.startup.held = false →
    (s.aon.pace < s.aon.wanted → ∃ t : State, exec .pacingLevelUpdate s = .next t ∧ t.aon.pace = s.aon.wanted ∧
      t.aon.thermAlert = (s.aon.wanted == 4) ∧ t.tiles = s.tiles ∧ t.mem = s.mem) ∧
    (∀ c, s.aon.wanted ≤ s.aon.pace → 0 < s.aon.pace → (∀ e ∈ s.aon.included, e.2 ≤ paceThr e.1 s.aon.pace - 768) →
      s.aon.paceBelow = some c →
      (c + 100 * ccPerMs ≤ s.cc → s.aon.throttled = false → s.aon.blind = false → ∃ t : State, exec .pacingLevelUpdate s = .next t ∧ t.aon.pace = s.aon.pace - 1 ∧ t.aon.paceBelow = none) ∧
      (s.cc < c + 100 * ccPerMs ∨ s.aon.throttled = true ∨ s.aon.blind = true → exec .pacingLevelUpdate s = .next s)) ∧
    (s.aon.wanted ≤ s.aon.pace → 0 < s.aon.pace →
      let near := ∃ e ∈ s.aon.included, paceThr e.1 s.aon.pace - 768 < e.2
      (near → exec .pacingLevelUpdate s = .next { s with aon := { s.aon with paceBelow := none } }) ∧
      (¬ near → s.aon.paceBelow = none → exec .pacingLevelUpdate s = .next { s with aon := { s.aon with paceBelow := some s.cc } }))) ∧
  (∀ (s : State) (i : Nat), i < 64 → s.vent.startup.held = false → s.vent.dev ≠ .dormant →
    (s.tripped i = true → ∃ t : State, exec (.thermalTrip i) s = .next t ∧ t.Dormant 0x0601 ∧ t.aon.thermAlert = true) ∧
    (s.tripped i = false → exec (.thermalTrip i) s = .next s)) ∧
  (∀ (s : State) (m mv : Nat), m < 24 → s.vent.startup.held = false →
    (voltWide m mv = true → ∃ t : State, exec (.voltageExcursion m mv true) s = .next t ∧
      0 < (t.summary 0x5000 0x0305).count ∧ t.vent = s.vent ∧ t.host = s.host) ∧
    (voltBad m mv = true → exec (.voltageExcursion m mv false) s = .next (s.health 0x0043 (leBytes 1 m ++ leBytes 4 mv))) ∧
    (voltBad m mv = false → exec (.voltageExcursion m mv false) s = .next s)) ∧
  (∀ (s : State) (shifts : List Int),
    let fell (e : Nat × Nat) : Prop := 100 * e.2 < 92 * s.oscWas shifts e.1
    (s.ventRuns = false ∨ s.vent.journal.mounted = false → exec (.ringOscillatorCheck shifts) s = .next s) ∧
    (s.ventRuns = true → s.vent.journal.mounted = true →
      ∃ t : State, exec (.ringOscillatorCheck shifts) s = .next t ∧ t.vent = s.vent ∧
        (∀ i, i ∈ t.aon.oscSeen ↔ i ∈ s.aon.oscSeen ∨ ∃ e ∈ s.aon.oscs, e.1 = i ∧ fell e) ∧
        ((∀ e ∈ s.aon.oscs, fell e → e.1 ∈ s.aon.oscSeen) → t = s) ∧
        (∀ i v, s.aon.oscs = [(i, v)] → fell (i, v) → i ∉ s.aon.oscSeen → t.host = s.host.post s.aon.ptp 0x03
          (leBytes 2 0x0041 ++ padTo 12 (leBytes 1 i ++ leBytes 2 (1000 * (s.oscWas shifts i - v) / s.oscWas shifts i)))))) ∧
  (∀ (s : State) (shifts : List Int) (m : JRec) (i : Nat), s.vent.journal.live.find? (fun r => r.typ == 0x13) = some m →
    s.oscWas shifts i = ((leAt m.payload (11 + 2 * i) 2 : Int) + shifts.getD i 0).toNat)

/-- **External inputs and the IEEE 1588 counter.** An accepted edge sets the level and masks a chattering input; THROTTLE_N raises the pacing
level to 4 at once, and is not sampled while the module is held in reset; a SYNC_IN edge one second after the last aligns the counter; a stuck input
is reported; a lock sets the counter and TIMEVALID; SYNC_OUT pulses at a whole second (the ±10 ns window is the model's reading). -/
def Obligations.ExternalInputsAndTime : Prop :=
  (∀ s : State, s.vent.startup.held = true →
    (∀ level, exec (.inputEdgeAccept .throttleN level) s = .next s) ∧ exec (.inputStuck .throttleN) s = .next s) ∧
  (∀ (s : State) (level : Bool), s.aon.power = true → s.vent.startup.held = false → s.aon.throttle.active ≠ level →
    let es := (s.aon.throttle.edges.filter fun c => decide (s.cc < c + 10 * ccPerMs)) ++ [s.cc]
    ∃ t : State, exec (.inputEdgeAccept .throttleN level) s = .next t ∧ t.aon.throttle.active = level ∧ t.aon.throttle.edges = es ∧
      t.aon.throttle.masked = (s.aon.throttle.masked || decide (16 < es.length)) ∧ t.aon.ptp = s.aon.ptp ∧ t.aon.syncIn = s.aon.syncIn ∧
      (level = true → s.aon.pace < 4 → t.aon.pace = 4) ∧ (4 ≤ s.aon.pace → t.aon.pace = s.aon.pace)) ∧
  (∀ (s : State) (c : Nat), s.aon.power = true → s.aon.syncIn.active = false → s.aon.syncIn.masked = false → s.aon.syncIn.last = some c →
    ((s.aon.syncIn.edges.filter fun c => decide (s.cc < c + 10 * ccPerMs)) ++ [s.cc]).length ≤ 16 → c ≤ s.cc →
    ∃ t : State, exec (.inputEdgeAccept .syncIn true) s = .next t ∧ t.aon.syncIn.active = true ∧
      (ccPerSec - ccPerMs ≤ s.cc - c → s.cc - c ≤ ccPerSec + ccPerMs →
        t.aon.ptp = ⟨(s.aon.ptp.sec + (if 500000000 ≤ s.aon.ptp.ns then 1 else 0)) % 2 ^ 48, 0, 0⟩) ∧
      (s.cc - c < ccPerSec - ccPerMs ∨ ccPerSec + ccPerMs < s.cc - c → t.aon.ptp = s.aon.ptp)) ∧
  (∀ (s : State) (c : Nat), s.aon.power = true → s.vent.startup.held = false → s.aon.throttle.active = true → s.aon.throttle.stuck = false →
    s.aon.throttle.last = some c → c + ccPerSec < s.cc →
    ∃ t : State, exec (.inputStuck .throttleN) s = .next t ∧ t.aon = { s.aon with throttle := { s.aon.throttle with stuck := true } } ∧
      t.host = s.host.post s.aon.ptp 0x03 (leBytes 2 0x0005 ++ padTo 12 (leBytes 1 1))) ∧
  (∀ (s : State) (p sec ns : Nat), p < 12 →
    ((s.port p).st = .up → exec (.ieee1588Lock p sec ns) s = .next { s with
      aon := { s.aon with ptp := ⟨sec % 2 ^ 48, ns % 2 ^ 32, 0⟩, timeValid := true } }) ∧
    ((s.port p).st ≠ .up → exec (.ieee1588Lock p sec ns) s = .next s)) ∧
  (∀ s : State, s.aon.power = true → s.vent.startup.held = false → s.vent.startup.plls = true →
    (s.aon.ptp.ns ≤ 10 → exec .syncOutPulse s = .next { s with aon := { s.aon with syncOutUntil := s.cc + 18000 } }) ∧
    (10 < s.aon.ptp.ns → s.aon.ptp.ns < 999999990 → exec .syncOutPulse s = .next s))

/-- **Error reports and the error ledger.** A report leaves its wire and counts in the summary of its node; a summary leaves for the parent, or
for Vent's queue, 8 cycles after it opened, and is merged there when it arrives, 4 cycles later; the oldest makes a ledger entry in OPEN; the oldest
OPEN entry becomes ACTIVE, is posted and journaled; one that stays ACTIVE for 50 ms, or on which the handler itself faults, makes the module Dormant,
and the mailbox command in progress then completes with INTERNAL (log entry 87). A port's escalation is recorded as port failed (log entry 88). -/
def Obligations.ErrorReportsAndTheLedger : Prop :=
  (∀ (s : State) (code src : Nat), s.vent.startup.held = false → knownCodes.contains code = true → (codeDomain code = 1 → src < 1536) →
    (codeDomain code = 4 → src < 12) →
    let wire := codeDomain code = 1 ∧ code ≠ 0x0107
    let g := match codeDomain code with
      | 1 => gOfTile 1 src
      | 2 => if gLevel src = 2 ∧ gExists s.rows src then src else 0x5000
      | _ => 0x5000
    (¬ wire ∨ (s.tile src).reports.contains code = true →
      ∃ t : State, exec (.errorReport (.code code) src) s = .next t ∧ (wire → (t.tile src).reports = (s.tile src).reports.erase code) ∧
        (¬ wire → t.tile src = s.tile src) ∧
        (t.summary g code).count =
          (if (s.summary g code).count = 0 then 1 else min ((s.summary g code).count + 1) (2 ^ 32 - 1)) ∧
        ((s.summary g code).count = 0 → (t.summary g code).src = src) ∧ (code = 0x0303 → t.mig.errDirUe = true) ∧
        (∀ v, v ≠ src → t.tile v = s.tile v) ∧ t.vent = s.vent ∧ t.host = s.host) ∧
    (wire → (s.tile src).reports.contains code = false → exec (.errorReport (.code code) src) s = .next s)) ∧
  (∀ (s : State) (gid code : Nat), (s.summary gid code).count ≠ 0 →
    (s.cc < (s.summary gid code).at' + 8 → exec (.summaryForward gid code) s = .next s) ∧
    ((s.summary gid code).at' + 8 ≤ s.cc → gid ≠ 0x5000 → ∃ t : State, exec (.summaryForward gid code) s = .next t ∧
      (t.summary gid code).count = 0 ∧ t.cal.ventQ = s.cal.ventQ ∧ (∀ h, h ≠ gid → t.summary h code = s.summary h code) ∧
      t.cal.sumFly = s.cal.sumFly ++ [(s.cc + 4, gParent gid, code, s.summary gid code)]) ∧
    ((s.summary gid code).at' + 8 ≤ s.cc → gid = 0x5000 → s.cal.ventQ.length < 64 → ∃ t : State,
      exec (.summaryForward gid code) s = .next t ∧ (t.summary gid code).count = 0 ∧
      t.cal.ventQ = s.cal.ventQ ++ [(code, s.summary gid code)]) ∧
    (gid = 0x5000 → 64 ≤ s.cal.ventQ.length → exec (.summaryForward gid code) s = .next s)) ∧
  (∀ (s : State) (c g code : Nat) (v : Summary), s.cal.sumFly = [(c, g, code, v)] →
    (s.cc < c → s.sumCycle = s) ∧
    (c ≤ s.cc → s.sumCycle.cal.sumFly = [] ∧
      (s.sumCycle.summary g code).count = (if (s.summary g code).count = 0 then v.count
        else min ((s.summary g code).count + v.count) (2 ^ 32 - 1)) ∧
      ((s.summary g code).count = 0 → (s.sumCycle.summary g code).at' = c ∧ (s.sumCycle.summary g code).src = v.src))) ∧
  (∀ (s : State) (src : Nat),
    (s.vent.ledger.active = none → exec (.errorReport .handlerFault src) s = .next s) ∧
    (∀ i, s.vent.ledger.active = some i → s.vent.dev ≠ .dormant →
      ∃ t : State, exec (.errorReport .handlerFault src) s = .next t ∧ t.Dormant 0x0502 ∧
        (s.host.inside = [] → s.vent.run.starting = true ∨ s.host.asked ≠ none → t.host.go = false ∧ t.host.status = 0x00FF))) ∧
  (∀ (s : State) (e : LEntry), e.domain = 4 → e.code = 0x0401 → (s.upLevel e).action = 7 ∧ (s.upLevel e).esc = true ∧ (s.upLevel e).domain = 3) ∧
  (∀ (s : State) (code : Nat) (v : Summary) (rest : List (Nat × Summary)), s.cal.ventQ = (code, v) :: rest →
    s.vent.startup.held = false → s.vent.startup.verified = true →
    (s.vent.ledger.slot = none → s.vent.dev ≠ .dormant →
      ∃ t : State, exec .ledgerEntryCreate s = .next t ∧ t.Dormant 0x0501 ∧ t.cal.ventQ = rest) ∧
    (∀ i, s.vent.ledger.slot = some i → hardwareClass code = false →
      ∃ t : State, exec .ledgerEntryCreate s = .next t ∧ t.cal.ventQ = rest ∧ (t.vent.ledger.entry i).code = code ∧
        (t.vent.ledger.entry i).state = 1 ∧ (t.vent.ledger.entry i).domain = codeDomain code ∧
        (t.vent.ledger.entry i).count = v.count ∧ (t.vent.ledger.entry i).order = s.vent.ledger.orderNo ∧
        t.vent.ledger.orderNo = s.vent.ledger.orderNo + 1 ∧ (∀ k, k ≠ i → t.vent.ledger.entry k = s.vent.ledger.entry k) ∧
        t.tiles = s.tiles)) ∧
  (∀ (s : State) (i : Nat), s.vent.startup.held = false → s.vent.ledger.active = none → s.vent.ledger.oldestOpen = some i →
    firstAction (s.vent.ledger.entry i).code = 0 → (s.vent.ledger.entry i).esc = false → (s.vent.ledger.entry i).action ≠ 8 →
    s.vent.journal.mounted = true → s.vent.journal.damaged = false →
    let e := { s.vent.ledger.entry i with state := 2, action := 0, at' := s.cc }
    ∃ t : State, exec .ledgerEntryHandle s = .next t ∧ t.vent.ledger.entry i = e ∧
      t.vent.journal = s.vent.journal.push 0x32 e.bytes (.closeEntry i) ∧
      t.host = s.host.post s.aon.ptp 0x03 (leBytes 2 0x0010 ++ padTo 12 (leBytes 1 i ++ leBytes 2 e.code ++ leBytes 1 e.domain ++ leBytes 1 0))) ∧
  (∀ (s : State) (i : Nat), s.vent.ledger.active = some i →
    ((s.vent.ledger.entry i).at' + 50 * ccPerMs ≤ s.cc → s.vent.dev ≠ .dormant →
      ∃ t : State, exec .handlerTimeout s = .next t ∧ t.Dormant 0x0502) ∧
    (s.cc < (s.vent.ledger.entry i).at' + 50 * ccPerMs → exec .handlerTimeout s = .next s))

/-- **Start-up.** The PLLs, the check of the image in flash with M0 over it and its debug authorities' keys, the mount of the journal with its new
incarnation, which never raises the grade, the self-tests, the merge of a repair map that nothing changes, with M2 over it; a failure of a PLL, of
the flash, of the image, of the journal, of the sealed identity, of a test or of a rail makes the module Dormant with its cause, and READY makes it
IDLE. The host link trains once the PLLs are locked, while PERST_N is high. The model's choices: that an image written to and not verified since is
refused although its bytes pass R415 (log entry 82), Dormant 0x0402 for a mount without room and a GRADE record that was lost with its batch (50),
the causes that the tests of tiles, fabric and SerDes leave (51). -/
def Obligations.StartUp : Prop :=
  ∀ s : State, s.vent.startup.held = false → s.vent.dev = .boot →
    (s.vent.startup.plls = false →
      exec (.pllLock .locked) s = .next { s with vent := { s.vent with startup := { s.vent.startup with plls := true } } } ∧
      (∃ t : State, exec (.pllLock .locksNoFlash) s = .next t ∧ t.Dormant 0x0102 ∧ t.vent.startup.recovery = true) ∧
      ∃ t : State, exec (.pllLock .fails) s = .next t ∧ t.Dormant 0x0202) ∧
    (s.vent.startup.plls = true → s.vent.startup.verified = false → s.vent.startup.recovery = false →
      ∃ t : State, exec .firmwareVerify s = .next t ∧ t.sec.m0 = shake256 32 (s.vent.flash.read 0 s.vent.flash.length) ∧
        (s.vent.flash.stale = false → s.vent.flash.verifies s.vent.flash.length = true → t.vent.startup.verified = true ∧ t.vent.dev = .boot ∧
          t.vent.version = leNat (s.vent.flash.read 12 4) ∧ t.vent.authKeys = (List.range 4).map fun i =>
            Config.debugKey (s.vent.flash.read 64 (leNat (s.vent.flash.read 8 4))) i) ∧
        (s.vent.flash.stale = true ∨ s.vent.flash.verifies s.vent.flash.length = false → t.vent.startup.verified = false ∧ t.vent.startup.recovery = true ∧
          t.Dormant (if s.vent.flash.blank then 0x0102 else 0x0101))) ∧
    (s.vent.startup.verified = true → s.vent.journal.mounted = false →
      let j0 := s.vent.journal.repairLog
      let j := { j0 with base := j0.findBase, batch := [], mounted := true, highPosted := false }
      (j.isDamaged = true → ∃ t : State, exec .journalMount s = .next t ∧ t.Dormant 0x0401 ∧ t.vent.journal.damaged = true) ∧
      (j.isDamaged = false →
        let me := leAt (((j.live.filter fun r => r.typ == 0x13).map (·.payload)).headD []) 3 8
        let inc := ((lastN 1 (j.live.filter fun r => r.typ == 0x40)).map fun r => leAt r.payload 0 4).headD 0 + 1
        let j2 := { j with nextSeq := ((j.records.map fun r : JRec => r.seq).getLast?.getD 0) + 1 }
        let genuine := ∃ c ∈ s.vent.flash.ident, certOk c.cert me = true ∧ ∃ k, s.aon.ks = some k ∧ Config.unseals k c.nonce c.cipher c.tag = true
        ∃ t : State, exec .journalMount s = .next t ∧ t.vent.journal.mounted = true ∧ t.vent.devId = me ∧ t.vent.incarnation = inc ∧
          t.vent.grade ≤ s.vent.grade ∧
          (j2.append 0x40 (leBytes 4 inc) = none → t.Dormant 0x0402) ∧
          (∀ k, j2.append 0x40 (leBytes 4 inc) = some k →
            (k.above 99 = true → t.Dormant 0x0402) ∧
            (k.above 99 = false → genuine → t.vent.dev = .boot ∧ t.sec.unsealed = true ∧ t.vent.journal = { k with highPosted := k.high }) ∧
            (k.above 99 = false → ¬ genuine → t.Dormant 0x0304)))) ∧
    (∀ r : SelfTest, s.vent.startup.verified = true →
      (r.hard = false → r.mgmt = false → ∃ t : State, exec (.selfTestComplete r) s = .next t ∧
        t.vent.startup.tests = s.vent.startup.tests.filter (fun q => q.part ≠ r.part) ++ [r] ∧ t.vent.dev = .boot) ∧
      (r.hard = true ∨ r.mgmt = true → ∃ t : State, exec (.selfTestComplete r) s = .next t ∧ t.Dormant (testCause r))) ∧
    (s.vent.journal.mounted = true → s.vent.startup.testsDone = true → s.vent.retire = [] → (∀ r ∈ s.vent.startup.tests, testChanges r = []) →
      ∃ t : State, exec .repairMapMerge s = .next t ∧ t.sec.m2 = mapDigest s.vent.map t.vent.grade ∧
        (s.vent.map.gradeOf s.vent.shippedGrade = none → t.Dormant 0x0303 ∧ t.vent.grade = s.vent.grade) ∧
        (∀ g, s.vent.map.gradeOf s.vent.shippedGrade = some g → t.vent.grade = min g s.vent.grade ∧
          (s.aon.volts.any (fun e => voltBad e.1 e.2) = true → t.Dormant 0x0201) ∧
          (s.aon.volts.any (fun e => voltBad e.1 e.2) = false → t.vent.dev = .idle ∧ t.host.memActive = true ∧
            (s.lastGrade ≠ min g s.vent.grade → s.vent.journal.damaged = false →
              ⟨0x11, leBytes 2 s.vent.shippedGrade ++ leBytes 2 (min g s.vent.grade), .nothing⟩ ∈ t.vent.journal.batch)))) ∧
    (∀ w v,
      (s.vent.startup.plls = true → s.aon.perstLow = false → exec (.hostLinkTraining (.trains w) v) s = .next { s with
        host := { s.host with linkUp := true, linkWidth := w, linkSpeed := v } }) ∧
      (s.vent.startup.plls = false ∨ s.aon.perstLow = true → exec (.hostLinkTraining (.trains w) v) s = .next s))

/-- **Power and reset.** A module reset starts the module afresh in BOOT and keeps the always-on domain, the flash and the journal, but for an image
that FW_COMMIT was checking, which is incomplete; a fall of the input, a rail out of limits and RESET_N hold it in reset; PWR_OK rises with the
input where every rail is within its limits, which the model takes to be those of the error RAIL (log entry 91); the loss of always-on power clears the
counter and the key, and its return reads the PUF anew with TIMEVALID 0, by the first copy's helper data (log entry 24). The carrier's levels stay its
own. -/
def Obligations.PowerAndReset : Prop :=
  (∀ s : State, s.aon.power = true → s.aon.pwrOk = true →
    ∃ t : State, exec .moduleReset s = .next t ∧ t.Fresh ∧ s.Persists t ∧ t.vent.startup.held = false ∧ t.aon.resetLow = false ∧
      (s.aon.pace = 4 → t.aon.thermAlert = true) ∧ t.aon.throttle.active = false ∧ t.aon.throttle.stuck = false ∧
      t.aon.throttle.masked = s.aon.throttle.masked) ∧
  (∀ s : State, s.aon.power = false ∨ s.aon.pwrOk = false → exec .moduleReset s = .next s) ∧
  (∀ s : State, s.aon.power = false → exec .resetNAssert s = .next s) ∧
  (∀ s : State, s.aon.pwrOk = false →
    exec .inputFall38v s = .next { s with aon := { s.aon with inputOn := false } } ∧ exec .railOutOfLimits s = .next s) ∧
  (∀ s : State, s.aon.power = true →
    ∃ t : State, exec .resetNAssert s = .next t ∧ t.Fresh ∧ s.Persists t ∧ t.vent.startup.held = true ∧ t.aon.resetLow = true ∧
      t.aon.thermAlert = false ∧ t.aon.syncOutUntil = 0) ∧
  (∀ s : State, s.aon.pwrOk = true →
    (∃ t : State, exec .inputFall38v s = .next t ∧ t.Fresh ∧ s.Persists t ∧ t.vent.startup.held = true ∧ t.aon.pwrOk = false ∧
      t.aon.inputOn = false) ∧
    (∃ t : State, exec .railOutOfLimits s = .next t ∧ t.Fresh ∧ s.Persists t ∧ t.vent.startup.held = true ∧ t.aon.pwrOk = false)) ∧
  (∀ s : State, s.aon.power = true → s.aon.pwrOk = false →
    exec .inputRise39v s = .next { s with aon := { s.aon with pwrOk := s.aon.railsOk, inputOn := true } } ∧
    (s.aon.railsOk = true ↔ ∀ e ∈ s.aon.volts, e.1 = 23 ∨ voltWide e.1 e.2 = false)) ∧
  (∀ s : State, ∃ t : State, exec .alwaysOnPowerLoss s = .next t ∧ t.Fresh ∧ t.vent.startup.held = true ∧ t.aon.power = false ∧
    t.aon.ks = none ∧ t.aon.ptp = ⟨0, 0, 0⟩ ∧ s.FlashLeft t ∧ t.aon.perstLow = s.aon.perstLow ∧ t.aon.resetLow = s.aon.resetLow ∧
    t.jtag.trst = s.jtag.trst ∧ t.vent.journal.sectors = s.vent.journal.sectors) ∧
  (∀ (s : State) (puf : List Byte), s.aon.power = false →
    ∃ t : State, exec (.aonPowerUp puf) s = .next t ∧ t.Fresh ∧ t.aon.power = true ∧ t.aon.timeValid = false ∧ t.aon.ptp = ⟨0, 0, 0⟩ ∧
      t.aon.ks = some (Config.fuzzyExtract puf ((s.vent.flash.ident.head?.map (·.helper)).getD [])) ∧ s.FlashLeft t ∧
      t.aon.perstLow = s.aon.perstLow ∧ t.aon.resetLow = s.aon.resetLow ∧ t.jtag.trst = s.jtag.trst)

/-- **The mailbox refuses what it cannot run, and answers once.** The command that is asked is the one at its doorbell, or before it the oldest
that a reset of the function has left inside Vent. One outside its states answers WRONG_STATE, one with another length BAD_LENGTH, an unknown
code UNSUPPORTED (in BOOT, WRONG_STATE), each without any other effect; without its doorbell, or before the mailbox serves, nothing happens. The
answer is written, then RLEN, STATUS and GO = 0; that of a command left inside is discarded. The order of the checks is the model's (log entry
37). -/
def Obligations.MailboxChecks : Prop :=
  (∀ h : HostIface,
    (h.inside = [] → h.asked = if h.go then some (h.cmd, h.req) else none) ∧ (∀ x l, h.inside = x :: l → h.asked = some x)) ∧
  (∀ e ∈ mboxRows, ∀ (s : State) (r : List Byte), s.host.asked = some (e.code, r) → s.mbServes = true →
    (e.con = .imageStart → s.vent.run.starting = false) →
    (e.sts.contains s.vent.dev = false → exec e.con s = .next (s.complete stWRONG_STATE [])) ∧
    (e.sts.contains s.vent.dev = true → e.len r.length = false → exec e.con s = .next (s.complete stBAD_LENGTH []))) ∧
  (∀ e ∈ mboxRows, ∀ s : State, (s.mbServes = false ∨ ∀ r, s.host.asked ≠ some (e.code, r)) → exec e.con s = .next s) ∧
  (∀ (s : State) (c : Nat) (r : List Byte), s.host.asked = some (c, r) → s.mbServes = true → mboxCodes.contains c = false →
    exec .unsupportedCommand s = .next (s.complete (if s.vent.dev = .boot then stWRONG_STATE else stUNSUPPORTED) [])) ∧
  (∀ (s : State) (status : Nat) (resp : List Byte),
    let t := s.complete status resp
    t.vent = s.vent ∧ t.tiles = s.tiles ∧ t.mem = s.mem ∧
    (s.host.inside = [] → t.host.go = false ∧ t.host.status = status ∧ t.host.rlen = resp.length ∧
      (∀ i, Sparse.get 0 t.host.payload i = if i < resp.length then resp.getD i 0 else Sparse.get 0 s.host.payload i)) ∧
    (∀ x l, s.host.inside = x :: l → t.host = { s.host with inside := l }))

/-- **While GO reads 1 the mailbox ignores writes and sets WERR.** A write to MBOX.CMD, MBOX.LEN, MBOX.DB or the payload area, by either
command that carries it, has no effect but WERR; the command's code and request stay as they were at the doorbell. -/
def Obligations.WritesWhileBusyAreIgnored : Prop :=
  ∀ (s : State) (off : Nat) (v : Word), s.host.go = true → s.hostDown = false →
    (off = 0x0000 ∨ off = 0x0004 ∨ off = 0x0008 ∨ (0x8000 ≤ off ∧ off < 0x10000 ∧ off % 4 = 0)) →
    ∀ c ∈ [Instr.mailboxWriteWhileBusy off v, .registerWrite (.bar0 off) v],
      exec c s = .next { s with host := { s.host with werr := true } } ∧
      ∀ u : State, exec c s = .next u → u.host.cmd = s.host.cmd ∧ u.host.req = s.host.req

/-- **Mailbox queries.** Each query of Table 13-6 answers OK with the layout of its row and changes nothing but the mailbox (GET_COUNTERS
with CLR clears the shadows it returned); JRN_READ refuses a reserved record type; ATTEST_QUOTE signs what its doorbell sampled; the debug reads need
the READ right, and TSTORE_READ counts as a read of the words it returns, each followed up by its poison bit, padded to 8 bytes. -/
def Obligations.MailboxQueries : Prop :=
  (∀ s : State,
    (s.Asks 0x0100 stBoot (lenIs 0) [] → exec .identify s = .next (s.complete stOK s.vent.identify) ∧ s.vent.identify.length = 64) ∧
    (s.Asks 0x0101 stBoot (lenIs 0) [] → exec .getState s = .next (s.complete stOK s.stateBytes) ∧ s.stateBytes.length = 32 ∧
      leAt s.stateBytes 0 2 = s.vent.dev.code ∧ leAt s.stateBytes 2 2 = s.vent.dcause % 65536) ∧
    (s.Asks 0x0102 stBoot (lenIs 0) [] → ∃ p, exec .getHealth s =
      .next (({ s with free := s.free + 1 } : State).complete stOK (s.healthBytes p)) ∧ (s.healthBytes p).length = 32) ∧
    (s.Asks 0x0103 stAll (lenIs 0) [] → exec .getErrledger s =
      .next (s.complete stOK (((List.range 16).map fun i => (s.vent.ledger.entry i).bytes).flatten))) ∧
    (s.Asks 0x0600 stAll (lenIs 0) [] → exec .getIdentity s = .next (s.complete stOK s.certBytes)) ∧
    (s.Asks 0x0500 stAll (lenIs 0) [] →
      let l := s.vent.journal.seen.map (·.seq)
      exec .jrnInfo s = .next (s.complete stOK (leBytes 8 (l.headD 0) ++ leBytes 8 (l.getLast?.getD 0) ++
        leBytes 4 s.vent.journal.usePct ++ leBytes 4 (s.txp.closes.filter fun c => c.made && !c.acked).length))) ∧
    (s.Asks 0x0405 stLRE (lenIs 0) [] → ∃ a b c, exec .txpStatus s = .next (({ s with free := s.free + 3 } : State).complete stOK
        (leBytes 4 s.txp.epoch ++ leBytes 6 a ++ leBytes 2 b ++ leBytes 2 s.txp.members.length ++
          leBytes 2 (s.txp.sessions.filter fun e => decide (e.2.st = .up)).length ++ leBytes 8 s.txp.leader ++ leBytes 8 c)) ∧
      (∀ o, s.txp.open' = some o → a = o.step) ∧ (∀ d, s.txp.deputy = some d → c = d))) ∧
  (∀ (s : State) (r : List Byte),
    (s.Asks 0x0104 stILRE (lenIs 4) r → leAt r 0 1 = 6 → leAt r 2 2 = 0 →
      let ks := [4, 8, 12].map (shadowKey 6 0)
      (leAt r 1 1 = 0 → exec .getCounters s =
        .next (s.complete stOK ((ks.map fun k => leBytes 8 (Sparse.get 0 s.host.shadow k)).flatten))) ∧
      (leAt r 1 1 = 1 → ∃ t : State, exec .getCounters s = .next t ∧ s.Answered t stOK ∧ (∀ k ∈ ks, Sparse.get 0 t.host.shadow k = 0) ∧
        ∀ k, k ∉ ks → Sparse.get 0 t.host.shadow k = Sparse.get 0 s.host.shadow k)) ∧
    (s.Asks 0x0105 [.running] (lenIs 2) r → gExists s.rows (leAt r 0 2) = true → exec .barPending s =
      .next (s.complete stOK (leBytes 2 (s.notWaiting (leAt r 0 2)).length ++
        bitsToBytes ((gTiles s.rows (leAt r 0 2)).map fun t => (s.notWaiting (leAt r 0 2)).contains t)))) ∧
    (s.Asks 0x0302 stLRE (lenIs 1) r → leAt r 0 1 < 64 → ∀ x, s.win (leAt r 0 1) = some x → exec .winQuery s =
      .next (s.complete stOK (leBytes 4 (s.winWord (leAt r 0 1)).toNat ++ leBytes 8 x.base ++ leBytes 8 x.size ++ leBytes 1 (b2n x.side1) ++
        leBytes 1 x.perm))) ∧
    (s.Asks 0x0403 stILRE (lenIs 1) r → leAt r 0 1 < 12 → exec .portStatus s =
      .next (s.complete stOK (leBytes 4 ((s.port (leAt r 0 1)).stat s.cc).toNat ++ leBytes 4 (s.port (leAt r 0 1)).arb.toNat))) ∧
    (s.Asks 0x0501 stAll (lenIs 12) r → leAt r 9 1 = 0 → 0 < leAt r 10 2 → leAt r 10 2 ≤ 32768 →
      (leAt r 8 1 ≠ 0 → jrnTypes.contains (leAt r 8 1) = false → exec .jrnRead s = .next (s.complete stBAD_FIELD [])) ∧
      (leAt r 8 1 = 0 ∨ jrnTypes.contains (leAt r 8 1) = true → exec .jrnRead s = .next (s.complete stOK (takeBytes (leAt r 10 2) ((s.vent.journal.seen.filter fun k =>
        decide (leAt r 0 8 ≤ k.seq) && (leAt r 8 1 == 0 || k.typ == leAt r 8 1)).map JRec.bytes))))) ∧
    (s.Asks 0x0601 stAll (lenIs 32) r → let b := s.sec.quote.getD (s.quoteBody r); ∃ sig, ∃ t : State,
      exec .attestQuote s = .next (t.complete stOK (b ++ leBytes 17088 sig)) ∧ t.host = s.host ∧ t.vent = s.vent ∧
      (s.host.inside = [] → t.sec = { s.sec with quote := none }) ∧ (s.sec.unsealed = true → sig = (Config.signQuote b).toNat)) ∧
    (s.Asks 0x0701 stRE (lenIs 3) r → leAt r 0 2 < s.tileLimit → leAt r 2 1 < 48 →
      (s.sec.right 1 = true → exec .syncfRead s = .next (s.complete stOK (leBytes 4 ((s.tile (leAt r 0 2)).sflag (leAt r 2 1)).word.toNat))) ∧
      (s.sec.right 1 = false → exec .syncfRead s = .next (s.complete stNO_DEBUG []))) ∧
    (s.Asks 0x0702 stLRE (lenIs 4) r → leAt r 0 2 < s.tileLimit → leAt r 2 2 < 4096 → leAt r 2 2 % 4 = 0 →
      (s.sec.right 1 = true → exec .tregRead s = .next (s.complete stOK (leBytes 4 (s.tregWord (leAt r 0 2) (leAt r 2 2)).toNat))) ∧
      (s.sec.right 1 = false → exec .tregRead s = .next (s.complete stNO_DEBUG []))) ∧
    (s.Asks 0x0703 stRE (lenIs 12) r → leAt r 0 2 < s.tileLimit → zeroAt r 2 4 = true → leAt r 4 4 % 8 = 0 → leAt r 8 4 % 8 = 0 →
      0 < leAt r 8 4 → leAt r 8 4 ≤ 28672 → leAt r 4 4 + leAt r 8 4 ≤ 0x60000 →
      (s.sec.right 1 = true → ∃ x : Tile, ∃ pz : List Byte, x = (s.tile (leAt r 0 2)).touch (leAt r 4 4) (leAt r 8 4) ∧
        exec .tstoreRead s = .next ((s.setTile (leAt r 0 2) x).complete stOK (x.bytes (leAt r 4 4) (leAt r 8 4) ++ pz)) ∧
        x.SameStore (s.tile (leAt r 0 2)) ∧ pz.length = 8 * ceilDiv (leAt r 8 4 / 8) 64 ∧
        ∀ i, bitAt (leNat pz) i = (decide (i < leAt r 8 4 / 8) && x.wordPz (leAt r 4 4 / 8 + i))) ∧
      (s.sec.right 1 = false → exec .tstoreRead s = .next (s.complete stNO_DEBUG []))))

/-- **The life of an image.** A load checks its range and runs in the background, and ends with REFUSED and the first failing check, or
LOADED (a poisoned byte of the staged image fails the digest check: log entry 86); a start runs every tile from PC 0 with the seed and begins the
job's CHAIN, and the gate opens all of them in one cycle; a stop signals SF45 or halts every tile; an unload frees tiles, windows, frames and
declarations. -/
def Obligations.LifeOfAnImage : Prop :=
  (∀ (s : State) (r : List Byte), s.Asks 0x0200 [.idle] (lenIs 16) r →
    (leAt r 0 8 % 65536 ≠ 0 ∨ imageEndAddr < leAt r 0 8 + leAt r 8 8 → exec .imageLoad s = .next (s.complete stRANGE [])) ∧
    (leAt r 0 8 % 65536 = 0 → leAt r 0 8 + leAt r 8 8 ≤ imageEndAddr → s.host.bg ≠ none → exec .imageLoad s = .next (s.complete stBUSY [])) ∧
    (leAt r 0 8 % 65536 = 0 → leAt r 0 8 + leAt r 8 8 ≤ imageEndAddr → s.host.bg = none → ∃ t : State, exec .imageLoad s = .next t ∧
      s.Answered t stBG_STARTED ∧ t.host.bg = some ⟨0x0200, leAt r 0 8, leAt r 8 8⟩ ∧ t.vent = s.vent)) ∧
  (∀ (s : State) (a n : Nat), s.host.bg = some ⟨0x0200, a, n⟩ → s.vent.dev = .idle →
    let b := s.memBytes a n
    let u := s.memRead a n
    let poisoned := u.mem.rangePz a n = true
    let refused (c : Nat) : Prop := exec .imageLoadDone s = .next (u.bgDone 0x0200 stREFUSED c) ∧
      (u.bgDone 0x0200 stREFUSED c).vent = s.vent ∧ (u.bgDone 0x0200 stREFUSED c).tiles = s.tiles ∧
      (u.bgDone 0x0200 stREFUSED c).mem.data = s.mem.data ∧ (u.bgDone 0x0200 stREFUSED c).coll = s.coll
    (∀ c, checkImage b a n s.vent.grade s.vent.stepping s.vent.map = .error c →
      (¬ poisoned → refused c) ∧ (poisoned → refused (min c 0x0103))) ∧
    (∀ p, checkImage b a n s.vent.grade s.vent.stepping s.vent.map = .ok p → poisoned → refused 0x0103) ∧
    (∀ p, checkImage b a n s.vent.grade s.vent.stepping s.vent.map = .ok p → ¬ poisoned → ∃ t : State, exec .imageLoadDone s = .next t ∧
      t.vent.dev = .loaded ∧ t.vent.image = some (imgOf b s.vent.map p.1) ∧ t.sec.m1 = imgDigest b ∧ t.host.bg = none ∧
      t.coll.runs = [])) ∧
  (∀ (s : State) (im : Image) (r : List Byte), s.Asks 0x0201 [.loaded] (lenIs 8) r → s.vent.run.starting = false → s.vent.image = some im →
    (s.vent.map = im.bound → ∃ t : State, exec .imageStart s = .next t ∧ t.vent.run.starting = true ∧ t.mig.sstep = 0 ∧
      t.cal.wdog = im.man.wdog ∧ t.vent.dev = .loaded ∧ t.txp.chain = firstChain im (BitVec.ofNat 64 (leAt r 0 8)) ∧ ∀ e ∈ s.tiles, e.1 < im.man.rows * 32 →
        (e.1, e.2.start (BitVec.ofNat 64 (leAt r 0 8)) s.cc) ∈ t.tiles) ∧
    (s.vent.map ≠ im.bound → ∃ t : State, exec .imageStart s = .next t ∧ s.Answered t stWRONG_STATE ∧ t.vent.dev = .idle ∧
      t.vent.image = none)) ∧
  (∀ s : State, s.vent.run.starting = true → s.vent.run.gateAt = none → 0 < s.gridTiles →
    (∀ t < s.gridTiles, (s.tile t).st = .wait ∧ (s.tile t).sleep = .flag 44) →
    ∃ u : State, exec .startGateSet s = .next u ∧ u.vent.run.gateAt = some s.cc ∧
      (∀ t, u.tile t = if t < s.gridTiles then (s.tile t).incFlag 44 else s.tile t) ∧ u.vent.dev = s.vent.dev) ∧
  (∀ (s : State) (r : List Byte), s.Asks 0x0202 [.running] (lenIs 1) r → s.host.bg = none →
    (leAt r 0 1 = 0 → ∃ u : State, exec .imageStopSignal s = .next u ∧ u.vent.dev = .running ∧ s.Answered u stBG_STARTED ∧
      ∀ t, u.tile t = if t < s.gridTiles then (s.tile t).incFlag 45 else s.tile t) ∧
    (leAt r 0 1 = 1 → ∃ u : State, exec .imageStopHalt s = .next u ∧ s.Answered u stBG_STARTED ∧ u.vent.dev = .ended ∧ u.mig.halted = true ∧ u.coll.runs = [] ∧
      ∀ t, (u.tile t).st ≠ .run ∧ (u.tile t).st ≠ .wait)) ∧
  (∀ s : State, s.Asks 0x0203 [.loaded, .ended] (lenIs 0) [] → s.vent.retire = [] → ∃ u : State, exec .imageUnload s = .next u ∧
    u.vent.dev = .idle ∧ u.vent.image = none ∧ u.mig.pages = [] ∧ u.mem.wins = [] ∧ u.coll.decls = [] ∧ u.mem.data = s.mem.data ∧
    s.Answered u stOK ∧ ∀ t, (u.tile t).st = .idle ∧ ∀ n, (u.tile t).hndOf n = 0)

/-- **Context images.** A save needs a quiescent tile and writes its context at the window's offset; a restore needs a parked image and a
context of this tile, image and barrier whose CHECK holds, and makes the tile wait with the saved state and
arrive again; one that changes the tile counts as an intervention. A context with a poisoned byte does not match (log entry 86). -/
def Obligations.ContextImages : Prop :=
  (∀ (s : State) (a : Nat) (r : List Byte), s.Asks 0x0204 stRE (lenIs 8) r → s.ctxAddr r = .ok a →
    ((s.tile (leAt r 0 2)).ctxReady = false → exec .ctxSave s = .next (s.complete stNOT_QUIESCENT [])) ∧
    ((s.tile (leAt r 0 2)).ctxReady = true → ∃ t : State, exec .ctxSave s = .next t ∧ s.Answered t stOK ∧
      t.mem.data = Sparse.setRun 0 s.mem.data a (((s.tile (leAt r 0 2)).ctxTouch).ctxBytes s.digest) ∧
      (∀ k, k ≠ leAt r 0 2 → t.tile k = s.tile k) ∧ t.tile (leAt r 0 2) = (s.tile (leAt r 0 2)).ctxTouch)) ∧
  (∀ (s : State) (a : Nat) (r : List Byte), s.Asks 0x0205 [.running] (lenIs 8) r → s.ctxAddr r = .ok a →
    let b := s.memBytes a ctxSize
    let u := s.memRead a ctxSize
    (s.ctxMismatch (leAt r 0 2) b = true ∨ u.mem.rangePz a ctxSize = true → exec .ctxRestore s = .next (u.complete stCTX_MISMATCH [])) ∧
    (s.ctxMismatch (leAt r 0 2) b = false → u.mem.rangePz a ctxSize = false → ∃ t : State, exec .ctxRestore s = .next t ∧ s.Answered t stOK ∧
      t.tile (leAt r 0 2) = (s.tile (leAt r 0 2)).ctxRestore b s.cc ∧ (t.tile (leAt r 0 2)).sleep = .barrier ∧
      (∀ k, k ≠ leAt r 0 2 → t.tile k = s.tile k) ∧ t.mem.data = s.mem.data ∧
      (let q := s.setTile (leAt r 0 2) ((s.tile (leAt r 0 2)).ctxRestore b s.cc)
       ∀ p, s.cal.parked = some p →
        ((ctxArr b s.cc).rop ≠ p.rop → t.cal.parked = none) ∧
        (∀ v, (ctxArr b s.cc).rop = p.rop → q.heldVal 5 0x5000 = some v → t.cal.parked = some { v with at' := p.at' })) ∧
      t.vent.run.interventions = s.vent.run.interventions +
        (if (s.tile (leAt r 0 2)).ctxBytes s.digest = b then 0 else 1))) ∧
  (∀ (s : State) (c : Nat) (r : List Byte), s.ctxAddr r = .error c →
    (s.Asks 0x0204 stRE (lenIs 8) r → exec .ctxSave s = .next (s.complete c [])) ∧
    (s.Asks 0x0205 [.running] (lenIs 8) r → exec .ctxRestore s = .next (s.complete c [])))

/-- **Windows, partners, ports and the job through the mailbox.** Each command has its effect on its own part of the module and answers OK;
what its row refuses is answered with its status and has no effect. That PARTNER_ADD replaces a listed device's entry, and that JRN_ACK_CLOSE answers
OK for a step that no record names, are the model's choices (log entry 55). -/
def Obligations.MailboxSettings : Prop :=
  ∀ (s : State) (r : List Byte),
    (s.Asks 0x0300 stILRE (lenIs 8) r →
      (leAt r 0 8 % 65536 ≠ 0 ∨ imageEndAddr < leAt r 0 8 + 0x1000000000 → exec .hdmMap s = .next (s.complete stRANGE [])) ∧
      (leAt r 0 8 % 65536 = 0 → leAt r 0 8 + 0x1000000000 ≤ imageEndAddr → ∃ t : State, exec .hdmMap s = .next t ∧
        t.host.hbase = leAt r 0 8 ∧ s.Answered t stOK ∧ t.mem = s.mem ∧ t.vent = s.vent)) ∧
    (s.Asks 0x0301 [.running] (lenIs 1) r →
      (64 ≤ leAt r 0 1 ∨ s.win (leAt r 0 1) = none ∨ (∃ x, s.win (leAt r 0 1) = some x ∧ x.side1 = true) →
        exec .winArrive s = .next (s.complete stWIN_UNDECLARED [])) ∧
      (∀ x, leAt r 0 1 < 64 → s.win (leAt r 0 1) = some x → x.side1 = false →
        (x.outside = false → exec .winArrive s = .next (s.complete stWIN_HELD [])) ∧
        (x.outside = true → s.isAin (leAt r 0 1) = true →
          let u := s.auditRead (leAt r 0 1)
          (u.auditArrive (leAt r 0 1) = none → exec .winArrive s = .next (u.complete stBAD_FIELD [])) ∧
          (∀ v, u.auditArrive (leAt r 0 1) = some v → exec .winArrive s = .next ((v.resume (leAt r 0 1)).complete stOK []))) ∧
        (x.outside = true → s.isAin (leAt r 0 1) = false → ∃ t : State, exec .winArrive s = .next t ∧
          s.Answered t stOK ∧ t.mem.data = s.mem.data ∧ (leAt r 0 1 = s.resumeWin → t.cal.parked = none) ∧
          (leAt r 0 1 ≠ s.resumeWin → t.cal = s.cal) ∧
          t.win (leAt r 0 1) = some { x with outside := false, xfer := (x.xfer + 1) % 2 ^ 16, issued := [], released := [], handed := [] } ∧
          (∀ k ∈ gTiles s.rows x.cons, t.tile k = (s.tile k).incFlag x.aflag) ∧
          (∀ k, k ∉ gTiles s.rows x.cons → t.tile k = s.tile k)))) ∧
    (s.Asks 0x0400 stILRE (lenIs 32) r → 4096 ≤ leAt r 8 2 → exec .partnerAdd s = .next (s.complete stBAD_FIELD [])) ∧
    (s.Asks 0x0400 stILRE (lenIs 32) r → leAt r 8 2 < 4096 →
      (s.partner (partnerOf r).dev = none → Config.partnerSlots ≤ s.txp.partners.length →
        exec .partnerAdd s = .next (s.complete stPARTNER [])) ∧
      (s.partner (partnerOf r).dev ≠ none ∨ s.txp.partners.length < Config.partnerSlots → ∃ t : State, exec .partnerAdd s = .next t ∧
        s.Answered t stOK ∧ t.txp.partners = s.txp.partners.filter (fun k => k.dev != (partnerOf r).dev) ++ [partnerOf r] ∧
        t.txp.sessions = s.txp.sessions)) ∧
    (s.Asks 0x0401 stILRE (lenIs 8) r →
      (s.partner (leAt r 0 8) = none → exec .partnerRemove s = .next (s.complete stPARTNER [])) ∧
      (s.partner (leAt r 0 8) ≠ none → ∃ t : State, exec .partnerRemove s = .next t ∧ s.Answered t stOK ∧
        t.partner (leAt r 0 8) = none ∧ (t.sess (leAt r 0 8)).st = .closed ∧ t.hand (leAt r 0 8) = none ∧
        ((s.sess (leAt r 0 8)).st = .up → ∃ m ∈ t.txp.out, m.dev = leAt r 0 8 ∧ m.mtype = 0x01 ∧ m.kind = 6))) ∧
    (s.Asks 0x0402 stILRE (lenIs 48) r →
      (11 < leAt r 0 1 → exec .portCfg s = .next (s.complete stPORT [])) ∧
      (leAt r 0 1 ≤ 11 → portCfgOk r = false → exec .portCfg s = .next (s.complete stBAD_FIELD [])) ∧
      (leAt r 0 1 ≤ 11 → portCfgOk r = true → leAt r 1 1 ≠ 0 → Sparse.get false s.vent.map.ports (leAt r 0 1) = true →
        exec .portCfg s = .next (s.complete stWRONG_STATE [])) ∧
      (leAt r 0 1 ≤ 11 → portCfgOk r = true → leAt r 1 1 ≠ 0 → Sparse.get false s.vent.map.ports (leAt r 0 1) = false →
        ∃ t : State, exec .portCfg s = .next t ∧ s.Answered t stOK ∧ (t.port (leAt r 0 1)).st = .training ∧
          (t.port (leAt r 0 1)).mode = leAt r 1 1 ∧ (t.port (leAt r 0 1)).mac = leAt r 14 6 ∧ ∀ p, p ≠ leAt r 0 1 → t.port p = s.port p) ∧
      (leAt r 0 1 ≤ 11 → portCfgOk r = true → leAt r 1 1 = 0 → ∃ t : State, exec .portCfg s = .next t ∧ s.Answered t stOK ∧
        (t.port (leAt r 0 1)).st = .disabled ∧ (t.port (leAt r 0 1)).mode = 0 ∧ (t.port (leAt r 0 1)).mac = leAt r 14 6 ∧
        (t.port (leAt r 0 1)).ip6 = leAt r 20 16 ∧ ∀ p, p ≠ leAt r 0 1 → t.port p = s.port p)) ∧
    (s.Asks 0x0404 stILRE (lenIs 12) r →
      (leAt r 0 4 < 200 ∨ 10000 < leAt r 0 4 ∨ leAt r 4 4 < 1000 ∨ 3600000 < leAt r 4 4 ∨ leAt r 8 4 < 1000 ∨ 60000 < leAt r 8 4 →
        exec .txpTimers s = .next (s.complete stBAD_FIELD [])) ∧
      (200 ≤ leAt r 0 4 → leAt r 0 4 ≤ 10000 → 1000 ≤ leAt r 4 4 → leAt r 4 4 ≤ 3600000 → 1000 ≤ leAt r 8 4 → leAt r 8 4 ≤ 60000 →
        ∃ t : State, exec .txpTimers s = .next t ∧ s.Answered t stOK ∧
          t.txp = { s.txp with newTimers := some (leAt r 0 4, leAt r 4 4, leAt r 8 4) })) ∧
    (s.Asks 0x0406 [.running] (lenIs 8) r →
      let ok := s.txp.members.length = 2 ∧ s.txp.deputy = some s.vent.devId ∧ s.txp.leader = leAt r 0 8 ∧ s.sessUp (leAt r 0 8) = false
      (¬ ok → exec .forceTakeover s = .next (s.complete stWRONG_STATE [])) ∧
      (ok → s.vent.journal.mounted = true → s.vent.journal.damaged = false → ∃ t : State, exec .forceTakeover s = .next t ∧
        s.Answered t stOK ∧ t.txp = s.txp ∧ t.vent.journal = s.vent.journal.push 0x47
          (leBytes 4 (s.txp.epoch + 1) ++ leBytes 6 s.stepNo ++ leBytes 8 s.txp.leader) .takeover)) ∧
    (s.Asks 0x0502 stAll (lenIs 6) r → ∃ t : State, exec .jrnAckClose s = .next t ∧ s.Answered t stOK ∧
      t.txp.closes = s.txp.closes.map fun c => if c.step = leAt r 0 6 then { c with acked := true } else c)

/-- **Firmware and debug access.** A write changes the bytes it names of the image in flash; a commit checks the image in the background and
is journaled; DEBUG_OPEN takes a token that passes every check, the key of its authority in the running image among them, once; a hand setting sets
the flag, is journaled, posted and counted; without the right it has no effect. The model's choices: the mark of a written image, which only a commit
that verifies it removes (log entry 82), the order of DEBUG_OPEN's checks and the first byte of the DEBUG record (56). -/
def Obligations.FirmwareAndDebug : Prop :=
  (∀ (s : State) (r : List Byte),
    (s.Asks 0x0602 stDI (fun n => decide (9 ≤ n) && decide (n ≤ 32768)) r →
      (r.length ≠ 8 + leAt r 4 4 → exec .fwWrite s = .next (s.complete stBAD_LENGTH [])) ∧
      (r.length = 8 + leAt r 4 4 → leAt r 0 4 + leAt r 4 4 ≤ 0x1000000 → ∃ t : State, exec .fwWrite s = .next t ∧ s.Answered t stOK ∧
        (∀ i, Sparse.get 0xFF t.vent.flash.fw i = if leAt r 0 4 ≤ i ∧ i < leAt r 0 4 + leAt r 4 4 then r.getD (8 + (i - leAt r 0 4)) 0
          else Sparse.get 0xFF s.vent.flash.fw i) ∧ t.vent.flash.stale = true ∧ t.vent.flash.ident = s.vent.flash.ident ∧ t.vent.journal = s.vent.journal)) ∧
    (s.Asks 0x0603 stDI (lenIs 4) r →
      (s.host.bg ≠ none → exec .fwCommit s = .next (s.complete stBUSY [])) ∧
      (s.host.bg = none → ∃ t : State, exec .fwCommit s = .next t ∧ s.Answered t stBG_STARTED ∧
        t.host.bg = some ⟨0x0603, 0, leAt r 0 4⟩)) ∧
    (s.Asks 0x0604 stAll (lenIs 17152) r →
      let reserved := 8 ≤ leAt r 2 2 ∨ zeroAt r 5 8 = false ∨ zeroAt r 32 64 = false
      (reserved → exec .debugOpen s = .next (s.complete stBAD_FIELD [])) ∧
      (¬ reserved → s.sec.session ≠ none → exec .debugOpen s = .next (s.complete stWRONG_STATE [])) ∧
      (s.vent.authKeys.getD (leAt r 4 1) none = none → s.tokenOk r = false) ∧
      (¬ reserved → s.sec.session = none → s.tokenOk r = false → exec .debugOpen s = .next (s.complete stTOKEN_BAD [])) ∧
      (¬ reserved → s.sec.session = none → s.tokenOk r = true → s.vent.journal.mounted = true → s.vent.journal.damaged = false →
        ∃ t : State, exec .debugOpen s = .next t ∧ s.Answered t stOK ∧ t.sec.session = some (leAt r 2 2) ∧
          t.sec.tokno = some (leAt r 20 4) ∧ t.vent.journal = s.vent.journal.push 0x31 ([0] ++ shake256 32 r) .extendM3)) ∧
    (s.Asks 0x0605 stAll (lenIs 0) [] →
      (s.sec.session = none → exec .debugClose s = .next (s.complete stNO_DEBUG [])) ∧
      (s.sec.session ≠ none → ∃ t : State, exec .debugClose s = .next t ∧ s.Answered t stOK ∧ t.sec.session = none ∧
        t.sec.tokno = s.sec.tokno ∧ t.jtag.driving = false)) ∧
    (s.Asks 0x0700 [.running] (lenIs 4) r → leAt r 0 2 < s.tileLimit → leAt r 2 1 < 48 →
      (s.sec.right 0 = false → exec .syncfSet s = .next (s.complete stNO_DEBUG [])) ∧
      (s.sec.right 0 = true → s.jtag.lastSet ≠ some (leAt r 0 2, leAt r 2 1, s.cc) → s.vent.journal.mounted = true →
        s.vent.journal.damaged = false → ∃ t : State, exec .syncfSet s = .next t ∧ s.Answered t stOK ∧ (s.host.inside = [] → t.host.rlen = 1) ∧
          t.tile (leAt r 0 2) = (s.tile (leAt r 0 2)).handSet (leAt r 2 1) (leAt r 3 1) ∧
          (∀ k, k ≠ leAt r 0 2 → t.tile k = s.tile k) ∧ t.vent.run.interventions = s.vent.run.interventions + 1 ∧
          t.vent.journal = s.vent.journal.push 0x30 (leBytes 2 (leAt r 0 2) ++ leBytes 1 (leAt r 2 1) ++
            leBytes 1 ((s.tile (leAt r 0 2)).sflag (leAt r 2 1)).val0 ++ leBytes 1 (leAt r 3 1) ++ leBytes 1 0) .extendM3))) ∧
  (∀ (s : State) (n : Nat), s.host.bg = some ⟨0x0603, 0, n⟩ → s.mbServes = true → s.vent.journal.mounted = true →
    s.vent.journal.damaged = false →
    let st := if s.vent.flash.verifies n then stOK else stVERIFY_FAIL
    ∃ t : State, exec .fwCommitDone s = .next t ∧ t.host.bg = none ∧ t.vent.flash.fw = s.vent.flash.fw ∧
      t.vent.flash.stale = (s.vent.flash.stale && !s.vent.flash.verifies n) ∧
      t.vent.journal = s.vent.journal.push 0x33 (leBytes 2 st ++ leBytes 4 n) .nothing) ∧
  (∀ s : State, s.host.bg = none ∨ s.mbServes = false → exec .fwCommitDone s = .next s)

/-- **Registers: read-to-clear, latches, queues, write-one-to-clear.** An RC counter answers its value and is cleared; a low word latches
its high word; the NACK and time-stamp queues give their oldest entry and drop it; a W1C bit is cleared by a 1; a read-only register
ignores a write; EVQ.HEAD is not taken beyond TAIL; nothing is written while the domains are held in reset. That a second read of a low word holds
anew, and that a 1 clears each bit of TILE.ERR.CODE by itself, are the model's choices (log entry 57). -/
def Obligations.Registers : Prop :=
  (∀ (s : State) (t off : Nat), t < 1536 → tileCounter off = true →
    ∃ u : State, exec (.rcCounterRead (.tile t off)) s = .next u ∧ u.out = ⟨leBytes 4 ((s.tile t).peek off).toNat, false⟩ ∧
      Sparse.get 0 (u.tile t).cnt off = 0 ∧ (∀ k, k ≠ off → Sparse.get 0 (u.tile t).cnt k = Sparse.get 0 (s.tile t).cnt k) ∧
      (u.tile t).SameRegs (s.tile t) ∧ (∀ v, v ≠ t → u.tile v = s.tile v) ∧ u.mem = s.mem) ∧
  (∀ s : State,
    (∃ u : State, exec (.rcCounterRead (.cal 0x010)) s = .next u ∧ u.out.data = leBytes 4 s.cal.cntBar.toNat ∧ u.cal.cntBar = 0) ∧
    (∃ u : State, exec (.rcCounterRead .evqLost) s = .next u ∧ u.out.data = leBytes 4 (w32 s.host.lost).toNat ∧ u.host.lost = 0) ∧
    (s.vent.startup.held = false → ∃ u : State, exec (.latchedLowWordRead .migSstep false) s = .next u ∧ u.out.data = leBytes 4 (w32 s.mig.sstep).toNat ∧
      u.mig = { s.mig with sstepHold := some (w32 (s.mig.sstep / 2 ^ 32)) }) ∧
    (s.vent.startup.held = false → ∃ u : State, exec (.latchedLowWordRead .migSstep true) s = .next u ∧
      u.out.data = leBytes 4 (s.mig.sstepHold.getD (w32 (s.mig.sstep / 2 ^ 32))).toNat ∧ u.mig = { s.mig with sstepHold := none })) ∧
  (∀ (s : State) (t : Nat), t < 1536 → ∃ u : State, exec (.msgNackRead t) s = .next u ∧
    u.out = ⟨leBytes 4 (s.tile t).ring.nackWord.toNat, false⟩ ∧
    u.tile t = { s.tile t with ring := { (s.tile t).ring with nack := (s.tile t).ring.nack.drop 1 } } ∧
    ∀ v, v ≠ t → u.tile v = s.tile v) ∧
  (∀ (s : State) (p i : Nat), p < 12 → i ≤ 3 → ∃ u : State, exec (.tsqEntryRead p i) s = .next u ∧
    u.out = ⟨leBytes 4 ((s.port p).tsqWord i).toNat, false⟩ ∧
    (u.port p).tsq = (if i = 3 then (s.port p).tsq.drop 1 else (s.port p).tsq) ∧ (∀ q, q ≠ p → u.port q = s.port q)) ∧
  (∀ (s : State) (r : WReg) (v : Word), s.vent.startup.held = true → exec (.registerWrite r v) s = .next s) ∧
  (∀ (s : State) (v : Word), s.vent.startup.held = false →
    exec (.registerWrite (.cal 0x000) v) s = .next { s with cal := { s.cal with wdog := v.toNat % 2 ^ 24 } } ∧
    exec (.registerWrite (.cal 0x008) v) s = .next { s with
      cal := { s.cal with
        errUe := s.cal.errUe && !bitAt v.toNat 0
        errMismatch := s.cal.errMismatch && !bitAt v.toNat 1 } } ∧
    (∀ off, exec (.registerWrite (.mem off) v) s = .next s) ∧
    (∀ t, t < 1536 → ∃ u : State, exec (.registerWrite (.tile t 0x010) v) s = .next u ∧
      u.tile t = { s.tile t with fpflags := (s.tile t).fpflags &&& ~~~(v.setWidth 5) } ∧ ∀ k, k ≠ t → u.tile k = s.tile k) ∧
    (∀ t, t < 1536 → ∃ u : State, exec (.registerWrite (.tile t 0x018) v) s = .next u ∧
      (u.tile t).errCode = (s.tile t).errCode &&& ~~~(v.setWidth 8) ∧ ∀ k, k ≠ t → u.tile k = s.tile k) ∧
    (∀ p, p < 12 → ∃ u : State, exec (.registerWrite (.port p 0x10) v) s = .next u ∧
      u.port p = { s.port p with etype := v.toNat % 2 ^ 16 } ∧ u.txp = s.txp) ∧
    (s.host.go = true → s.hostDown = false → ∀ off, off = 0x0000 ∨ off = 0x0004 ∨ off = 0x0008 ∨ off = 0x8000 →
      exec (.mailboxWriteWhileBusy off v) s = .next { s with host := { s.host with werr := true } }) ∧
    (s.host.go = false → s.hostDown = false → v.toNat % 2 = 1 →
      let h := { s.host with go := true }
      (s.host.cmd ≠ 0x0601 → exec (.registerWrite (.bar0 0x0008) v) s = .next { s with host := h }) ∧
      (s.host.cmd = 0x0601 → exec (.registerWrite (.bar0 0x0008) v) s = .next { s with
        host := h
        sec := { s.sec with quote := some (s.quoteBody h.req) } })) ∧
    (s.hostDown = false →
      let n := v.toNat % 256
      exec (.evqHeadWrite v) s = .next { s with
        host := if (n + 256 - s.host.head) % 256 ≤ (s.host.tail + 256 - s.host.head) % 256 then { s.host with head := n } else s.host }))

/-- **The CXL function and its memory.** HDM reads and writes one line of the device range where the mode and the windows serve it, and wait
where the page or a reread holds the line; a refused read answers zeros with poison, a refused write has no effect, each is counted; a
function reset clears BAR0 and BAR2 and keeps Vent, a command in progress goes on inside Vent; PERST_N low resets the function too and holds the link
down, and while it is low, or the module is held in reset, no access of the host has an effect; a configuration read has retry status until Vent
runs; a vector is signalled while MSI-X is enabled, or pends while masked; the mailbox opcodes answer, another is Unsupported (CXL's numbers, MSI-X's
pending bits and the layouts of BAR2 and configuration space are log entries 15, 17 and 81). -/
def Obligations.CxlFunction : Prop :=
  (∀ (s : State) (off : Nat), off < 0x1000000000 → s.hostDown = false →
    let a := s.host.hbase + 64 * (off / 64)
    (s.hdmServed false a = true → s.pageHeld a 64 false = false → s.memPending a 64 = false →
      ∃ t : State, exec (.hdmRead off) s = .next t ∧ t.out = ⟨s.memBytes a 64, s.memAnyPz a 64⟩ ∧ t.mem.data = s.mem.data ∧
        t.mem.pz = s.mem.pz ∧ t.host = s.host) ∧
    (s.hdmServed false a = true → (s.pageHeld a 64 false = true ∨ s.memPending a 64 = true) → exec (.hdmRead off) s = .next s) ∧
    (s.hdmServed false a = false → ∃ t : State, exec (.hdmRead off) s = .next t ∧ t.out = ⟨List.replicate 64 0, true⟩ ∧
      t.host.refused = s.host.refused + 1 ∧ t.mem.data = s.mem.data) ∧
    (∀ (data : List Byte) (pz : Bool),
      (s.hdmServed true a = true → s.staged a 64 = false → s.pageHeld a 64 true = false →
        ∃ t : State, exec (.hdmWrite off data pz) s = .next t ∧ t.mem.data = Sparse.setRun 0 s.mem.data a (padTo 64 data) ∧
          t.host = s.host ∧ t.tiles = s.tiles) ∧
      (s.hdmServed true a = true → s.staged a 64 = false → s.pageHeld a 64 true = true → exec (.hdmWrite off data pz) s = .next s) ∧
      (s.hdmServed true a = false ∨ s.staged a 64 = true → ∃ t : State, exec (.hdmWrite off data pz) s = .next t ∧
        t.host.refused = s.host.refused + 1 ∧ t.mem.data = s.mem.data ∧ t.mem.pz = s.mem.pz))) ∧
  (∀ s : State, ∃ t : State, exec .cxlFunctionReset s = .next t ∧ t.host.go = false ∧ t.host.cmd = 0 ∧ t.host.status = 0 ∧
    t.host.payload = [] ∧ t.host.evq = [] ∧ t.host.head = 0 ∧ t.host.tail = 0 ∧ t.host.en = false ∧ t.host.hbase = s.host.hbase ∧
    t.host.bg = s.host.bg ∧ t.host.bgDone = s.host.bgDone ∧ t.host.linkUp = s.host.linkUp ∧ t.host.linkWidth = s.host.linkWidth ∧
    t.host.inside = s.host.inside ++ (if s.host.go then [(s.host.cmd, s.host.req)] else []) ∧ t.host.bar2 = HostIface.reset.bar2 ∧
    t.host.bgHeld = (s.host.bgHeld || s.host.bg.isSome) ∧ t.host.msixOn = false ∧ t.host.shadow = s.host.shadow ∧ t.host.memActive = s.host.memActive ∧ t.vent = s.vent ∧ t.mem = s.mem ∧
    t.tiles = s.tiles) ∧
  (∀ (s : State) (v : Nat),
    (∃ t : State, exec (.hostLinkTraining (.perst true) v) s = .next t ∧ t.aon = { s.aon with perstLow := true } ∧ t.host.linkUp = false ∧
      (∀ u, exec .cxlFunctionReset s = .next u → t.host = { u.host with linkUp := false, linkWidth := 0, linkSpeed := 0 }) ∧
      t.vent = s.vent ∧ t.mem = s.mem ∧ t.tiles = s.tiles) ∧
    exec (.hostLinkTraining (.perst false) v) s = .next { s with aon := { s.aon with perstLow := false } }) ∧
  (∀ (s : State) (off : Nat) (data : List Byte) (pz : Bool) (w : Word), s.vent.startup.held = true ∨ s.aon.perstLow = true →
    ∀ c ∈ [Instr.hdmRead off, .hdmWrite off data pz, .evqHeadWrite w, .registerWrite (.bar0 off) w, .registerWrite (.bar2 off) w,
      .registerWrite (.cfg off) w, .cxlGetHealthInfo, .cxlClearEventRecords off], exec c s = .next s) ∧
  (∀ (s : State) (off : Nat) (v : Word) (r : Config.Bar2Reg), Config.bar2At off = some r → s.hostDown = false →
    let b := s.host.bar2
    exec (.registerWrite (.bar2 off) v) s = .next { s with host := { s.host with bar2 := b.poke r v } } ∧
    (r = .rasUe → (b.poke r v).peek s.host.memActive r = b.rasUe &&& ~~~v) ∧
    (r = .rasUeMask → (b.poke r v).peek s.host.memActive r = v) ∧
    (r = .devStatus → b.poke r v = b ∧ s.bar2 off = w32 (b2n s.host.memActive)) ∧
    (r = .decControl → bitAt v.toNat 9 = true → fld v.toNat 7 4 = 0 → (b.poke r v).decoder.committed = true)) ∧
  (∀ (h : HostIface) (v : Nat),
    (h.msixOn = false → h.msi v = h) ∧
    (h.msixOn = true → h.msixMask = true ∨ (Sparse.get MsixVec.reset h.msix v).masked = true →
      h.msi v = { h with pba := Sparse.set false h.pba v true }) ∧
    (h.msixOn = true → h.msixMask = false → (Sparse.get MsixVec.reset h.msix v).masked = false →
      h.msi v = { h with signalled := Sparse.set 0 h.signalled v (Sparse.get 0 h.signalled v + 1) })) ∧
  (∀ (s : State) (off : Nat),
    (s.hostDown = true ∨ s.host.linkUp = false → s.cfgRead off = .noAnswer) ∧
    (s.hostDown = false → s.host.linkUp = true → s.ventRuns = false → s.vent.dev ≠ .dormant → s.cfgRead off = .retry) ∧
    (∀ r, s.hostDown = false → s.host.linkUp = true → s.ventRuns = true → Config.cfgAt off = some r → s.cfgRead off = .data (s.cfgWord r))) ∧
  (∀ s : State, s.hostDown = false →
    (∃ rest, exec .cxlIdentifyMemoryDevice s = .next { s with out := ⟨leBytes 2 0 ++ (leBytes 8 0x1000000000 ++ leBytes 8 0 ++ rest), false⟩ }) ∧
    (∀ c ∈ [Instr.cxlGetSupportedLogs, .cxlGetLog, .cxlGetHealthInfo],
      ∃ rest, exec c s = .next { s with out := ⟨leBytes 2 0 ++ rest, false⟩ }) ∧
    (∃ rest, exec .cxlGetEventRecords s = .next { s with out := ⟨leBytes 2 0 ++ (leBytes 2 s.host.cxlRecs.length ++ rest), false⟩ }) ∧
    (∀ n, ∃ t : State, exec (.cxlClearEventRecords n) s = .next t ∧ t.host.cxlRecs = s.host.cxlRecs.drop n ∧ t.vent = s.vent) ∧
    (∀ op, cxlOpcodes.contains op = false → exec (.cxlUnsupportedOpcode op) s = .next { s with out := ⟨leBytes 2 3 ++ [], false⟩ }))

/-- **JTAG and the sideband.** Each instruction has its effect while TRST_N is high; EXTEST, the register read and the flag setting need the
JTAG right and are BYPASS without it; TRST_N low gives IDCODE and holds; the endpoint answers its sensors and its repository of one record for each of
them, and takes its address (the records' handles and layout are log entry 17). -/
def Obligations.JtagAndSideband : Prop :=
  (∀ s : State, s.jtag.trst = false → s.aon.power = true →
    (∀ b, exec (.jtagBypass b) s = .next { s with
      jtag := { s.jtag with ir := .bypass, tdo := s.jtag.bypass, bypass := b, driving := false } }) ∧
    (∃ t : State, exec .jtagIdcode s = .next t ∧ t.jtag.ir = .idcode ∧ t.jtag.dr = w32 (at' s.vent.stepping 28 + 0x0C150A3D) ∧
      t.out.data = leBytes 4 t.jtag.dr.toNat ∧ t.vent = s.vent) ∧
    (∀ pins cells, exec (.jtagSamplePreload pins cells) s = .next { s with
      jtag := { s.jtag with ir := .samplePreload, cells := cells, driving := false }
      out := ⟨bitsToBytes pins, false⟩ }) ∧
    (s.sec.right 2 = false → ∀ b,
      exec (.jtagExtest b) s = exec (.jtagBypass b) s ∧
      (∀ t off, t < 1536 → exec (.jtagRegisterRead t off b) s = exec (.jtagBypass b) s) ∧
      (∀ t n v, t < 1536 → exec (.jtagSyncfSet t n v b) s = exec (.jtagBypass b) s)) ∧
    (s.sec.right 2 = true → ∀ b,
      exec (.jtagExtest b) s = .next { s with jtag := { s.jtag with ir := .extest, driving := true } } ∧
      (∀ t off, t < 1536 → ∃ u : State, exec (.jtagRegisterRead t off b) s = .next u ∧ u.jtag.ir = .regRead ∧
        u.out = ⟨leBytes 4 (s.tregWord t off).toNat, false⟩ ∧ u.tiles = s.tiles) ∧
      (∀ t n v, t < 1536 → n < 48 → ∃ u : State, exec (.jtagSyncfSet t n v b) s = .next u ∧
        u.tile t = (s.tile t).handSet n (v % 256) ∧ (∀ k, k ≠ t → u.tile k = s.tile k) ∧ u.jtag.lastSet = some (t, n, s.cc) ∧
        u.vent.run.interventions = s.vent.run.interventions + 1 ∧
        (((s.tile t).sflag n).hand = none → s.vent.journal.mounted = true → s.vent.journal.damaged = false → u.vent.journal =
          s.vent.journal.push 0x30 (leBytes 2 t ++ leBytes 1 n ++ leBytes 1 ((s.tile t).sflag n).val0 ++ leBytes 1 (v % 256) ++ leBytes 1 1)
            .extendM3) ∧
        -- a SYNCF_SET of this cycle on the same flag, whose record waits last, is journaled after it
        (∀ (w : Nat) (l : List PendRec), (((s.tile t).sflag n).hand).isSome = true → s.jtag.lastSet ≠ some (t, n, s.cc) →
          s.vent.journal.mounted = true → s.vent.journal.damaged = false →
          let p := leBytes 2 t ++ leBytes 1 n ++ leBytes 1 ((s.tile t).sflag n).val0
          s.vent.journal.batch = l ++ [⟨0x30, p ++ leBytes 1 w ++ leBytes 1 0, .extendM3⟩] →
          u.vent.journal.batch = l ++ [⟨0x30, p ++ leBytes 1 (v % 256) ++ leBytes 1 1, .extendM3⟩,
            ⟨0x30, p ++ leBytes 1 w ++ leBytes 1 0, .extendM3⟩])))) ∧
  (∀ s : State,
    exec (.trstNReset true) s = .next { s with
      jtag := { s.jtag with trst := true, ir := .idcode, bypass := false, driving := false } } ∧
    exec (.trstNReset false) s = .next { s with jtag := { s.jtag with trst := false } } ∧
    (s.jtag.trst = true → ∀ b, exec (.jtagBypass b) s = .next s)) ∧
  (∀ s : State, s.sideServes = true →
    (∀ cmd data, ∃ resp, exec (.mctpControlMessage cmd data) s = .next { s with out := ⟨resp, false⟩ }) ∧
    (∀ n, 1 ≤ n → n ≤ 9 → exec (.pldmRequest (.reading n)) s = .next { s with
      out := ⟨leBytes 4 (BitVec.ofInt 32 (Sparse.get 0 s.side.sensors n)).toNat, false⟩ }) ∧
    (∀ n, 1 ≤ n → n ≤ 9 → ∃ rest, exec (.pldmRequest (.pdr n)) s = .next { s with
      out := ⟨leBytes 4 n ++ [1, if n = 7 ∨ n = 8 then 4 else 2, 0, 0] ++ rest, false⟩ }) ∧
    (∃ rest, exec (.pldmRequest .repository) s = .next { s with out := ⟨leBytes 4 9 ++ rest, false⟩ }) ∧
    (∀ a, exec (.smbusArp a) s = .next { s with side := { s.side with addr := a % 128 } }))

/-- **Every step keeps the canonical form of memory and the size of the grid.** From every state that meets it, not only from runs after
reset, a step that goes on keeps the invariant: the device range is in its canonical form (addresses strictly rising, no zero byte
listed), and the loaded image's grid has at most 48 rows. -/
def Obligations.EveryStepKeepsTheInvariant : Prop :=
  ∀ s u : State, s.Inv → step s = .next u → u.Inv

/-- **The values at reset, which meet the invariant.** The reset values that the spec's tables give (BAR0, CAL, MIG, ports DISABLED,
TIMEVALID 0, M3 zero, timers of Table 12-10), tiles IDLE, memory without poison. The zeros of general registers, handles and stores are
the model's where the spec gives none (log entries 6 and 7). -/
def Obligations.ResetValues : Prop :=
  (let s := State.reset
   (s.pending = [] ∧ s.vent.dev = .boot ∧ s.vent.image = none ∧ s.vent.startup = Startup.reset ∧ s.vent.journal.mounted = false) ∧
   (s.host.cmd = 0 ∧ s.host.len = 0 ∧ s.host.go = false ∧ s.host.status = 0 ∧ s.host.werr = false ∧ s.host.rlen = 0 ∧ s.host.head = 0 ∧
     s.host.tail = 0 ∧ s.host.lost = 0 ∧ s.host.en = false ∧ s.host.hbase = 0) ∧
   (s.cal.wdog = 0 ∧ s.cal.wdFired = false ∧ s.cal.errMismatch = false ∧ s.cal.errUe = false ∧ s.cal.cntBar = 0 ∧ s.mig.sstep = 0 ∧
     s.aon.ptp = ⟨0, 0, 0⟩ ∧ s.aon.timeValid = false ∧ s.sec.m3 = List.replicate 32 0 ∧ s.sec.session = none) ∧
   (s.txp.tSessMs = 1000 ∧ s.txp.tInclMs = 30000 ∧ s.txp.tLeadMs = 3000 ∧ s.txp.members = [] ∧ s.txp.sessions = []) ∧
   (∀ p, (s.port p).st = .disabled ∧ (s.port p).cfg = 0 ∧ (s.port p).holder = none) ∧
   (∀ t, (s.tile t).st = .idle ∧ (∀ n, (s.tile t).reg n = 0 ∧ (s.tile t).regPz n = false) ∧ (∀ n, (s.tile t).hndOf n = 0) ∧
     (∀ a, (s.tile t).byteAt a = 0)) ∧
   (∀ a, Sparse.get 0 s.mem.data a = 0 ∧ s.mem.wordPz a = false ∧ s.win a = none)) ∧
  (State.reset.Inv)
end

