-- ==== Sys2Proof/Laws/Sparse.lean ====
section
/-!
SUPPORT. The laws of the sparse stores: a read after a write, a write elsewhere, runs of values, and that every write keeps the
canonical form.
-/
namespace Sys2Proof

theorem Sparse.get_put {α : Type} (d : α) (m : Sparse α) (k j : Nat) (v : α) :
    Sparse.get d (Sparse.put m k v) j = if j = k then v else Sparse.get d m j := by
  induction m with
  | nil => simp [Sparse.put, Sparse.get]
  | cons e m ih =>
    obtain ⟨i, w⟩ := e
    simp only [Sparse.put]
    split
    · subst i; simp only [Sparse.get]; split <;> rfl
    · split
      · simp [Sparse.get]
      · simp only [Sparse.get, ih]
        by_cases h1 : j = i <;> by_cases h2 : j = k <;> simp_all

theorem Sparse.get_del {α : Type} (d : α) (m : Sparse α) (k j : Nat) :
    Sparse.get d (Sparse.del m k) j = if j = k then d else Sparse.get d m j := by
  induction m with
  | nil => simp [Sparse.del, Sparse.get]
  | cons e m ih =>
    obtain ⟨i, w⟩ := e
    simp only [Sparse.del]
    split
    · subst i; rw [ih]; simp only [Sparse.get]; split <;> rfl
    · simp only [Sparse.get, ih]
      by_cases h1 : j = i <;> by_cases h2 : j = k <;> simp_all

/-- A read after a write: the value written at its index, the old value anywhere else. -/
theorem Sparse.get_set {α : Type} [DecidableEq α] (d : α) (m : Sparse α) (k j : Nat) (v : α) :
    Sparse.get d (Sparse.set d m k v) j = if j = k then v else Sparse.get d m j := by
  unfold Sparse.set
  split
  · subst v; exact Sparse.get_del d m k j
  · exact Sparse.get_put d m k j v

@[simp] theorem Sparse.get_set_self {α : Type} [DecidableEq α] (d : α) (m : Sparse α) (k : Nat) (v : α) :
    Sparse.get d (Sparse.set d m k v) k = v := by simp [Sparse.get_set]

@[simp] theorem Sparse.get_put_self {α : Type} (d : α) (m : Sparse α) (k : Nat) (v : α) :
    Sparse.get d (Sparse.put m k v) k = v := by simp [Sparse.get_put]

theorem Sparse.get_set_ne {α : Type} [DecidableEq α] (d : α) (m : Sparse α) {k j : Nat} (v : α) (h : j ≠ k) :
    Sparse.get d (Sparse.set d m k v) j = Sparse.get d m j := by simp [Sparse.get_set, h]

/-- A run of writes: the value of the run inside it, the old value outside. -/
theorem Sparse.get_setRun {α : Type} [DecidableEq α] (d : α) (vs : List α) (m : Sparse α) (k j : Nat) :
    Sparse.get d (Sparse.setRun d m k vs) j = if k ≤ j ∧ j < k + vs.length then vs.getD (j - k) d else Sparse.get d m j := by
  induction vs generalizing m k with
  | nil => simp [Sparse.setRun]
  | cons v vs ih =>
    simp only [Sparse.setRun, ih, Sparse.get_set, List.length_cons]
    by_cases h1 : j = k
    · subst j; rw [if_neg (by omega), if_pos rfl, if_pos ⟨by omega, by omega⟩]; simp
    · by_cases h2 : k + 1 ≤ j ∧ j < k + 1 + vs.length
      · have h3 : j - k = (j - (k + 1)) + 1 := by omega
        rw [if_pos h2, if_pos ⟨by omega, by omega⟩, h3]; rfl
      · rw [if_neg h2, if_neg h1, if_neg (by omega)]

theorem Sparse.get_setRun_out {α : Type} [DecidableEq α] (d : α) (vs : List α) (m : Sparse α) (k j : Nat)
    (h : j < k ∨ k + vs.length ≤ j) : Sparse.get d (Sparse.setRun d m k vs) j = Sparse.get d m j := by
  rw [Sparse.get_setRun, if_neg (by omega)]

theorem Sparse.wfFrom_mono {α : Type} [DecidableEq α] (d : α) {m : Sparse α} {a b : Nat} (hab : b ≤ a)
    (h : Sparse.wfFrom d a m = true) : Sparse.wfFrom d b m = true := by
  cases m with
  | nil => rfl
  | cons e m =>
    obtain ⟨i, v⟩ := e
    simp only [Sparse.wfFrom, Bool.and_eq_true, decide_eq_true_eq] at h ⊢
    exact ⟨⟨by omega, h.1.2⟩, h.2⟩

theorem Sparse.wfFrom_put {α : Type} [DecidableEq α] (d : α) {m : Sparse α} {a k : Nat} {v : α} (hv : v ≠ d) (hk : a ≤ k)
    (h : Sparse.wfFrom d a m = true) : Sparse.wfFrom d a (Sparse.put m k v) = true := by
  induction m generalizing a with
  | nil => simp [Sparse.put, Sparse.wfFrom, hv, hk]
  | cons e m ih =>
    obtain ⟨i, w⟩ := e
    simp only [Sparse.wfFrom, Bool.and_eq_true, decide_eq_true_eq] at h
    simp only [Sparse.put]
    split
    · subst i; simp [Sparse.wfFrom, hv, hk, h.2]
    · split
      · simp only [Sparse.wfFrom, Bool.and_eq_true, decide_eq_true_eq]
        exact ⟨⟨hk, hv⟩, ⟨by omega, h.1.2⟩, h.2⟩
      · simp only [Sparse.wfFrom, Bool.and_eq_true, decide_eq_true_eq]
        exact ⟨h.1, ih (by omega) h.2⟩

theorem Sparse.wfFrom_del {α : Type} [DecidableEq α] (d : α) {m : Sparse α} {a k : Nat}
    (h : Sparse.wfFrom d a m = true) : Sparse.wfFrom d a (Sparse.del m k) = true := by
  induction m generalizing a with
  | nil => rfl
  | cons e m ih =>
    obtain ⟨i, w⟩ := e
    simp only [Sparse.wfFrom, Bool.and_eq_true, decide_eq_true_eq] at h
    simp only [Sparse.del]
    split
    · exact Sparse.wfFrom_mono d (by omega) (ih h.2)
    · simp only [Sparse.wfFrom, Bool.and_eq_true, decide_eq_true_eq]
      exact ⟨h.1, ih h.2⟩

/-- A write keeps the canonical form. -/
theorem Sparse.wf_set {α : Type} [DecidableEq α] (d : α) {m : Sparse α} (k : Nat) (v : α)
    (h : Sparse.wf d m = true) : Sparse.wf d (Sparse.set d m k v) = true := by
  unfold Sparse.set
  split
  · exact Sparse.wfFrom_del d h
  · exact Sparse.wfFrom_put d (by assumption) (Nat.zero_le _) h

/-- A run of writes keeps the canonical form. -/
theorem Sparse.wf_setRun {α : Type} [DecidableEq α] (d : α) (vs : List α) {m : Sparse α} (k : Nat)
    (h : Sparse.wf d m = true) : Sparse.wf d (Sparse.setRun d m k vs) = true := by
  induction vs generalizing m k with
  | nil => exact h
  | cons v vs ih => exact ih _ (Sparse.wf_set d k v h)

theorem Sparse.wf_nil {α : Type} [DecidableEq α] (d : α) : Sparse.wf d ([] : Sparse α) = true := rfl

/-- A canonical store reads as the default below its first index. -/
theorem Sparse.get_lt {α : Type} [DecidableEq α] (d : α) {m : Sparse α} {a j : Nat} (h : Sparse.wfFrom d a m = true)
    (hj : j < a) : Sparse.get d m j = d := by
  induction m generalizing a with
  | nil => rfl
  | cons e m ih =>
    obtain ⟨i, v⟩ := e
    simp only [Sparse.wfFrom, Bool.and_eq_true, decide_eq_true_eq] at h
    simp only [Sparse.get]
    rw [if_neg (by omega)]
    exact ih h.2 (by omega)

end Sys2Proof
end

