-- ==== Sys2Proof/Laws/Bytes.lean ====
section
/-!
SUPPORT. Lengths of what the byte operations give, and reading back a run that has just been written.
-/
namespace Sys2Proof

@[simp] theorem leBytes_length (n v : Nat) : (leBytes n v).length = n := by
  induction n generalizing v with
  | zero => rfl
  | succ n ih => simp [leBytes, ih]

@[simp] theorem beBytes_length (n v : Nat) : (beBytes n v).length = n := by simp [beBytes]

@[simp] theorem padTo_length (n : Nat) (l : List Byte) : (padTo n l).length = n := by
  simp [padTo]; omega

/-- The number that n bytes spell is the number they were made of, as far as n bytes hold it. -/
theorem leNat_leBytes (n v : Nat) : leNat (leBytes n v) = v % 256 ^ n := by
  induction n generalizing v with
  | zero => simp [leBytes, leNat, Nat.mod_one]
  | succ n ih =>
    show (BitVec.ofNat 8 v).toNat + 256 * leNat (leBytes n (v / 256)) = _
    rw [ih, BitVec.toNat_ofNat, show (256 : Nat) ^ (n + 1) = 256 * 256 ^ n from Nat.pow_succ', Nat.mod_mul]

@[simp] theorem Sparse.getRun_length {α : Type} (d : α) (m : Sparse α) (k n : Nat) : (Sparse.getRun d m k n).length = n := by
  simp [Sparse.getRun]

/-- A run reads back as it was written. -/
theorem Sparse.getRun_setRun {α : Type} [DecidableEq α] (d : α) (m : Sparse α) (k : Nat) (vs : List α) :
    Sparse.getRun d (Sparse.setRun d m k vs) k vs.length = vs := by
  apply List.ext_getElem
  · simp
  · intro i h1 h2
    simp [Sparse.getRun, Sparse.get_setRun, h2]

namespace Machine

theorem take136_length (a : Sponge) : a.take136.length = 136 := by
  simp [Sponge.take136, List.range_succ]

theorem pour_length (n : Nat) (a : Sponge) : (Sponge.pour n a).length = 136 * n := by
  induction n generalizing a with
  | zero => rfl
  | succ n ih => simp only [Sponge.pour, List.length_append, ih, take136_length]; omega

@[simp] theorem shake256_length (n : Nat) (m : List Byte) : (shake256 n m).length = n := by
  simp only [shake256, List.length_take, pour_length, ceilDiv]
  omega

end Machine

end Sys2Proof
end

