-- ==== Sys2Proof/Laws/State.lean ====
section
/-!
SUPPORT. The updates of State, field by field: each shared update leaves every other field as it was, by definition.
-/
namespace Sys2Proof.Machine

@[simp] theorem State.post_pending (s : State) (typ : ℕ) (detail : List Byte) : (s.post typ detail).pending = s.pending := rfl
@[simp] theorem State.post_cc (s : State) (typ : ℕ) (detail : List Byte) : (s.post typ detail).cc = s.cc := rfl
@[simp] theorem State.post_free (s : State) (typ : ℕ) (detail : List Byte) : (s.post typ detail).free = s.free := rfl
@[simp] theorem State.post_out (s : State) (typ : ℕ) (detail : List Byte) : (s.post typ detail).out = s.out := rfl
@[simp] theorem State.post_tiles (s : State) (typ : ℕ) (detail : List Byte) : (s.post typ detail).tiles = s.tiles := rfl
@[simp] theorem State.post_cal (s : State) (typ : ℕ) (detail : List Byte) : (s.post typ detail).cal = s.cal := rfl
@[simp] theorem State.post_mesh (s : State) (typ : ℕ) (detail : List Byte) : (s.post typ detail).mesh = s.mesh := rfl
@[simp] theorem State.post_msgs (s : State) (typ : ℕ) (detail : List Byte) : (s.post typ detail).msgs = s.msgs := rfl
@[simp] theorem State.post_mem (s : State) (typ : ℕ) (detail : List Byte) : (s.post typ detail).mem = s.mem := rfl
@[simp] theorem State.post_mig (s : State) (typ : ℕ) (detail : List Byte) : (s.post typ detail).mig = s.mig := rfl
@[simp] theorem State.post_ports (s : State) (typ : ℕ) (detail : List Byte) : (s.post typ detail).ports = s.ports := rfl
@[simp] theorem State.post_masks (s : State) (typ : ℕ) (detail : List Byte) : (s.post typ detail).masks = s.masks := rfl
@[simp] theorem State.post_parbErr (s : State) (typ : ℕ) (detail : List Byte) : (s.post typ detail).parbErr = s.parbErr := rfl
@[simp] theorem State.post_coll (s : State) (typ : ℕ) (detail : List Byte) : (s.post typ detail).coll = s.coll := rfl
@[simp] theorem State.post_txp (s : State) (typ : ℕ) (detail : List Byte) : (s.post typ detail).txp = s.txp := rfl
@[simp] theorem State.post_vent (s : State) (typ : ℕ) (detail : List Byte) : (s.post typ detail).vent = s.vent := rfl
@[simp] theorem State.post_aon (s : State) (typ : ℕ) (detail : List Byte) : (s.post typ detail).aon = s.aon := rfl
@[simp] theorem State.post_sec (s : State) (typ : ℕ) (detail : List Byte) : (s.post typ detail).sec = s.sec := rfl
@[simp] theorem State.post_jtag (s : State) (typ : ℕ) (detail : List Byte) : (s.post typ detail).jtag = s.jtag := rfl
@[simp] theorem State.post_side (s : State) (typ : ℕ) (detail : List Byte) : (s.post typ detail).side = s.side := rfl
@[simp] theorem State.health_pending (s : State) (code : ℕ) (data : List Byte) : (s.health code data).pending = s.pending := rfl
@[simp] theorem State.health_cc (s : State) (code : ℕ) (data : List Byte) : (s.health code data).cc = s.cc := rfl
@[simp] theorem State.health_free (s : State) (code : ℕ) (data : List Byte) : (s.health code data).free = s.free := rfl
@[simp] theorem State.health_out (s : State) (code : ℕ) (data : List Byte) : (s.health code data).out = s.out := rfl
@[simp] theorem State.health_tiles (s : State) (code : ℕ) (data : List Byte) : (s.health code data).tiles = s.tiles := rfl
@[simp] theorem State.health_cal (s : State) (code : ℕ) (data : List Byte) : (s.health code data).cal = s.cal := rfl
@[simp] theorem State.health_mesh (s : State) (code : ℕ) (data : List Byte) : (s.health code data).mesh = s.mesh := rfl
@[simp] theorem State.health_msgs (s : State) (code : ℕ) (data : List Byte) : (s.health code data).msgs = s.msgs := rfl
@[simp] theorem State.health_mem (s : State) (code : ℕ) (data : List Byte) : (s.health code data).mem = s.mem := rfl
@[simp] theorem State.health_mig (s : State) (code : ℕ) (data : List Byte) : (s.health code data).mig = s.mig := rfl
@[simp] theorem State.health_ports (s : State) (code : ℕ) (data : List Byte) : (s.health code data).ports = s.ports := rfl
@[simp] theorem State.health_masks (s : State) (code : ℕ) (data : List Byte) : (s.health code data).masks = s.masks := rfl
@[simp] theorem State.health_parbErr (s : State) (code : ℕ) (data : List Byte) : (s.health code data).parbErr = s.parbErr := rfl
@[simp] theorem State.health_coll (s : State) (code : ℕ) (data : List Byte) : (s.health code data).coll = s.coll := rfl
@[simp] theorem State.health_txp (s : State) (code : ℕ) (data : List Byte) : (s.health code data).txp = s.txp := rfl
@[simp] theorem State.health_vent (s : State) (code : ℕ) (data : List Byte) : (s.health code data).vent = s.vent := rfl
@[simp] theorem State.health_aon (s : State) (code : ℕ) (data : List Byte) : (s.health code data).aon = s.aon := rfl
@[simp] theorem State.health_sec (s : State) (code : ℕ) (data : List Byte) : (s.health code data).sec = s.sec := rfl
@[simp] theorem State.health_jtag (s : State) (code : ℕ) (data : List Byte) : (s.health code data).jtag = s.jtag := rfl
@[simp] theorem State.health_side (s : State) (code : ℕ) (data : List Byte) : (s.health code data).side = s.side := rfl
@[simp] theorem State.complete_pending (s : State) (status : ℕ) (resp : List Byte) : (s.complete status resp).pending = s.pending := rfl
@[simp] theorem State.complete_cc (s : State) (status : ℕ) (resp : List Byte) : (s.complete status resp).cc = s.cc := rfl
@[simp] theorem State.complete_free (s : State) (status : ℕ) (resp : List Byte) : (s.complete status resp).free = s.free := rfl
@[simp] theorem State.complete_out (s : State) (status : ℕ) (resp : List Byte) : (s.complete status resp).out = s.out := rfl
@[simp] theorem State.complete_tiles (s : State) (status : ℕ) (resp : List Byte) : (s.complete status resp).tiles = s.tiles := rfl
@[simp] theorem State.complete_cal (s : State) (status : ℕ) (resp : List Byte) : (s.complete status resp).cal = s.cal := rfl
@[simp] theorem State.complete_mesh (s : State) (status : ℕ) (resp : List Byte) : (s.complete status resp).mesh = s.mesh := rfl
@[simp] theorem State.complete_msgs (s : State) (status : ℕ) (resp : List Byte) : (s.complete status resp).msgs = s.msgs := rfl
@[simp] theorem State.complete_mem (s : State) (status : ℕ) (resp : List Byte) : (s.complete status resp).mem = s.mem := rfl
@[simp] theorem State.complete_mig (s : State) (status : ℕ) (resp : List Byte) : (s.complete status resp).mig = s.mig := rfl
@[simp] theorem State.complete_ports (s : State) (status : ℕ) (resp : List Byte) : (s.complete status resp).ports = s.ports := rfl
@[simp] theorem State.complete_masks (s : State) (status : ℕ) (resp : List Byte) : (s.complete status resp).masks = s.masks := rfl
@[simp] theorem State.complete_parbErr (s : State) (status : ℕ) (resp : List Byte) : (s.complete status resp).parbErr = s.parbErr := rfl
@[simp] theorem State.complete_coll (s : State) (status : ℕ) (resp : List Byte) : (s.complete status resp).coll = s.coll := rfl
@[simp] theorem State.complete_txp (s : State) (status : ℕ) (resp : List Byte) : (s.complete status resp).txp = s.txp := rfl
@[simp] theorem State.complete_vent (s : State) (status : ℕ) (resp : List Byte) : (s.complete status resp).vent = s.vent := rfl
@[simp] theorem State.complete_aon (s : State) (status : ℕ) (resp : List Byte) : (s.complete status resp).aon = s.aon := rfl
@[simp] theorem State.complete_sec (s : State) (status : ℕ) (resp : List Byte) : (s.complete status resp).sec = s.sec := rfl
@[simp] theorem State.complete_jtag (s : State) (status : ℕ) (resp : List Byte) : (s.complete status resp).jtag = s.jtag := rfl
@[simp] theorem State.complete_side (s : State) (status : ℕ) (resp : List Byte) : (s.complete status resp).side = s.side := rfl
@[simp] theorem State.setTile_pending (s : State) (t : ℕ) (x : Tile) : (s.setTile t x).pending = s.pending := rfl
@[simp] theorem State.setTile_cc (s : State) (t : ℕ) (x : Tile) : (s.setTile t x).cc = s.cc := rfl
@[simp] theorem State.setTile_free (s : State) (t : ℕ) (x : Tile) : (s.setTile t x).free = s.free := rfl
@[simp] theorem State.setTile_out (s : State) (t : ℕ) (x : Tile) : (s.setTile t x).out = s.out := rfl
@[simp] theorem State.setTile_cal (s : State) (t : ℕ) (x : Tile) : (s.setTile t x).cal = s.cal := rfl
@[simp] theorem State.setTile_mesh (s : State) (t : ℕ) (x : Tile) : (s.setTile t x).mesh = s.mesh := rfl
@[simp] theorem State.setTile_msgs (s : State) (t : ℕ) (x : Tile) : (s.setTile t x).msgs = s.msgs := rfl
@[simp] theorem State.setTile_mem (s : State) (t : ℕ) (x : Tile) : (s.setTile t x).mem = s.mem := rfl
@[simp] theorem State.setTile_mig (s : State) (t : ℕ) (x : Tile) : (s.setTile t x).mig = s.mig := rfl
@[simp] theorem State.setTile_ports (s : State) (t : ℕ) (x : Tile) : (s.setTile t x).ports = s.ports := rfl
@[simp] theorem State.setTile_masks (s : State) (t : ℕ) (x : Tile) : (s.setTile t x).masks = s.masks := rfl
@[simp] theorem State.setTile_parbErr (s : State) (t : ℕ) (x : Tile) : (s.setTile t x).parbErr = s.parbErr := rfl
@[simp] theorem State.setTile_coll (s : State) (t : ℕ) (x : Tile) : (s.setTile t x).coll = s.coll := rfl
@[simp] theorem State.setTile_txp (s : State) (t : ℕ) (x : Tile) : (s.setTile t x).txp = s.txp := rfl
@[simp] theorem State.setTile_host (s : State) (t : ℕ) (x : Tile) : (s.setTile t x).host = s.host := rfl
@[simp] theorem State.setTile_vent (s : State) (t : ℕ) (x : Tile) : (s.setTile t x).vent = s.vent := rfl
@[simp] theorem State.setTile_aon (s : State) (t : ℕ) (x : Tile) : (s.setTile t x).aon = s.aon := rfl
@[simp] theorem State.setTile_sec (s : State) (t : ℕ) (x : Tile) : (s.setTile t x).sec = s.sec := rfl
@[simp] theorem State.setTile_jtag (s : State) (t : ℕ) (x : Tile) : (s.setTile t x).jtag = s.jtag := rfl
@[simp] theorem State.setTile_side (s : State) (t : ℕ) (x : Tile) : (s.setTile t x).side = s.side := rfl
@[simp] theorem State.imageEnd_pending (s : State) (reason : ℕ) : (s.imageEnd reason).pending = s.pending := rfl
@[simp] theorem State.imageEnd_cc (s : State) (reason : ℕ) : (s.imageEnd reason).cc = s.cc := rfl
@[simp] theorem State.imageEnd_free (s : State) (reason : ℕ) : (s.imageEnd reason).free = s.free := rfl
@[simp] theorem State.imageEnd_out (s : State) (reason : ℕ) : (s.imageEnd reason).out = s.out := rfl
@[simp] theorem State.imageEnd_tiles (s : State) (reason : ℕ) : (s.imageEnd reason).tiles = s.tiles := rfl
@[simp] theorem State.imageEnd_mesh (s : State) (reason : ℕ) : (s.imageEnd reason).mesh = s.mesh := rfl
@[simp] theorem State.imageEnd_msgs (s : State) (reason : ℕ) : (s.imageEnd reason).msgs = s.msgs := rfl
@[simp] theorem State.imageEnd_mem (s : State) (reason : ℕ) : (s.imageEnd reason).mem = s.mem := rfl
@[simp] theorem State.imageEnd_mig (s : State) (reason : ℕ) : (s.imageEnd reason).mig = s.mig := rfl
@[simp] theorem State.imageEnd_ports (s : State) (reason : ℕ) : (s.imageEnd reason).ports = s.ports := rfl
@[simp] theorem State.imageEnd_masks (s : State) (reason : ℕ) : (s.imageEnd reason).masks = s.masks := rfl
@[simp] theorem State.imageEnd_parbErr (s : State) (reason : ℕ) : (s.imageEnd reason).parbErr = s.parbErr := rfl
@[simp] theorem State.imageEnd_coll (s : State) (reason : ℕ) : (s.imageEnd reason).coll = s.coll := rfl
@[simp] theorem State.imageEnd_txp (s : State) (reason : ℕ) : (s.imageEnd reason).txp = s.txp := rfl
@[simp] theorem State.imageEnd_aon (s : State) (reason : ℕ) : (s.imageEnd reason).aon = s.aon := rfl
@[simp] theorem State.imageEnd_sec (s : State) (reason : ℕ) : (s.imageEnd reason).sec = s.sec := rfl
@[simp] theorem State.imageEnd_jtag (s : State) (reason : ℕ) : (s.imageEnd reason).jtag = s.jtag := rfl
@[simp] theorem State.imageEnd_side (s : State) (reason : ℕ) : (s.imageEnd reason).side = s.side := rfl
@[simp] theorem State.haltTiles_pending (s : State) : (s.haltTiles).pending = s.pending := rfl
@[simp] theorem State.haltTiles_cc (s : State) : (s.haltTiles).cc = s.cc := rfl
@[simp] theorem State.haltTiles_free (s : State) : (s.haltTiles).free = s.free := rfl
@[simp] theorem State.haltTiles_out (s : State) : (s.haltTiles).out = s.out := rfl
@[simp] theorem State.haltTiles_cal (s : State) : (s.haltTiles).cal = s.cal := rfl
@[simp] theorem State.haltTiles_mesh (s : State) : (s.haltTiles).mesh = s.mesh := rfl
@[simp] theorem State.haltTiles_msgs (s : State) : (s.haltTiles).msgs = s.msgs := rfl
@[simp] theorem State.haltTiles_mem (s : State) : (s.haltTiles).mem = s.mem := rfl
@[simp] theorem State.haltTiles_mig (s : State) : (s.haltTiles).mig = s.mig := rfl
@[simp] theorem State.haltTiles_ports (s : State) : (s.haltTiles).ports = s.ports := rfl
@[simp] theorem State.haltTiles_masks (s : State) : (s.haltTiles).masks = s.masks := rfl
@[simp] theorem State.haltTiles_parbErr (s : State) : (s.haltTiles).parbErr = s.parbErr := rfl
@[simp] theorem State.haltTiles_coll (s : State) : (s.haltTiles).coll = s.coll := rfl
@[simp] theorem State.haltTiles_txp (s : State) : (s.haltTiles).txp = s.txp := rfl
@[simp] theorem State.haltTiles_host (s : State) : (s.haltTiles).host = s.host := rfl
@[simp] theorem State.haltTiles_vent (s : State) : (s.haltTiles).vent = s.vent := rfl
@[simp] theorem State.haltTiles_aon (s : State) : (s.haltTiles).aon = s.aon := rfl
@[simp] theorem State.haltTiles_sec (s : State) : (s.haltTiles).sec = s.sec := rfl
@[simp] theorem State.haltTiles_jtag (s : State) : (s.haltTiles).jtag = s.jtag := rfl
@[simp] theorem State.haltTiles_side (s : State) : (s.haltTiles).side = s.side := rfl
@[simp] theorem State.disablePorts_pending (s : State) : (s.disablePorts).pending = s.pending := rfl
@[simp] theorem State.disablePorts_cc (s : State) : (s.disablePorts).cc = s.cc := rfl
@[simp] theorem State.disablePorts_free (s : State) : (s.disablePorts).free = s.free := rfl
@[simp] theorem State.disablePorts_out (s : State) : (s.disablePorts).out = s.out := rfl
@[simp] theorem State.disablePorts_tiles (s : State) : (s.disablePorts).tiles = s.tiles := rfl
@[simp] theorem State.disablePorts_cal (s : State) : (s.disablePorts).cal = s.cal := rfl
@[simp] theorem State.disablePorts_mesh (s : State) : (s.disablePorts).mesh = s.mesh := rfl
@[simp] theorem State.disablePorts_msgs (s : State) : (s.disablePorts).msgs = s.msgs := rfl
@[simp] theorem State.disablePorts_mem (s : State) : (s.disablePorts).mem = s.mem := rfl
@[simp] theorem State.disablePorts_mig (s : State) : (s.disablePorts).mig = s.mig := rfl
@[simp] theorem State.disablePorts_masks (s : State) : (s.disablePorts).masks = s.masks := rfl
@[simp] theorem State.disablePorts_parbErr (s : State) : (s.disablePorts).parbErr = s.parbErr := rfl
@[simp] theorem State.disablePorts_coll (s : State) : (s.disablePorts).coll = s.coll := rfl
@[simp] theorem State.disablePorts_txp (s : State) : (s.disablePorts).txp = s.txp := rfl
@[simp] theorem State.disablePorts_host (s : State) : (s.disablePorts).host = s.host := rfl
@[simp] theorem State.disablePorts_vent (s : State) : (s.disablePorts).vent = s.vent := rfl
@[simp] theorem State.disablePorts_aon (s : State) : (s.disablePorts).aon = s.aon := rfl
@[simp] theorem State.disablePorts_sec (s : State) : (s.disablePorts).sec = s.sec := rfl
@[simp] theorem State.disablePorts_jtag (s : State) : (s.disablePorts).jtag = s.jtag := rfl
@[simp] theorem State.disablePorts_side (s : State) : (s.disablePorts).side = s.side := rfl
@[simp] theorem State.setNode_pending (s : State) (g : ℕ) (n : CalNode) : (s.setNode g n).pending = s.pending := rfl
@[simp] theorem State.setNode_cc (s : State) (g : ℕ) (n : CalNode) : (s.setNode g n).cc = s.cc := rfl
@[simp] theorem State.setNode_free (s : State) (g : ℕ) (n : CalNode) : (s.setNode g n).free = s.free := rfl
@[simp] theorem State.setNode_out (s : State) (g : ℕ) (n : CalNode) : (s.setNode g n).out = s.out := rfl
@[simp] theorem State.setNode_tiles (s : State) (g : ℕ) (n : CalNode) : (s.setNode g n).tiles = s.tiles := rfl
@[simp] theorem State.setNode_mesh (s : State) (g : ℕ) (n : CalNode) : (s.setNode g n).mesh = s.mesh := rfl
@[simp] theorem State.setNode_msgs (s : State) (g : ℕ) (n : CalNode) : (s.setNode g n).msgs = s.msgs := rfl
@[simp] theorem State.setNode_mem (s : State) (g : ℕ) (n : CalNode) : (s.setNode g n).mem = s.mem := rfl
@[simp] theorem State.setNode_mig (s : State) (g : ℕ) (n : CalNode) : (s.setNode g n).mig = s.mig := rfl
@[simp] theorem State.setNode_ports (s : State) (g : ℕ) (n : CalNode) : (s.setNode g n).ports = s.ports := rfl
@[simp] theorem State.setNode_masks (s : State) (g : ℕ) (n : CalNode) : (s.setNode g n).masks = s.masks := rfl
@[simp] theorem State.setNode_parbErr (s : State) (g : ℕ) (n : CalNode) : (s.setNode g n).parbErr = s.parbErr := rfl
@[simp] theorem State.setNode_coll (s : State) (g : ℕ) (n : CalNode) : (s.setNode g n).coll = s.coll := rfl
@[simp] theorem State.setNode_txp (s : State) (g : ℕ) (n : CalNode) : (s.setNode g n).txp = s.txp := rfl
@[simp] theorem State.setNode_host (s : State) (g : ℕ) (n : CalNode) : (s.setNode g n).host = s.host := rfl
@[simp] theorem State.setNode_vent (s : State) (g : ℕ) (n : CalNode) : (s.setNode g n).vent = s.vent := rfl
@[simp] theorem State.setNode_aon (s : State) (g : ℕ) (n : CalNode) : (s.setNode g n).aon = s.aon := rfl
@[simp] theorem State.setNode_sec (s : State) (g : ℕ) (n : CalNode) : (s.setNode g n).sec = s.sec := rfl
@[simp] theorem State.setNode_jtag (s : State) (g : ℕ) (n : CalNode) : (s.setNode g n).jtag = s.jtag := rfl
@[simp] theorem State.setNode_side (s : State) (g : ℕ) (n : CalNode) : (s.setNode g n).side = s.side := rfl
@[simp] theorem State.reportAt_pending (s : State) (g : ℕ) (code : ℕ) (src : ℕ) : (s.reportAt g code src).pending = s.pending := rfl
@[simp] theorem State.reportAt_cc (s : State) (g : ℕ) (code : ℕ) (src : ℕ) : (s.reportAt g code src).cc = s.cc := rfl
@[simp] theorem State.reportAt_free (s : State) (g : ℕ) (code : ℕ) (src : ℕ) : (s.reportAt g code src).free = s.free := rfl
@[simp] theorem State.reportAt_out (s : State) (g : ℕ) (code : ℕ) (src : ℕ) : (s.reportAt g code src).out = s.out := rfl
@[simp] theorem State.reportAt_tiles (s : State) (g : ℕ) (code : ℕ) (src : ℕ) : (s.reportAt g code src).tiles = s.tiles := rfl
@[simp] theorem State.reportAt_mesh (s : State) (g : ℕ) (code : ℕ) (src : ℕ) : (s.reportAt g code src).mesh = s.mesh := rfl
@[simp] theorem State.reportAt_msgs (s : State) (g : ℕ) (code : ℕ) (src : ℕ) : (s.reportAt g code src).msgs = s.msgs := rfl
@[simp] theorem State.reportAt_mem (s : State) (g : ℕ) (code : ℕ) (src : ℕ) : (s.reportAt g code src).mem = s.mem := rfl
@[simp] theorem State.reportAt_mig (s : State) (g : ℕ) (code : ℕ) (src : ℕ) : (s.reportAt g code src).mig = s.mig := rfl
@[simp] theorem State.reportAt_ports (s : State) (g : ℕ) (code : ℕ) (src : ℕ) : (s.reportAt g code src).ports = s.ports := rfl
@[simp] theorem State.reportAt_masks (s : State) (g : ℕ) (code : ℕ) (src : ℕ) : (s.reportAt g code src).masks = s.masks := rfl
@[simp] theorem State.reportAt_parbErr (s : State) (g : ℕ) (code : ℕ) (src : ℕ) : (s.reportAt g code src).parbErr = s.parbErr := rfl
@[simp] theorem State.reportAt_coll (s : State) (g : ℕ) (code : ℕ) (src : ℕ) : (s.reportAt g code src).coll = s.coll := rfl
@[simp] theorem State.reportAt_txp (s : State) (g : ℕ) (code : ℕ) (src : ℕ) : (s.reportAt g code src).txp = s.txp := rfl
@[simp] theorem State.reportAt_host (s : State) (g : ℕ) (code : ℕ) (src : ℕ) : (s.reportAt g code src).host = s.host := rfl
@[simp] theorem State.reportAt_vent (s : State) (g : ℕ) (code : ℕ) (src : ℕ) : (s.reportAt g code src).vent = s.vent := rfl
@[simp] theorem State.reportAt_aon (s : State) (g : ℕ) (code : ℕ) (src : ℕ) : (s.reportAt g code src).aon = s.aon := rfl
@[simp] theorem State.reportAt_sec (s : State) (g : ℕ) (code : ℕ) (src : ℕ) : (s.reportAt g code src).sec = s.sec := rfl
@[simp] theorem State.reportAt_jtag (s : State) (g : ℕ) (code : ℕ) (src : ℕ) : (s.reportAt g code src).jtag = s.jtag := rfl
@[simp] theorem State.reportAt_side (s : State) (g : ℕ) (code : ℕ) (src : ℕ) : (s.reportAt g code src).side = s.side := rfl
@[simp] theorem State.setPage_pending (s : State) (p : ℕ) (x : Page) : (s.setPage p x).pending = s.pending := rfl
@[simp] theorem State.setPage_cc (s : State) (p : ℕ) (x : Page) : (s.setPage p x).cc = s.cc := rfl
@[simp] theorem State.setPage_free (s : State) (p : ℕ) (x : Page) : (s.setPage p x).free = s.free := rfl
@[simp] theorem State.setPage_out (s : State) (p : ℕ) (x : Page) : (s.setPage p x).out = s.out := rfl
@[simp] theorem State.setPage_tiles (s : State) (p : ℕ) (x : Page) : (s.setPage p x).tiles = s.tiles := rfl
@[simp] theorem State.setPage_cal (s : State) (p : ℕ) (x : Page) : (s.setPage p x).cal = s.cal := rfl
@[simp] theorem State.setPage_mesh (s : State) (p : ℕ) (x : Page) : (s.setPage p x).mesh = s.mesh := rfl
@[simp] theorem State.setPage_msgs (s : State) (p : ℕ) (x : Page) : (s.setPage p x).msgs = s.msgs := rfl
@[simp] theorem State.setPage_mem (s : State) (p : ℕ) (x : Page) : (s.setPage p x).mem = s.mem := rfl
@[simp] theorem State.setPage_ports (s : State) (p : ℕ) (x : Page) : (s.setPage p x).ports = s.ports := rfl
@[simp] theorem State.setPage_masks (s : State) (p : ℕ) (x : Page) : (s.setPage p x).masks = s.masks := rfl
@[simp] theorem State.setPage_parbErr (s : State) (p : ℕ) (x : Page) : (s.setPage p x).parbErr = s.parbErr := rfl
@[simp] theorem State.setPage_coll (s : State) (p : ℕ) (x : Page) : (s.setPage p x).coll = s.coll := rfl
@[simp] theorem State.setPage_txp (s : State) (p : ℕ) (x : Page) : (s.setPage p x).txp = s.txp := rfl
@[simp] theorem State.setPage_host (s : State) (p : ℕ) (x : Page) : (s.setPage p x).host = s.host := rfl
@[simp] theorem State.setPage_vent (s : State) (p : ℕ) (x : Page) : (s.setPage p x).vent = s.vent := rfl
@[simp] theorem State.setPage_aon (s : State) (p : ℕ) (x : Page) : (s.setPage p x).aon = s.aon := rfl
@[simp] theorem State.setPage_sec (s : State) (p : ℕ) (x : Page) : (s.setPage p x).sec = s.sec := rfl
@[simp] theorem State.setPage_jtag (s : State) (p : ℕ) (x : Page) : (s.setPage p x).jtag = s.jtag := rfl
@[simp] theorem State.setPage_side (s : State) (p : ℕ) (x : Page) : (s.setPage p x).side = s.side := rfl
@[simp] theorem State.migBump_pending (s : State) (off : ℕ) (n : ℕ) : (s.migBump off n).pending = s.pending := rfl
@[simp] theorem State.migBump_cc (s : State) (off : ℕ) (n : ℕ) : (s.migBump off n).cc = s.cc := rfl
@[simp] theorem State.migBump_free (s : State) (off : ℕ) (n : ℕ) : (s.migBump off n).free = s.free := rfl
@[simp] theorem State.migBump_out (s : State) (off : ℕ) (n : ℕ) : (s.migBump off n).out = s.out := rfl
@[simp] theorem State.migBump_tiles (s : State) (off : ℕ) (n : ℕ) : (s.migBump off n).tiles = s.tiles := rfl
@[simp] theorem State.migBump_cal (s : State) (off : ℕ) (n : ℕ) : (s.migBump off n).cal = s.cal := rfl
@[simp] theorem State.migBump_mesh (s : State) (off : ℕ) (n : ℕ) : (s.migBump off n).mesh = s.mesh := rfl
@[simp] theorem State.migBump_msgs (s : State) (off : ℕ) (n : ℕ) : (s.migBump off n).msgs = s.msgs := rfl
@[simp] theorem State.migBump_mem (s : State) (off : ℕ) (n : ℕ) : (s.migBump off n).mem = s.mem := rfl
@[simp] theorem State.migBump_ports (s : State) (off : ℕ) (n : ℕ) : (s.migBump off n).ports = s.ports := rfl
@[simp] theorem State.migBump_masks (s : State) (off : ℕ) (n : ℕ) : (s.migBump off n).masks = s.masks := rfl
@[simp] theorem State.migBump_parbErr (s : State) (off : ℕ) (n : ℕ) : (s.migBump off n).parbErr = s.parbErr := rfl
@[simp] theorem State.migBump_coll (s : State) (off : ℕ) (n : ℕ) : (s.migBump off n).coll = s.coll := rfl
@[simp] theorem State.migBump_txp (s : State) (off : ℕ) (n : ℕ) : (s.migBump off n).txp = s.txp := rfl
@[simp] theorem State.migBump_host (s : State) (off : ℕ) (n : ℕ) : (s.migBump off n).host = s.host := rfl
@[simp] theorem State.migBump_vent (s : State) (off : ℕ) (n : ℕ) : (s.migBump off n).vent = s.vent := rfl
@[simp] theorem State.migBump_aon (s : State) (off : ℕ) (n : ℕ) : (s.migBump off n).aon = s.aon := rfl
@[simp] theorem State.migBump_sec (s : State) (off : ℕ) (n : ℕ) : (s.migBump off n).sec = s.sec := rfl
@[simp] theorem State.migBump_jtag (s : State) (off : ℕ) (n : ℕ) : (s.migBump off n).jtag = s.jtag := rfl
@[simp] theorem State.migBump_side (s : State) (off : ℕ) (n : ℕ) : (s.migBump off n).side = s.side := rfl
@[simp] theorem State.memBump_pending (s : State) (off : ℕ) (n : ℕ) : (s.memBump off n).pending = s.pending := rfl
@[simp] theorem State.memBump_cc (s : State) (off : ℕ) (n : ℕ) : (s.memBump off n).cc = s.cc := rfl
@[simp] theorem State.memBump_free (s : State) (off : ℕ) (n : ℕ) : (s.memBump off n).free = s.free := rfl
@[simp] theorem State.memBump_out (s : State) (off : ℕ) (n : ℕ) : (s.memBump off n).out = s.out := rfl
@[simp] theorem State.memBump_tiles (s : State) (off : ℕ) (n : ℕ) : (s.memBump off n).tiles = s.tiles := rfl
@[simp] theorem State.memBump_cal (s : State) (off : ℕ) (n : ℕ) : (s.memBump off n).cal = s.cal := rfl
@[simp] theorem State.memBump_mesh (s : State) (off : ℕ) (n : ℕ) : (s.memBump off n).mesh = s.mesh := rfl
@[simp] theorem State.memBump_msgs (s : State) (off : ℕ) (n : ℕ) : (s.memBump off n).msgs = s.msgs := rfl
@[simp] theorem State.memBump_mig (s : State) (off : ℕ) (n : ℕ) : (s.memBump off n).mig = s.mig := rfl
@[simp] theorem State.memBump_ports (s : State) (off : ℕ) (n : ℕ) : (s.memBump off n).ports = s.ports := rfl
@[simp] theorem State.memBump_masks (s : State) (off : ℕ) (n : ℕ) : (s.memBump off n).masks = s.masks := rfl
@[simp] theorem State.memBump_parbErr (s : State) (off : ℕ) (n : ℕ) : (s.memBump off n).parbErr = s.parbErr := rfl
@[simp] theorem State.memBump_coll (s : State) (off : ℕ) (n : ℕ) : (s.memBump off n).coll = s.coll := rfl
@[simp] theorem State.memBump_txp (s : State) (off : ℕ) (n : ℕ) : (s.memBump off n).txp = s.txp := rfl
@[simp] theorem State.memBump_host (s : State) (off : ℕ) (n : ℕ) : (s.memBump off n).host = s.host := rfl
@[simp] theorem State.memBump_vent (s : State) (off : ℕ) (n : ℕ) : (s.memBump off n).vent = s.vent := rfl
@[simp] theorem State.memBump_aon (s : State) (off : ℕ) (n : ℕ) : (s.memBump off n).aon = s.aon := rfl
@[simp] theorem State.memBump_sec (s : State) (off : ℕ) (n : ℕ) : (s.memBump off n).sec = s.sec := rfl
@[simp] theorem State.memBump_jtag (s : State) (off : ℕ) (n : ℕ) : (s.memBump off n).jtag = s.jtag := rfl
@[simp] theorem State.memBump_side (s : State) (off : ℕ) (n : ℕ) : (s.memBump off n).side = s.side := rfl
@[simp] theorem State.memUe_pending (s : State) (w : ℕ) : (s.memUe w).pending = s.pending := rfl
@[simp] theorem State.memUe_cc (s : State) (w : ℕ) : (s.memUe w).cc = s.cc := rfl
@[simp] theorem State.memUe_free (s : State) (w : ℕ) : (s.memUe w).free = s.free := rfl
@[simp] theorem State.memUe_out (s : State) (w : ℕ) : (s.memUe w).out = s.out := rfl
@[simp] theorem State.memUe_tiles (s : State) (w : ℕ) : (s.memUe w).tiles = s.tiles := rfl
@[simp] theorem State.memUe_cal (s : State) (w : ℕ) : (s.memUe w).cal = s.cal := rfl
@[simp] theorem State.memUe_mesh (s : State) (w : ℕ) : (s.memUe w).mesh = s.mesh := rfl
@[simp] theorem State.memUe_msgs (s : State) (w : ℕ) : (s.memUe w).msgs = s.msgs := rfl
@[simp] theorem State.memUe_mig (s : State) (w : ℕ) : (s.memUe w).mig = s.mig := rfl
@[simp] theorem State.memUe_ports (s : State) (w : ℕ) : (s.memUe w).ports = s.ports := rfl
@[simp] theorem State.memUe_masks (s : State) (w : ℕ) : (s.memUe w).masks = s.masks := rfl
@[simp] theorem State.memUe_parbErr (s : State) (w : ℕ) : (s.memUe w).parbErr = s.parbErr := rfl
@[simp] theorem State.memUe_coll (s : State) (w : ℕ) : (s.memUe w).coll = s.coll := rfl
@[simp] theorem State.memUe_txp (s : State) (w : ℕ) : (s.memUe w).txp = s.txp := rfl
@[simp] theorem State.memUe_vent (s : State) (w : ℕ) : (s.memUe w).vent = s.vent := rfl
@[simp] theorem State.memUe_aon (s : State) (w : ℕ) : (s.memUe w).aon = s.aon := rfl
@[simp] theorem State.memUe_sec (s : State) (w : ℕ) : (s.memUe w).sec = s.sec := rfl
@[simp] theorem State.memUe_jtag (s : State) (w : ℕ) : (s.memUe w).jtag = s.jtag := rfl
@[simp] theorem State.memUe_side (s : State) (w : ℕ) : (s.memUe w).side = s.side := rfl
@[simp] theorem State.startPromotion_pending (s : State) (p : ℕ) (part : ℕ) (f : ℕ) : (s.startPromotion p part f).pending = s.pending := rfl
@[simp] theorem State.startPromotion_cc (s : State) (p : ℕ) (part : ℕ) (f : ℕ) : (s.startPromotion p part f).cc = s.cc := rfl
@[simp] theorem State.startPromotion_free (s : State) (p : ℕ) (part : ℕ) (f : ℕ) : (s.startPromotion p part f).free = s.free := rfl
@[simp] theorem State.startPromotion_out (s : State) (p : ℕ) (part : ℕ) (f : ℕ) : (s.startPromotion p part f).out = s.out := rfl
@[simp] theorem State.startPromotion_tiles (s : State) (p : ℕ) (part : ℕ) (f : ℕ) : (s.startPromotion p part f).tiles = s.tiles := rfl
@[simp] theorem State.startPromotion_cal (s : State) (p : ℕ) (part : ℕ) (f : ℕ) : (s.startPromotion p part f).cal = s.cal := rfl
@[simp] theorem State.startPromotion_mesh (s : State) (p : ℕ) (part : ℕ) (f : ℕ) : (s.startPromotion p part f).mesh = s.mesh := rfl
@[simp] theorem State.startPromotion_msgs (s : State) (p : ℕ) (part : ℕ) (f : ℕ) : (s.startPromotion p part f).msgs = s.msgs := rfl
@[simp] theorem State.startPromotion_mem (s : State) (p : ℕ) (part : ℕ) (f : ℕ) : (s.startPromotion p part f).mem = s.mem := rfl
@[simp] theorem State.startPromotion_ports (s : State) (p : ℕ) (part : ℕ) (f : ℕ) : (s.startPromotion p part f).ports = s.ports := rfl
@[simp] theorem State.startPromotion_masks (s : State) (p : ℕ) (part : ℕ) (f : ℕ) : (s.startPromotion p part f).masks = s.masks := rfl
@[simp] theorem State.startPromotion_parbErr (s : State) (p : ℕ) (part : ℕ) (f : ℕ) : (s.startPromotion p part f).parbErr = s.parbErr := rfl
@[simp] theorem State.startPromotion_coll (s : State) (p : ℕ) (part : ℕ) (f : ℕ) : (s.startPromotion p part f).coll = s.coll := rfl
@[simp] theorem State.startPromotion_txp (s : State) (p : ℕ) (part : ℕ) (f : ℕ) : (s.startPromotion p part f).txp = s.txp := rfl
@[simp] theorem State.startPromotion_host (s : State) (p : ℕ) (part : ℕ) (f : ℕ) : (s.startPromotion p part f).host = s.host := rfl
@[simp] theorem State.startPromotion_vent (s : State) (p : ℕ) (part : ℕ) (f : ℕ) : (s.startPromotion p part f).vent = s.vent := rfl
@[simp] theorem State.startPromotion_aon (s : State) (p : ℕ) (part : ℕ) (f : ℕ) : (s.startPromotion p part f).aon = s.aon := rfl
@[simp] theorem State.startPromotion_sec (s : State) (p : ℕ) (part : ℕ) (f : ℕ) : (s.startPromotion p part f).sec = s.sec := rfl
@[simp] theorem State.startPromotion_jtag (s : State) (p : ℕ) (part : ℕ) (f : ℕ) : (s.startPromotion p part f).jtag = s.jtag := rfl
@[simp] theorem State.startPromotion_side (s : State) (p : ℕ) (part : ℕ) (f : ℕ) : (s.startPromotion p part f).side = s.side := rfl
@[simp] theorem State.dropErrors_pending (s : State) (p : ℕ) : (s.dropErrors p).pending = s.pending := rfl
@[simp] theorem State.dropErrors_cc (s : State) (p : ℕ) : (s.dropErrors p).cc = s.cc := rfl
@[simp] theorem State.dropErrors_free (s : State) (p : ℕ) : (s.dropErrors p).free = s.free := rfl
@[simp] theorem State.dropErrors_out (s : State) (p : ℕ) : (s.dropErrors p).out = s.out := rfl
@[simp] theorem State.dropErrors_tiles (s : State) (p : ℕ) : (s.dropErrors p).tiles = s.tiles := rfl
@[simp] theorem State.dropErrors_cal (s : State) (p : ℕ) : (s.dropErrors p).cal = s.cal := rfl
@[simp] theorem State.dropErrors_mesh (s : State) (p : ℕ) : (s.dropErrors p).mesh = s.mesh := rfl
@[simp] theorem State.dropErrors_msgs (s : State) (p : ℕ) : (s.dropErrors p).msgs = s.msgs := rfl
@[simp] theorem State.dropErrors_mig (s : State) (p : ℕ) : (s.dropErrors p).mig = s.mig := rfl
@[simp] theorem State.dropErrors_ports (s : State) (p : ℕ) : (s.dropErrors p).ports = s.ports := rfl
@[simp] theorem State.dropErrors_masks (s : State) (p : ℕ) : (s.dropErrors p).masks = s.masks := rfl
@[simp] theorem State.dropErrors_parbErr (s : State) (p : ℕ) : (s.dropErrors p).parbErr = s.parbErr := rfl
@[simp] theorem State.dropErrors_coll (s : State) (p : ℕ) : (s.dropErrors p).coll = s.coll := rfl
@[simp] theorem State.dropErrors_txp (s : State) (p : ℕ) : (s.dropErrors p).txp = s.txp := rfl
@[simp] theorem State.dropErrors_host (s : State) (p : ℕ) : (s.dropErrors p).host = s.host := rfl
@[simp] theorem State.dropErrors_vent (s : State) (p : ℕ) : (s.dropErrors p).vent = s.vent := rfl
@[simp] theorem State.dropErrors_aon (s : State) (p : ℕ) : (s.dropErrors p).aon = s.aon := rfl
@[simp] theorem State.dropErrors_sec (s : State) (p : ℕ) : (s.dropErrors p).sec = s.sec := rfl
@[simp] theorem State.dropErrors_jtag (s : State) (p : ℕ) : (s.dropErrors p).jtag = s.jtag := rfl
@[simp] theorem State.dropErrors_side (s : State) (p : ℕ) : (s.dropErrors p).side = s.side := rfl
@[simp] theorem State.setWaitList_pending (s : State) (part : ℕ) (l : List ℕ) : (s.setWaitList part l).pending = s.pending := rfl
@[simp] theorem State.setWaitList_cc (s : State) (part : ℕ) (l : List ℕ) : (s.setWaitList part l).cc = s.cc := rfl
@[simp] theorem State.setWaitList_free (s : State) (part : ℕ) (l : List ℕ) : (s.setWaitList part l).free = s.free := rfl
@[simp] theorem State.setWaitList_out (s : State) (part : ℕ) (l : List ℕ) : (s.setWaitList part l).out = s.out := rfl
@[simp] theorem State.setWaitList_tiles (s : State) (part : ℕ) (l : List ℕ) : (s.setWaitList part l).tiles = s.tiles := rfl
@[simp] theorem State.setWaitList_cal (s : State) (part : ℕ) (l : List ℕ) : (s.setWaitList part l).cal = s.cal := rfl
@[simp] theorem State.setWaitList_mesh (s : State) (part : ℕ) (l : List ℕ) : (s.setWaitList part l).mesh = s.mesh := rfl
@[simp] theorem State.setWaitList_msgs (s : State) (part : ℕ) (l : List ℕ) : (s.setWaitList part l).msgs = s.msgs := rfl
@[simp] theorem State.setWaitList_mem (s : State) (part : ℕ) (l : List ℕ) : (s.setWaitList part l).mem = s.mem := rfl
@[simp] theorem State.setWaitList_ports (s : State) (part : ℕ) (l : List ℕ) : (s.setWaitList part l).ports = s.ports := rfl
@[simp] theorem State.setWaitList_masks (s : State) (part : ℕ) (l : List ℕ) : (s.setWaitList part l).masks = s.masks := rfl
@[simp] theorem State.setWaitList_parbErr (s : State) (part : ℕ) (l : List ℕ) : (s.setWaitList part l).parbErr = s.parbErr := rfl
@[simp] theorem State.setWaitList_coll (s : State) (part : ℕ) (l : List ℕ) : (s.setWaitList part l).coll = s.coll := rfl
@[simp] theorem State.setWaitList_txp (s : State) (part : ℕ) (l : List ℕ) : (s.setWaitList part l).txp = s.txp := rfl
@[simp] theorem State.setWaitList_host (s : State) (part : ℕ) (l : List ℕ) : (s.setWaitList part l).host = s.host := rfl
@[simp] theorem State.setWaitList_vent (s : State) (part : ℕ) (l : List ℕ) : (s.setWaitList part l).vent = s.vent := rfl
@[simp] theorem State.setWaitList_aon (s : State) (part : ℕ) (l : List ℕ) : (s.setWaitList part l).aon = s.aon := rfl
@[simp] theorem State.setWaitList_sec (s : State) (part : ℕ) (l : List ℕ) : (s.setWaitList part l).sec = s.sec := rfl
@[simp] theorem State.setWaitList_jtag (s : State) (part : ℕ) (l : List ℕ) : (s.setWaitList part l).jtag = s.jtag := rfl
@[simp] theorem State.setWaitList_side (s : State) (part : ℕ) (l : List ℕ) : (s.setWaitList part l).side = s.side := rfl
@[simp] theorem State.joinWait_pending (s : State) (p : ℕ) (part : ℕ) : (s.joinWait p part).pending = s.pending := rfl
@[simp] theorem State.joinWait_cc (s : State) (p : ℕ) (part : ℕ) : (s.joinWait p part).cc = s.cc := rfl
@[simp] theorem State.joinWait_free (s : State) (p : ℕ) (part : ℕ) : (s.joinWait p part).free = s.free := rfl
@[simp] theorem State.joinWait_out (s : State) (p : ℕ) (part : ℕ) : (s.joinWait p part).out = s.out := rfl
@[simp] theorem State.joinWait_tiles (s : State) (p : ℕ) (part : ℕ) : (s.joinWait p part).tiles = s.tiles := rfl
@[simp] theorem State.joinWait_cal (s : State) (p : ℕ) (part : ℕ) : (s.joinWait p part).cal = s.cal := rfl
@[simp] theorem State.joinWait_mesh (s : State) (p : ℕ) (part : ℕ) : (s.joinWait p part).mesh = s.mesh := rfl
@[simp] theorem State.joinWait_msgs (s : State) (p : ℕ) (part : ℕ) : (s.joinWait p part).msgs = s.msgs := rfl
@[simp] theorem State.joinWait_mem (s : State) (p : ℕ) (part : ℕ) : (s.joinWait p part).mem = s.mem := rfl
@[simp] theorem State.joinWait_ports (s : State) (p : ℕ) (part : ℕ) : (s.joinWait p part).ports = s.ports := rfl
@[simp] theorem State.joinWait_masks (s : State) (p : ℕ) (part : ℕ) : (s.joinWait p part).masks = s.masks := rfl
@[simp] theorem State.joinWait_parbErr (s : State) (p : ℕ) (part : ℕ) : (s.joinWait p part).parbErr = s.parbErr := rfl
@[simp] theorem State.joinWait_coll (s : State) (p : ℕ) (part : ℕ) : (s.joinWait p part).coll = s.coll := rfl
@[simp] theorem State.joinWait_txp (s : State) (p : ℕ) (part : ℕ) : (s.joinWait p part).txp = s.txp := rfl
@[simp] theorem State.joinWait_host (s : State) (p : ℕ) (part : ℕ) : (s.joinWait p part).host = s.host := rfl
@[simp] theorem State.joinWait_vent (s : State) (p : ℕ) (part : ℕ) : (s.joinWait p part).vent = s.vent := rfl
@[simp] theorem State.joinWait_aon (s : State) (p : ℕ) (part : ℕ) : (s.joinWait p part).aon = s.aon := rfl
@[simp] theorem State.joinWait_sec (s : State) (p : ℕ) (part : ℕ) : (s.joinWait p part).sec = s.sec := rfl
@[simp] theorem State.joinWait_jtag (s : State) (p : ℕ) (part : ℕ) : (s.joinWait p part).jtag = s.jtag := rfl
@[simp] theorem State.joinWait_side (s : State) (p : ℕ) (part : ℕ) : (s.joinWait p part).side = s.side := rfl
@[simp] theorem State.pinError_pending (s : State) : (s.pinError).pending = s.pending := rfl
@[simp] theorem State.pinError_cc (s : State) : (s.pinError).cc = s.cc := rfl
@[simp] theorem State.pinError_free (s : State) : (s.pinError).free = s.free := rfl
@[simp] theorem State.pinError_out (s : State) : (s.pinError).out = s.out := rfl
@[simp] theorem State.pinError_tiles (s : State) : (s.pinError).tiles = s.tiles := rfl
@[simp] theorem State.pinError_cal (s : State) : (s.pinError).cal = s.cal := rfl
@[simp] theorem State.pinError_mesh (s : State) : (s.pinError).mesh = s.mesh := rfl
@[simp] theorem State.pinError_msgs (s : State) : (s.pinError).msgs = s.msgs := rfl
@[simp] theorem State.pinError_mem (s : State) : (s.pinError).mem = s.mem := rfl
@[simp] theorem State.pinError_ports (s : State) : (s.pinError).ports = s.ports := rfl
@[simp] theorem State.pinError_masks (s : State) : (s.pinError).masks = s.masks := rfl
@[simp] theorem State.pinError_parbErr (s : State) : (s.pinError).parbErr = s.parbErr := rfl
@[simp] theorem State.pinError_coll (s : State) : (s.pinError).coll = s.coll := rfl
@[simp] theorem State.pinError_txp (s : State) : (s.pinError).txp = s.txp := rfl
@[simp] theorem State.pinError_host (s : State) : (s.pinError).host = s.host := rfl
@[simp] theorem State.pinError_vent (s : State) : (s.pinError).vent = s.vent := rfl
@[simp] theorem State.pinError_aon (s : State) : (s.pinError).aon = s.aon := rfl
@[simp] theorem State.pinError_sec (s : State) : (s.pinError).sec = s.sec := rfl
@[simp] theorem State.pinError_jtag (s : State) : (s.pinError).jtag = s.jtag := rfl
@[simp] theorem State.pinError_side (s : State) : (s.pinError).side = s.side := rfl
@[simp] theorem State.setWin_pending (s : State) (w : ℕ) (x : Win) : (s.setWin w x).pending = s.pending := rfl
@[simp] theorem State.setWin_cc (s : State) (w : ℕ) (x : Win) : (s.setWin w x).cc = s.cc := rfl
@[simp] theorem State.setWin_free (s : State) (w : ℕ) (x : Win) : (s.setWin w x).free = s.free := rfl
@[simp] theorem State.setWin_out (s : State) (w : ℕ) (x : Win) : (s.setWin w x).out = s.out := rfl
@[simp] theorem State.setWin_tiles (s : State) (w : ℕ) (x : Win) : (s.setWin w x).tiles = s.tiles := rfl
@[simp] theorem State.setWin_cal (s : State) (w : ℕ) (x : Win) : (s.setWin w x).cal = s.cal := rfl
@[simp] theorem State.setWin_mesh (s : State) (w : ℕ) (x : Win) : (s.setWin w x).mesh = s.mesh := rfl
@[simp] theorem State.setWin_msgs (s : State) (w : ℕ) (x : Win) : (s.setWin w x).msgs = s.msgs := rfl
@[simp] theorem State.setWin_mig (s : State) (w : ℕ) (x : Win) : (s.setWin w x).mig = s.mig := rfl
@[simp] theorem State.setWin_ports (s : State) (w : ℕ) (x : Win) : (s.setWin w x).ports = s.ports := rfl
@[simp] theorem State.setWin_masks (s : State) (w : ℕ) (x : Win) : (s.setWin w x).masks = s.masks := rfl
@[simp] theorem State.setWin_parbErr (s : State) (w : ℕ) (x : Win) : (s.setWin w x).parbErr = s.parbErr := rfl
@[simp] theorem State.setWin_coll (s : State) (w : ℕ) (x : Win) : (s.setWin w x).coll = s.coll := rfl
@[simp] theorem State.setWin_txp (s : State) (w : ℕ) (x : Win) : (s.setWin w x).txp = s.txp := rfl
@[simp] theorem State.setWin_host (s : State) (w : ℕ) (x : Win) : (s.setWin w x).host = s.host := rfl
@[simp] theorem State.setWin_vent (s : State) (w : ℕ) (x : Win) : (s.setWin w x).vent = s.vent := rfl
@[simp] theorem State.setWin_aon (s : State) (w : ℕ) (x : Win) : (s.setWin w x).aon = s.aon := rfl
@[simp] theorem State.setWin_sec (s : State) (w : ℕ) (x : Win) : (s.setWin w x).sec = s.sec := rfl
@[simp] theorem State.setWin_jtag (s : State) (w : ℕ) (x : Win) : (s.setWin w x).jtag = s.jtag := rfl
@[simp] theorem State.setWin_side (s : State) (w : ℕ) (x : Win) : (s.setWin w x).side = s.side := rfl
@[simp] theorem State.refuse_pending (s : State) (a : ℕ) (n : ℕ) : (s.refuse a n).pending = s.pending := rfl
@[simp] theorem State.refuse_cc (s : State) (a : ℕ) (n : ℕ) : (s.refuse a n).cc = s.cc := rfl
@[simp] theorem State.refuse_free (s : State) (a : ℕ) (n : ℕ) : (s.refuse a n).free = s.free := rfl
@[simp] theorem State.refuse_out (s : State) (a : ℕ) (n : ℕ) : (s.refuse a n).out = s.out := rfl
@[simp] theorem State.refuse_tiles (s : State) (a : ℕ) (n : ℕ) : (s.refuse a n).tiles = s.tiles := rfl
@[simp] theorem State.refuse_cal (s : State) (a : ℕ) (n : ℕ) : (s.refuse a n).cal = s.cal := rfl
@[simp] theorem State.refuse_mesh (s : State) (a : ℕ) (n : ℕ) : (s.refuse a n).mesh = s.mesh := rfl
@[simp] theorem State.refuse_msgs (s : State) (a : ℕ) (n : ℕ) : (s.refuse a n).msgs = s.msgs := rfl
@[simp] theorem State.refuse_mig (s : State) (a : ℕ) (n : ℕ) : (s.refuse a n).mig = s.mig := rfl
@[simp] theorem State.refuse_ports (s : State) (a : ℕ) (n : ℕ) : (s.refuse a n).ports = s.ports := rfl
@[simp] theorem State.refuse_masks (s : State) (a : ℕ) (n : ℕ) : (s.refuse a n).masks = s.masks := rfl
@[simp] theorem State.refuse_parbErr (s : State) (a : ℕ) (n : ℕ) : (s.refuse a n).parbErr = s.parbErr := rfl
@[simp] theorem State.refuse_coll (s : State) (a : ℕ) (n : ℕ) : (s.refuse a n).coll = s.coll := rfl
@[simp] theorem State.refuse_txp (s : State) (a : ℕ) (n : ℕ) : (s.refuse a n).txp = s.txp := rfl
@[simp] theorem State.refuse_vent (s : State) (a : ℕ) (n : ℕ) : (s.refuse a n).vent = s.vent := rfl
@[simp] theorem State.refuse_aon (s : State) (a : ℕ) (n : ℕ) : (s.refuse a n).aon = s.aon := rfl
@[simp] theorem State.refuse_sec (s : State) (a : ℕ) (n : ℕ) : (s.refuse a n).sec = s.sec := rfl
@[simp] theorem State.refuse_jtag (s : State) (a : ℕ) (n : ℕ) : (s.refuse a n).jtag = s.jtag := rfl
@[simp] theorem State.refuse_side (s : State) (a : ℕ) (n : ℕ) : (s.refuse a n).side = s.side := rfl
@[simp] theorem State.setPort_pending (s : State) (p : ℕ) (x : Port) : (s.setPort p x).pending = s.pending := rfl
@[simp] theorem State.setPort_cc (s : State) (p : ℕ) (x : Port) : (s.setPort p x).cc = s.cc := rfl
@[simp] theorem State.setPort_free (s : State) (p : ℕ) (x : Port) : (s.setPort p x).free = s.free := rfl
@[simp] theorem State.setPort_out (s : State) (p : ℕ) (x : Port) : (s.setPort p x).out = s.out := rfl
@[simp] theorem State.setPort_tiles (s : State) (p : ℕ) (x : Port) : (s.setPort p x).tiles = s.tiles := rfl
@[simp] theorem State.setPort_cal (s : State) (p : ℕ) (x : Port) : (s.setPort p x).cal = s.cal := rfl
@[simp] theorem State.setPort_mesh (s : State) (p : ℕ) (x : Port) : (s.setPort p x).mesh = s.mesh := rfl
@[simp] theorem State.setPort_msgs (s : State) (p : ℕ) (x : Port) : (s.setPort p x).msgs = s.msgs := rfl
@[simp] theorem State.setPort_mem (s : State) (p : ℕ) (x : Port) : (s.setPort p x).mem = s.mem := rfl
@[simp] theorem State.setPort_mig (s : State) (p : ℕ) (x : Port) : (s.setPort p x).mig = s.mig := rfl
@[simp] theorem State.setPort_masks (s : State) (p : ℕ) (x : Port) : (s.setPort p x).masks = s.masks := rfl
@[simp] theorem State.setPort_parbErr (s : State) (p : ℕ) (x : Port) : (s.setPort p x).parbErr = s.parbErr := rfl
@[simp] theorem State.setPort_coll (s : State) (p : ℕ) (x : Port) : (s.setPort p x).coll = s.coll := rfl
@[simp] theorem State.setPort_txp (s : State) (p : ℕ) (x : Port) : (s.setPort p x).txp = s.txp := rfl
@[simp] theorem State.setPort_host (s : State) (p : ℕ) (x : Port) : (s.setPort p x).host = s.host := rfl
@[simp] theorem State.setPort_vent (s : State) (p : ℕ) (x : Port) : (s.setPort p x).vent = s.vent := rfl
@[simp] theorem State.setPort_aon (s : State) (p : ℕ) (x : Port) : (s.setPort p x).aon = s.aon := rfl
@[simp] theorem State.setPort_sec (s : State) (p : ℕ) (x : Port) : (s.setPort p x).sec = s.sec := rfl
@[simp] theorem State.setPort_jtag (s : State) (p : ℕ) (x : Port) : (s.setPort p x).jtag = s.jtag := rfl
@[simp] theorem State.setPort_side (s : State) (p : ℕ) (x : Port) : (s.setPort p x).side = s.side := rfl
@[simp] theorem State.park'_pending (s : State) (p : ℕ) (g : Grant) (waitWin : Bool) : (s.park' p g waitWin).pending = s.pending := rfl
@[simp] theorem State.park'_cc (s : State) (p : ℕ) (g : Grant) (waitWin : Bool) : (s.park' p g waitWin).cc = s.cc := rfl
@[simp] theorem State.park'_free (s : State) (p : ℕ) (g : Grant) (waitWin : Bool) : (s.park' p g waitWin).free = s.free := rfl
@[simp] theorem State.park'_out (s : State) (p : ℕ) (g : Grant) (waitWin : Bool) : (s.park' p g waitWin).out = s.out := rfl
@[simp] theorem State.park'_tiles (s : State) (p : ℕ) (g : Grant) (waitWin : Bool) : (s.park' p g waitWin).tiles = s.tiles := rfl
@[simp] theorem State.park'_cal (s : State) (p : ℕ) (g : Grant) (waitWin : Bool) : (s.park' p g waitWin).cal = s.cal := rfl
@[simp] theorem State.park'_mesh (s : State) (p : ℕ) (g : Grant) (waitWin : Bool) : (s.park' p g waitWin).mesh = s.mesh := rfl
@[simp] theorem State.park'_msgs (s : State) (p : ℕ) (g : Grant) (waitWin : Bool) : (s.park' p g waitWin).msgs = s.msgs := rfl
@[simp] theorem State.park'_mem (s : State) (p : ℕ) (g : Grant) (waitWin : Bool) : (s.park' p g waitWin).mem = s.mem := rfl
@[simp] theorem State.park'_mig (s : State) (p : ℕ) (g : Grant) (waitWin : Bool) : (s.park' p g waitWin).mig = s.mig := rfl
@[simp] theorem State.park'_ports (s : State) (p : ℕ) (g : Grant) (waitWin : Bool) : (s.park' p g waitWin).ports = s.ports := rfl
@[simp] theorem State.park'_masks (s : State) (p : ℕ) (g : Grant) (waitWin : Bool) : (s.park' p g waitWin).masks = s.masks := rfl
@[simp] theorem State.park'_parbErr (s : State) (p : ℕ) (g : Grant) (waitWin : Bool) : (s.park' p g waitWin).parbErr = s.parbErr := rfl
@[simp] theorem State.park'_coll (s : State) (p : ℕ) (g : Grant) (waitWin : Bool) : (s.park' p g waitWin).coll = s.coll := rfl
@[simp] theorem State.park'_host (s : State) (p : ℕ) (g : Grant) (waitWin : Bool) : (s.park' p g waitWin).host = s.host := rfl
@[simp] theorem State.park'_vent (s : State) (p : ℕ) (g : Grant) (waitWin : Bool) : (s.park' p g waitWin).vent = s.vent := rfl
@[simp] theorem State.park'_aon (s : State) (p : ℕ) (g : Grant) (waitWin : Bool) : (s.park' p g waitWin).aon = s.aon := rfl
@[simp] theorem State.park'_sec (s : State) (p : ℕ) (g : Grant) (waitWin : Bool) : (s.park' p g waitWin).sec = s.sec := rfl
@[simp] theorem State.park'_jtag (s : State) (p : ℕ) (g : Grant) (waitWin : Bool) : (s.park' p g waitWin).jtag = s.jtag := rfl
@[simp] theorem State.park'_side (s : State) (p : ℕ) (g : Grant) (waitWin : Bool) : (s.park' p g waitWin).side = s.side := rfl
@[simp] theorem State.setSess_pending (s : State) (dev : ℕ) (x : Session) : (s.setSess dev x).pending = s.pending := rfl
@[simp] theorem State.setSess_cc (s : State) (dev : ℕ) (x : Session) : (s.setSess dev x).cc = s.cc := rfl
@[simp] theorem State.setSess_free (s : State) (dev : ℕ) (x : Session) : (s.setSess dev x).free = s.free := rfl
@[simp] theorem State.setSess_out (s : State) (dev : ℕ) (x : Session) : (s.setSess dev x).out = s.out := rfl
@[simp] theorem State.setSess_tiles (s : State) (dev : ℕ) (x : Session) : (s.setSess dev x).tiles = s.tiles := rfl
@[simp] theorem State.setSess_cal (s : State) (dev : ℕ) (x : Session) : (s.setSess dev x).cal = s.cal := rfl
@[simp] theorem State.setSess_mesh (s : State) (dev : ℕ) (x : Session) : (s.setSess dev x).mesh = s.mesh := rfl
@[simp] theorem State.setSess_msgs (s : State) (dev : ℕ) (x : Session) : (s.setSess dev x).msgs = s.msgs := rfl
@[simp] theorem State.setSess_mem (s : State) (dev : ℕ) (x : Session) : (s.setSess dev x).mem = s.mem := rfl
@[simp] theorem State.setSess_mig (s : State) (dev : ℕ) (x : Session) : (s.setSess dev x).mig = s.mig := rfl
@[simp] theorem State.setSess_ports (s : State) (dev : ℕ) (x : Session) : (s.setSess dev x).ports = s.ports := rfl
@[simp] theorem State.setSess_masks (s : State) (dev : ℕ) (x : Session) : (s.setSess dev x).masks = s.masks := rfl
@[simp] theorem State.setSess_parbErr (s : State) (dev : ℕ) (x : Session) : (s.setSess dev x).parbErr = s.parbErr := rfl
@[simp] theorem State.setSess_coll (s : State) (dev : ℕ) (x : Session) : (s.setSess dev x).coll = s.coll := rfl
@[simp] theorem State.setSess_host (s : State) (dev : ℕ) (x : Session) : (s.setSess dev x).host = s.host := rfl
@[simp] theorem State.setSess_vent (s : State) (dev : ℕ) (x : Session) : (s.setSess dev x).vent = s.vent := rfl
@[simp] theorem State.setSess_aon (s : State) (dev : ℕ) (x : Session) : (s.setSess dev x).aon = s.aon := rfl
@[simp] theorem State.setSess_sec (s : State) (dev : ℕ) (x : Session) : (s.setSess dev x).sec = s.sec := rfl
@[simp] theorem State.setSess_jtag (s : State) (dev : ℕ) (x : Session) : (s.setSess dev x).jtag = s.jtag := rfl
@[simp] theorem State.setSess_side (s : State) (dev : ℕ) (x : Session) : (s.setSess dev x).side = s.side := rfl
@[simp] theorem State.txpBump_pending (s : State) (k : ℕ) (n : ℕ) : (s.txpBump k n).pending = s.pending := rfl
@[simp] theorem State.txpBump_cc (s : State) (k : ℕ) (n : ℕ) : (s.txpBump k n).cc = s.cc := rfl
@[simp] theorem State.txpBump_free (s : State) (k : ℕ) (n : ℕ) : (s.txpBump k n).free = s.free := rfl
@[simp] theorem State.txpBump_out (s : State) (k : ℕ) (n : ℕ) : (s.txpBump k n).out = s.out := rfl
@[simp] theorem State.txpBump_tiles (s : State) (k : ℕ) (n : ℕ) : (s.txpBump k n).tiles = s.tiles := rfl
@[simp] theorem State.txpBump_cal (s : State) (k : ℕ) (n : ℕ) : (s.txpBump k n).cal = s.cal := rfl
@[simp] theorem State.txpBump_mesh (s : State) (k : ℕ) (n : ℕ) : (s.txpBump k n).mesh = s.mesh := rfl
@[simp] theorem State.txpBump_msgs (s : State) (k : ℕ) (n : ℕ) : (s.txpBump k n).msgs = s.msgs := rfl
@[simp] theorem State.txpBump_mem (s : State) (k : ℕ) (n : ℕ) : (s.txpBump k n).mem = s.mem := rfl
@[simp] theorem State.txpBump_mig (s : State) (k : ℕ) (n : ℕ) : (s.txpBump k n).mig = s.mig := rfl
@[simp] theorem State.txpBump_ports (s : State) (k : ℕ) (n : ℕ) : (s.txpBump k n).ports = s.ports := rfl
@[simp] theorem State.txpBump_masks (s : State) (k : ℕ) (n : ℕ) : (s.txpBump k n).masks = s.masks := rfl
@[simp] theorem State.txpBump_parbErr (s : State) (k : ℕ) (n : ℕ) : (s.txpBump k n).parbErr = s.parbErr := rfl
@[simp] theorem State.txpBump_coll (s : State) (k : ℕ) (n : ℕ) : (s.txpBump k n).coll = s.coll := rfl
@[simp] theorem State.txpBump_host (s : State) (k : ℕ) (n : ℕ) : (s.txpBump k n).host = s.host := rfl
@[simp] theorem State.txpBump_vent (s : State) (k : ℕ) (n : ℕ) : (s.txpBump k n).vent = s.vent := rfl
@[simp] theorem State.txpBump_aon (s : State) (k : ℕ) (n : ℕ) : (s.txpBump k n).aon = s.aon := rfl
@[simp] theorem State.txpBump_sec (s : State) (k : ℕ) (n : ℕ) : (s.txpBump k n).sec = s.sec := rfl
@[simp] theorem State.txpBump_jtag (s : State) (k : ℕ) (n : ℕ) : (s.txpBump k n).jtag = s.jtag := rfl
@[simp] theorem State.txpBump_side (s : State) (k : ℕ) (n : ℕ) : (s.txpBump k n).side = s.side := rfl
@[simp] theorem State.leadCheck_pending (s : State) : (s.leadCheck).pending = s.pending := rfl
@[simp] theorem State.leadCheck_cc (s : State) : (s.leadCheck).cc = s.cc := rfl
@[simp] theorem State.leadCheck_free (s : State) : (s.leadCheck).free = s.free := rfl
@[simp] theorem State.leadCheck_out (s : State) : (s.leadCheck).out = s.out := rfl
@[simp] theorem State.leadCheck_tiles (s : State) : (s.leadCheck).tiles = s.tiles := rfl
@[simp] theorem State.leadCheck_cal (s : State) : (s.leadCheck).cal = s.cal := rfl
@[simp] theorem State.leadCheck_mesh (s : State) : (s.leadCheck).mesh = s.mesh := rfl
@[simp] theorem State.leadCheck_msgs (s : State) : (s.leadCheck).msgs = s.msgs := rfl
@[simp] theorem State.leadCheck_mem (s : State) : (s.leadCheck).mem = s.mem := rfl
@[simp] theorem State.leadCheck_mig (s : State) : (s.leadCheck).mig = s.mig := rfl
@[simp] theorem State.leadCheck_ports (s : State) : (s.leadCheck).ports = s.ports := rfl
@[simp] theorem State.leadCheck_masks (s : State) : (s.leadCheck).masks = s.masks := rfl
@[simp] theorem State.leadCheck_parbErr (s : State) : (s.leadCheck).parbErr = s.parbErr := rfl
@[simp] theorem State.leadCheck_coll (s : State) : (s.leadCheck).coll = s.coll := rfl
@[simp] theorem State.leadCheck_host (s : State) : (s.leadCheck).host = s.host := rfl
@[simp] theorem State.leadCheck_vent (s : State) : (s.leadCheck).vent = s.vent := rfl
@[simp] theorem State.leadCheck_aon (s : State) : (s.leadCheck).aon = s.aon := rfl
@[simp] theorem State.leadCheck_sec (s : State) : (s.leadCheck).sec = s.sec := rfl
@[simp] theorem State.leadCheck_jtag (s : State) : (s.leadCheck).jtag = s.jtag := rfl
@[simp] theorem State.leadCheck_side (s : State) : (s.leadCheck).side = s.side := rfl
@[simp] theorem State.setHand_pending (s : State) (dev : ℕ) (h : Hand) : (s.setHand dev h).pending = s.pending := rfl
@[simp] theorem State.setHand_cc (s : State) (dev : ℕ) (h : Hand) : (s.setHand dev h).cc = s.cc := rfl
@[simp] theorem State.setHand_free (s : State) (dev : ℕ) (h : Hand) : (s.setHand dev h).free = s.free := rfl
@[simp] theorem State.setHand_out (s : State) (dev : ℕ) (h : Hand) : (s.setHand dev h).out = s.out := rfl
@[simp] theorem State.setHand_tiles (s : State) (dev : ℕ) (h : Hand) : (s.setHand dev h).tiles = s.tiles := rfl
@[simp] theorem State.setHand_cal (s : State) (dev : ℕ) (h : Hand) : (s.setHand dev h).cal = s.cal := rfl
@[simp] theorem State.setHand_mesh (s : State) (dev : ℕ) (h : Hand) : (s.setHand dev h).mesh = s.mesh := rfl
@[simp] theorem State.setHand_msgs (s : State) (dev : ℕ) (h : Hand) : (s.setHand dev h).msgs = s.msgs := rfl
@[simp] theorem State.setHand_mem (s : State) (dev : ℕ) (h : Hand) : (s.setHand dev h).mem = s.mem := rfl
@[simp] theorem State.setHand_mig (s : State) (dev : ℕ) (h : Hand) : (s.setHand dev h).mig = s.mig := rfl
@[simp] theorem State.setHand_ports (s : State) (dev : ℕ) (h : Hand) : (s.setHand dev h).ports = s.ports := rfl
@[simp] theorem State.setHand_masks (s : State) (dev : ℕ) (h : Hand) : (s.setHand dev h).masks = s.masks := rfl
@[simp] theorem State.setHand_parbErr (s : State) (dev : ℕ) (h : Hand) : (s.setHand dev h).parbErr = s.parbErr := rfl
@[simp] theorem State.setHand_coll (s : State) (dev : ℕ) (h : Hand) : (s.setHand dev h).coll = s.coll := rfl
@[simp] theorem State.setHand_host (s : State) (dev : ℕ) (h : Hand) : (s.setHand dev h).host = s.host := rfl
@[simp] theorem State.setHand_vent (s : State) (dev : ℕ) (h : Hand) : (s.setHand dev h).vent = s.vent := rfl
@[simp] theorem State.setHand_aon (s : State) (dev : ℕ) (h : Hand) : (s.setHand dev h).aon = s.aon := rfl
@[simp] theorem State.setHand_sec (s : State) (dev : ℕ) (h : Hand) : (s.setHand dev h).sec = s.sec := rfl
@[simp] theorem State.setHand_jtag (s : State) (dev : ℕ) (h : Hand) : (s.setHand dev h).jtag = s.jtag := rfl
@[simp] theorem State.setHand_side (s : State) (dev : ℕ) (h : Hand) : (s.setHand dev h).side = s.side := rfl
@[simp] theorem State.dropHand_pending (s : State) (dev : ℕ) : (s.dropHand dev).pending = s.pending := rfl
@[simp] theorem State.dropHand_cc (s : State) (dev : ℕ) : (s.dropHand dev).cc = s.cc := rfl
@[simp] theorem State.dropHand_free (s : State) (dev : ℕ) : (s.dropHand dev).free = s.free := rfl
@[simp] theorem State.dropHand_out (s : State) (dev : ℕ) : (s.dropHand dev).out = s.out := rfl
@[simp] theorem State.dropHand_tiles (s : State) (dev : ℕ) : (s.dropHand dev).tiles = s.tiles := rfl
@[simp] theorem State.dropHand_cal (s : State) (dev : ℕ) : (s.dropHand dev).cal = s.cal := rfl
@[simp] theorem State.dropHand_mesh (s : State) (dev : ℕ) : (s.dropHand dev).mesh = s.mesh := rfl
@[simp] theorem State.dropHand_msgs (s : State) (dev : ℕ) : (s.dropHand dev).msgs = s.msgs := rfl
@[simp] theorem State.dropHand_mem (s : State) (dev : ℕ) : (s.dropHand dev).mem = s.mem := rfl
@[simp] theorem State.dropHand_mig (s : State) (dev : ℕ) : (s.dropHand dev).mig = s.mig := rfl
@[simp] theorem State.dropHand_ports (s : State) (dev : ℕ) : (s.dropHand dev).ports = s.ports := rfl
@[simp] theorem State.dropHand_masks (s : State) (dev : ℕ) : (s.dropHand dev).masks = s.masks := rfl
@[simp] theorem State.dropHand_parbErr (s : State) (dev : ℕ) : (s.dropHand dev).parbErr = s.parbErr := rfl
@[simp] theorem State.dropHand_coll (s : State) (dev : ℕ) : (s.dropHand dev).coll = s.coll := rfl
@[simp] theorem State.dropHand_host (s : State) (dev : ℕ) : (s.dropHand dev).host = s.host := rfl
@[simp] theorem State.dropHand_vent (s : State) (dev : ℕ) : (s.dropHand dev).vent = s.vent := rfl
@[simp] theorem State.dropHand_aon (s : State) (dev : ℕ) : (s.dropHand dev).aon = s.aon := rfl
@[simp] theorem State.dropHand_sec (s : State) (dev : ℕ) : (s.dropHand dev).sec = s.sec := rfl
@[simp] theorem State.dropHand_jtag (s : State) (dev : ℕ) : (s.dropHand dev).jtag = s.jtag := rfl
@[simp] theorem State.dropHand_side (s : State) (dev : ℕ) : (s.dropHand dev).side = s.side := rfl
@[simp] theorem State.setKnown_pending (s : State) (dev : ℕ) (inc : ℕ) : (s.setKnown dev inc).pending = s.pending := rfl
@[simp] theorem State.setKnown_cc (s : State) (dev : ℕ) (inc : ℕ) : (s.setKnown dev inc).cc = s.cc := rfl
@[simp] theorem State.setKnown_free (s : State) (dev : ℕ) (inc : ℕ) : (s.setKnown dev inc).free = s.free := rfl
@[simp] theorem State.setKnown_out (s : State) (dev : ℕ) (inc : ℕ) : (s.setKnown dev inc).out = s.out := rfl
@[simp] theorem State.setKnown_tiles (s : State) (dev : ℕ) (inc : ℕ) : (s.setKnown dev inc).tiles = s.tiles := rfl
@[simp] theorem State.setKnown_cal (s : State) (dev : ℕ) (inc : ℕ) : (s.setKnown dev inc).cal = s.cal := rfl
@[simp] theorem State.setKnown_mesh (s : State) (dev : ℕ) (inc : ℕ) : (s.setKnown dev inc).mesh = s.mesh := rfl
@[simp] theorem State.setKnown_msgs (s : State) (dev : ℕ) (inc : ℕ) : (s.setKnown dev inc).msgs = s.msgs := rfl
@[simp] theorem State.setKnown_mem (s : State) (dev : ℕ) (inc : ℕ) : (s.setKnown dev inc).mem = s.mem := rfl
@[simp] theorem State.setKnown_mig (s : State) (dev : ℕ) (inc : ℕ) : (s.setKnown dev inc).mig = s.mig := rfl
@[simp] theorem State.setKnown_ports (s : State) (dev : ℕ) (inc : ℕ) : (s.setKnown dev inc).ports = s.ports := rfl
@[simp] theorem State.setKnown_masks (s : State) (dev : ℕ) (inc : ℕ) : (s.setKnown dev inc).masks = s.masks := rfl
@[simp] theorem State.setKnown_parbErr (s : State) (dev : ℕ) (inc : ℕ) : (s.setKnown dev inc).parbErr = s.parbErr := rfl
@[simp] theorem State.setKnown_coll (s : State) (dev : ℕ) (inc : ℕ) : (s.setKnown dev inc).coll = s.coll := rfl
@[simp] theorem State.setKnown_host (s : State) (dev : ℕ) (inc : ℕ) : (s.setKnown dev inc).host = s.host := rfl
@[simp] theorem State.setKnown_vent (s : State) (dev : ℕ) (inc : ℕ) : (s.setKnown dev inc).vent = s.vent := rfl
@[simp] theorem State.setKnown_aon (s : State) (dev : ℕ) (inc : ℕ) : (s.setKnown dev inc).aon = s.aon := rfl
@[simp] theorem State.setKnown_sec (s : State) (dev : ℕ) (inc : ℕ) : (s.setKnown dev inc).sec = s.sec := rfl
@[simp] theorem State.setKnown_jtag (s : State) (dev : ℕ) (inc : ℕ) : (s.setKnown dev inc).jtag = s.jtag := rfl
@[simp] theorem State.setKnown_side (s : State) (dev : ℕ) (inc : ℕ) : (s.setKnown dev inc).side = s.side := rfl

theorem State.tile_setTile (s : State) (t k : Nat) (x : Tile) : (s.setTile t x).tile k = if k = t then x else s.tile k :=
  Sparse.get_put Tile.reset s.tiles t k x

@[simp] theorem State.tile_setTile_self (s : State) (t : Nat) (x : Tile) : (s.setTile t x).tile t = x := by
  rw [State.tile_setTile, if_pos rfl]

theorem State.port_setPort (s : State) (p k : Nat) (x : Port) : (s.setPort p x).port k = if k = p then x else s.port k :=
  Sparse.get_put Port.reset s.ports p k x

@[simp] theorem State.port_setPort_self (s : State) (p : Nat) (x : Port) : (s.setPort p x).port p = x := by
  rw [State.port_setPort, if_pos rfl]

end Sys2Proof.Machine
end

