-- ==== Sys2Proof/Laws/Frames.lean ====
section
/-!
SUPPORT. Frames of the shared operations: which leave the bytes of the device range (`_data`) and the loaded image (`_image`) as they were.
An operation that writes the device range has its lemma in Laws/Memory.lean.
-/
namespace Sys2Proof.Machine

/-- What every step of a fold keeps, the fold keeps. -/
theorem foldl_keep {α β γ : Type} (π : α → γ) (g : α → β → α) (h : ∀ u x, π (g u x) = π u) (l : List β) (a : α) : π (l.foldl g a) = π a := by
  induction l generalizing a with
  | nil => rfl
  | cons x l ih => simp only [List.foldl_cons]; rw [ih, h]
@[simp] theorem foldl_data {β : Type} (g : State → β → State) (h : ∀ u x, (g u x).mem.data = u.mem.data) (l : List β) (s : State) :
    (l.foldl g s).mem.data = s.mem.data := foldl_keep (fun u : State => u.mem.data) g h l s
@[simp] theorem foldl_image {β : Type} (g : State → β → State) (h : ∀ u x, (g u x).vent.image = u.vent.image) (l : List β) (s : State) :
    (l.foldl g s).vent.image = s.vent.image := foldl_keep (fun u : State => u.vent.image) g h l s

@[simp] theorem ite_data (c : Prop) [Decidable c] (a b : State) : (if c then a else b).mem.data = if c then a.mem.data else b.mem.data := by split <;> rfl
@[simp] theorem ite_image (c : Prop) [Decidable c] (a b : State) : (if c then a else b).vent.image = if c then a.vent.image else b.vent.image := by split <;> rfl
@[simp] theorem State.freshXfer_data (s : State) (g : Grant) : (s.freshXfer g).1.mem.data = s.mem.data := rfl
@[simp] theorem State.freshXfer_image (s : State) (g : Grant) : (s.freshXfer g).1.vent.image = s.vent.image := rfl

@[simp] theorem State.post_data (s : State) (typ : Nat) (detail : List Byte) : (s.post typ detail).mem.data = s.mem.data := rfl
@[simp] theorem State.post_image (s : State) (typ : Nat) (detail : List Byte) : (s.post typ detail).vent.image = s.vent.image := rfl
@[simp] theorem State.health_data (s : State) (code : Nat) (data : List Byte) : (s.health code data).mem.data = s.mem.data := rfl
@[simp] theorem State.health_image (s : State) (code : Nat) (data : List Byte) : (s.health code data).vent.image = s.vent.image := rfl
@[simp] theorem State.complete_data (s : State) (status : Nat) (resp : List Byte) : (s.complete status resp).mem.data = s.mem.data := rfl
@[simp] theorem State.complete_image (s : State) (status : Nat) (resp : List Byte) : (s.complete status resp).vent.image = s.vent.image := rfl
@[simp] theorem State.bgDone_data (s : State) (code : Nat) (status : Nat) (refusal : Nat) : (s.bgDone code status refusal).mem.data = s.mem.data := by
  unfold State.bgDone; simp
@[simp] theorem State.bgDone_image (s : State) (code : Nat) (status : Nat) (refusal : Nat) :
    (s.bgDone code status refusal).vent.image = s.vent.image := by
  unfold State.bgDone; simp
@[simp] theorem State.journal_data (s : State) (typ : Nat) (payload : List Byte) (next : JThen) :
    (s.journal typ payload next).mem.data = s.mem.data := by
  unfold State.journal; simp
@[simp] theorem State.journal_image (s : State) (typ : Nat) (payload : List Byte) (next : JThen) :
    (s.journal typ payload next).vent.image = s.vent.image := by
  unfold State.journal; simp
@[simp] theorem State.afterCommit_data (s : State) (p : PendRec) : (s.afterCommit p).mem.data = s.mem.data := by
  unfold State.afterCommit; (repeat' split) <;> simp
@[simp] theorem State.afterCommit_image (s : State) (p : PendRec) : (s.afterCommit p).vent.image = s.vent.image := by
  unfold State.afterCommit; (repeat' split) <;> simp
@[simp] theorem State.commitOne_data (s : State) (p : PendRec) : (s.commitOne p).mem.data = s.mem.data := by
  unfold State.commitOne; (repeat' split) <;> simp
@[simp] theorem State.commitOne_image (s : State) (p : PendRec) : (s.commitOne p).vent.image = s.vent.image := by
  unfold State.commitOne; (repeat' split) <;> simp
@[simp] theorem State.writeBatch_data (commit : State → PendRec → State) (h : ∀ u p, (commit u p).mem.data = u.mem.data) (s : State) :
    (s.writeBatch commit).mem.data = s.mem.data := by
  unfold State.writeBatch
  exact foldl_keep (fun a : State × List PendRec => a.1.mem.data) _ (fun u x => by split <;> simp [h]) _ _
@[simp] theorem State.writeBatch_image (commit : State → PendRec → State) (h : ∀ u p, (commit u p).vent.image = u.vent.image) (s : State) :
    (s.writeBatch commit).vent.image = s.vent.image := by
  unfold State.writeBatch
  exact foldl_keep (fun a : State × List PendRec => a.1.vent.image) _ (fun u x => by split <;> simp [h]) _ _
@[simp] theorem State.flushBatch_data (s : State) : s.flushBatch.mem.data = s.mem.data := State.writeBatch_data _ State.commitOne_data s
@[simp] theorem State.flushBatch_image (s : State) : s.flushBatch.vent.image = s.vent.image := State.writeBatch_image _ State.commitOne_image s
@[simp] theorem State.noteHigh_data (s : State) : (s.noteHigh).mem.data = s.mem.data := by
  unfold State.noteHigh; simp
@[simp] theorem State.noteHigh_image (s : State) : (s.noteHigh).vent.image = s.vent.image := by
  unfold State.noteHigh; simp
@[simp] theorem State.setTile_data (s : State) (t : Nat) (x : Tile) : (s.setTile t x).mem.data = s.mem.data := rfl
@[simp] theorem State.setTile_image (s : State) (t : Nat) (x : Tile) : (s.setTile t x).vent.image = s.vent.image := rfl
@[simp] theorem State.imageEnd_data (s : State) (reason : Nat) : (s.imageEnd reason).mem.data = s.mem.data := rfl
@[simp] theorem State.imageEnd_image (s : State) (reason : Nat) : (s.imageEnd reason).vent.image = s.vent.image := rfl
@[simp] theorem State.checkEnd_data (s : State) : (s.checkEnd).mem.data = s.mem.data := by
  unfold State.checkEnd; simp
@[simp] theorem State.checkEnd_image (s : State) : (s.checkEnd).vent.image = s.vent.image := by
  unfold State.checkEnd; simp
@[simp] theorem State.afterTile_data (s : State) (t : Nat) (x : Tile) : (s.afterTile t x).mem.data = s.mem.data := by
  unfold State.afterTile; simp
@[simp] theorem State.afterTile_image (s : State) (t : Nat) (x : Tile) : (s.afterTile t x).vent.image = s.vent.image := by
  unfold State.afterTile; simp
@[simp] theorem State.haltTiles_data (s : State) : (s.haltTiles).mem.data = s.mem.data := rfl
@[simp] theorem State.haltTiles_image (s : State) : (s.haltTiles).vent.image = s.vent.image := rfl
@[simp] theorem State.haltImage_data (s : State) (reason : Nat) : (s.haltImage reason).mem.data = s.mem.data := by
  unfold State.haltImage; simp
@[simp] theorem State.haltImage_image (s : State) (reason : Nat) : (s.haltImage reason).vent.image = s.vent.image := by
  unfold State.haltImage; simp
@[simp] theorem State.disablePorts_data (s : State) : (s.disablePorts).mem.data = s.mem.data := rfl
@[simp] theorem State.disablePorts_image (s : State) : (s.disablePorts).vent.image = s.vent.image := rfl
@[simp] theorem State.endStart_data (s : State) (status : Nat) : (s.endStart status).mem.data = s.mem.data := by
  unfold State.endStart; simp
@[simp] theorem State.endStart_image (s : State) (status : Nat) : (s.endStart status).vent.image = s.vent.image := by
  unfold State.endStart; simp
@[simp] theorem State.enterDormant_data (s0 : State) (cause : Nat) : (s0.enterDormant cause).mem.data = s0.mem.data := by
  unfold State.enterDormant; dsimp only; (repeat' split) <;> simp
@[simp] theorem State.enterDormant_image (s0 : State) (cause : Nat) : (s0.enterDormant cause).vent.image = s0.vent.image := by
  unfold State.enterDormant; dsimp only; (repeat' split) <;> simp
@[simp] theorem State.setNode_data (s : State) (g : Nat) (n : CalNode) : (s.setNode g n).mem.data = s.mem.data := rfl
@[simp] theorem State.setNode_image (s : State) (g : Nat) (n : CalNode) : (s.setNode g n).vent.image = s.vent.image := rfl
@[simp] theorem State.reportAt_data (s : State) (g : Nat) (code : Nat) (src : Nat) : (s.reportAt g code src).mem.data = s.mem.data := rfl
@[simp] theorem State.reportAt_image (s : State) (g : Nat) (code : Nat) (src : Nat) : (s.reportAt g code src).vent.image = s.vent.image := rfl
@[simp] theorem State.setPace_data (s : State) (p : Nat) : (s.setPace p).mem.data = s.mem.data := by
  unfold State.setPace
  split
  · rfl
  · refine foldl_data _ ?_ _ _; intro u x; rfl
@[simp] theorem State.setPace_image (s : State) (p : Nat) : (s.setPace p).vent.image = s.vent.image := by
  unfold State.setPace
  split
  · rfl
  · refine foldl_image _ ?_ _ _; intro u x; rfl
@[simp] theorem State.payIdle_data (s : State) (g : Nat) (n : Nat) : (s.payIdle g n).mem.data = s.mem.data := by
  unfold State.payIdle; simp
@[simp] theorem State.payIdle_image (s : State) (g : Nat) (n : Nat) : (s.payIdle g n).vent.image = s.vent.image := by
  unfold State.payIdle; simp
@[simp] theorem State.setPage_data (s : State) (p : Nat) (x : Page) : (s.setPage p x).mem.data = s.mem.data := rfl
@[simp] theorem State.setPage_image (s : State) (p : Nat) (x : Page) : (s.setPage p x).vent.image = s.vent.image := rfl
@[simp] theorem State.migBump_data (s : State) (off : Nat) (n : Nat) : (s.migBump off n).mem.data = s.mem.data := rfl
@[simp] theorem State.migBump_image (s : State) (off : Nat) (n : Nat) : (s.migBump off n).vent.image = s.vent.image := rfl
@[simp] theorem State.memBump_data (s : State) (off : Nat) (n : Nat) : (s.memBump off n).mem.data = s.mem.data := rfl
@[simp] theorem State.memBump_image (s : State) (off : Nat) (n : Nat) : (s.memBump off n).vent.image = s.vent.image := rfl
@[simp] theorem State.memCheckWord_data (s : State) (w : Nat) : (s.memCheckWord w).mem.data = s.mem.data := by
  unfold State.memCheckWord; simp
@[simp] theorem State.memCheckWord_image (s : State) (w : Nat) : (s.memCheckWord w).vent.image = s.vent.image := by
  unfold State.memCheckWord; simp
@[simp] theorem State.memTouch_data (s : State) (a : Nat) (n : Nat) : (s.memTouch a n).mem.data = s.mem.data := by
  unfold State.memTouch; simp
@[simp] theorem State.memTouch_image (s : State) (a : Nat) (n : Nat) : (s.memTouch a n).vent.image = s.vent.image := by
  unfold State.memTouch; simp
@[simp] theorem State.memUe_data (s : State) (w : Nat) : (s.memUe w).mem.data = s.mem.data := rfl
@[simp] theorem State.memUe_image (s : State) (w : Nat) : (s.memUe w).vent.image = s.vent.image := rfl
@[simp] theorem State.memSettle_data (s : State) (w : Nat) : (s.memSettle w).mem.data = s.mem.data := by
  unfold State.memSettle; simp
@[simp] theorem State.memSettle_image (s : State) (w : Nat) : (s.memSettle w).vent.image = s.vent.image := by
  unfold State.memSettle; simp
@[simp] theorem State.memRead_data (s : State) (a : Nat) (n : Nat) : (s.memRead a n).mem.data = s.mem.data := by
  unfold State.memRead; simp
@[simp] theorem State.memRead_image (s : State) (a : Nat) (n : Nat) : (s.memRead a n).vent.image = s.vent.image := by
  unfold State.memRead; simp
@[simp] theorem State.dirtyPage_data (s : State) (p : Nat) : (s.dirtyPage p).mem.data = s.mem.data := by
  unfold State.dirtyPage; simp
@[simp] theorem State.dirtyPage_image (s : State) (p : Nat) : (s.dirtyPage p).vent.image = s.vent.image := by
  unfold State.dirtyPage; simp
@[simp] theorem State.memEdges_data (s : State) (a : Nat) (n : Nat) : (s.memEdges a n).mem.data = s.mem.data := by
  unfold State.memEdges; simp
@[simp] theorem State.memEdges_image (s : State) (a : Nat) (n : Nat) : (s.memEdges a n).vent.image = s.vent.image := by
  unfold State.memEdges; simp
@[simp] theorem State.memWrite_image (s0 : State) (a : Nat) (bs : List Byte) (pz : Nat → Bool) :
    (s0.memWrite a bs pz).vent.image = s0.vent.image := by
  unfold State.memWrite; simp
@[simp] theorem State.startPromotion_data (s : State) (p : Nat) (part : Nat) (f : Nat) : (s.startPromotion p part f).mem.data = s.mem.data := rfl
@[simp] theorem State.startPromotion_image (s : State) (p : Nat) (part : Nat) (f : Nat) : (s.startPromotion p part f).vent.image = s.vent.image := rfl
@[simp] theorem State.dropErrors_data (s : State) (p : Nat) : (s.dropErrors p).mem.data = s.mem.data := rfl
@[simp] theorem State.dropErrors_image (s : State) (p : Nat) : (s.dropErrors p).vent.image = s.vent.image := rfl
@[simp] theorem State.evict_data (s : State) (p : Nat) : (s.evict p).mem.data = s.mem.data := by
  unfold State.evict; dsimp only; (repeat' split) <;> simp
@[simp] theorem State.evict_image (s : State) (p : Nat) : (s.evict p).vent.image = s.vent.image := by
  unfold State.evict; dsimp only; (repeat' split) <;> simp
@[simp] theorem State.unpinRule_data (s : State) (p : Nat) : (s.unpinRule p).mem.data = s.mem.data := by
  unfold State.unpinRule; simp
@[simp] theorem State.unpinRule_image (s : State) (p : Nat) : (s.unpinRule p).vent.image = s.vent.image := by
  unfold State.unpinRule; simp
@[simp] theorem State.setWaitList_data (s : State) (part : Nat) (l : List Nat) : (s.setWaitList part l).mem.data = s.mem.data := rfl
@[simp] theorem State.setWaitList_image (s : State) (part : Nat) (l : List Nat) : (s.setWaitList part l).vent.image = s.vent.image := rfl
@[simp] theorem State.joinWait_data (s : State) (p : Nat) (part : Nat) : (s.joinWait p part).mem.data = s.mem.data := rfl
@[simp] theorem State.joinWait_image (s : State) (p : Nat) (part : Nat) : (s.joinWait p part).vent.image = s.vent.image := rfl
@[simp] theorem State.promoteInto_data (s : State) (p : Nat) (part : Nat) : (s.promoteInto p part).mem.data = s.mem.data := by
  unfold State.promoteInto; dsimp only; (repeat' split) <;> simp
@[simp] theorem State.promoteInto_image (s : State) (p : Nat) (part : Nat) : (s.promoteInto p part).vent.image = s.vent.image := by
  unfold State.promoteInto; dsimp only; (repeat' split) <;> simp
@[simp] theorem State.pinError_data (s : State) : (s.pinError).mem.data = s.mem.data := rfl
@[simp] theorem State.pinError_image (s : State) : (s.pinError).vent.image = s.vent.image := rfl
@[simp] theorem State.promote_data (s : State) (p : Nat) (u : Nat) (part : Nat) (k : Bool) : (s.promote p u part k).mem.data = s.mem.data := by
  unfold State.promote; dsimp only; (repeat' split) <;> simp
@[simp] theorem State.promote_image (s : State) (p : Nat) (u : Nat) (part : Nat) (k : Bool) : (s.promote p u part k).vent.image = s.vent.image := by
  unfold State.promote; dsimp only; (repeat' split) <;> simp
@[simp] theorem State.unpin_data (s : State) (p : Nat) (u : Nat) : (s.unpin p u).mem.data = s.mem.data := by
  unfold State.unpin; dsimp only; (repeat' split) <;> simp
@[simp] theorem State.unpin_image (s : State) (p : Nat) (u : Nat) : (s.unpin p u).vent.image = s.vent.image := by
  unfold State.unpin; dsimp only; (repeat' split) <;> simp
@[simp] theorem State.evictReq_data (s : State) (p : Nat) : (s.evictReq p).mem.data = s.mem.data := by
  unfold State.evictReq; dsimp only; (repeat' split) <;> simp
@[simp] theorem State.evictReq_image (s : State) (p : Nat) : (s.evictReq p).vent.image = s.vent.image := by
  unfold State.evictReq; dsimp only; (repeat' split) <;> simp
@[simp] theorem State.applyEntry_data (s : State) (e : SchedEnt) (p : Nat) : (s.applyEntry e p).mem.data = s.mem.data := by
  unfold State.applyEntry; (repeat' split) <;> simp
@[simp] theorem State.applyEntry_image (s : State) (e : SchedEnt) (p : Nat) : (s.applyEntry e p).vent.image = s.vent.image := by
  unfold State.applyEntry; (repeat' split) <;> simp
@[simp] theorem State.fireSchedule_data (s : State) (n : Nat) : (s.fireSchedule n).mem.data = s.mem.data := by
  unfold State.fireSchedule; (repeat' split) <;> simp
@[simp] theorem State.fireSchedule_image (s : State) (n : Nat) : (s.fireSchedule n).vent.image = s.vent.image := by
  unfold State.fireSchedule; (repeat' split) <;> simp
@[simp] theorem State.setWin_data (s : State) (w : Nat) (x : Win) : (s.setWin w x).mem.data = s.mem.data := rfl
@[simp] theorem State.setWin_image (s : State) (w : Nat) (x : Win) : (s.setWin w x).vent.image = s.vent.image := rfl
@[simp] theorem State.refuse_data (s : State) (a : Nat) (n : Nat) : (s.refuse a n).mem.data = s.mem.data := rfl
@[simp] theorem State.refuse_image (s : State) (a : Nat) (n : Nat) : (s.refuse a n).vent.image = s.vent.image := rfl
@[simp] theorem State.arriveWin_data (s : State) (w : Nat) : (s.arriveWin w).mem.data = s.mem.data := by
  unfold State.arriveWin
  split
  · rfl
  · refine (foldl_data _ ?_ _ _).trans rfl; intro u x; rfl
@[simp] theorem State.arriveWin_image (s : State) (w : Nat) : (s.arriveWin w).vent.image = s.vent.image := by
  unfold State.arriveWin
  split
  · rfl
  · refine (foldl_image _ ?_ _ _).trans rfl; intro u x; rfl
@[simp] theorem State.answerMsg_data (s : State) (id : Nat) (code : Nat) : (s.answerMsg id code).mem.data = s.mem.data := rfl
@[simp] theorem State.answerMsg_image (s : State) (id : Nat) (code : Nat) : (s.answerMsg id code).vent.image = s.vent.image := rfl
@[simp] theorem State.setPort_data (s : State) (p : Nat) (x : Port) : (s.setPort p x).mem.data = s.mem.data := rfl
@[simp] theorem State.setPort_image (s : State) (p : Nat) (x : Port) : (s.setPort p x).vent.image = s.vent.image := rfl
@[simp] theorem State.park'_data (s : State) (p : Nat) (g : Grant) (waitWin : Bool) : (s.park' p g waitWin).mem.data = s.mem.data := rfl
@[simp] theorem State.park'_image (s : State) (p : Nat) (g : Grant) (waitWin : Bool) : (s.park' p g waitWin).vent.image = s.vent.image := rfl
@[simp] theorem State.holdXfer_data (s : State) (p : Nat) (g : Grant) (fresh : Bool) (waitWin : Bool) :
    (s.holdXfer p g fresh waitWin).mem.data = s.mem.data := by
  unfold State.holdXfer; (repeat' split) <;> simp
@[simp] theorem State.holdXfer_image (s : State) (p : Nat) (g : Grant) (fresh : Bool) (waitWin : Bool) :
    (s.holdXfer p g fresh waitWin).vent.image = s.vent.image := by
  unfold State.holdXfer; (repeat' split) <;> simp
@[simp] theorem State.keepXfer_data (s : State) (p : Nat) (g : Grant) (fresh : Bool) (waitWin : Bool) :
    (s.keepXfer p g fresh waitWin).mem.data = s.mem.data := by
  unfold State.keepXfer; simp
@[simp] theorem State.keepXfer_image (s : State) (p : Nat) (g : Grant) (fresh : Bool) (waitWin : Bool) :
    (s.keepXfer p g fresh waitWin).vent.image = s.vent.image := by
  unfold State.keepXfer; simp
@[simp] theorem State.recover_data (s : State) (p : Nat) (g : Grant) (fresh : Bool) : (s.recover p g fresh).mem.data = s.mem.data := by
  unfold State.recover; simp
@[simp] theorem State.recover_image (s : State) (p : Nat) (g : Grant) (fresh : Bool) : (s.recover p g fresh).vent.image = s.vent.image := by
  unfold State.recover; simp
@[simp] theorem State.msgLost_data (s : State) (g : Grant) : (s.msgLost g).mem.data = s.mem.data := by
  unfold State.msgLost; (repeat' split) <;> simp
@[simp] theorem State.msgLost_image (s : State) (g : Grant) : (s.msgLost g).vent.image = s.vent.image := by
  unfold State.msgLost; (repeat' split) <;> simp
@[simp] theorem State.portTo_data (s : State) (p : Nat) (st : PortSt) : (s.portTo p st).mem.data = s.mem.data := by
  unfold State.portTo; simp
@[simp] theorem State.portTo_image (s : State) (p : Nat) (st : PortSt) : (s.portTo p st).vent.image = s.vent.image := by
  unfold State.portTo; simp
@[simp] theorem State.portDown_data (s : State) (p : Nat) : (s.portDown p).mem.data = s.mem.data := by
  have h (l : List Grant) (u : State) : (l.foldl (fun (u : State) g => u.park' p g false) u).mem.data = u.mem.data := foldl_data (fun (u : State) g => u.park' p g false) (fun _ _ => rfl) l u
  unfold State.portDown; dsimp only; (repeat' split) <;> simp [h]
@[simp] theorem State.portDown_image (s : State) (p : Nat) : (s.portDown p).vent.image = s.vent.image := by
  have h (l : List Grant) (u : State) : (l.foldl (fun (u : State) g => u.park' p g false) u).vent.image = u.vent.image := foldl_image (fun (u : State) g => u.park' p g false) (fun _ _ => rfl) l u
  unfold State.portDown; dsimp only; (repeat' split) <;> simp [h]
@[simp] theorem State.flap_data (s : State) (p : Nat) (lanes : Nat) : (s.flap p lanes).mem.data = s.mem.data := by
  unfold State.flap; simp
@[simp] theorem State.flap_image (s : State) (p : Nat) (lanes : Nat) : (s.flap p lanes).vent.image = s.vent.image := by
  unfold State.flap; simp
@[simp] theorem State.request_data (s : State) (p : Nat) (r : Requester) (x : XferReq) : (s.request p r x).mem.data = s.mem.data := by
  unfold State.request; simp
@[simp] theorem State.request_image (s : State) (p : Nat) (r : Requester) (x : XferReq) : (s.request p r x).vent.image = s.vent.image := by
  unfold State.request; simp
@[simp] theorem State.setSess_data (s : State) (dev : Nat) (x : Session) : (s.setSess dev x).mem.data = s.mem.data := rfl
@[simp] theorem State.setSess_image (s : State) (dev : Nat) (x : Session) : (s.setSess dev x).vent.image = s.vent.image := rfl
@[simp] theorem State.seqUsed_data (s : State) (g : Grant) : (s.seqUsed g).mem.data = s.mem.data := by
  unfold State.seqUsed; (repeat' split) <;> simp
@[simp] theorem State.seqUsed_image (s : State) (g : Grant) : (s.seqUsed g).vent.image = s.vent.image := by
  unfold State.seqUsed; (repeat' split) <;> simp
@[simp] theorem State.sendFrame_data (s : State) (p : Nat) (g : Grant) : (s.sendFrame p g).mem.data = s.mem.data := by
  unfold State.sendFrame; simp
@[simp] theorem State.sendFrame_image (s : State) (p : Nat) (g : Grant) : (s.sendFrame p g).vent.image = s.vent.image := by
  unfold State.sendFrame; simp
@[simp] theorem State.frameEnd_data (s : State) (p : Nat) : (s.frameEnd p).mem.data = s.mem.data := by
  unfold State.frameEnd; dsimp only; (repeat' split) <;> simp
@[simp] theorem State.frameEnd_image (s : State) (p : Nat) : (s.frameEnd p).vent.image = s.vent.image := by
  unfold State.frameEnd; dsimp only; (repeat' split) <;> simp
@[simp] theorem State.retry_data (s : State) (p : Nat) : (s.retry p).mem.data = s.mem.data := by
  unfold State.retry; simp
@[simp] theorem State.retry_image (s : State) (p : Nat) : (s.retry p).vent.image = s.vent.image := by
  unfold State.retry; simp
@[simp] theorem State.restart_data (s : State) (id : Nat) : (s.restart id).mem.data = s.mem.data := by
  unfold State.restart; (repeat' split) <;> simp
@[simp] theorem State.restart_image (s : State) (id : Nat) : (s.restart id).vent.image = s.vent.image := by
  unfold State.restart; (repeat' split) <;> simp
@[simp] theorem State.cfgDisable_data (s : State) (p : Nat) (v : Word) : (s.cfgDisable p v).mem.data = s.mem.data := by
  unfold State.cfgDisable; simp
@[simp] theorem State.cfgDisable_image (s : State) (p : Nat) (v : Word) : (s.cfgDisable p v).vent.image = s.vent.image := by
  unfold State.cfgDisable; simp
@[simp] theorem State.cfgEnable_data (s : State) (p : Nat) (v : Word) : (s.cfgEnable p v).mem.data = s.mem.data := by
  unfold State.cfgEnable; simp
@[simp] theorem State.cfgEnable_image (s : State) (p : Nat) (v : Word) : (s.cfgEnable p v).vent.image = s.vent.image := by
  unfold State.cfgEnable; simp
@[simp] theorem State.txpBump_data (s : State) (k : Nat) (n : Nat) : (s.txpBump k n).mem.data = s.mem.data := rfl
@[simp] theorem State.txpBump_image (s : State) (k : Nat) (n : Nat) : (s.txpBump k n).vent.image = s.vent.image := rfl
@[simp] theorem State.leadCheck_data (s : State) : (s.leadCheck).mem.data = s.mem.data := rfl
@[simp] theorem State.leadCheck_image (s : State) : (s.leadCheck).vent.image = s.vent.image := rfl
@[simp] theorem State.queueAt_data (s : State) (p : Nat) (g : Grant) : (s.queueAt p g).mem.data = s.mem.data := by
  unfold State.queueAt; simp
@[simp] theorem State.queueAt_image (s : State) (p : Nat) (g : Grant) : (s.queueAt p g).vent.image = s.vent.image := by
  unfold State.queueAt; simp
@[simp] theorem State.mgmt_data (s : State) (p : Nat) (m : OutMsg) (num : Nat) : (s.mgmt p m num).mem.data = s.mem.data := by
  unfold State.mgmt; exact foldl_data _ (fun u d => by simp) _ _
@[simp] theorem State.mgmt_image (s : State) (p : Nat) (m : OutMsg) (num : Nat) : (s.mgmt p m num).vent.image = s.vent.image := by
  unfold State.mgmt; exact foldl_image _ (fun u d => by simp) _ _
@[simp] theorem State.emit_data (s : State) (p : Nat) (m : OutMsg) : (s.emit p m).mem.data = s.mem.data := by
  unfold State.emit; dsimp only; (repeat' split) <;> simp
@[simp] theorem State.emit_image (s : State) (p : Nat) (m : OutMsg) : (s.emit p m).vent.image = s.vent.image := by
  unfold State.emit; dsimp only; (repeat' split) <;> simp
@[simp] theorem State.setHand_data (s : State) (dev : Nat) (h : Hand) : (s.setHand dev h).mem.data = s.mem.data := rfl
@[simp] theorem State.setHand_image (s : State) (dev : Nat) (h : Hand) : (s.setHand dev h).vent.image = s.vent.image := rfl
@[simp] theorem State.dropHand_data (s : State) (dev : Nat) : (s.dropHand dev).mem.data = s.mem.data := rfl
@[simp] theorem State.dropHand_image (s : State) (dev : Nat) : (s.dropHand dev).vent.image = s.vent.image := rfl
@[simp] theorem State.sessTo_data (s : State) (dev : Nat) (st : SessSt) : (s.sessTo dev st).mem.data = s.mem.data := by
  unfold State.sessTo; simp
@[simp] theorem State.sessTo_image (s : State) (dev : Nat) (st : SessSt) : (s.sessTo dev st).vent.image = s.vent.image := by
  unfold State.sessTo; simp
@[simp] theorem State.sendHello_data (s : State) (p : Nat) (dev : Nat) (phase : Nat) (retry : Bool) (payload : List Byte) :
    (s.sendHello p dev phase retry payload).mem.data = s.mem.data := by
  unfold State.sendHello; simp
@[simp] theorem State.sendHello_image (s : State) (p : Nat) (dev : Nat) (phase : Nat) (retry : Bool) (payload : List Byte) :
    (s.sendHello p dev phase retry payload).vent.image = s.vent.image := by
  unfold State.sendHello; simp
@[simp] theorem State.offer_data (s : State) (dev : Nat) : (s.offer dev).mem.data = s.mem.data := by
  unfold State.offer; simp
@[simp] theorem State.offer_image (s : State) (dev : Nat) : (s.offer dev).vent.image = s.vent.image := by
  unfold State.offer; simp
@[simp] theorem State.needPeer_data (s : State) (dev : Nat) : (s.needPeer dev).mem.data = s.mem.data := by
  unfold State.needPeer; simp
@[simp] theorem State.needPeer_image (s : State) (dev : Nat) : (s.needPeer dev).vent.image = s.vent.image := by
  unfold State.needPeer; simp
@[simp] theorem State.abandonAt_data (mine : Grant → Bool) (s : State) (p : Nat) : (State.abandonAt mine s p).mem.data = s.mem.data := by
  unfold State.abandonAt; simp
@[simp] theorem State.abandonAt_image (mine : Grant → Bool) (s : State) (p : Nat) : (State.abandonAt mine s p).vent.image = s.vent.image := by
  unfold State.abandonAt; simp
@[simp] theorem State.renewWaits_data (s : State) (dev : Nat) : (s.renewWaits dev).mem.data = s.mem.data := by
  unfold State.renewWaits
  refine (foldl_data _ (fun u m => by simp) _ _).trans ((foldl_data _ (fun u w => ?_) _ _).trans rfl)
  dsimp only; split <;> simp
@[simp] theorem State.renewWaits_image (s : State) (dev : Nat) : (s.renewWaits dev).vent.image = s.vent.image := by
  unfold State.renewWaits
  refine (foldl_image _ (fun u m => by simp) _ _).trans ((foldl_image _ (fun u w => ?_) _ _).trans rfl)
  dsimp only; split <;> simp
@[simp] theorem State.sessDown_data (s : State) (dev : Nat) (st : SessSt) : (s.sessDown dev st).mem.data = s.mem.data := by
  unfold State.sessDown; simp
@[simp] theorem State.sessDown_image (s : State) (dev : Nat) (st : SessSt) : (s.sessDown dev st).vent.image = s.vent.image := by
  unfold State.sessDown; simp
@[simp] theorem State.endSpent_data (s : State) (dev : Nat) : (s.endSpent dev).mem.data = s.mem.data := by
  unfold State.endSpent; simp
@[simp] theorem State.endSpent_image (s : State) (dev : Nat) : (s.endSpent dev).vent.image = s.vent.image := by
  unfold State.endSpent; simp
@[simp] theorem State.endOld_data (s : State) (dev : Nat) : (s.endOld dev).mem.data = s.mem.data := by
  unfold State.endOld; generalize List.range 12 = l; split
  · rfl
  · rw [ite_data]; split
    · rfl
    · exact foldl_data _ (fun u d => by simp) l s
@[simp] theorem State.endOld_image (s : State) (dev : Nat) : (s.endOld dev).vent.image = s.vent.image := by
  unfold State.endOld; generalize List.range 12 = l; split
  · rfl
  · rw [ite_image]; split
    · rfl
    · exact foldl_image _ (fun u d => by simp) l s
@[simp] theorem State.send_data (s : State) (m : OutMsg) : (s.send m).mem.data = s.mem.data := by
  unfold State.send; simp
@[simp] theorem State.send_image (s : State) (m : OutMsg) : (s.send m).vent.image = s.vent.image := by
  unfold State.send; simp
@[simp] theorem State.sendAll_data (s : State) (devs : List Nat) (m : OutMsg) : (s.sendAll devs m).mem.data = s.mem.data := by
  unfold State.sendAll; simp
@[simp] theorem State.sendAll_image (s : State) (devs : List Nat) (m : OutMsg) : (s.sendAll devs m).vent.image = s.vent.image := by
  unfold State.sendAll; simp
@[simp] theorem State.reject_data (s : State) (dev : Nat) (code : Nat) (id : Option ContribId) (detail : Nat) (ref : Nat) :
    (s.reject dev code id detail ref).mem.data = s.mem.data := by
  unfold State.reject; simp
@[simp] theorem State.reject_image (s : State) (dev : Nat) (code : Nat) (id : Option ContribId) (detail : Nat) (ref : Nat) :
    (s.reject dev code id detail ref).vent.image = s.vent.image := by
  unfold State.reject; simp
@[simp] theorem State.rejectTakeover_data (s : State) (dev : Nat) (code : Nat) (step : Nat) (ref : Nat) :
    (s.rejectTakeover dev code step ref).mem.data = s.mem.data := by
  unfold State.rejectTakeover; simp
@[simp] theorem State.rejectTakeover_image (s : State) (dev : Nat) (code : Nat) (step : Nat) (ref : Nat) :
    (s.rejectTakeover dev code step ref).vent.image = s.vent.image := by
  unfold State.rejectTakeover; simp
@[simp] theorem State.rejectHello_data (s : State) (p : Nat) (dev : Nat) (code : Nat) : (s.rejectHello p dev code).mem.data = s.mem.data := by
  unfold State.rejectHello; simp
@[simp] theorem State.rejectHello_image (s : State) (p : Nat) (dev : Nat) (code : Nat) : (s.rejectHello p dev code).vent.image = s.vent.image := by
  unfold State.rejectHello; simp
@[simp] theorem State.setKnown_data (s : State) (dev : Nat) (inc : Nat) : (s.setKnown dev inc).mem.data = s.mem.data := rfl
@[simp] theorem State.setKnown_image (s : State) (dev : Nat) (inc : Nat) : (s.setKnown dev inc).vent.image = s.vent.image := rfl
@[simp] theorem State.establish_data (s : State) (dev : Nat) (inc : Nat) (opener : Bool) (num : Nat) (okm : List Byte) (port : Nat) :
    (s.establish dev inc opener num okm port).mem.data = s.mem.data := by
  unfold State.establish; simp
@[simp] theorem State.establish_image (s : State) (dev : Nat) (inc : Nat) (opener : Bool) (num : Nat) (okm : List Byte) (port : Nat) :
    (s.establish dev inc opener num okm port).vent.image = s.vent.image := by
  unfold State.establish; simp
@[simp] theorem State.sendClose_data (s : State) (dev : Nat) (x : Session) : (s.sendClose dev x).mem.data = s.mem.data := by
  unfold State.sendClose; simp
@[simp] theorem State.sendClose_image (s : State) (dev : Nat) (x : Session) : (s.sendClose dev x).vent.image = s.vent.image := by
  unfold State.sendClose; simp
@[simp] theorem State.closeOld_data (s : State) (dev : Nat) : (s.closeOld dev).mem.data = s.mem.data := by
  unfold State.closeOld; (repeat' split) <;> simp
@[simp] theorem State.closeOld_image (s : State) (dev : Nat) : (s.closeOld dev).vent.image = s.vent.image := by
  unfold State.closeOld; (repeat' split) <;> simp
@[simp] theorem State.resend_data (s : State) (dev : Nat) (kind : Nat) (args : List Nat) : (s.resend dev kind args).mem.data = s.mem.data := by
  unfold State.resend; simp
@[simp] theorem State.resend_image (s : State) (dev : Nat) (kind : Nat) (args : List Nat) : (s.resend dev kind args).vent.image = s.vent.image := by
  unfold State.resend; simp
@[simp] theorem State.newLife_data (s : State) (dev : Nat) (inc : Nat) : (s.newLife dev inc).mem.data = s.mem.data := by
  unfold State.newLife; simp
@[simp] theorem State.newLife_image (s : State) (dev : Nat) (inc : Nat) : (s.newLife dev inc).vent.image = s.vent.image := by
  unfold State.newLife; simp
@[simp] theorem State.closeStep_data (s : State) (o : StepSt) : (s.closeStep o).mem.data = s.mem.data := by
  unfold State.closeStep; simp
@[simp] theorem State.closeStep_image (s : State) (o : StepSt) : (s.closeStep o).vent.image = s.vent.image := by
  unfold State.closeStep; simp
@[simp] theorem State.tryClose_data (s : State) : (s.tryClose).mem.data = s.mem.data := by
  unfold State.tryClose; (repeat' split) <;> simp
@[simp] theorem State.tryClose_image (s : State) : (s.tryClose).vent.image = s.vent.image := by
  unfold State.tryClose; (repeat' split) <;> simp
@[simp] theorem State.settle_data (s : State) (id : ContribId) (outcome : Nat) : (s.settle id outcome).mem.data = s.mem.data := by
  unfold State.settle; simp
@[simp] theorem State.settle_image (s : State) (id : ContribId) (outcome : Nat) : (s.settle id outcome).vent.image = s.vent.image := by
  unfold State.settle; simp
@[simp] theorem State.sendAccept_data (s : State) (id : ContribId) (dst : Nat) (wm : Nat) (ref : Nat) :
    (s.sendAccept id dst wm ref).mem.data = s.mem.data := by
  unfold State.sendAccept; simp
@[simp] theorem State.sendAccept_image (s : State) (id : ContribId) (dst : Nat) (wm : Nat) (ref : Nat) :
    (s.sendAccept id dst wm ref).vent.image = s.vent.image := by
  unfold State.sendAccept; simp
@[simp] theorem State.markAccepted_data (s : State) (id : ContribId) : (s.markAccepted id).mem.data = s.mem.data := by
  unfold State.markAccepted; dsimp only; (repeat' split) <;> simp
@[simp] theorem State.markAccepted_image (s : State) (id : ContribId) : (s.markAccepted id).vent.image = s.vent.image := by
  unfold State.markAccepted; dsimp only; (repeat' split) <;> simp
@[simp] theorem State.acceptWm_data (s : State) (id : ContribId) : (s.acceptWm id).mem.data = s.mem.data := by
  unfold State.acceptWm; (repeat' split) <;> simp
@[simp] theorem State.acceptWm_image (s : State) (id : ContribId) : (s.acceptWm id).vent.image = s.vent.image := by
  unfold State.acceptWm; (repeat' split) <;> simp
@[simp] theorem State.copyTo_data (s : State) (d : Nat) (w : WmRec) : (s.copyTo d w).mem.data = s.mem.data := by
  unfold State.copyTo; simp
@[simp] theorem State.copyTo_image (s : State) (d : Nat) (w : WmRec) : (s.copyTo d w).vent.image = s.vent.image := by
  unfold State.copyTo; simp
@[simp] theorem State.copyClose_data (s : State) (d : Nat) (retry : Bool) (c : CloseRec) : (s.copyClose d retry c).mem.data = s.mem.data := by
  unfold State.copyClose; simp
@[simp] theorem State.copyClose_image (s : State) (d : Nat) (retry : Bool) (c : CloseRec) : (s.copyClose d retry c).vent.image = s.vent.image := by
  unfold State.copyClose; simp
@[simp] theorem State.copyStep_data (s : State) (d : Nat) (only : WmRec → Bool) : (s.copyStep d only).mem.data = s.mem.data := by
  unfold State.copyStep; simp
@[simp] theorem State.copyStep_image (s : State) (d : Nat) (only : WmRec → Bool) : (s.copyStep d only).vent.image = s.vent.image := by
  unfold State.copyStep; simp
@[simp] theorem State.nameDeputy_data (s : State) : (s.nameDeputy).mem.data = s.mem.data := by
  unfold State.nameDeputy; (repeat' split) <;> simp
@[simp] theorem State.nameDeputy_image (s : State) : (s.nameDeputy).vent.image = s.vent.image := by
  unfold State.nameDeputy; (repeat' split) <;> simp
@[simp] theorem State.faultRecord_data (s : State) (id : ContribId) (dev : Nat) (bytes : List Byte) :
    (s.faultRecord id dev bytes).mem.data = s.mem.data := by
  unfold State.faultRecord; simp
@[simp] theorem State.faultRecord_image (s : State) (id : ContribId) (dev : Nat) (bytes : List Byte) :
    (s.faultRecord id dev bytes).vent.image = s.vent.image := by
  unfold State.faultRecord; simp
@[simp] theorem State.ledgered_data (s : State) (dev : Nat) (c : ContribMsg) (w : WmRec) (ref : Nat) :
    (s.ledgered dev c w ref).mem.data = s.mem.data := by
  unfold State.ledgered; simp
@[simp] theorem State.ledgered_image (s : State) (dev : Nat) (c : ContribMsg) (w : WmRec) (ref : Nat) :
    (s.ledgered dev c w ref).vent.image = s.vent.image := by
  unfold State.ledgered; simp
@[simp] theorem State.refuseContrib_data (s : State) (dev : Nat) (code : Nat) (id : ContribId) (detail : Nat) (ref : Nat) :
    (s.refuseContrib dev code id detail ref).mem.data = s.mem.data := by
  unfold State.refuseContrib; simp
@[simp] theorem State.refuseContrib_image (s : State) (dev : Nat) (code : Nat) (id : ContribId) (detail : Nat) (ref : Nat) :
    (s.refuseContrib dev code id detail ref).vent.image = s.vent.image := by
  unfold State.refuseContrib; simp
@[simp] theorem State.leaderContrib_data (s : State) (dev : Nat) (c : ContribMsg) (ref : Nat) :
    (s.leaderContrib dev c ref).mem.data = s.mem.data := by
  unfold State.leaderContrib; dsimp only; (repeat' split) <;> simp
@[simp] theorem State.leaderContrib_image (s : State) (dev : Nat) (c : ContribMsg) (ref : Nat) :
    (s.leaderContrib dev c ref).vent.image = s.vent.image := by
  unfold State.leaderContrib; dsimp only; (repeat' split) <;> simp
@[simp] theorem State.sendContrib_data (s : State) (c : ContribMsg) : (s.sendContrib c).mem.data = s.mem.data := by
  unfold State.sendContrib; simp
@[simp] theorem State.sendContrib_image (s : State) (c : ContribMsg) : (s.sendContrib c).vent.image = s.vent.image := by
  unfold State.sendContrib; simp
@[simp] theorem State.formContribution_data (s : State) (part : Nat) (step : Nat) (odig : List Byte) (chain : List Byte) :
    (s.formContribution part step odig chain).mem.data = s.mem.data := by
  unfold State.formContribution; (repeat' split) <;> simp
@[simp] theorem State.formContribution_image (s : State) (part : Nat) (step : Nat) (odig : List Byte) (chain : List Byte) :
    (s.formContribution part step odig chain).vent.image = s.vent.image := by
  unfold State.formContribution; (repeat' split) <;> simp
@[simp] theorem State.formLate_data (s : State) (step : Nat) : (s.formLate step).mem.data = s.mem.data := by
  unfold State.formLate; (repeat' split) <;> simp
@[simp] theorem State.formLate_image (s : State) (step : Nat) : (s.formLate step).vent.image = s.vent.image := by
  unfold State.formLate; (repeat' split) <;> simp
@[simp] theorem State.sendUnsent_data (s : State) (step : Nat) : (s.sendUnsent step).mem.data = s.mem.data := by
  unfold State.sendUnsent; simp
@[simp] theorem State.sendUnsent_image (s : State) (step : Nat) : (s.sendUnsent step).vent.image = s.vent.image := by
  unfold State.sendUnsent; simp
@[simp] theorem State.sendOuts_data (s0 : State) (step : Nat) : (s0.sendOuts step).mem.data = s0.mem.data := by
  unfold State.sendOuts; simp
@[simp] theorem State.sendOuts_image (s0 : State) (step : Nat) : (s0.sendOuts step).vent.image = s0.vent.image := by
  unfold State.sendOuts; simp
@[simp] theorem State.takeTimers_data (s : State) : (s.takeTimers).mem.data = s.mem.data := by
  unfold State.takeTimers; (repeat' split) <;> simp
@[simp] theorem State.takeTimers_image (s : State) : (s.takeTimers).vent.image = s.vent.image := by
  unfold State.takeTimers; (repeat' split) <;> simp
@[simp] theorem State.openStep_data (s : State) (n : Nat) : (s.openStep n).mem.data = s.mem.data := by
  unfold State.openStep; simp
@[simp] theorem State.openStep_image (s : State) (n : Nat) : (s.openStep n).vent.image = s.vent.image := by
  unfold State.openStep; simp
@[simp] theorem State.boundary_data (s : State) (step : Nat) : (s.boundary step).mem.data = s.mem.data := by
  unfold State.boundary; (repeat' split) <;> simp
@[simp] theorem State.boundary_image (s : State) (step : Nat) : (s.boundary step).vent.image = s.vent.image := by
  unfold State.boundary; (repeat' split) <;> simp
@[simp] theorem State.openIfNew_data (s : State) (was : Bool) (step : Nat) : (s.openIfNew was step).mem.data = s.mem.data := by
  unfold State.openIfNew; simp
@[simp] theorem State.openIfNew_image (s : State) (was : Bool) (step : Nat) : (s.openIfNew was step).vent.image = s.vent.image := by
  unfold State.openIfNew; simp
@[simp] theorem State.newEpoch_data (s : State) (n : Nat) : (s.newEpoch n).mem.data = s.mem.data := by
  unfold State.newEpoch; simp
@[simp] theorem State.newEpoch_image (s : State) (n : Nat) : (s.newEpoch n).vent.image = s.vent.image := by
  unfold State.newEpoch; simp
@[simp] theorem State.found_data (s : State) : (s.found).mem.data = s.mem.data := by
  unfold State.found; (repeat' split) <;> simp
@[simp] theorem State.found_image (s : State) : (s.found).vent.image = s.vent.image := by
  unfold State.found; (repeat' split) <;> simp
@[simp] theorem State.stepClosed_data (s : State) (c : CloseRec) : (s.stepClosed c).mem.data = s.mem.data := rfl
@[simp] theorem State.stepClosed_image (s : State) (c : CloseRec) : (s.stepClosed c).vent.image = s.vent.image := rfl
@[simp] theorem State.finishClose_data (s : State) (c : CloseRec) : (s.finishClose c).mem.data = s.mem.data := by
  unfold State.finishClose; simp
@[simp] theorem State.finishClose_image (s : State) (c : CloseRec) : (s.finishClose c).vent.image = s.vent.image := by
  unfold State.finishClose; simp
@[simp] theorem State.sendFreeze_data (s : State) (o : StepSt) (retry : Bool) (dst : List Nat) :
    (s.sendFreeze o retry dst).mem.data = s.mem.data := by
  unfold State.sendFreeze; simp
@[simp] theorem State.sendFreeze_image (s : State) (o : StepSt) (retry : Bool) (dst : List Nat) :
    (s.sendFreeze o retry dst).vent.image = s.vent.image := by
  unfold State.sendFreeze; simp
@[simp] theorem State.startFreeze_data (s : State) (o : StepSt) : (s.startFreeze o).mem.data = s.mem.data := by
  unfold State.startFreeze; simp
@[simp] theorem State.startFreeze_image (s : State) (o : StepSt) : (s.startFreeze o).vent.image = s.vent.image := by
  unfold State.startFreeze; simp
@[simp] theorem State.takeover_data (s : State) : (s.takeover).mem.data = s.mem.data := by
  unfold State.takeover; simp
@[simp] theorem State.takeover_image (s : State) : (s.takeover).vent.image = s.vent.image := by
  unfold State.takeover; simp
@[simp] theorem State.resendOuts_data (s : State) : (s.resendOuts).mem.data = s.mem.data := by
  unfold State.resendOuts; simp
@[simp] theorem State.resendOuts_image (s : State) : (s.resendOuts).vent.image = s.vent.image := by
  unfold State.resendOuts; simp
@[simp] theorem State.doTakeover_data (s : State) : (s.doTakeover).mem.data = s.mem.data := by
  unfold State.doTakeover; dsimp only; (repeat' split) <;> simp_all
@[simp] theorem State.doTakeover_image (s : State) : (s.doTakeover).vent.image = s.vent.image := by
  unfold State.doTakeover; dsimp only; (repeat' split) <;> simp_all
@[simp] theorem State.watermarkMade_data (s : State) (id : ContribId) : (s.watermarkMade id).mem.data = s.mem.data := by
  unfold State.watermarkMade; split
  · rfl
  · exact (foldl_data _ (fun u x => by split <;> simp) _ _).trans (by (repeat' split) <;> simp)
@[simp] theorem State.watermarkMade_image (s : State) (id : ContribId) : (s.watermarkMade id).vent.image = s.vent.image := by
  unfold State.watermarkMade; split
  · rfl
  · exact (foldl_image _ (fun u x => by split <;> simp) _ _).trans (by (repeat' split) <;> simp)
@[simp] theorem State.memberClosed_data (s : State) (ref : Nat) (c : CloseRec) : (s.memberClosed ref c).mem.data = s.mem.data := by
  unfold State.memberClosed; simp
@[simp] theorem State.memberClosed_image (s : State) (ref : Nat) (c : CloseRec) : (s.memberClosed ref c).vent.image = s.vent.image := by
  unfold State.memberClosed; simp
@[simp] theorem State.closeMade_data (s : State) (ref : Nat) : (s.closeMade ref).mem.data = s.mem.data := by
  unfold State.closeMade; dsimp only; (repeat' split) <;> simp
@[simp] theorem State.closeMade_image (s : State) (ref : Nat) : (s.closeMade ref).vent.image = s.vent.image := by
  unfold State.closeMade; dsimp only; (repeat' split) <;> simp
@[simp] theorem State.afterCommitTxp_data (s : State) (p : PendRec) : (s.afterCommitTxp p).mem.data = s.mem.data := by
  unfold State.afterCommitTxp; (repeat' split) <;> simp_all
@[simp] theorem State.afterCommitTxp_image (s : State) (p : PendRec) : (s.afterCommitTxp p).vent.image = s.vent.image := by
  unfold State.afterCommitTxp; (repeat' split) <;> simp_all
@[simp] theorem State.resendFinals_data (s : State) (dev : Nat) : (s.resendFinals dev).mem.data = s.mem.data := by
  unfold State.resendFinals; simp
@[simp] theorem State.resendFinals_image (s : State) (dev : Nat) : (s.resendFinals dev).vent.image = s.vent.image := by
  unfold State.resendFinals; simp
@[simp] theorem State.resendOpen_data (s : State) (dev : Nat) : (s.resendOpen dev).mem.data = s.mem.data := by
  unfold State.resendOpen; (repeat' split) <;> simp
@[simp] theorem State.resendOpen_image (s : State) (dev : Nat) : (s.resendOpen dev).vent.image = s.vent.image := by
  unfold State.resendOpen; (repeat' split) <;> simp
@[simp] theorem State.sessionUp_data (s0 : State) (dev : Nat) : (s0.sessionUp dev).mem.data = s0.mem.data := by
  unfold State.sessionUp; dsimp only; (repeat' split) <;> simp
@[simp] theorem State.sessionUp_image (s0 : State) (dev : Nat) : (s0.sessionUp dev).vent.image = s0.vent.image := by
  unfold State.sessionUp; dsimp only; (repeat' split) <;> simp
@[simp] theorem State.launch_data (s : State) (r : Requester) (x : XferReq) : (s.launch r x).mem.data = s.mem.data := by
  unfold State.launch; dsimp only; split <;> simp
@[simp] theorem State.launch_image (s : State) (r : Requester) (x : XferReq) : (s.launch r x).vent.image = s.vent.image := by
  unfold State.launch; dsimp only; split <;> simp
@[simp] theorem State.egress_data (s : State) (dev : Nat) (args : List Nat) (pz : Bool) : (s.egress dev args pz).mem.data = s.mem.data := by
  unfold State.egress; simp
@[simp] theorem State.egress_image (s : State) (dev : Nat) (args : List Nat) (pz : Bool) : (s.egress dev args pz).vent.image = s.vent.image := by
  unfold State.egress; simp
@[simp] theorem State.egressSend_data (s : State) (id : Nat) : (s.egressSend id).mem.data = s.mem.data := by
  unfold State.egressSend; (repeat' split) <;> simp
@[simp] theorem State.egressSend_image (s : State) (id : Nat) : (s.egressSend id).vent.image = s.vent.image := by
  unfold State.egressSend; (repeat' split) <;> simp
@[simp] theorem State.egressIn_data (s : State) (dev : Nat) (m : RMsg) : (s.egressIn dev m).mem.data = s.mem.data := by
  unfold State.egressIn; simp
@[simp] theorem State.egressIn_image (s : State) (dev : Nat) (m : RMsg) : (s.egressIn dev m).vent.image = s.vent.image := by
  unfold State.egressIn; simp
@[simp] theorem State.writeElems_image (s : State) (a : Nat) (k : Nat) (l : List (List Byte × Bool)) :
    (s.writeElems a k l).vent.image = s.vent.image := by
  unfold State.writeElems; simp
@[simp] theorem State.setRun_data (s : State) (cid : Nat) (r : CollRun) : (s.setRun cid r).mem.data = s.mem.data := rfl
@[simp] theorem State.setRun_image (s : State) (cid : Nat) (r : CollRun) : (s.setRun cid r).vent.image = s.vent.image := rfl
@[simp] theorem State.collBump_data (s : State) (off : Nat) (n : Nat) : (s.collBump off n).mem.data = s.mem.data := rfl
@[simp] theorem State.collBump_image (s : State) (off : Nat) (n : Nat) : (s.collBump off n).vent.image = s.vent.image := rfl
@[simp] theorem State.collCheck_data (s : State) (cid : Nat) : (s.collCheck cid).mem.data = s.mem.data := by
  unfold State.collCheck; (repeat' split) <;> simp
@[simp] theorem State.collCheck_image (s : State) (cid : Nat) : (s.collCheck cid).vent.image = s.vent.image := by
  unfold State.collCheck; (repeat' split) <;> simp
@[simp] theorem State.toOthers_data (s : State) (r : CollRun) (f : Nat → List XferReq) : (s.toOthers r f).mem.data = s.mem.data := by
  unfold State.toOthers; simp
@[simp] theorem State.toOthers_image (s : State) (r : CollRun) (f : Nat → List XferReq) : (s.toOthers r f).vent.image = s.vent.image := by
  unfold State.toOthers; simp
@[simp] theorem State.readStage_data (s : State) (d : CollDecl) (r : CollRun) (blk : Nat) (n : Nat) (need : List Nat) :
    (s.readStage d r blk n need).mem.data = s.mem.data := by
  unfold State.readStage; simp
@[simp] theorem State.readStage_image (s : State) (d : CollDecl) (r : CollRun) (blk : Nat) (n : Nat) (need : List Nat) :
    (s.readStage d r blk n need).vent.image = s.vent.image := by
  unfold State.readStage; simp
@[simp] theorem State.sumBlock_image (s0 : State) (cid : Nat) (d : CollDecl) (r : CollRun) (blk : Nat) (need : List Nat) :
    (s0.sumBlock cid d r blk need).vent.image = s0.vent.image := by
  unfold State.sumBlock; simp
@[simp] theorem State.partDone_data (step : Nat) (s : State) (p : SegDst × Nat) : (State.partDone step s p).mem.data = s.mem.data := by
  unfold State.partDone
  refine foldl_data _ (fun u cid => ?_) _ _
  (repeat' split) <;> simp
@[simp] theorem State.partDone_image (step : Nat) (s : State) (p : SegDst × Nat) : (State.partDone step s p).vent.image = s.vent.image := by
  unfold State.partDone
  refine foldl_image _ (fun u cid => ?_) _ _
  (repeat' split) <;> simp
@[simp] theorem State.takeEarly_data (s : State) (cid : Nat) (step : Nat) : (s.takeEarly cid step).mem.data = s.mem.data := by
  unfold State.takeEarly; exact (foldl_data _ (fun u e => by simp) _ _).trans rfl
@[simp] theorem State.takeEarly_image (s : State) (cid : Nat) (step : Nat) : (s.takeEarly cid step).vent.image = s.vent.image := by
  unfold State.takeEarly; exact (foldl_image _ (fun u e => by simp) _ _).trans rfl
@[simp] theorem State.setRx_data (s : State) (x : RxXfer) : (s.setRx x).mem.data = s.mem.data := rfl
@[simp] theorem State.setRx_image (s : State) (x : RxXfer) : (s.setRx x).vent.image = s.vent.image := rfl
@[simp] theorem State.freeHealth_data (s : State) (data : List Byte) : (s.freeHealth data).mem.data = s.mem.data := rfl
@[simp] theorem State.freeHealth_image (s : State) (data : List Byte) : (s.freeHealth data).vent.image = s.vent.image := rfl
@[simp] theorem State.retireRx_data (s : State) (dev : Nat) (cls : Nat) (xfer : Nat) (att : Nat) :
    (s.retireRx dev cls xfer att).mem.data = s.mem.data := rfl
@[simp] theorem State.retireRx_image (s : State) (dev : Nat) (cls : Nat) (xfer : Nat) (att : Nat) :
    (s.retireRx dev cls xfer att).vent.image = s.vent.image := rfl
@[simp] theorem State.rejectStale_data (s : State) (dev : Nat) (c : Carriage) (ref : Nat) : (s.rejectStale dev c ref).mem.data = s.mem.data := by
  unfold State.rejectStale; simp
@[simp] theorem State.rejectStale_image (s : State) (dev : Nat) (c : Carriage) (ref : Nat) : (s.rejectStale dev c ref).vent.image = s.vent.image := by
  unfold State.rejectStale; simp
@[simp] theorem State.onHandover_data (s : State) (dev : Nat) (win : Nat) (g : Seg) : (s.onHandover dev win g).mem.data = s.mem.data := by
  unfold State.onHandover; (repeat' split) <;> simp
@[simp] theorem State.onHandover_image (s : State) (dev : Nat) (win : Nat) (g : Seg) : (s.onHandover dev win g).vent.image = s.vent.image := by
  unfold State.onHandover; (repeat' split) <;> simp
@[simp] theorem State.makeContribution_data (s : State) (part : Nat) (step : Nat) : (s.makeContribution part step).mem.data = s.mem.data := by
  unfold State.makeContribution; (repeat' split) <;> simp
@[simp] theorem State.makeContribution_image (s : State) (part : Nat) (step : Nat) : (s.makeContribution part step).vent.image = s.vent.image := by
  unfold State.makeContribution; (repeat' split) <;> simp
@[simp] theorem State.auditInput_data (s : State) (a : Audit) (c : ContribMsg) : (s.auditInput a c).mem.data = s.mem.data := rfl
@[simp] theorem State.auditInput_image (s : State) (a : Audit) (c : ContribMsg) : (s.auditInput a c).vent.image = s.vent.image := rfl
@[simp] theorem State.beginAudit_data (s : State) (id : ContribId) : (s.beginAudit id).mem.data = s.mem.data := by
  unfold State.beginAudit; (repeat' split) <;> simp
@[simp] theorem State.beginAudit_image (s : State) (id : ContribId) : (s.beginAudit id).vent.image = s.vent.image := by
  unfold State.beginAudit; (repeat' split) <;> simp
@[simp] theorem State.assignAudit_data (s : State) (id : ContribId) (dst : Option Nat) : (s.assignAudit id dst).mem.data = s.mem.data := by
  unfold State.assignAudit; (repeat' split) <;> simp
@[simp] theorem State.assignAudit_image (s : State) (id : ContribId) (dst : Option Nat) : (s.assignAudit id dst).vent.image = s.vent.image := by
  unfold State.assignAudit; (repeat' split) <;> simp
@[simp] theorem State.secondReport_data (s : State) (c : AuditCase) (dev : Nat) (status : AuditStatus) (odig : List Byte) :
    (s.secondReport c dev status odig).mem.data = s.mem.data := by
  unfold State.secondReport; dsimp only; split
  · simp
  · exact (foldl_data _ (fun u d => by split <;> simp) _ _).trans (by simp)
@[simp] theorem State.secondReport_image (s : State) (c : AuditCase) (dev : Nat) (status : AuditStatus) (odig : List Byte) :
    (s.secondReport c dev status odig).vent.image = s.vent.image := by
  unfold State.secondReport; dsimp only; split
  · simp
  · exact (foldl_image _ (fun u d => by split <;> simp) _ _).trans (by simp)
@[simp] theorem State.auditReported_data (s : State) (dev : Nat) (id : ContribId) (status : AuditStatus) (odig : List Byte) :
    (s.auditReported dev id status odig).mem.data = s.mem.data := by
  unfold State.auditReported; (repeat' split) <;> simp
@[simp] theorem State.auditReported_image (s : State) (dev : Nat) (id : ContribId) (status : AuditStatus) (odig : List Byte) :
    (s.auditReported dev id status odig).vent.image = s.vent.image := by
  unfold State.auditReported; (repeat' split) <;> simp
@[simp] theorem State.report_data (s : State) (id : ContribId) (st : AuditStatus) (odig : List Byte) (ref : Nat) :
    (s.report id st odig ref).mem.data = s.mem.data := by
  unfold State.report; simp
@[simp] theorem State.report_image (s : State) (id : ContribId) (st : AuditStatus) (odig : List Byte) (ref : Nat) :
    (s.report id st odig ref).vent.image = s.vent.image := by
  unfold State.report; simp
@[simp] theorem State.endAudit_data (s : State) (id : ContribId) (st : AuditStatus) (odig : List Byte) :
    (s.endAudit id st odig).mem.data = s.mem.data := by
  unfold State.endAudit; simp
@[simp] theorem State.endAudit_image (s : State) (id : ContribId) (st : AuditStatus) (odig : List Byte) :
    (s.endAudit id st odig).vent.image = s.vent.image := by
  unfold State.endAudit; simp
@[simp] theorem State.startAudit_data (s : State) (id : ContribId) (ref : Nat) : (s.startAudit id ref).mem.data = s.mem.data := by
  unfold State.startAudit; simp
@[simp] theorem State.startAudit_image (s : State) (id : ContribId) (ref : Nat) : (s.startAudit id ref).vent.image = s.vent.image := by
  unfold State.startAudit; simp
@[simp] theorem State.onAuditReq_data (s : State) (dev : Nat) (g : Seg) (id : ContribId) : (s.onAuditReq dev g id).mem.data = s.mem.data := by
  unfold State.onAuditReq; (repeat' split) <;> simp
@[simp] theorem State.onAuditReq_image (s : State) (dev : Nat) (g : Seg) (id : ContribId) : (s.onAuditReq dev g id).vent.image = s.vent.image := by
  unfold State.onAuditReq; (repeat' split) <;> simp
@[simp] theorem State.onAuditReply_data (s : State) (reply : Option ContribMsg) (id : ContribId) :
    (s.onAuditReply reply id).mem.data = s.mem.data := by
  unfold State.onAuditReply; (repeat' split) <;> simp
@[simp] theorem State.onAuditReply_image (s : State) (reply : Option ContribMsg) (id : ContribId) :
    (s.onAuditReply reply id).vent.image = s.vent.image := by
  unfold State.onAuditReply; (repeat' split) <;> simp
@[simp] theorem State.onAuditReport_data (s : State) (dev : Nat) (g : Seg) (id : ContribId) (status : AuditStatus) (odig : List Byte) :
    (s.onAuditReport dev g id status odig).mem.data = s.mem.data := by
  unfold State.onAuditReport; simp
@[simp] theorem State.onAuditReport_image (s : State) (dev : Nat) (g : Seg) (id : ContribId) (status : AuditStatus) (odig : List Byte) :
    (s.onAuditReport dev g id status odig).vent.image = s.vent.image := by
  unfold State.onAuditReport; simp
@[simp] theorem State.auditRead_data (s : State) (w : Nat) : (s.auditRead w).mem.data = s.mem.data := by
  unfold State.auditRead; (repeat' split) <;> simp
@[simp] theorem State.auditRead_image (s : State) (w : Nat) : (s.auditRead w).vent.image = s.vent.image := by
  unfold State.auditRead; (repeat' split) <;> simp
@[simp] theorem State.auditFinish_data (s : State) (w : Nat) : (s.auditFinish w).mem.data = s.mem.data := by
  unfold State.auditFinish; (repeat' split) <;> simp
@[simp] theorem State.auditFinish_image (s : State) (w : Nat) : (s.auditFinish w).vent.image = s.vent.image := by
  unfold State.auditFinish; (repeat' split) <;> simp
@[simp] theorem State.calError_data (s : State) (mismatch : Bool) (gid : Nat) : (s.calError mismatch gid).mem.data = s.mem.data := rfl
@[simp] theorem State.calError_image (s : State) (mismatch : Bool) (gid : Nat) : (s.calError mismatch gid).vent.image = s.vent.image := rfl
@[simp] theorem State.takeChild_data (s : State) (c : Nat) : (s.takeChild c).mem.data = s.mem.data := by
  unfold State.takeChild; simp
@[simp] theorem State.takeChild_image (s : State) (c : Nat) : (s.takeChild c).vent.image = s.vent.image := by
  unfold State.takeChild; simp
@[simp] theorem State.holdNode_data (s : State) (gid : Nat) : (s.holdNode gid).mem.data = s.mem.data := rfl
@[simp] theorem State.holdNode_image (s : State) (gid : Nat) : (s.holdNode gid).vent.image = s.vent.image := rfl
@[simp] theorem State.park_data (s : State) (v : NVal) : (s.park v).mem.data = s.mem.data := rfl
@[simp] theorem State.park_image (s : State) (v : NVal) : (s.park v).vent.image = s.vent.image := rfl
@[simp] theorem State.schedRelease_data (s : State) (gid : Nat) (last : Nat) (v : NVal) : (s.schedRelease gid last v).mem.data = s.mem.data := by
  unfold State.schedRelease; simp
@[simp] theorem State.schedRelease_image (s : State) (gid : Nat) (last : Nat) (v : NVal) : (s.schedRelease gid last v).vent.image = s.vent.image := by
  unfold State.schedRelease; simp
@[simp] theorem State.completeNode_data (s : State) (gid : Nat) (v : NVal) : (s.completeNode gid v).mem.data = s.mem.data := by
  unfold State.completeNode; simp
@[simp] theorem State.completeNode_image (s : State) (gid : Nat) (v : NVal) : (s.completeNode gid v).vent.image = s.vent.image := by
  unfold State.completeNode; simp
@[simp] theorem State.valueUe_data (s : State) (gid : Nat) : (s.valueUe gid).mem.data = s.mem.data := rfl
@[simp] theorem State.valueUe_image (s : State) (gid : Nat) : (s.valueUe gid).vent.image = s.vent.image := rfl
@[simp] theorem State.mapTiles_data (s : State) (gid : Nat) (f : Tile → Tile) : (s.mapTiles gid f).mem.data = s.mem.data := by
  unfold State.mapTiles; refine foldl_data _ ?_ _ _; intro u x; rfl
@[simp] theorem State.mapTiles_image (s : State) (gid : Nat) (f : Tile → Tile) : (s.mapTiles gid f).vent.image = s.vent.image := by
  unfold State.mapTiles; refine foldl_image _ ?_ _ _; intro u x; rfl
@[simp] theorem State.deviceRelease_data (s : State) : (s.deviceRelease).mem.data = s.mem.data := by
  unfold State.deviceRelease; simp
@[simp] theorem State.deviceRelease_image (s : State) : (s.deviceRelease).vent.image = s.vent.image := by
  unfold State.deviceRelease; simp
@[simp] theorem State.stepBoundary_data (s : State) (xpn : Nat) : (s.stepBoundary xpn).mem.data = s.mem.data := by
  unfold State.stepBoundary; (repeat' split) <;> simp
@[simp] theorem State.stepBoundary_image (s : State) (xpn : Nat) : (s.stepBoundary xpn).vent.image = s.vent.image := by
  unfold State.stepBoundary; (repeat' split) <;> simp
@[simp] theorem State.release_data (s : State) (r : Release) : (s.release r).mem.data = s.mem.data := by
  unfold State.release; simp
@[simp] theorem State.release_image (s : State) (r : Release) : (s.release r).vent.image = s.vent.image := by
  unfold State.release; simp
@[simp] theorem State.releaseCycle_data (s : State) : (s.releaseCycle).mem.data = s.mem.data := by
  unfold State.releaseCycle; simp
@[simp] theorem State.releaseCycle_image (s : State) : (s.releaseCycle).vent.image = s.vent.image := by
  unfold State.releaseCycle; simp
@[simp] theorem State.sendRead_data (p : Phase) (t : Nat) (s : State) (kj : Nat × Nat) : (State.sendRead p t s kj).mem.data = s.mem.data := by
  unfold State.sendRead; dsimp only; (repeat' split) <;> simp
@[simp] theorem State.sendRead_image (p : Phase) (t : Nat) (s : State) (kj : Nat × Nat) : (State.sendRead p t s kj).vent.image = s.vent.image := by
  unfold State.sendRead; dsimp only; (repeat' split) <;> simp
@[simp] theorem State.routerError_data (h : Hop) (id : Nat) (s : State) (e : PktErr) : (State.routerError h id s e).mem.data = s.mem.data := by
  unfold State.routerError; (repeat' split) <;> simp
@[simp] theorem State.routerError_image (h : Hop) (id : Nat) (s : State) (e : PktErr) : (State.routerError h id s e).vent.image = s.vent.image := by
  unfold State.routerError; (repeat' split) <;> simp
@[simp] theorem State.land_data (s : State) (p : Packet) : (s.land p).mem.data = s.mem.data := rfl
@[simp] theorem State.land_image (s : State) (p : Packet) : (s.land p).vent.image = s.vent.image := rfl
@[simp] theorem State.meshCycle_data (s : State) : (s.meshCycle).mem.data = s.mem.data := by
  unfold State.meshCycle
  refine (foldl_data _ (fun u m => by simp) _ _).trans ?_
  exact foldl_data _ (fun u p => foldl_data _ (fun v t => foldl_data _ (fun w k => by simp) _ _) _ _) _ _
@[simp] theorem State.meshCycle_image (s : State) : (s.meshCycle).vent.image = s.vent.image := by
  unfold State.meshCycle
  refine (foldl_image _ (fun u m => by simp) _ _).trans ?_
  exact foldl_image _ (fun u p => foldl_image _ (fun v t => foldl_image _ (fun w k => by simp) _ _) _ _) _ _
@[simp] theorem State.feedGone_data (s : State) (t : Nat) (id : Nat) : (s.feedGone t id).mem.data = s.mem.data := rfl
@[simp] theorem State.feedGone_image (s : State) (t : Nat) (id : Nat) : (s.feedGone t id).vent.image = s.vent.image := rfl
@[simp] theorem State.applyPages_data (a0 : ℕ) (a1 : State) : (State.applyPages a0 a1).mem.data = a1.mem.data := by
  induction a0 generalizing a1 with
  | zero => rfl
  | succ n ih => unfold State.applyPages; split <;> simp [ih]
@[simp] theorem State.applyPages_image (a0 : ℕ) (a1 : State) : (State.applyPages a0 a1).vent.image = a1.vent.image := by
  induction a0 generalizing a1 with
  | zero => rfl
  | succ n ih => unfold State.applyPages; split <;> simp [ih]
@[simp] theorem State.repairOne_data (s : State) (c : RepairChange) : (s.repairOne c).mem.data = s.mem.data := by
  unfold State.repairOne; simp
@[simp] theorem State.repairOne_image (s : State) (c : RepairChange) : (s.repairOne c).vent.image = s.vent.image := by
  unfold State.repairOne; simp
@[simp] theorem State.regrade_data (s : State) : (s.regrade).mem.data = s.mem.data := by
  unfold State.regrade; (repeat' split) <;> simp
@[simp] theorem State.regrade_image (s : State) : (s.regrade).vent.image = s.vent.image := by
  unfold State.regrade; (repeat' split) <;> simp
@[simp] theorem State.measureMap_data (s : State) : (s.measureMap).mem.data = s.mem.data := rfl
@[simp] theorem State.measureMap_image (s : State) : (s.measureMap).vent.image = s.vent.image := rfl
@[simp] theorem State.retireOne_data (s : State) (c : RepairChange) : (s.retireOne c).mem.data = s.mem.data := by
  unfold State.retireOne; simp
@[simp] theorem State.retireOne_image (s : State) (c : RepairChange) : (s.retireOne c).vent.image = s.vent.image := by
  unfold State.retireOne; simp
@[simp] theorem State.applyRetirements_data (s : State) : (s.applyRetirements).mem.data = s.mem.data := by
  unfold State.applyRetirements; simp
@[simp] theorem State.applyRetirements_image (s : State) : (s.applyRetirements).vent.image = s.vent.image := by
  unfold State.applyRetirements; simp
@[simp] theorem State.retirePart_data (s : State) (c : RepairChange) : (s.retirePart c).mem.data = s.mem.data := by
  unfold State.retirePart; simp
@[simp] theorem State.retirePart_image (s : State) (c : RepairChange) : (s.retirePart c).vent.image = s.vent.image := by
  unfold State.retirePart; simp
@[simp] theorem State.failPort_data (s : State) (p : Nat) : (s.failPort p).mem.data = s.mem.data := by
  unfold State.failPort; simp
@[simp] theorem State.failPort_image (s : State) (p : Nat) : (s.failPort p).vent.image = s.vent.image := by
  unfold State.failPort; simp
@[simp] theorem State.answer_data (s : State) (p : Nat) (dev : Nat) (payload : List Byte) : (s.answer p dev payload).mem.data = s.mem.data := by
  unfold State.answer; simp
@[simp] theorem State.answer_image (s : State) (p : Nat) (dev : Nat) (payload : List Byte) : (s.answer p dev payload).vent.image = s.vent.image := by
  unfold State.answer; simp
@[simp] theorem State.commitFull_data (s : State) (p : PendRec) : (s.commitFull p).mem.data = s.mem.data := by
  unfold State.commitFull; dsimp only; (repeat' split) <;> simp
@[simp] theorem State.commitFull_image (s : State) (p : PendRec) : (s.commitFull p).vent.image = s.vent.image := by
  unfold State.commitFull; dsimp only; (repeat' split) <;> simp
@[simp] theorem State.checkUse_data (s : State) : (s.checkUse).mem.data = s.mem.data := by
  unfold State.checkUse; simp
@[simp] theorem State.checkUse_image (s : State) : (s.checkUse).vent.image = s.vent.image := by
  unfold State.checkUse; simp
@[simp] theorem State.restoreFrom_data (s : State) (l : List JRec) : (s.restoreFrom l).mem.data = s.mem.data := rfl
@[simp] theorem State.restoreFrom_image (s : State) (l : List JRec) : (s.restoreFrom l).vent.image = s.vent.image := rfl
@[simp] theorem State.applyPortCfg_data (s : State) (r : List Byte) : (s.applyPortCfg r).mem.data = s.mem.data := by
  unfold State.applyPortCfg; simp
@[simp] theorem State.applyPortCfg_image (s : State) (r : List Byte) : (s.applyPortCfg r).vent.image = s.vent.image := by
  unfold State.applyPortCfg; simp
@[simp] theorem State.noVent_data (s : State) (cause : Nat) : (s.noVent cause).mem.data = s.mem.data := by
  unfold State.noVent; simp
@[simp] theorem State.noVent_image (s : State) (cause : Nat) : (s.noVent cause).vent.image = s.vent.image := by
  unfold State.noVent; simp
@[simp] theorem State.ready_data (s : State) : (s.ready).mem.data = s.mem.data := by
  have h : ∀ (l : List JRec) (s2 : State), (l.foldl (fun (u : State) r => u.applyPortCfg r.payload) s2).mem.data = s2.mem.data := by
    intro l
    induction l with
    | nil => intro _; rfl
    | cons x l ih => intro _; rw [List.foldl_cons, ih, State.applyPortCfg_data]
  unfold State.ready
  rw [h]
  exact (State.journal_data _ _ _ _).trans (State.measureMap_data s)
@[simp] theorem State.ready_image (s : State) : (s.ready).vent.image = s.vent.image := by
  have h : ∀ (l : List JRec) (s2 : State), (l.foldl (fun (u : State) r => u.applyPortCfg r.payload) s2).vent.image = s2.vent.image := by
    intro l
    induction l with
    | nil => intro _; rfl
    | cons x l ih => intro _; rw [List.foldl_cons, ih, State.applyPortCfg_image]
  unfold State.ready
  rw [h]
  exact (State.journal_image _ _ _ _).trans (State.measureMap_image s)
@[simp] theorem State.ventFault_data (s : State) : (s.ventFault).mem.data = s.mem.data := by
  unfold State.ventFault; simp
@[simp] theorem State.ventFault_image (s : State) : (s.ventFault).vent.image = s.vent.image := by
  unfold State.ventFault; simp
@[simp] theorem State.handlerFault_data (s : State) : (s.handlerFault).mem.data = s.mem.data := by
  unfold State.handlerFault; simp
@[simp] theorem State.handlerFault_image (s : State) : (s.handlerFault).vent.image = s.vent.image := by
  unfold State.handlerFault; simp
@[simp] theorem State.takeSummary_data (s : State) (g : Nat) (code : Nat) (c : Nat) (v : Summary) :
    (s.takeSummary g code c v).mem.data = s.mem.data := rfl
@[simp] theorem State.takeSummary_image (s : State) (g : Nat) (code : Nat) (c : Nat) (v : Summary) :
    (s.takeSummary g code c v).vent.image = s.vent.image := rfl
@[simp] theorem State.sumCycle_data (s : State) : s.sumCycle.mem.data = s.mem.data := by
  unfold State.sumCycle; exact foldl_data _ (fun u e => by simp) _ _
@[simp] theorem State.sumCycle_image (s : State) : s.sumCycle.vent.image = s.vent.image := by
  unfold State.sumCycle; exact foldl_image _ (fun u e => by simp) _ _
@[simp] theorem State.haltGroup_data (s : State) (g : Nat) : (s.haltGroup g).mem.data = s.mem.data := by
  unfold State.haltGroup; simp
@[simp] theorem State.haltGroup_image (s : State) (g : Nat) : (s.haltGroup g).vent.image = s.vent.image := by
  unfold State.haltGroup; simp
@[simp] theorem State.retireSource_data (s : State) (e : LEntry) : (s.retireSource e).mem.data = s.mem.data := by
  unfold State.retireSource; simp
@[simp] theorem State.retireSource_image (s : State) (e : LEntry) : (s.retireSource e).vent.image = s.vent.image := by
  unfold State.retireSource; simp
@[simp] theorem State.containEscalated_data (s : State) (e : LEntry) : (s.containEscalated e).mem.data = s.mem.data := by
  unfold State.containEscalated; (repeat' split) <;> simp
@[simp] theorem State.containEscalated_image (s : State) (e : LEntry) : (s.containEscalated e).vent.image = s.vent.image := by
  unfold State.containEscalated; (repeat' split) <;> simp
@[simp] theorem State.enterLedger_data (a0 : ℕ) (a1 : State) (a2 : LEntry) : (State.enterLedger a0 a1 a2).mem.data = a1.mem.data := by
  induction a0 generalizing a1 a2 with
  | zero => rfl
  | succ n ih => unfold State.enterLedger; dsimp only; (repeat' split) <;> simp [ih]
@[simp] theorem State.enterLedger_image (a0 : ℕ) (a1 : State) (a2 : LEntry) : (State.enterLedger a0 a1 a2).vent.image = a1.vent.image := by
  induction a0 generalizing a1 a2 with
  | zero => rfl
  | succ n ih => unfold State.enterLedger; dsimp only; (repeat' split) <;> simp [ih]
@[simp] theorem State.containFirst_data (s : State) (e : LEntry) : (s.containFirst e).mem.data = s.mem.data := by
  unfold State.containFirst; (repeat' split) <;> simp
@[simp] theorem State.containFirst_image (s : State) (e : LEntry) : (s.containFirst e).vent.image = s.vent.image := by
  unfold State.containFirst; (repeat' split) <;> simp
@[simp] theorem State.excludeSensor_data (s : State) (i : Nat) : (s.excludeSensor i).mem.data = s.mem.data := by
  unfold State.excludeSensor; simp
@[simp] theorem State.excludeSensor_image (s : State) (i : Nat) : (s.excludeSensor i).vent.image = s.vent.image := by
  unfold State.excludeSensor; simp
@[simp] theorem State.sampleTemp_data (s : State) (e : Nat × Int) : (s.sampleTemp e).mem.data = s.mem.data := by
  unfold State.sampleTemp; simp
@[simp] theorem State.sampleTemp_image (s : State) (e : Nat × Int) : (s.sampleTemp e).vent.image = s.vent.image := by
  unfold State.sampleTemp; simp
@[simp] theorem State.paceOn_data (s : State) (p : Nat) : (s.paceOn p).mem.data = s.mem.data := by
  unfold State.paceOn; (repeat' split) <;> simp
@[simp] theorem State.paceOn_image (s : State) (p : Nat) : (s.paceOn p).vent.image = s.vent.image := by
  unfold State.paceOn; (repeat' split) <;> simp
@[simp] theorem State.paceTo_data (s : State) (p : Nat) : (s.paceTo p).mem.data = s.mem.data := by
  unfold State.paceTo; simp
@[simp] theorem State.paceTo_image (s : State) (p : Nat) : (s.paceTo p).vent.image = s.vent.image := by
  unfold State.paceTo; simp
@[simp] theorem State.checkOsc_data (shifts : List Int) (s : State) (e : Nat × Nat) : (State.checkOsc shifts s e).mem.data = s.mem.data := by
  unfold State.checkOsc; simp
@[simp] theorem State.checkOsc_image (shifts : List Int) (s : State) (e : Nat × Nat) : (State.checkOsc shifts s e).vent.image = s.vent.image := by
  unfold State.checkOsc; simp
@[simp] theorem State.syncEdge_data (s : State) (last : Option Nat) : (s.syncEdge last).mem.data = s.mem.data := by
  unfold State.syncEdge; dsimp only; (repeat' split) <;> simp
@[simp] theorem State.syncEdge_image (s : State) (last : Option Nat) : (s.syncEdge last).vent.image = s.vent.image := by
  unfold State.syncEdge; dsimp only; (repeat' split) <;> simp
@[simp] theorem State.throttleEdge_data (s : State) : (s.throttleEdge).mem.data = s.mem.data := by
  unfold State.throttleEdge; simp
@[simp] theorem State.throttleEdge_image (s : State) : (s.throttleEdge).vent.image = s.vent.image := by
  unfold State.throttleEdge; simp
@[simp] theorem State.answerWord_data (s : State) (v : Word) : (s.answerWord v).mem.data = s.mem.data := rfl
@[simp] theorem State.answerWord_image (s : State) (v : Word) : (s.answerWord v).vent.image = s.vent.image := rfl
@[simp] theorem State.portPoke_data (s : State) (p : Nat) (off : Nat) (v : Word) : (s.portPoke p off v).mem.data = s.mem.data := by
  unfold State.portPoke; (repeat' split) <;> simp
@[simp] theorem State.portPoke_image (s : State) (p : Nat) (off : Nat) (v : Word) : (s.portPoke p off v).vent.image = s.vent.image := by
  unfold State.portPoke; (repeat' split) <;> simp
@[simp] theorem State.doorbell_data (s : State) (h : HostIface) : (s.doorbell h).mem.data = s.mem.data := by
  unfold State.doorbell; dsimp only; split <;> rfl
@[simp] theorem State.doorbell_image (s : State) (h : HostIface) : (s.doorbell h).vent.image = s.vent.image := by
  unfold State.doorbell; dsimp only; split <;> rfl
@[simp] theorem State.bar0Poke_data (s : State) (off : Nat) (v : Word) : (s.bar0Poke off v).mem.data = s.mem.data := by
  unfold State.bar0Poke; dsimp only; (repeat' split) <;> simp
@[simp] theorem State.bar0Poke_image (s : State) (off : Nat) (v : Word) : (s.bar0Poke off v).vent.image = s.vent.image := by
  unfold State.bar0Poke; dsimp only; (repeat' split) <;> simp
@[simp] theorem State.bar2Poke_data (s : State) (off : Nat) (v : Word) : (s.bar2Poke off v).mem.data = s.mem.data := by
  unfold State.bar2Poke; (repeat' split) <;> simp
@[simp] theorem State.bar2Poke_image (s : State) (off : Nat) (v : Word) : (s.bar2Poke off v).vent.image = s.vent.image := by
  unfold State.bar2Poke; (repeat' split) <;> simp
@[simp] theorem State.cfgPoke_data (s : State) (off : Nat) (v : Word) : (s.cfgPoke off v).mem.data = s.mem.data := by
  unfold State.cfgPoke; (repeat' split) <;> simp
@[simp] theorem State.cfgPoke_image (s : State) (off : Nat) (v : Word) : (s.cfgPoke off v).vent.image = s.vent.image := by
  unfold State.cfgPoke; (repeat' split) <;> simp
@[simp] theorem State.resume_data (s : State) (w : Nat) : (s.resume w).mem.data = s.mem.data := by
  unfold State.resume; (repeat' split) <;> simp
@[simp] theorem State.resume_image (s : State) (w : Nat) : (s.resume w).vent.image = s.vent.image := by
  unfold State.resume; (repeat' split) <;> simp
@[simp] theorem State.journalHand_data (s : State) (t : Nat) (n : Nat) (old : Nat) (v : Nat) (src : Nat) :
    (s.journalHand t n old v src).mem.data = s.mem.data := by
  unfold State.journalHand; dsimp only; split <;> simp
@[simp] theorem State.journalHand_image (s : State) (t : Nat) (n : Nat) (old : Nat) (v : Nat) (src : Nat) :
    (s.journalHand t n old v src).vent.image = s.vent.image := by
  unfold State.journalHand; dsimp only; split <;> simp
@[simp] theorem State.handSetting_data (s : State) (t : Nat) (n : Nat) (v : Nat) (src : Nat) : (s.handSetting t n v src).mem.data = s.mem.data := by
  unfold State.handSetting; simp
@[simp] theorem State.handSetting_image (s : State) (t : Nat) (n : Nat) (v : Nat) (src : Nat) :
    (s.handSetting t n v src).vent.image = s.vent.image := by
  unfold State.handSetting; simp
@[simp] theorem State.onContribFwd_data (s : State) (dev : Nat) (g : Seg) (m : ContribMsg) : (s.onContribFwd dev g m).mem.data = s.mem.data := by
  unfold State.onContribFwd; (repeat' split) <;> simp
@[simp] theorem State.onContribFwd_image (s : State) (dev : Nat) (g : Seg) (m : ContribMsg) : (s.onContribFwd dev g m).vent.image = s.vent.image := by
  unfold State.onContribFwd; (repeat' split) <;> simp
@[simp] theorem State.sendJoin_data (s : State) (devs : List Nat) (retry : Bool) : (s.sendJoin devs retry).mem.data = s.mem.data := by
  unfold State.sendJoin; (repeat' split) <;> simp
@[simp] theorem State.sendJoin_image (s : State) (devs : List Nat) (retry : Bool) : (s.sendJoin devs retry).vent.image = s.vent.image := by
  unfold State.sendJoin; (repeat' split) <;> simp
@[simp] theorem State.vote_data (s : State) (dev : Nat) : (s.vote dev).mem.data = s.mem.data := by
  unfold State.vote; simp
@[simp] theorem State.vote_image (s : State) (dev : Nat) : (s.vote dev).vent.image = s.vent.image := by
  unfold State.vote; simp
@[simp] theorem State.closeCopied_data (s : State) (step : Nat) : (s.closeCopied step).mem.data = s.mem.data := by
  unfold State.closeCopied; (repeat' split) <;> simp
@[simp] theorem State.closeCopied_image (s : State) (step : Nat) : (s.closeCopied step).vent.image = s.vent.image := by
  unfold State.closeCopied; (repeat' split) <;> simp
@[simp] theorem State.onAccept_data (s : State) (dev : Nat) (g : Seg) (m : AcceptMsg) : (s.onAccept dev g m).mem.data = s.mem.data := by
  unfold State.onAccept; (repeat' split) <;> simp
@[simp] theorem State.onAccept_image (s : State) (dev : Nat) (g : Seg) (m : AcceptMsg) : (s.onAccept dev g m).vent.image = s.vent.image := by
  unfold State.onAccept; (repeat' split) <;> simp
@[simp] theorem State.withdraw_data (s : State) (p : Nat) (g : Grant) : (s.withdraw p g).mem.data = s.mem.data := by
  unfold State.withdraw; simp
@[simp] theorem State.withdraw_image (s : State) (p : Nat) (g : Grant) : (s.withdraw p g).vent.image = s.vent.image := by
  unfold State.withdraw; simp
@[simp] theorem State.onResendXfer_data (s : State) (dev : Nat) (cls : Nat) (xfer : Nat) (att : Nat) :
    (s.onResendXfer dev cls xfer att).mem.data = s.mem.data := by
  unfold State.onResendXfer; (repeat' split) <;> simp
@[simp] theorem State.onResendXfer_image (s : State) (dev : Nat) (cls : Nat) (xfer : Nat) (att : Nat) :
    (s.onResendXfer dev cls xfer att).vent.image = s.vent.image := by
  unfold State.onResendXfer; (repeat' split) <;> simp
@[simp] theorem State.resendPart_data (s : State) (step : Nat) (part : Nat) : (s.resendPart step part).mem.data = s.mem.data := by
  unfold State.resendPart; simp
@[simp] theorem State.resendPart_image (s : State) (step : Nat) (part : Nat) : (s.resendPart step part).vent.image = s.vent.image := by
  unfold State.resendPart; simp
@[simp] theorem State.contribRefused_data (s : State) (id : ContribId) (code : Nat) (detail : Nat) :
    (s.contribRefused id code detail).mem.data = s.mem.data := by
  unfold State.contribRefused; (repeat' split) <;> simp
@[simp] theorem State.contribRefused_image (s : State) (id : ContribId) (code : Nat) (detail : Nat) :
    (s.contribRefused id code detail).vent.image = s.vent.image := by
  unfold State.contribRefused; (repeat' split) <;> simp
@[simp] theorem State.otherRefused_data (s : State) (dev : Nat) (code : Nat) (detail : Nat) :
    (s.otherRefused dev code detail).mem.data = s.mem.data := by
  unfold State.otherRefused; (try dsimp only); (repeat' split) <;> first | rfl | simp
@[simp] theorem State.otherRefused_image (s : State) (dev : Nat) (code : Nat) (detail : Nat) :
    (s.otherRefused dev code detail).vent.image = s.vent.image := by
  unfold State.otherRefused; (try dsimp only); (repeat' split) <;> first | rfl | simp
@[simp] theorem State.onReject_data (s : State) (dev : Nat) (m : RejectMsg) : (s.onReject dev m).mem.data = s.mem.data := by
  unfold State.onReject; (repeat' split) <;> simp
@[simp] theorem State.onReject_image (s : State) (dev : Nat) (m : RejectMsg) : (s.onReject dev m).vent.image = s.vent.image := by
  unfold State.onReject; (repeat' split) <;> simp
@[simp] theorem State.offerRefused_data (s : State) (dev : Nat) (m : RejectMsg) : (s.offerRefused dev m).mem.data = s.mem.data := by
  unfold State.offerRefused; (repeat' split) <;> simp
@[simp] theorem State.offerRefused_image (s : State) (dev : Nat) (m : RejectMsg) : (s.offerRefused dev m).vent.image = s.vent.image := by
  unfold State.offerRefused; (repeat' split) <;> simp
@[simp] theorem State.onFreezeAck_data (s : State) (dev : Nat) (g : Seg) (released : List Nat) :
    (s.onFreezeAck dev g released).mem.data = s.mem.data := by
  unfold State.onFreezeAck; (repeat' split) <;> simp
@[simp] theorem State.onFreezeAck_image (s : State) (dev : Nat) (g : Seg) (released : List Nat) :
    (s.onFreezeAck dev g released).vent.image = s.vent.image := by
  unfold State.onFreezeAck; (repeat' split) <;> simp
@[simp] theorem State.onTakeover_data (s : State) (dev : Nat) (g : Seg) : (s.onTakeover dev g).mem.data = s.mem.data := by
  unfold State.onTakeover; simp
@[simp] theorem State.onTakeover_image (s : State) (dev : Nat) (g : Seg) : (s.onTakeover dev g).vent.image = s.vent.image := by
  unfold State.onTakeover; simp
@[simp] theorem State.joinOf_data (s : State) (im : Image) : (s.joinOf im).mem.data = s.mem.data := by
  unfold State.joinOf; (repeat' split) <;> simp
@[simp] theorem State.joinOf_image (s : State) (im : Image) : (s.joinOf im).vent.image = s.vent.image := by
  unfold State.joinOf; (repeat' split) <;> simp
@[simp] theorem State.startJoin_data (s : State) : (s.startJoin).mem.data = s.mem.data := by
  unfold State.startJoin; dsimp only; (repeat' split) <;> simp
@[simp] theorem State.startJoin_image (s : State) : (s.startJoin).vent.image = s.vent.image := by
  unfold State.startJoin; dsimp only; (repeat' split) <;> simp
@[simp] theorem State.dropImage_data (s : State) : (s.dropImage).mem.data = s.mem.data := rfl
@[simp] theorem State.zeroResiduals_image (s : State) : (s.zeroResiduals).vent.image = s.vent.image := by
  unfold State.zeroResiduals; simp
@[simp] theorem State.startImage_image (s : State) (im : Image) (seed : Dword) : (s.startImage im seed).vent.image = s.vent.image := by
  unfold State.startImage; simp
@[simp] theorem State.started_data (s : State) : (s.started).mem.data = s.mem.data := by
  unfold State.started; simp
@[simp] theorem State.started_image (s : State) : (s.started).vent.image = s.vent.image := by
  unfold State.started; simp
@[simp] theorem State.arriveAgain_data (s : State) (t : Nat) : (s.arriveAgain t).mem.data = s.mem.data := by
  unfold State.arriveAgain; (repeat' split) <;> simp
@[simp] theorem State.arriveAgain_image (s : State) (t : Nat) : (s.arriveAgain t).vent.image = s.vent.image := by
  unfold State.arriveAgain; (repeat' split) <;> simp
@[simp] theorem State.perst_data (s : State) (low : Bool) : (s.perst low).mem.data = s.mem.data := by
  unfold State.perst; simp
@[simp] theorem State.perst_image (s : State) (low : Bool) : (s.perst low).vent.image = s.vent.image := by
  unfold State.perst; simp
@[simp] theorem State.onJoin_data (s : State) (dev : Nat) (vmaj : Nat) (g : Seg) (j : JoinMsg) : (s.onJoin dev vmaj g j).mem.data = s.mem.data := by
  unfold State.onJoin; (repeat' split) <;> simp
@[simp] theorem State.onJoin_image (s : State) (dev : Nat) (vmaj : Nat) (g : Seg) (j : JoinMsg) :
    (s.onJoin dev vmaj g j).vent.image = s.vent.image := by
  unfold State.onJoin; (repeat' split) <;> simp
@[simp] theorem State.onLeave_data (s : State) (dev : Nat) (g : Seg) : (s.onLeave dev g).mem.data = s.mem.data := by
  unfold State.onLeave; simp
@[simp] theorem State.onLeave_image (s : State) (dev : Nat) (g : Seg) : (s.onLeave dev g).vent.image = s.vent.image := by
  unfold State.onLeave; simp
@[simp] theorem State.memberOpen_data (s : State) (dev : Nat) (m : StepOpenMsg) : (s.memberOpen dev m).mem.data = s.mem.data := by
  unfold State.memberOpen; simp
@[simp] theorem State.memberOpen_image (s : State) (dev : Nat) (m : StepOpenMsg) : (s.memberOpen dev m).vent.image = s.vent.image := by
  unfold State.memberOpen; simp
@[simp] theorem State.memberFinal_data (s : State) (dev : Nat) (g : Seg) (m : FinalMsg) : (s.memberFinal dev g m).mem.data = s.mem.data := by
  unfold State.memberFinal; (repeat' split) <;> simp
@[simp] theorem State.memberFinal_image (s : State) (dev : Nat) (g : Seg) (m : FinalMsg) : (s.memberFinal dev g m).vent.image = s.vent.image := by
  unfold State.memberFinal; (repeat' split) <;> simp
@[simp] theorem State.takeEpoch_data (s : State) (dev : Nat) (ref : Nat) (m : EpochMsg) (l : List Member) :
    (s.takeEpoch dev ref m l).mem.data = s.mem.data := by
  unfold State.takeEpoch; simp
@[simp] theorem State.takeEpoch_image (s : State) (dev : Nat) (ref : Nat) (m : EpochMsg) (l : List Member) :
    (s.takeEpoch dev ref m l).vent.image = s.vent.image := by
  unfold State.takeEpoch; simp
@[simp] theorem State.onFinal_data (s : State) (dev : Nat) (g : Seg) (m : FinalMsg) : (s.onFinal dev g m).mem.data = s.mem.data := by
  unfold State.onFinal; simp
@[simp] theorem State.onFinal_image (s : State) (dev : Nat) (g : Seg) (m : FinalMsg) : (s.onFinal dev g m).vent.image = s.vent.image := by
  unfold State.onFinal; simp
@[simp] theorem State.onFreeze_data (s : State) (dev : Nat) (g : Seg) : (s.onFreeze dev g).mem.data = s.mem.data := by
  unfold State.onFreeze; simp
@[simp] theorem State.onFreeze_image (s : State) (dev : Nat) (g : Seg) : (s.onFreeze dev g).vent.image = s.vent.image := by
  unfold State.onFreeze; simp
@[simp] theorem State.onResendList_data (s : State) (dev : Nat) (g : Seg) : (s.onResendList dev g).mem.data = s.mem.data := by
  unfold State.onResendList; (repeat' split) <;> simp
@[simp] theorem State.onResendList_image (s : State) (dev : Nat) (g : Seg) : (s.onResendList dev g).vent.image = s.vent.image := by
  unfold State.onResendList; (repeat' split) <;> simp
@[simp] theorem State.onResendEpoch_data (s : State) (dev : Nat) (g : Seg) : (s.onResendEpoch dev g).mem.data = s.mem.data := by
  unfold State.onResendEpoch; (repeat' split) <;> simp
@[simp] theorem State.onResendEpoch_image (s : State) (dev : Nat) (g : Seg) : (s.onResendEpoch dev g).vent.image = s.vent.image := by
  unfold State.onResendEpoch; (repeat' split) <;> simp
@[simp] theorem State.onResendContrib_data (s : State) (dev : Nat) : (s.onResendContrib dev).mem.data = s.mem.data := by
  unfold State.onResendContrib; simp
@[simp] theorem State.onResendContrib_image (s : State) (dev : Nat) : (s.onResendContrib dev).vent.image = s.vent.image := by
  unfold State.onResendContrib; simp
@[simp] theorem State.act_data (s : State) (dev : ℕ) (g : Seg) (a3 : TxpMsg) : (s.act dev g a3).mem.data = s.mem.data := by
  unfold State.act; (repeat' split) <;> simp
@[simp] theorem State.act_image (s : State) (dev : ℕ) (g : Seg) (a3 : TxpMsg) : (s.act dev g a3).vent.image = s.vent.image := by
  unfold State.act; (repeat' split) <;> simp
@[simp] theorem State.takeMsg_data (s : State) (dev : Nat) (g : Seg) (m : TxpMsg) : (s.takeMsg dev g m).mem.data = s.mem.data := by
  unfold State.takeMsg; simp
@[simp] theorem State.takeMsg_image (s : State) (dev : Nat) (g : Seg) (m : TxpMsg) : (s.takeMsg dev g m).vent.image = s.vent.image := by
  unfold State.takeMsg; simp
@[simp] theorem State.runHeld_data (s : State) : (s.runHeld).mem.data = s.mem.data := by
  unfold State.runHeld; simp
@[simp] theorem State.runHeld_image (s : State) : (s.runHeld).vent.image = s.vent.image := by
  unfold State.runHeld; simp
@[simp] theorem State.countStalls_data (s : State) : (s.countStalls).mem.data = s.mem.data := rfl
@[simp] theorem State.countStalls_image (s : State) : (s.countStalls).vent.image = s.vent.image := rfl
@[simp] theorem State.gateEnd_data (s : State) : (s.gateEnd).mem.data = s.mem.data := by
  unfold State.gateEnd; (repeat' split) <;> simp
@[simp] theorem State.gateEnd_image (s : State) : (s.gateEnd).vent.image = s.vent.image := by
  unfold State.gateEnd; (repeat' split) <;> simp
@[simp] theorem State.tick_data (s : State) : (s.tick).mem.data = s.mem.data := by
  unfold State.tick; simp
@[simp] theorem State.tick_image (s : State) : (s.tick).vent.image = s.vent.image := by
  unfold State.tick; simp
@[simp] theorem State.withFetchWord_data (s : State) (nbits : Nat) (w : Nat) : (s.withFetchWord nbits w).mem.data = s.mem.data := rfl
@[simp] theorem State.withFetchWord_image (s : State) (nbits : Nat) (w : Nat) : (s.withFetchWord nbits w).vent.image = s.vent.image := rfl

end Sys2Proof.Machine
end

