-- ==== Sys2Proof/Laws/Memory.lean ====
section
/-!
SUPPORT. The bytes of the device range: what a write leaves in them, and that every operation which writes them keeps their canonical
form.
-/
namespace Sys2Proof.Machine

theorem Mem.writePz_data (a n : Nat) (pz : Nat → Bool) (m : Mem) (w : Nat) : (m.writePz a n pz w).data = m.data := rfl

/-- A write puts its bytes at its address and changes no other byte (R60). -/
theorem State.memWrite_data (s : State) (a : Nat) (bs : List Byte) (pz : Nat → Bool) :
    (s.memWrite a bs pz).mem.data = Sparse.setRun 0 s.mem.data a bs := by
  unfold State.memWrite
  dsimp only
  rw [foldl_data _ (fun u x => by simp)]
  dsimp only
  rw [foldl_keep (fun m : Mem => m.data) _ (fun m w => Mem.writePz_data a bs.length pz m w)]
  split
  · rfl
  · rw [State.memEdges_data]

/-- Reading n bytes that were just written gives them back. -/
theorem State.memBytes_memWrite (s : State) (a : Nat) (bs : List Byte) (pz : Nat → Bool) :
    (s.memWrite a bs pz).memBytes a bs.length = bs := by
  unfold State.memBytes
  rw [State.memWrite_data, Sparse.getRun_setRun]

/-- A byte outside the run written reads as before. -/
theorem State.get_memWrite_out (s : State) (a j : Nat) (bs : List Byte) (pz : Nat → Bool) (h : j < a ∨ a + bs.length ≤ j) :
    Sparse.get 0 (s.memWrite a bs pz).mem.data j = Sparse.get 0 s.mem.data j := by
  rw [State.memWrite_data, Sparse.get_setRun_out _ _ _ _ _ h]

/-- The device range is in its canonical form: addresses strictly rising, no zero byte listed. -/
abbrev State.MemWf (s : State) : Prop := Sparse.wf 0 s.mem.data = true

theorem State.reset_memWf : State.reset.MemWf := rfl

theorem State.memWrite_memWf {s : State} (h : s.MemWf) (a : Nat) (bs : List Byte) (pz : Nat → Bool) : (s.memWrite a bs pz).MemWf := by
  show Sparse.wf 0 _ = true
  rw [State.memWrite_data]
  exact Sparse.wf_setRun 0 bs a h

/-- An operation that leaves the bytes as they were keeps their form. -/
theorem State.MemWf.of_data {s u : State} (h : s.MemWf) (e : u.mem.data = s.mem.data) : u.MemWf := by
  show Sparse.wf 0 _ = true
  rw [e]; exact h

/-- What every step of a fold keeps of the form, the fold keeps. -/
theorem foldl_memWf {β : Type} (g : State → β → State) (hg : ∀ u x, u.MemWf → (g u x).MemWf) (l : List β) (s : State) (h : s.MemWf) :
    (l.foldl g s).MemWf := by
  induction l generalizing s with
  | nil => exact h
  | cons x l ih => exact ih _ (hg s x h)

theorem State.writeElems_memWf {s : State} (h : s.MemWf) (a k : Nat) (l : List (List Byte × Bool)) : (s.writeElems a k l).MemWf :=
  State.memWrite_memWf h _ _ _

theorem State.wireVec_memWf {s : State} (h : s.MemWf) (d : CollDecl) : (s.wireVec d).1.MemWf := by
  have h1 : (s.memRead (s.winBase d.srcWin) (vecBytes d.ifmt d.e)).MemWf := h.of_data (State.memRead_data _ _ _)
  unfold State.wireVec
  dsimp only
  split
  · exact h1
  · exact State.writeElems_memWf (h1.of_data (State.memRead_data _ _ _)) _ _ _

theorem State.wireVec_image (s : State) (d : CollDecl) : (s.wireVec d).1.vent.image = s.vent.image := by
  unfold State.wireVec
  dsimp only
  split
  · exact State.memRead_image _ _ _
  · rw [State.writeElems_image, State.memRead_image, State.memRead_image]

theorem State.sumBlock_memWf {s : State} (h : s.MemWf) (cid : Nat) (d : CollDecl) (r : CollRun) (blk : Nat) (need : List Nat) :
    (s.sumBlock cid d r blk need).MemWf := by
  have h1 : ∀ n, (s.readStage d r blk n need).MemWf := fun n => h.of_data (State.readStage_data _ _ _ _ _ _)
  unfold State.sumBlock
  dsimp only
  refine State.MemWf.of_data ?_ (State.collCheck_data _ _)
  refine State.MemWf.of_data ?_ (State.setRun_data _ _ _)
  split
  · refine State.MemWf.of_data ?_ (State.toOthers_data _ _ _)
    refine State.MemWf.of_data ?_ (State.collBump_data _ _ _)
    split
    · exact (State.writeElems_memWf (h1 _) _ _ _).of_data (State.collBump_data _ _ _)
    · exact State.writeElems_memWf (h1 _) _ _ _
  · refine State.MemWf.of_data ?_ (State.collBump_data _ _ _)
    split
    · exact (State.writeElems_memWf (h1 _) _ _ _).of_data (State.collBump_data _ _ _)
    · exact State.writeElems_memWf (h1 _) _ _ _

theorem State.startColl_memWf {s : State} (h : s.MemWf) (cid : Nat) (d : CollDecl) : (s.startColl cid d).MemWf := by
  have hr : ∀ a n, (s.memRead a n).MemWf := fun a n => h.of_data (State.memRead_data _ _ _)
  unfold State.startColl
  dsimp only
  split
  · refine State.MemWf.of_data ?_ (State.collCheck_data _ _)
    refine State.MemWf.of_data ?_ (State.takeEarly_data _ _ _)
    have h1 : ∀ r f, ((s.wireVec d).1.setRun cid r |>.toOthers r f).MemWf := fun r f =>
      ((State.wireVec_memWf h d).of_data (State.setRun_data _ _ _)).of_data (State.toOthers_data _ _ _)
    split
    · exact h1 _ _
    · refine foldl_memWf _ (fun u x hu => ?_) _ _ (h1 _ _)
      split
      · exact State.sumBlock_memWf hu _ _ _ _ _
      · exact hu
  · refine State.MemWf.of_data ?_ (State.collCheck_data _ _)
    refine State.MemWf.of_data ?_ (State.takeEarly_data _ _ _)
    refine State.MemWf.of_data ?_ (State.toOthers_data _ _ _)
    refine State.MemWf.of_data ?_ (State.setRun_data _ _ _)
    have hw : ∀ (q : Prop) [Decidable q] (a n b k : Nat) (l : List (List Byte × Bool)),
        (if q then s.memRead a n else (s.memRead a n).writeElems b k l).MemWf := by
      intro q _ a n b k l
      split
      · exact hr _ _
      · exact State.writeElems_memWf (hr _ _) _ _ _
    exact hw _ _ _ _ _ _

theorem State.startColl_image (s : State) (cid : Nat) (d : CollDecl) : (s.startColl cid d).vent.image = s.vent.image := by
  unfold State.startColl
  dsimp only
  split
  · rw [State.collCheck_image, State.takeEarly_image]
    split
    · rw [State.toOthers_image, State.setRun_image, State.wireVec_image]
    · refine (foldl_image _ (fun u x => ?_) _ _).trans ?_
      · split
        · exact State.sumBlock_image _ _ _ _ _ _
        · rfl
      · rw [State.toOthers_image, State.setRun_image, State.wireVec_image]
  · rw [State.collCheck_image, State.takeEarly_image, State.toOthers_image, State.setRun_image]
    rw [ite_image, State.writeElems_image, ite_self, State.memRead_image]

theorem State.retryColl_memWf {s : State} (h : s.MemWf) : s.retryColl.MemWf := by
  unfold State.retryColl
  refine foldl_memWf _ (fun u x hu => ?_) _ _ h
  split
  · split
    · exact hu
    · refine State.startColl_memWf ?_ _ _
      exact hu
  · exact hu

@[simp] theorem State.retryColl_image (s : State) : s.retryColl.vent.image = s.vent.image := by
  unfold State.retryColl
  refine foldl_image _ (fun u x => ?_) _ _
  split
  · split
    · rfl
    · exact (State.startColl_image _ _ _).trans rfl
  · rfl

theorem State.startCollectives_memWf {s : State} (h : s.MemWf) (w : Nat) : (s.startCollectives w).MemWf :=
  State.retryColl_memWf (State.MemWf.of_data h rfl)

@[simp] theorem State.startCollectives_image (s : State) (w : Nat) : (s.startCollectives w).vent.image = s.vent.image := by
  unfold State.startCollectives
  exact State.retryColl_image _

theorem State.releaseWin_memWf {s : State} (h : s.MemWf) (w t : Nat) : (s.releaseWin w t).MemWf := by
  unfold State.releaseWin
  dsimp only
  (repeat' split) <;> first
    | exact h
    | exact State.retryColl_memWf (State.startCollectives_memWf (State.MemWf.of_data h (by simp)) _)
    | exact State.retryColl_memWf (State.MemWf.of_data h (by simp))
    | exact State.MemWf.of_data h (by simp)

theorem State.landBytes_memWf {s : State} (h : s.MemWf) (step : Nat) (x : RxXfer) (a : Nat) (data : List Byte) (mask : List Bool) :
    (s.landBytes step x a data mask).MemWf := by
  have h1 : ∀ y, ((s.memWrite a data (wordMark a 8 mask)).setRx y).MemWf := fun y =>
    State.MemWf.of_data (State.memWrite_memWf h _ _ _) (State.setRx_data _ _)
  unfold State.landBytes
  dsimp only
  split
  · exact State.retryColl_memWf (State.MemWf.of_data (h1 _) (foldl_data _ (fun u e => State.partDone_data _ _ _) _ _))
  · exact h1 _

@[simp] theorem State.landBytes_image (s : State) (step : Nat) (x : RxXfer) (a : Nat) (data : List Byte) (mask : List Bool) :
    (s.landBytes step x a data mask).vent.image = s.vent.image := by
  unfold State.landBytes
  dsimp only
  split
  · rw [State.retryColl_image, foldl_image _ (fun u e => State.partDone_image _ _ _), State.setRx_image, State.memWrite_image]
  · rw [State.setRx_image, State.memWrite_image]

/-- A DATA segment leaves the canonical form, whether a window or a staging area takes it or not (R265, R277). -/
theorem State.landSegment_memWf {s : State} (h : s.MemWf) (p dev : Nat) (c : Carriage) (g : Seg) (dst : SegDst) (data : List Byte)
    (mask : List Bool) : (s.landSegment p dev c g dst data mask).MemWf := by
  have h1 : (s.retireRx dev c.cls c.xfer c.att).MemWf := h.of_data (State.retireRx_data _ _ _ _ _)
  unfold State.landSegment
  dsimp only
  split
  · exact h1.of_data (State.setPort_data _ _ _)
  · split
    · exact h1.of_data (State.txpBump_data _ _ _)
    · split
      · exact h1
      · have h2 := fun a n => h1.of_data (State.refuse_data (s.retireRx dev c.cls c.xfer c.att) a n)
        have h3 := fun a n c' x q => (h2 a n).of_data (State.reject_data ((s.retireRx dev c.cls c.xfer c.att).refuse a n) dev c' none x q)
        split
        · exact (h3 _ _ _ _ _).of_data (State.freeHealth_data _ _)
        · exact h3 _ _ _ _ _
      · exact State.landBytes_memWf h1 _ _ _ _ _

@[simp] theorem State.landSegment_image (s : State) (p dev : Nat) (c : Carriage) (g : Seg) (dst : SegDst) (data : List Byte)
    (mask : List Bool) : (s.landSegment p dev c g dst data mask).vent.image = s.vent.image := by
  unfold State.landSegment
  dsimp only
  split
  · rw [State.setPort_image, State.retireRx_image]
  · split
    · rw [State.txpBump_image, State.retireRx_image]
    · split
      · exact State.retireRx_image _ _ _ _ _
      · split
        · rw [State.freeHealth_image, State.reject_image, State.refuse_image, State.retireRx_image]
        · rw [State.reject_image, State.refuse_image, State.retireRx_image]
      · rw [State.landBytes_image, State.retireRx_image]

theorem State.zeroResiduals_memWf {s : State} (h : s.MemWf) : s.zeroResiduals.MemWf := by
  unfold State.zeroResiduals
  refine foldl_memWf _ (fun u x hu => ?_) _ _ h
  split
  · exact State.memWrite_memWf hu _ _ _
  · exact hu

/-- Writing tiles one after the other changes no byte of the device range. -/
theorem foldl_setTile_data {β : Type} (k : β → Nat) (g : State → β → Tile) (l : List β) (s : State) :
    (l.foldl (fun u e => u.setTile (k e) (g u e)) s).mem.data = s.mem.data := by
  induction l generalizing s with
  | nil => rfl
  | cons e l ih => rw [List.foldl_cons, ih, State.setTile_mem]

theorem State.loadImage_memWf {s : State} (h : s.MemWf) (b : List Byte) (skip : Option Nat) (cs : List RouteChoice) :
    (s.loadImage b skip cs).MemWf := by
  have hs := fun l => foldl_setTile_data (fun e : Nat × TileRec × XchPart => e.1) (fun (u : State) e =>
    loadTile b ⟨s.vent.stepping, s.vent.map, skip⟩ cs (imgOf b s.vent.map skip).man.rows e.1 e.2.1 e.2.2 (u.tile e.1)) l s
  unfold State.loadImage
  refine foldl_memWf _ (fun u x hu => State.memWrite_memWf hu _ _ _) _ _ ?_
  show Sparse.wf 0 _ = true
  dsimp only
  rw [hs]
  exact h

theorem State.restarted_memWf (s : State) (held : Bool) : (s.restarted held).MemWf := rfl
theorem State.powerFail_memWf (s : State) : s.powerFail.MemWf := rfl

theorem State.dropImage_memWf {s : State} (h : s.MemWf) : s.dropImage.MemWf := h

theorem State.startImage_memWf {s : State} (h : s.MemWf) (im : Image) (seed : Dword) : (s.startImage im seed).MemWf := by
  unfold State.startImage
  refine State.MemWf.of_data (State.zeroResiduals_memWf ?_) (State.startJoin_data _)
  exact h

theorem State.releaseWin_image (s : State) (w t : Nat) : (s.releaseWin w t).vent.image = s.vent.image := by
  unfold State.releaseWin
  dsimp only
  (repeat' split) <;> simp

theorem State.dropImage_image (s : State) : s.dropImage.vent.image = none := rfl
theorem State.restarted_image (s : State) (held : Bool) : (s.restarted held).vent.image = none := rfl

end Sys2Proof.Machine
end

