-- ==== Sys2Proof/Laws/Outcome.lean ====
section
/-!
SUPPORT. The outcomes of the shared forms of a command: what a command on a tile, on a port, at the mailbox, at the TAP and at the CXL
mailbox can answer, each said once.
-/
namespace Sys2Proof.Machine

/-- A command on a tile that exists goes on with that tile's new value. -/
theorem onTile_next {t : Nat} (h : t < 1536) (s : State) (f : Tile → Tile) : onTile t s f = .next (s.afterTile t (f (s.tile t))) := by
  unfold onTile; rw [if_pos h]

/-- A command on a tile that does not exist is a fault, and only then. -/
theorem onTile_fault {t : Nat} (s : State) (f : Tile → Tile) : onTile t s f = .fault (.noSuchUnit t) ↔ 1536 ≤ t := by
  unfold onTile; split
  · simp; omega
  · simp; omega

/-- What a command on a tile answers when it goes on. -/
theorem onTile_eq_next {t : Nat} {s u : State} {f : Tile → Tile} (h : onTile t s f = .next u) :
    t < 1536 ∧ u = s.afterTile t (f (s.tile t)) := by
  unfold onTile at h
  split at h
  · cases h; exact ⟨by assumption, rfl⟩
  · cases h

/-- A command on a tile changes no byte of the device range. -/
theorem onTile_data {t : Nat} {s u : State} {f : Tile → Tile} (h : onTile t s f = .next u) : u.mem.data = s.mem.data := by
  rw [(onTile_eq_next h).2]; simp

/-- A command on a tile keeps the loaded image. -/
theorem onTile_image {t : Nat} {s u : State} {f : Tile → Tile} (h : onTile t s f = .next u) : u.vent.image = s.vent.image := by
  rw [(onTile_eq_next h).2]; simp

/-- A command on a port that exists goes on. -/
theorem onPort_next {p : Nat} (h : p < 12) (s : State) (f : State → State) : onPort p s f = .next (f s) := by
  unfold onPort; rw [if_pos h]

/-- What a command on a port answers when it goes on. -/
theorem onPort_eq_next {p : Nat} {s u : State} {f : State → State} (h : onPort p s f = .next u) : p < 12 ∧ u = f s := by
  unfold onPort at h
  split at h
  · cases h; exact ⟨by assumption, rfl⟩
  · cases h

/-- A mailbox command always answers a next state. -/
theorem mbox_next (code : Nat) (sts : List DevSt) (len : Nat → Bool) (s : State) (run : List Byte → State) :
    ∃ u, mbox code sts len s run = .next u := by
  unfold mbox
  (repeat' split) <;> exact ⟨_, rfl⟩

/-- Everything a mailbox command can do: nothing, where no such command is asked; a refusal by state or length; its own effect. -/
theorem mbox_cases {code : Nat} {sts : List DevSt} {len : Nat → Bool} {s u : State} {run : List Byte → State}
    (h : mbox code sts len s run = .next u) :
    (u = s ∧ ¬∃ r, s.host.asked = some (code, r) ∧ s.mbServes = true) ∨
    ∃ r, (s.host.asked = some (code, r) ∧ s.mbServes = true) ∧
      ((u = s.complete stWRONG_STATE [] ∧ s.vent.dev ∉ sts) ∨
       (u = s.complete stBAD_LENGTH [] ∧ s.vent.dev ∈ sts ∧ len r.length = false) ∨
       (u = run r ∧ s.vent.dev ∈ sts ∧ len r.length = true)) := by
  unfold mbox at h
  split at h
  · rename_i h1
    exact .inl ⟨(Host.Outcome.next.inj h).symm, by simp [h1]⟩
  · rename_i c r h1
    split at h
    · rename_i h2
      refine .inl ⟨(Host.Outcome.next.inj h).symm, ?_⟩
      rintro ⟨r', h3, h4⟩
      rw [h1] at h3
      simp only [Option.some.injEq, Prod.mk.injEq] at h3
      simp [h3.1, h4] at h2
    · rename_i h2
      simp only [ne_eq, Bool.not_eq_true', not_or, not_not, Bool.not_eq_false] at h2
      obtain ⟨rfl, h2⟩ := h2
      refine .inr ⟨r, ⟨h1, h2⟩, ?_⟩
      split at h
      · rename_i h3
        exact .inl ⟨(Host.Outcome.next.inj h).symm, by simpa using h3⟩
      · rename_i h3
        split at h
        · rename_i h4
          exact .inr (.inl ⟨(Host.Outcome.next.inj h).symm, by simpa using h3, by simpa using h4⟩)
        · rename_i h4
          exact .inr (.inr ⟨(Host.Outcome.next.inj h).symm, by simpa using h3, by simpa using h4⟩)

/-- Where the command is asked, the state is one of its own and the length is its layout's, a mailbox command runs. -/
theorem mbox_run {code : Nat} {sts : List DevSt} {len : Nat → Bool} {s : State} {r : List Byte} (run : List Byte → State)
    (h : s.Asks code sts len r) : mbox code sts len s run = .next (run r) := by
  obtain ⟨h1, h2, h3, h4⟩ := h
  unfold mbox
  simp [h1, h2, List.contains_iff_mem.mp h3, h4]

/-- A TAP operation with TRST_N high and the module powered. -/
theorem jtagOp_next {s : State} (h1 : s.jtag.trst = false) (h2 : s.aon.power = true) (f : State → State) : jtagOp s f = .next (f s) := by
  unfold jtagOp; simp [h1, h2]

/-- Held in reset, the CXL mailbox leaves everything as it is; otherwise only the read data change. -/
theorem cxlAnswer_next (s : State) (code : Nat) (payload : List Byte) :
    ∃ o, cxlAnswer s code payload = .next { s with out := o } := by
  unfold cxlAnswer; split
  · exact ⟨s.out, rfl⟩
  · exact ⟨_, rfl⟩

/-- An instruction that is not the next one of a running tile changes nothing. -/
theorem Tile.issue_not_running {x : Tile} (h : x.st ≠ .run ∨ x.sleep ≠ .none) (cc word : Nat) (srcs : List Nat) (f : Tile → Tile) :
    x.issue cc word srcs f = x := by
  unfold Tile.issue Tile.issueWhen
  rw [if_pos (by rcases h with h | h; exact .inl h; exact .inr (.inl h))]

end Sys2Proof.Machine
end

