-- ==== Sys2Proof/Laws/PerInstr.lean ====
section
/-!
SUPPORT. What well-formedness says of each command: the unit it names is one of the module's. One lemma for each constructor.
-/
namespace Sys2Proof.Laws

/-- A command is well formed exactly where its tile, port, sensor or monitor is one of the module's (R1, R261, R398, R399). -/
def Unit.Statement (i : Instr) : Prop :=
  i.wf = true ↔
    match i.unit with
    | .module => True
    | .tile t => t < 1536
    | .port p => p < 12
    | .sensor n => n < 64
    | .monitor n => n < 24

theorem UnitRef.present_iff (u : UnitRef) :
    u.present = true ↔
      match u with
      | .module => True
      | .tile t => t < 1536
      | .port p => p < 12
      | .sensor n => n < 64
      | .monitor n => n < 24 := by
  cases u <;> simp [UnitRef.present]

theorem Unit.add (t : Nat) (rd rs1 rs2 : BitVec 5) : Unit.Statement (.add t rd rs1 rs2) := UnitRef.present_iff _
theorem Unit.sub (t : Nat) (rd rs1 rs2 : BitVec 5) : Unit.Statement (.sub t rd rs1 rs2) := UnitRef.present_iff _
theorem Unit.and (t : Nat) (rd rs1 rs2 : BitVec 5) : Unit.Statement (.and t rd rs1 rs2) := UnitRef.present_iff _
theorem Unit.or (t : Nat) (rd rs1 rs2 : BitVec 5) : Unit.Statement (.or t rd rs1 rs2) := UnitRef.present_iff _
theorem Unit.xor (t : Nat) (rd rs1 rs2 : BitVec 5) : Unit.Statement (.xor t rd rs1 rs2) := UnitRef.present_iff _
theorem Unit.shl (t : Nat) (rd rs1 rs2 : BitVec 5) : Unit.Statement (.shl t rd rs1 rs2) := UnitRef.present_iff _
theorem Unit.shr (t : Nat) (rd rs1 rs2 : BitVec 5) : Unit.Statement (.shr t rd rs1 rs2) := UnitRef.present_iff _
theorem Unit.sra (t : Nat) (rd rs1 rs2 : BitVec 5) : Unit.Statement (.sra t rd rs1 rs2) := UnitRef.present_iff _
theorem Unit.slt (t : Nat) (rd rs1 rs2 : BitVec 5) : Unit.Statement (.slt t rd rs1 rs2) := UnitRef.present_iff _
theorem Unit.sltu (t : Nat) (rd rs1 rs2 : BitVec 5) : Unit.Statement (.sltu t rd rs1 rs2) := UnitRef.present_iff _
theorem Unit.mul (t : Nat) (rd rs1 rs2 : BitVec 5) : Unit.Statement (.mul t rd rs1 rs2) := UnitRef.present_iff _
theorem Unit.mulh (t : Nat) (rd rs1 rs2 : BitVec 5) : Unit.Statement (.mulh t rd rs1 rs2) := UnitRef.present_iff _
theorem Unit.mulhu (t : Nat) (rd rs1 rs2 : BitVec 5) : Unit.Statement (.mulhu t rd rs1 rs2) := UnitRef.present_iff _
theorem Unit.div (t : Nat) (rd rs1 rs2 : BitVec 5) : Unit.Statement (.div t rd rs1 rs2) := UnitRef.present_iff _
theorem Unit.divu (t : Nat) (rd rs1 rs2 : BitVec 5) : Unit.Statement (.divu t rd rs1 rs2) := UnitRef.present_iff _
theorem Unit.rem (t : Nat) (rd rs1 rs2 : BitVec 5) : Unit.Statement (.rem t rd rs1 rs2) := UnitRef.present_iff _
theorem Unit.remu (t : Nat) (rd rs1 rs2 : BitVec 5) : Unit.Statement (.remu t rd rs1 rs2) := UnitRef.present_iff _
theorem Unit.fadd (t : Nat) (rd rs1 rs2 : BitVec 5) : Unit.Statement (.fadd t rd rs1 rs2) := UnitRef.present_iff _
theorem Unit.fsub (t : Nat) (rd rs1 rs2 : BitVec 5) : Unit.Statement (.fsub t rd rs1 rs2) := UnitRef.present_iff _
theorem Unit.fmul (t : Nat) (rd rs1 rs2 : BitVec 5) : Unit.Statement (.fmul t rd rs1 rs2) := UnitRef.present_iff _
theorem Unit.fma (t : Nat) (rd rs1 rs2 : BitVec 5) : Unit.Statement (.fma t rd rs1 rs2) := UnitRef.present_iff _
theorem Unit.fmin (t : Nat) (rd rs1 rs2 : BitVec 5) : Unit.Statement (.fmin t rd rs1 rs2) := UnitRef.present_iff _
theorem Unit.fmax (t : Nat) (rd rs1 rs2 : BitVec 5) : Unit.Statement (.fmax t rd rs1 rs2) := UnitRef.present_iff _
theorem Unit.fcmpEq (t : Nat) (rd rs1 rs2 : BitVec 5) : Unit.Statement (.fcmpEq t rd rs1 rs2) := UnitRef.present_iff _
theorem Unit.fcmpLt (t : Nat) (rd rs1 rs2 : BitVec 5) : Unit.Statement (.fcmpLt t rd rs1 rs2) := UnitRef.present_iff _
theorem Unit.fcmpLe (t : Nat) (rd rs1 rs2 : BitVec 5) : Unit.Statement (.fcmpLe t rd rs1 rs2) := UnitRef.present_iff _
theorem Unit.fabs (t : Nat) (rd rs1 : BitVec 5) : Unit.Statement (.fabs t rd rs1) := UnitRef.present_iff _
theorem Unit.fneg (t : Nat) (rd rs1 : BitVec 5) : Unit.Statement (.fneg t rd rs1) := UnitRef.present_iff _
theorem Unit.addi (t : Nat) (rd rs1 : BitVec 5) (imm : BitVec 16) : Unit.Statement (.addi t rd rs1 imm) := UnitRef.present_iff _
theorem Unit.andi (t : Nat) (rd rs1 : BitVec 5) (imm : BitVec 16) : Unit.Statement (.andi t rd rs1 imm) := UnitRef.present_iff _
theorem Unit.ori (t : Nat) (rd rs1 : BitVec 5) (imm : BitVec 16) : Unit.Statement (.ori t rd rs1 imm) := UnitRef.present_iff _
theorem Unit.xori (t : Nat) (rd rs1 : BitVec 5) (imm : BitVec 16) : Unit.Statement (.xori t rd rs1 imm) := UnitRef.present_iff _
theorem Unit.shli (t : Nat) (rd rs1 : BitVec 5) (imm : BitVec 16) : Unit.Statement (.shli t rd rs1 imm) := UnitRef.present_iff _
theorem Unit.shri (t : Nat) (rd rs1 : BitVec 5) (imm : BitVec 16) : Unit.Statement (.shri t rd rs1 imm) := UnitRef.present_iff _
theorem Unit.srai (t : Nat) (rd rs1 : BitVec 5) (imm : BitVec 16) : Unit.Statement (.srai t rd rs1 imm) := UnitRef.present_iff _
theorem Unit.slti (t : Nat) (rd rs1 : BitVec 5) (imm : BitVec 16) : Unit.Statement (.slti t rd rs1 imm) := UnitRef.present_iff _
theorem Unit.sltui (t : Nat) (rd rs1 : BitVec 5) (imm : BitVec 16) : Unit.Statement (.sltui t rd rs1 imm) := UnitRef.present_iff _
theorem Unit.movhi (t : Nat) (rd : BitVec 5) (imm : BitVec 16) : Unit.Statement (.movhi t rd imm) := UnitRef.present_iff _
theorem Unit.beq (t : Nat) (ra rb : BitVec 5) (imm : BitVec 16) : Unit.Statement (.beq t ra rb imm) := UnitRef.present_iff _
theorem Unit.bne (t : Nat) (ra rb : BitVec 5) (imm : BitVec 16) : Unit.Statement (.bne t ra rb imm) := UnitRef.present_iff _
theorem Unit.blt (t : Nat) (ra rb : BitVec 5) (imm : BitVec 16) : Unit.Statement (.blt t ra rb imm) := UnitRef.present_iff _
theorem Unit.bge (t : Nat) (ra rb : BitVec 5) (imm : BitVec 16) : Unit.Statement (.bge t ra rb imm) := UnitRef.present_iff _
theorem Unit.bltu (t : Nat) (ra rb : BitVec 5) (imm : BitVec 16) : Unit.Statement (.bltu t ra rb imm) := UnitRef.present_iff _
theorem Unit.bgeu (t : Nat) (ra rb : BitVec 5) (imm : BitVec 16) : Unit.Statement (.bgeu t ra rb imm) := UnitRef.present_iff _
theorem Unit.j (t : Nat) (imm : BitVec 16) : Unit.Statement (.j t imm) := UnitRef.present_iff _
theorem Unit.jal (t : Nat) (rd : BitVec 5) (imm : BitVec 16) : Unit.Statement (.jal t rd imm) := UnitRef.present_iff _
theorem Unit.jr (t : Nat) (rs1 : BitVec 5) : Unit.Statement (.jr t rs1) := UnitRef.present_iff _
theorem Unit.ldB (t : Nat) (rd : BitVec 5) (h : BitVec 6) (rs : BitVec 5) (imm : BitVec 10) : Unit.Statement (.ldB t rd h rs imm) := UnitRef.present_iff _
theorem Unit.ldBu (t : Nat) (rd : BitVec 5) (h : BitVec 6) (rs : BitVec 5) (imm : BitVec 10) : Unit.Statement (.ldBu t rd h rs imm) := UnitRef.present_iff _
theorem Unit.ldH (t : Nat) (rd : BitVec 5) (h : BitVec 6) (rs : BitVec 5) (imm : BitVec 10) : Unit.Statement (.ldH t rd h rs imm) := UnitRef.present_iff _
theorem Unit.ldHu (t : Nat) (rd : BitVec 5) (h : BitVec 6) (rs : BitVec 5) (imm : BitVec 10) : Unit.Statement (.ldHu t rd h rs imm) := UnitRef.present_iff _
theorem Unit.ldW (t : Nat) (rd : BitVec 5) (h : BitVec 6) (rs : BitVec 5) (imm : BitVec 10) : Unit.Statement (.ldW t rd h rs imm) := UnitRef.present_iff _
theorem Unit.ldD (t : Nat) (rd : BitVec 5) (h : BitVec 6) (rs : BitVec 5) (imm : BitVec 10) : Unit.Statement (.ldD t rd h rs imm) := UnitRef.present_iff _
theorem Unit.stB (t : Nat) (rd : BitVec 5) (h : BitVec 6) (rs : BitVec 5) (imm : BitVec 10) : Unit.Statement (.stB t rd h rs imm) := UnitRef.present_iff _
theorem Unit.stH (t : Nat) (rd : BitVec 5) (h : BitVec 6) (rs : BitVec 5) (imm : BitVec 10) : Unit.Statement (.stH t rd h rs imm) := UnitRef.present_iff _
theorem Unit.stW (t : Nat) (rd : BitVec 5) (h : BitVec 6) (rs : BitVec 5) (imm : BitVec 10) : Unit.Statement (.stW t rd h rs imm) := UnitRef.present_iff _
theorem Unit.stD (t : Nat) (rd : BitVec 5) (h : BitVec 6) (rs : BitVec 5) (imm : BitVec 10) : Unit.Statement (.stD t rd h rs imm) := UnitRef.present_iff _
theorem Unit.enqF (t : Nat) (rs1 rs2 : BitVec 5) : Unit.Statement (.enqF t rs1 rs2) := UnitRef.present_iff _
theorem Unit.enqB (t : Nat) (rs1 rs2 : BitVec 5) : Unit.Statement (.enqB t rs1 rs2) := UnitRef.present_iff _
theorem Unit.enqV (t : Nat) (rs1 rs2 : BitVec 5) : Unit.Statement (.enqV t rs1 rs2) := UnitRef.present_iff _
theorem Unit.enqD (t : Nat) (rs1 rs2 : BitVec 5) : Unit.Statement (.enqD t rs1 rs2) := UnitRef.present_iff _
theorem Unit.trr (t : Nat) (rd : BitVec 5) (off : BitVec 10) : Unit.Statement (.trr t rd off) := UnitRef.present_iff _
theorem Unit.trw (t : Nat) (rs1 : BitVec 5) (off : BitVec 10) : Unit.Statement (.trw t rs1 off) := UnitRef.present_iff _
theorem Unit.mqModeApply (t : Nat) : Unit.Statement (.mqModeApply t) := UnitRef.present_iff _
theorem Unit.sfWait (t : Nat) (n : BitVec 6) : Unit.Statement (.sfWait t n) := UnitRef.present_iff _
theorem Unit.sfSig (t : Nat) (n : BitVec 6) : Unit.Statement (.sfSig t n) := UnitRef.present_iff _
theorem Unit.sfRead (t : Nat) (rd : BitVec 5) (n : BitVec 6) : Unit.Statement (.sfRead t rd n) := UnitRef.present_iff _
theorem Unit.syncFlagGrant (t n : Nat) : Unit.Statement (.syncFlagGrant t n) := UnitRef.present_iff _
theorem Unit.scalarWake (t : Nat) : Unit.Statement (.scalarWake t) := UnitRef.present_iff _
theorem Unit.barArrive (t : Nat) (rd rs1 : BitVec 5) (rop level : BitVec 3) (xpn : BitVec 8) : Unit.Statement (.barArrive t rd rs1 rop level xpn) := UnitRef.present_iff _
theorem Unit.msgSend (t : Nat) (rp rs1 rs2 : BitVec 5) (flag : BitVec 6) : Unit.Statement (.msgSend t rp rs1 rs2 flag) := UnitRef.present_iff _
theorem Unit.msgRecv (t : Nat) (rd : BitVec 5) : Unit.Statement (.msgRecv t rd) := UnitRef.present_iff _
theorem Unit.msgPoll (t : Nat) (rd : BitVec 5) : Unit.Statement (.msgPoll t rd) := UnitRef.present_iff _
theorem Unit.msgFree (t : Nat) : Unit.Statement (.msgFree t) := UnitRef.present_iff _
theorem Unit.msgCtlClose (t : Nat) : Unit.Statement (.msgCtlClose t) := UnitRef.present_iff _
theorem Unit.msgCtlOpen (t : Nat) : Unit.Statement (.msgCtlOpen t) := UnitRef.present_iff _
theorem Unit.msgCtlEpoch (t : Nat) (ep : BitVec 4) : Unit.Statement (.msgCtlEpoch t ep) := UnitRef.present_iff _
theorem Unit.endProg (t : Nat) : Unit.Statement (.endProg t) := UnitRef.present_iff _
theorem Unit.tileDone (t : Nat) : Unit.Statement (.tileDone t) := UnitRef.present_iff _
theorem Unit.mnop (t : Nat) (q : MQueue) : Unit.Statement (.mnop t q) := UnitRef.present_iff _
theorem Unit.mld (t : Nat) (q : MQueue) : Unit.Statement (.mld t q) := UnitRef.present_iff _
theorem Unit.mldComplete (t : Nat) : Unit.Statement (.mldComplete t) := UnitRef.present_iff _
theorem Unit.mma (t : Nat) (q : MQueue) : Unit.Statement (.mma t q) := UnitRef.present_iff _
theorem Unit.mmaComplete (t : Nat) : Unit.Statement (.mmaComplete t) := UnitRef.present_iff _
theorem Unit.slice (t : Nat) (q : MQueue) : Unit.Statement (.slice t q) := UnitRef.present_iff _
theorem Unit.sliceComplete (t : Nat) : Unit.Statement (.sliceComplete t) := UnitRef.present_iff _
theorem Unit.vnop (t : Nat) : Unit.Statement (.vnop t) := UnitRef.present_iff _
theorem Unit.vsd (t : Nat) : Unit.Statement (.vsd t) := UnitRef.present_iff _
theorem Unit.pkld (t : Nat) : Unit.Statement (.pkld t) := UnitRef.present_iff _
theorem Unit.rngsetS (t : Nat) : Unit.Statement (.rngsetS t) := UnitRef.present_iff _
theorem Unit.rngsetB (t : Nat) : Unit.Statement (.rngsetB t) := UnitRef.present_iff _
theorem Unit.vopfMov (t : Nat) : Unit.Statement (.vopfMov t) := UnitRef.present_iff _
theorem Unit.vopfFadd (t : Nat) : Unit.Statement (.vopfFadd t) := UnitRef.present_iff _
theorem Unit.vopfFsub (t : Nat) : Unit.Statement (.vopfFsub t) := UnitRef.present_iff _
theorem Unit.vopfFmul (t : Nat) : Unit.Statement (.vopfFmul t) := UnitRef.present_iff _
theorem Unit.vopfFma (t : Nat) : Unit.Statement (.vopfFma t) := UnitRef.present_iff _
theorem Unit.vopfFmin (t : Nat) : Unit.Statement (.vopfFmin t) := UnitRef.present_iff _
theorem Unit.vopfFmax (t : Nat) : Unit.Statement (.vopfFmax t) := UnitRef.present_iff _
theorem Unit.vopfFabs (t : Nat) : Unit.Statement (.vopfFabs t) := UnitRef.present_iff _
theorem Unit.vopfFneg (t : Nat) : Unit.Statement (.vopfFneg t) := UnitRef.present_iff _
theorem Unit.vopfFcmpLt (t : Nat) : Unit.Statement (.vopfFcmpLt t) := UnitRef.present_iff _
theorem Unit.vopfFcmpLe (t : Nat) : Unit.Statement (.vopfFcmpLe t) := UnitRef.present_iff _
theorem Unit.vopfFcmpEq (t : Nat) : Unit.Statement (.vopfFcmpEq t) := UnitRef.present_iff _
theorem Unit.vopfFsel (t : Nat) : Unit.Statement (.vopfFsel t) := UnitRef.present_iff _
theorem Unit.vopfExp2 (t : Nat) : Unit.Statement (.vopfExp2 t) := UnitRef.present_iff _
theorem Unit.vopfLog2 (t : Nat) : Unit.Statement (.vopfLog2 t) := UnitRef.present_iff _
theorem Unit.vopfRcp (t : Nat) : Unit.Statement (.vopfRcp t) := UnitRef.present_iff _
theorem Unit.vopfRsqrt (t : Nat) : Unit.Statement (.vopfRsqrt t) := UnitRef.present_iff _
theorem Unit.vopfSqrt (t : Nat) : Unit.Statement (.vopfSqrt t) := UnitRef.present_iff _
theorem Unit.vopiMov (t : Nat) : Unit.Statement (.vopiMov t) := UnitRef.present_iff _
theorem Unit.vopiIadd (t : Nat) : Unit.Statement (.vopiIadd t) := UnitRef.present_iff _
theorem Unit.vopiIsub (t : Nat) : Unit.Statement (.vopiIsub t) := UnitRef.present_iff _
theorem Unit.vopiImul (t : Nat) : Unit.Statement (.vopiImul t) := UnitRef.present_iff _
theorem Unit.vopiAnd (t : Nat) : Unit.Statement (.vopiAnd t) := UnitRef.present_iff _
theorem Unit.vopiOr (t : Nat) : Unit.Statement (.vopiOr t) := UnitRef.present_iff _
theorem Unit.vopiXor (t : Nat) : Unit.Statement (.vopiXor t) := UnitRef.present_iff _
theorem Unit.vopiShl (t : Nat) : Unit.Statement (.vopiShl t) := UnitRef.present_iff _
theorem Unit.vopiShr (t : Nat) : Unit.Statement (.vopiShr t) := UnitRef.present_iff _
theorem Unit.vopiSra (t : Nat) : Unit.Statement (.vopiSra t) := UnitRef.present_iff _
theorem Unit.vopiImin (t : Nat) : Unit.Statement (.vopiImin t) := UnitRef.present_iff _
theorem Unit.vopiImax (t : Nat) : Unit.Statement (.vopiImax t) := UnitRef.present_iff _
theorem Unit.vopiIsel (t : Nat) : Unit.Statement (.vopiIsel t) := UnitRef.present_iff _
theorem Unit.vopiIcmpLt (t : Nat) : Unit.Statement (.vopiIcmpLt t) := UnitRef.present_iff _
theorem Unit.vopiIcmpEq (t : Nat) : Unit.Statement (.vopiIcmpEq t) := UnitRef.present_iff _
theorem Unit.cvt (t : Nat) : Unit.Statement (.cvt t) := UnitRef.present_iff _
theorem Unit.prism (t : Nat) : Unit.Statement (.prism t) := UnitRef.present_iff _
theorem Unit.vredSum (t : Nat) : Unit.Statement (.vredSum t) := UnitRef.present_iff _
theorem Unit.vredSumsq (t : Nat) : Unit.Statement (.vredSumsq t) := UnitRef.present_iff _
theorem Unit.vredMax (t : Nat) : Unit.Statement (.vredMax t) := UnitRef.present_iff _
theorem Unit.vredMin (t : Nat) : Unit.Statement (.vredMin t) := UnitRef.present_iff _
theorem Unit.vredArgmax (t : Nat) : Unit.Statement (.vredArgmax t) := UnitRef.present_iff _
theorem Unit.vredArgmin (t : Nat) : Unit.Statement (.vredArgmin t) := UnitRef.present_iff _
theorem Unit.vredIsum (t : Nat) : Unit.Statement (.vredIsum t) := UnitRef.present_iff _
theorem Unit.rngBits (t : Nat) : Unit.Statement (.rngBits t) := UnitRef.present_iff _
theorem Unit.rngUnif (t : Nat) : Unit.Statement (.rngUnif t) := UnitRef.present_iff _
theorem Unit.rngBern (t : Nat) : Unit.Statement (.rngBern t) := UnitRef.present_iff _
theorem Unit.rngGumbel (t : Nat) : Unit.Statement (.rngGumbel t) := UnitRef.present_iff _
theorem Unit.vectorComplete (t : Nat) : Unit.Statement (.vectorComplete t) := UnitRef.present_iff _
theorem Unit.dnop (t : Nat) : Unit.Statement (.dnop t) := UnitRef.present_iff _
theorem Unit.feed (t : Nat) : Unit.Statement (.feed t) := UnitRef.present_iff _
theorem Unit.feedComplete (t id : Nat) : Unit.Statement (.feedComplete t id) := UnitRef.present_iff _
theorem Unit.wrel (t : Nat) : Unit.Statement (.wrel t) := UnitRef.present_iff _
theorem Unit.wrelTakeEffect (t : Nat) : Unit.Statement (.wrelTakeEffect t) := UnitRef.present_iff _
theorem Unit.tileStoreScrub (t word : Nat) : Unit.Statement (.tileStoreScrub t word) := UnitRef.present_iff _
theorem Unit.calderaArrival (gid rank : Nat) (ue : Bool) : Unit.Statement (.calderaArrival gid rank ue) := UnitRef.present_iff _
theorem Unit.barrierRelease (gid : Nat) : Unit.Statement (.barrierRelease gid) := UnitRef.present_iff _
theorem Unit.exchangePhaseEnd (gid : Nat) : Unit.Statement (.exchangePhaseEnd gid) := UnitRef.present_iff _
theorem Unit.barrierWatchdogExpiry (gid : Nat) : Unit.Statement (.barrierWatchdogExpiry gid) := UnitRef.present_iff _
theorem Unit.startGateSet : Unit.Statement (.startGateSet) := UnitRef.present_iff _
theorem Unit.packetSendRead (t e j : Nat) : Unit.Statement (.packetSendRead t e j) := UnitRef.present_iff _
theorem Unit.packetInject (id : Nat) : Unit.Statement (.packetInject id) := UnitRef.present_iff _
theorem Unit.packetRouterPass (id link : Nat) (errs : List PktErr) : Unit.Statement (.packetRouterPass id link errs) := UnitRef.present_iff _
theorem Unit.packetLanding (id : Nat) : Unit.Statement (.packetLanding id) := UnitRef.present_iff _
theorem Unit.scheduleEntryApply (n : Nat) : Unit.Statement (.scheduleEntryApply n) := UnitRef.present_iff _
theorem Unit.promotionComplete (page : Nat) : Unit.Statement (.promotionComplete page) := UnitRef.present_iff _
theorem Unit.writeBackComplete (page : Nat) : Unit.Statement (.writeBackComplete page) := UnitRef.present_iff _
theorem Unit.frameWaitGrant (part : Nat) : Unit.Statement (.frameWaitGrant part) := UnitRef.present_iff _
theorem Unit.basinReadRetry (word : Nat) (ok : Bool) : Unit.Statement (.basinReadRetry word ok) := UnitRef.present_iff _
theorem Unit.messageArrival (id : Nat) : Unit.Statement (.messageArrival id) := UnitRef.present_iff _
theorem Unit.messageAnswer (id : Nat) : Unit.Statement (.messageAnswer id) := UnitRef.present_iff _
theorem Unit.arbiterRequest (p : Nat) (r : Requester) (x : XferReq) : Unit.Statement (.arbiterRequest p r x) := UnitRef.present_iff _
theorem Unit.frameTxEnd (p : Nat) : Unit.Statement (.frameTxEnd p) := UnitRef.present_iff _
theorem Unit.requesterMask (r : Requester) (masked : Bool) : Unit.Statement (.requesterMask r masked) := UnitRef.present_iff _
theorem Unit.directDataFrame (p : Nat) (f : DFrame) : Unit.Statement (.directDataFrame p f) := UnitRef.present_iff _
theorem Unit.lack (p ackseq : Nat) : Unit.Statement (.lack p ackseq) := UnitRef.present_iff _
theorem Unit.lnak (p ackseq : Nat) : Unit.Statement (.lnak p ackseq) := UnitRef.present_iff _
theorem Unit.ethFrame (p : Nat) (f : EFrame) : Unit.Statement (.ethFrame p f) := UnitRef.present_iff _
theorem Unit.portTrained (p : Nat) (ident : Bool) : Unit.Statement (.portTrained p ident) := UnitRef.present_iff _
theorem Unit.laneLockLoss (p lane : Nat) : Unit.Statement (.laneLockLoss p lane) := UnitRef.present_iff _
theorem Unit.fecBurst (p lane : Nat) : Unit.Statement (.fecBurst p lane) := UnitRef.present_iff _
theorem Unit.retrainAttemptTimeout (p : Nat) : Unit.Statement (.retrainAttemptTimeout p) := UnitRef.present_iff _
theorem Unit.directIdentTimeout (p : Nat) : Unit.Statement (.directIdentTimeout p) := UnitRef.present_iff _
theorem Unit.transferRestart (id : Nat) : Unit.Statement (.transferRestart id) := UnitRef.present_iff _
theorem Unit.dataSegment (p dev : Nat) (c : Carriage) (g : Seg) (dst : SegDst) (data : List Byte) (mask : List Bool) : Unit.Statement (.dataSegment p dev c g dst data mask) := UnitRef.present_iff _
theorem Unit.winHandover (dev win : Nat) (g : Seg) : Unit.Statement (.winHandover dev win g) := UnitRef.present_iff _
theorem Unit.messageEgress (e : EgressEv) : Unit.Statement (.messageEgress e) := UnitRef.present_iff _
theorem Unit.reductionBlockRelease (cid blk : Nat) : Unit.Statement (.reductionBlockRelease cid blk) := UnitRef.present_iff _
theorem Unit.srcwinArrival (cid : Nat) : Unit.Statement (.srcwinArrival cid) := UnitRef.present_iff _
theorem Unit.helloOffer (p dev vmaj vmin : Nat) (payload : List Byte) : Unit.Statement (.helloOffer p dev vmaj vmin payload) := UnitRef.present_iff _
theorem Unit.helloAnswer (p dev : Nat) (payload : List Byte) : Unit.Statement (.helloAnswer p dev payload) := UnitRef.present_iff _
theorem Unit.helloConfirm (p dev : Nat) (payload : List Byte) : Unit.Statement (.helloConfirm p dev payload) := UnitRef.present_iff _
theorem Unit.helloPing (dev : Nat) (g : Seg) : Unit.Statement (.helloPing dev g) := UnitRef.present_iff _
theorem Unit.helloPong (dev : Nat) (g : Seg) : Unit.Statement (.helloPong dev g) := UnitRef.present_iff _
theorem Unit.helloClose (dev : Nat) (g : Seg) : Unit.Statement (.helloClose dev g) := UnitRef.present_iff _
theorem Unit.segmentAuthFail (dev : Nat) (why : AuthFail) : Unit.Statement (.segmentAuthFail dev why) := UnitRef.present_iff _
theorem Unit.join (dev vmaj : Nat) (g : Seg) (j : JoinMsg) : Unit.Statement (.join dev vmaj g j) := UnitRef.present_iff _
theorem Unit.leave (dev : Nat) (g : Seg) : Unit.Statement (.leave dev g) := UnitRef.present_iff _
theorem Unit.epoch (dev : Nat) (g : Seg) (m : EpochMsg) : Unit.Statement (.epoch dev g m) := UnitRef.present_iff _
theorem Unit.stepOpen (dev : Nat) (g : Seg) (m : StepOpenMsg) : Unit.Statement (.stepOpen dev g m) := UnitRef.present_iff _
theorem Unit.stepOpenTakeover (dev : Nat) (g : Seg) : Unit.Statement (.stepOpenTakeover dev g) := UnitRef.present_iff _
theorem Unit.contrib (dev : Nat) (g : Seg) (m : ContribMsg) : Unit.Statement (.contrib dev g m) := UnitRef.present_iff _
theorem Unit.contribFwd (dev : Nat) (g : Seg) (m : ContribMsg) : Unit.Statement (.contribFwd dev g m) := UnitRef.present_iff _
theorem Unit.accept (dev : Nat) (g : Seg) (m : AcceptMsg) : Unit.Statement (.accept dev g m) := UnitRef.present_iff _
theorem Unit.reject (dev : Nat) (g : Seg) (m : RejectMsg) : Unit.Statement (.reject dev g m) := UnitRef.present_iff _
theorem Unit.resendXfer (dev : Nat) (g : Seg) (cls xfer att : Nat) : Unit.Statement (.resendXfer dev g cls xfer att) := UnitRef.present_iff _
theorem Unit.resendList (dev : Nat) (g : Seg) : Unit.Statement (.resendList dev g) := UnitRef.present_iff _
theorem Unit.resendEpoch (dev : Nat) (g : Seg) : Unit.Statement (.resendEpoch dev g) := UnitRef.present_iff _
theorem Unit.resendContrib (dev : Nat) (g : Seg) : Unit.Statement (.resendContrib dev g) := UnitRef.present_iff _
theorem Unit.stepCloseFreeze (dev : Nat) (g : Seg) : Unit.Statement (.stepCloseFreeze dev g) := UnitRef.present_iff _
theorem Unit.stepCloseFreezeAck (dev : Nat) (g : Seg) (released : List Nat) : Unit.Statement (.stepCloseFreezeAck dev g released) := UnitRef.present_iff _
theorem Unit.stepCloseFinal (dev : Nat) (g : Seg) (m : FinalMsg) : Unit.Statement (.stepCloseFinal dev g m) := UnitRef.present_iff _
theorem Unit.auditReq (dev : Nat) (g : Seg) (id : ContribId) : Unit.Statement (.auditReq dev g id) := UnitRef.present_iff _
theorem Unit.auditReply (dev : Nat) (g : Seg) (reply : Option ContribMsg) (id : ContribId) : Unit.Statement (.auditReply dev g reply id) := UnitRef.present_iff _
theorem Unit.auditReport (dev : Nat) (g : Seg) (id : ContribId) (status : AuditStatus) (odig : List Byte) : Unit.Statement (.auditReport dev g id status odig) := UnitRef.present_iff _
theorem Unit.tHsExpiry (dev : Nat) : Unit.Statement (.tHsExpiry dev) := UnitRef.present_iff _
theorem Unit.tPingExpiry (dev : Nat) : Unit.Statement (.tPingExpiry dev) := UnitRef.present_iff _
theorem Unit.tSessExpiry (dev : Nat) : Unit.Statement (.tSessExpiry dev) := UnitRef.present_iff _
theorem Unit.tReconExpiry (dev : Nat) : Unit.Statement (.tReconExpiry dev) := UnitRef.present_iff _
theorem Unit.tContribExpiry (part : Nat) : Unit.Statement (.tContribExpiry part) := UnitRef.present_iff _
theorem Unit.tInclExpiry : Unit.Statement (.tInclExpiry) := UnitRef.present_iff _
theorem Unit.tFreezeExpiry : Unit.Statement (.tFreezeExpiry) := UnitRef.present_iff _
theorem Unit.tLeadDeputyExpiry : Unit.Statement (.tLeadDeputyExpiry) := UnitRef.present_iff _
theorem Unit.tLeadStepDown : Unit.Statement (.tLeadStepDown) := UnitRef.present_iff _
theorem Unit.tLeadDeputyLost : Unit.Statement (.tLeadDeputyLost) := UnitRef.present_iff _
theorem Unit.tJoinExpiry : Unit.Statement (.tJoinExpiry) := UnitRef.present_iff _
theorem Unit.tXferExpiry (dev cls xfer : Nat) : Unit.Statement (.tXferExpiry dev cls xfer) := UnitRef.present_iff _
theorem Unit.tWinExpiry (id : Nat) : Unit.Statement (.tWinExpiry id) := UnitRef.present_iff _
theorem Unit.tAuditExpiry : Unit.Statement (.tAuditExpiry) := UnitRef.present_iff _
theorem Unit.sessionLifetimeLimit (dev : Nat) : Unit.Statement (.sessionLifetimeLimit dev) := UnitRef.present_iff _
theorem Unit.sessionDown60s (dev : Nat) : Unit.Statement (.sessionDown60s dev) := UnitRef.present_iff _
theorem Unit.journalBatchWrite : Unit.Statement (.journalBatchWrite) := UnitRef.present_iff _
theorem Unit.journalCompaction : Unit.Statement (.journalCompaction) := UnitRef.present_iff _
theorem Unit.counterShadowPoll : Unit.Statement (.counterShadowPoll) := UnitRef.present_iff _
theorem Unit.heartbeatTick : Unit.Statement (.heartbeatTick) := UnitRef.present_iff _
theorem Unit.winRefusedEvent : Unit.Statement (.winRefusedEvent) := UnitRef.present_iff _
theorem Unit.monitorSample (temps : List Int) (volts : List Nat) (oscs : List Nat) : Unit.Statement (.monitorSample temps volts oscs) := UnitRef.present_iff _
theorem Unit.pacingLevelUpdate : Unit.Statement (.pacingLevelUpdate) := UnitRef.present_iff _
theorem Unit.thermalTrip (sensor : Nat) : Unit.Statement (.thermalTrip sensor) := UnitRef.present_iff _
theorem Unit.voltageExcursion (monitor mv : Nat) (wide : Bool) : Unit.Statement (.voltageExcursion monitor mv wide) := UnitRef.present_iff _
theorem Unit.ringOscillatorCheck (shifts : List Int) : Unit.Statement (.ringOscillatorCheck shifts) := UnitRef.present_iff _
theorem Unit.pldmSensorUpdate : Unit.Statement (.pldmSensorUpdate) := UnitRef.present_iff _
theorem Unit.inputEdgeAccept (i : ExtInput) (level : Bool) : Unit.Statement (.inputEdgeAccept i level) := UnitRef.present_iff _
theorem Unit.inputStuck (i : ExtInput) : Unit.Statement (.inputStuck i) := UnitRef.present_iff _
theorem Unit.ieee1588Lock (p sec ns : Nat) : Unit.Statement (.ieee1588Lock p sec ns) := UnitRef.present_iff _
theorem Unit.errorReport (r : ErrEv) (src : Nat) : Unit.Statement (.errorReport r src) := UnitRef.present_iff _
theorem Unit.summaryForward (gid code : Nat) : Unit.Statement (.summaryForward gid code) := UnitRef.present_iff _
theorem Unit.ledgerEntryCreate : Unit.Statement (.ledgerEntryCreate) := UnitRef.present_iff _
theorem Unit.ledgerEntryHandle : Unit.Statement (.ledgerEntryHandle) := UnitRef.present_iff _
theorem Unit.handlerTimeout : Unit.Statement (.handlerTimeout) := UnitRef.present_iff _
theorem Unit.moduleReset : Unit.Statement (.moduleReset) := UnitRef.present_iff _
theorem Unit.resetNAssert : Unit.Statement (.resetNAssert) := UnitRef.present_iff _
theorem Unit.firmwareVerify : Unit.Statement (.firmwareVerify) := UnitRef.present_iff _
theorem Unit.journalMount : Unit.Statement (.journalMount) := UnitRef.present_iff _
theorem Unit.selfTestComplete (r : SelfTest) : Unit.Statement (.selfTestComplete r) := UnitRef.present_iff _
theorem Unit.repairMapMerge : Unit.Statement (.repairMapMerge) := UnitRef.present_iff _
theorem Unit.aonPowerUp (puf : List Byte) : Unit.Statement (.aonPowerUp puf) := UnitRef.present_iff _
theorem Unit.inputRise39v : Unit.Statement (.inputRise39v) := UnitRef.present_iff _
theorem Unit.inputFall38v : Unit.Statement (.inputFall38v) := UnitRef.present_iff _
theorem Unit.railOutOfLimits : Unit.Statement (.railOutOfLimits) := UnitRef.present_iff _
theorem Unit.cxlFunctionReset : Unit.Statement (.cxlFunctionReset) := UnitRef.present_iff _
theorem Unit.hdmRead (off : Nat) : Unit.Statement (.hdmRead off) := UnitRef.present_iff _
theorem Unit.hdmWrite (off : Nat) (data : List Byte) (poison : Bool) : Unit.Statement (.hdmWrite off data poison) := UnitRef.present_iff _
theorem Unit.cxlIdentifyMemoryDevice : Unit.Statement (.cxlIdentifyMemoryDevice) := UnitRef.present_iff _
theorem Unit.cxlGetSupportedLogs : Unit.Statement (.cxlGetSupportedLogs) := UnitRef.present_iff _
theorem Unit.cxlGetLog : Unit.Statement (.cxlGetLog) := UnitRef.present_iff _
theorem Unit.cxlGetHealthInfo : Unit.Statement (.cxlGetHealthInfo) := UnitRef.present_iff _
theorem Unit.cxlGetEventRecords : Unit.Statement (.cxlGetEventRecords) := UnitRef.present_iff _
theorem Unit.cxlClearEventRecords (n : Nat) : Unit.Statement (.cxlClearEventRecords n) := UnitRef.present_iff _
theorem Unit.cxlUnsupportedOpcode (opcode : Nat) : Unit.Statement (.cxlUnsupportedOpcode opcode) := UnitRef.present_iff _
theorem Unit.unsupportedCommand : Unit.Statement (.unsupportedCommand) := UnitRef.present_iff _
theorem Unit.identify : Unit.Statement (.identify) := UnitRef.present_iff _
theorem Unit.getState : Unit.Statement (.getState) := UnitRef.present_iff _
theorem Unit.getHealth : Unit.Statement (.getHealth) := UnitRef.present_iff _
theorem Unit.getErrledger : Unit.Statement (.getErrledger) := UnitRef.present_iff _
theorem Unit.getCounters : Unit.Statement (.getCounters) := UnitRef.present_iff _
theorem Unit.barPending : Unit.Statement (.barPending) := UnitRef.present_iff _
theorem Unit.imageLoad : Unit.Statement (.imageLoad) := UnitRef.present_iff _
theorem Unit.imageLoadDone : Unit.Statement (.imageLoadDone) := UnitRef.present_iff _
theorem Unit.imageStart : Unit.Statement (.imageStart) := UnitRef.present_iff _
theorem Unit.imageStopSignal : Unit.Statement (.imageStopSignal) := UnitRef.present_iff _
theorem Unit.imageStopHalt : Unit.Statement (.imageStopHalt) := UnitRef.present_iff _
theorem Unit.imageUnload : Unit.Statement (.imageUnload) := UnitRef.present_iff _
theorem Unit.ctxSave : Unit.Statement (.ctxSave) := UnitRef.present_iff _
theorem Unit.ctxRestore : Unit.Statement (.ctxRestore) := UnitRef.present_iff _
theorem Unit.hdmMap : Unit.Statement (.hdmMap) := UnitRef.present_iff _
theorem Unit.winArrive : Unit.Statement (.winArrive) := UnitRef.present_iff _
theorem Unit.winQuery : Unit.Statement (.winQuery) := UnitRef.present_iff _
theorem Unit.partnerAdd : Unit.Statement (.partnerAdd) := UnitRef.present_iff _
theorem Unit.partnerRemove : Unit.Statement (.partnerRemove) := UnitRef.present_iff _
theorem Unit.portCfg : Unit.Statement (.portCfg) := UnitRef.present_iff _
theorem Unit.portStatus : Unit.Statement (.portStatus) := UnitRef.present_iff _
theorem Unit.txpTimers : Unit.Statement (.txpTimers) := UnitRef.present_iff _
theorem Unit.txpStatus : Unit.Statement (.txpStatus) := UnitRef.present_iff _
theorem Unit.forceTakeover : Unit.Statement (.forceTakeover) := UnitRef.present_iff _
theorem Unit.jrnInfo : Unit.Statement (.jrnInfo) := UnitRef.present_iff _
theorem Unit.jrnRead : Unit.Statement (.jrnRead) := UnitRef.present_iff _
theorem Unit.jrnAckClose : Unit.Statement (.jrnAckClose) := UnitRef.present_iff _
theorem Unit.getIdentity : Unit.Statement (.getIdentity) := UnitRef.present_iff _
theorem Unit.attestQuote : Unit.Statement (.attestQuote) := UnitRef.present_iff _
theorem Unit.fwWrite : Unit.Statement (.fwWrite) := UnitRef.present_iff _
theorem Unit.fwCommit : Unit.Statement (.fwCommit) := UnitRef.present_iff _
theorem Unit.fwCommitDone : Unit.Statement (.fwCommitDone) := UnitRef.present_iff _
theorem Unit.debugOpen : Unit.Statement (.debugOpen) := UnitRef.present_iff _
theorem Unit.debugClose : Unit.Statement (.debugClose) := UnitRef.present_iff _
theorem Unit.syncfSet : Unit.Statement (.syncfSet) := UnitRef.present_iff _
theorem Unit.syncfRead : Unit.Statement (.syncfRead) := UnitRef.present_iff _
theorem Unit.tregRead : Unit.Statement (.tregRead) := UnitRef.present_iff _
theorem Unit.tstoreRead : Unit.Statement (.tstoreRead) := UnitRef.present_iff _
theorem Unit.mailboxWriteWhileBusy (off : Nat) (v : Word) : Unit.Statement (.mailboxWriteWhileBusy off v) := UnitRef.present_iff _
theorem Unit.evqHeadWrite (v : Word) : Unit.Statement (.evqHeadWrite v) := UnitRef.present_iff _
theorem Unit.portnCfgWriteDisable (p : Nat) (v : Word) : Unit.Statement (.portnCfgWriteDisable p v) := UnitRef.present_iff _
theorem Unit.portnCfgWriteEnable (p : Nat) (v : Word) : Unit.Statement (.portnCfgWriteEnable p v) := UnitRef.present_iff _
theorem Unit.rcCounterRead (c : CntReg) : Unit.Statement (.rcCounterRead c) := UnitRef.present_iff _
theorem Unit.latchedLowWordRead (c : LatchReg) (high : Bool) : Unit.Statement (.latchedLowWordRead c high) := UnitRef.present_iff _
theorem Unit.msgNackRead (t : Nat) : Unit.Statement (.msgNackRead t) := UnitRef.present_iff _
theorem Unit.tsqEntryRead (p word : Nat) : Unit.Statement (.tsqEntryRead p word) := UnitRef.present_iff _
theorem Unit.registerWrite (r : WReg) (v : Word) : Unit.Statement (.registerWrite r v) := UnitRef.present_iff _
theorem Unit.jtagBypass (tdi : Bool) : Unit.Statement (.jtagBypass tdi) := UnitRef.present_iff _
theorem Unit.jtagIdcode : Unit.Statement (.jtagIdcode) := UnitRef.present_iff _
theorem Unit.jtagSamplePreload (pins preload : List Bool) : Unit.Statement (.jtagSamplePreload pins preload) := UnitRef.present_iff _
theorem Unit.jtagExtest (tdi : Bool) : Unit.Statement (.jtagExtest tdi) := UnitRef.present_iff _
theorem Unit.jtagRegisterRead (t off : Nat) (tdi : Bool) : Unit.Statement (.jtagRegisterRead t off tdi) := UnitRef.present_iff _
theorem Unit.jtagSyncfSet (t flag value : Nat) (tdi : Bool) : Unit.Statement (.jtagSyncfSet t flag value tdi) := UnitRef.present_iff _
theorem Unit.trstNReset (low : Bool) : Unit.Statement (.trstNReset low) := UnitRef.present_iff _
theorem Unit.mctpControlMessage (cmd : Nat) (data : List Byte) : Unit.Statement (.mctpControlMessage cmd data) := UnitRef.present_iff _
theorem Unit.pldmRequest (r : PldmReq) : Unit.Statement (.pldmRequest r) := UnitRef.present_iff _
theorem Unit.smbusArp (addr : Nat) : Unit.Statement (.smbusArp addr) := UnitRef.present_iff _
theorem Unit.alwaysOnPowerLoss : Unit.Statement (.alwaysOnPowerLoss) := UnitRef.present_iff _
theorem Unit.syncOutPulse : Unit.Statement (.syncOutPulse) := UnitRef.present_iff _
theorem Unit.hostLinkTraining (e : LinkEv) (speed : Nat) : Unit.Statement (.hostLinkTraining e speed) := UnitRef.present_iff _
theorem Unit.pllLock (r : PllEnd) : Unit.Statement (.pllLock r) := UnitRef.present_iff _
theorem Unit.freshJoin : Unit.Statement (.freshJoin) := UnitRef.present_iff _

end Sys2Proof.Laws
end

