-- ==== Sys2Proof/Laws/Tile.lean ====
section
/-!
SUPPORT. What the shared operations on one tile do, each said once: registers, counters, reports, reads and writes of the tile store,
issue, retirement, stopping.
-/
namespace Sys2Proof.Machine

theorem Tile.reg_setReg (x : Tile) (n m : Nat) (v : Word) (pz : Bool) :
    (x.setReg n v pz).reg m = if m = n ∧ m ≠ 0 then v else x.reg m := by
  unfold Tile.setReg Tile.reg
  by_cases hm : m = 0
  · by_cases hn : n = 0 <;> simp [hm, hn]
  · by_cases hn : n = 0
    · subst hn; simp [hm]
    · simp [hn, hm, Sparse.get_set]

theorem Tile.regPz_setReg (x : Tile) (n m : Nat) (v : Word) (pz : Bool) :
    (x.setReg n v pz).regPz m = if m = n ∧ m ≠ 0 then pz else x.regPz m := by
  unfold Tile.setReg Tile.regPz
  by_cases hm : m = 0
  · by_cases hn : n = 0 <;> simp [hm, hn]
  · by_cases hn : n = 0
    · subst hn; simp [hm]
    · simp [hn, hm, Sparse.get_set]

theorem Tile.ready_setReady (x : Tile) (n m c : Nat) (hm : m ≠ 0) :
    Sparse.get 0 (x.setReady n c).ready m = if m = n then c else Sparse.get 0 x.ready m := by
  unfold Tile.setReady
  split
  · subst n; simp [hm]
  · simp [Sparse.get_set]

/-- A register write changes the registers and their poison, nothing else. -/
theorem Tile.setReg_frame (x : Tile) (n : Nat) (v : Word) (pz : Bool) :
    x.setReg n v pz = { x with regs := (x.setReg n v pz).regs, rpz := (x.setReg n v pz).rpz } := by
  unfold Tile.setReg; split <;> rfl

theorem Tile.setReady_frame (x : Tile) (n c : Nat) : x.setReady n c = { x with ready := (x.setReady n c).ready } := by
  unfold Tile.setReady; split <;> rfl

@[simp] theorem Tile.setReg_ready (x : Tile) (n : Nat) (v : Word) (pz : Bool) : (x.setReg n v pz).ready = x.ready := by
  unfold Tile.setReg; split <;> rfl
@[simp] theorem Tile.setReg_pc (x : Tile) (n : Nat) (v : Word) (pz : Bool) : (x.setReg n v pz).pc = x.pc := by
  unfold Tile.setReg; split <;> rfl
@[simp] theorem Tile.setReg_st (x : Tile) (n : Nat) (v : Word) (pz : Bool) : (x.setReg n v pz).st = x.st := by
  unfold Tile.setReg; split <;> rfl
@[simp] theorem Tile.setReg_store (x : Tile) (n : Nat) (v : Word) (pz : Bool) : (x.setReg n v pz).store = x.store := by
  unfold Tile.setReg; split <;> rfl
@[simp] theorem Tile.setReg_fpflags (x : Tile) (n : Nat) (v : Word) (pz : Bool) : (x.setReg n v pz).fpflags = x.fpflags := by
  unfold Tile.setReg; split <;> rfl
@[simp] theorem Tile.setReady_regs (x : Tile) (n c : Nat) : (x.setReady n c).regs = x.regs := by
  unfold Tile.setReady; split <;> rfl
@[simp] theorem Tile.setReady_rpz (x : Tile) (n c : Nat) : (x.setReady n c).rpz = x.rpz := by
  unfold Tile.setReady; split <;> rfl
@[simp] theorem Tile.setReady_reg (x : Tile) (n c m : Nat) : (x.setReady n c).reg m = x.reg m := by simp [Tile.reg]
@[simp] theorem Tile.setReady_regPz (x : Tile) (n c m : Nat) : (x.setReady n c).regPz m = x.regPz m := by simp [Tile.regPz]
@[simp] theorem Tile.setReady_pc (x : Tile) (n c : Nat) : (x.setReady n c).pc = x.pc := by unfold Tile.setReady; split <;> rfl
@[simp] theorem Tile.setReady_st (x : Tile) (n c : Nat) : (x.setReady n c).st = x.st := by unfold Tile.setReady; split <;> rfl
@[simp] theorem Tile.setReady_store (x : Tile) (n c : Nat) : (x.setReady n c).store = x.store := by
  unfold Tile.setReady; split <;> rfl
@[simp] theorem Tile.setReady_fpflags (x : Tile) (n c : Nat) : (x.setReady n c).fpflags = x.fpflags := by
  unfold Tile.setReady; split <;> rfl
@[simp] theorem Tile.advance_reg (x : Tile) (cc m : Nat) : (x.advance cc).reg m = x.reg m := rfl
@[simp] theorem Tile.advance_regPz (x : Tile) (cc m : Nat) : (x.advance cc).regPz m = x.regPz m := rfl
@[simp] theorem Tile.advance_store (x : Tile) (cc : Nat) : (x.advance cc).store = x.store := rfl
@[simp] theorem Tile.advance_st (x : Tile) (cc : Nat) : (x.advance cc).st = x.st := rfl
@[simp] theorem Tile.jump_st (x : Tile) (cc : Nat) (v : Word) : (x.jump cc v).st = x.st := rfl
@[simp] theorem Tile.addFp_reg (x : Tile) (fl : Flg) (pz : Bool) (m : Nat) : (x.addFp fl pz).reg m = x.reg m := rfl
@[simp] theorem Tile.addFp_regPz (x : Tile) (fl : Flg) (pz : Bool) (m : Nat) : (x.addFp fl pz).regPz m = x.regPz m := rfl
@[simp] theorem Tile.addFp_st (x : Tile) (fl : Flg) (pz : Bool) : (x.addFp fl pz).st = x.st := rfl
@[simp] theorem Tile.addFp_store (x : Tile) (fl : Flg) (pz : Bool) : (x.addFp fl pz).store = x.store := rfl

/-- A write of s[rd] with its readiness. -/
theorem Tile.wrote_setReg (x : Tile) (rd c : Nat) (v : Word) (pz : Bool) :
    x.Wrote ((x.setReg rd v pz).setReady rd c) rd v pz c := by
  intro n
  refine ⟨?_, ?_, fun h => ?_⟩
  · simp [Tile.reg_setReg]
  · simp [Tile.regPz_setReg]
  · rw [Tile.ready_setReady _ _ _ _ h, Tile.setReg_ready]

/-- Retirement says all that an instruction with one result does. -/
theorem Tile.retired_retire (y : Tile) (cc rd lat : Nat) (v : Word) (pz : Bool) (fl : BitVec 5) :
    y.Retired (({ y with fpflags := y.fpflags ||| fl } : Tile).retire cc rd v pz lat) cc rd lat v pz fl := by
  refine ⟨?_, ?_, rfl, ?_, ?_⟩
  · intro n; exact Tile.wrote_setReg { y with fpflags := y.fpflags ||| fl } rd (cc + lat) v pz n
  · simp [Tile.retire, Tile.advance]
  · simp [Tile.retire, Tile.advance]
  · unfold Tile.retire Tile.advance
    generalize hw : ({ y with fpflags := y.fpflags ||| fl } : Tile) = w
    have h1 := Tile.setReady_frame (w.setReg rd v pz) rd (cc + lat)
    have h2 := Tile.setReg_frame w rd v pz
    rw [h1, h2]
    subst hw
    rfl

theorem Tile.retire_st (x : Tile) (cc rd lat : Nat) (v : Word) (pz : Bool) : (x.retire cc rd v pz lat).st = x.st := by
  simp [Tile.retire]

theorem Tile.retire_store (x : Tile) (cc rd lat : Nat) (v : Word) (pz : Bool) : (x.retire cc rd v pz lat).store = x.store := by
  simp [Tile.retire]

/-- A check of a word changes check bits, error counts and reports, and what `mark` changes. -/
theorem Tile.checkWord_frame (x : Tile) (w : Nat) :
    x.checkWord w = { x with ecc := (x.checkWord w).ecc, spz := (x.checkWord w).spz, cnt := (x.checkWord w).cnt,
                             reports := (x.checkWord w).reports } := by
  unfold Tile.checkWord Tile.check
  split <;> rfl

theorem Tile.touchWord_frame (x : Tile) (w : Nat) :
    x.touchWord w = { x with ecc := (x.touchWord w).ecc, spz := (x.touchWord w).spz, cnt := (x.touchWord w).cnt,
                             reports := (x.touchWord w).reports } := by
  unfold Tile.touchWord
  simp only
  split
  · rw [Tile.checkWord_frame]; rfl
  · exact Tile.checkWord_frame x w

theorem Tile.foldl_touchWord_frame (ws : List Nat) (x : Tile) :
    let z := ws.foldl Tile.touchWord x
    z = { x with ecc := z.ecc, spz := z.spz, cnt := z.cnt, reports := z.reports } := by
  induction ws generalizing x with
  | nil => rfl
  | cons w ws ih =>
    simp only [List.foldl_cons]
    have h1 := ih (x.touchWord w)
    have h2 := Tile.touchWord_frame x w
    simp only at h1
    rw [h1, h2]

/-- A read of the tile store changes check bits, poison, error counts and reports only. -/
theorem Tile.touch_frame (x : Tile) (a n : Nat) :
    x.touch a n = { x with ecc := (x.touch a n).ecc, spz := (x.touch a n).spz, cnt := (x.touch a n).cnt,
                           reports := (x.touch a n).reports } :=
  Tile.foldl_touchWord_frame (wordsOf a n) x

@[simp] theorem Tile.touch_store (x : Tile) (a n : Nat) : (x.touch a n).store = x.store := by rw [Tile.touch_frame]
@[simp] theorem Tile.touch_st (x : Tile) (a n : Nat) : (x.touch a n).st = x.st := by rw [Tile.touch_frame]
@[simp] theorem Tile.touch_pc (x : Tile) (a n : Nat) : (x.touch a n).pc = x.pc := by rw [Tile.touch_frame]
@[simp] theorem Tile.touch_regs (x : Tile) (a n : Nat) : (x.touch a n).regs = x.regs := by rw [Tile.touch_frame]
@[simp] theorem Tile.touch_rpz (x : Tile) (a n : Nat) : (x.touch a n).rpz = x.rpz := by rw [Tile.touch_frame]

/-- A fetch that delivers a word is a read of it. -/
theorem Tile.fetch_some {x y : Tile} {w : Nat} (h : x.fetch = (y, some w)) : y = x.touch x.pc.toNat 4 := by
  unfold Tile.fetch at h
  split at h
  · simp at h
  · simp only at h
    split at h
    · simp at h
    · simp only [Prod.mk.injEq] at h; exact h.1.symm

theorem Tile.fetch_frame {x y : Tile} {w : Nat} (h : x.fetch = (y, some w)) :
    y = { x with ecc := y.ecc, spz := y.spz, cnt := y.cnt, reports := y.reports } := by
  rw [Tile.fetch_some h]; exact Tile.touch_frame x _ _

theorem Tile.fetch_st {x y : Tile} {w : Nat} (h : x.fetch = (y, some w)) : y.st = x.st := by
  rw [Tile.fetch_some h]; simp
theorem Tile.fetch_store {x y : Tile} {w : Nat} (h : x.fetch = (y, some w)) : y.store = x.store := by
  rw [Tile.fetch_some h]; simp

/-- A request for a bank changes the requests only (R62). -/
theorem Tile.ask_frame (x : Tile) (u : BankUser) (need : List BankNeed) (regs : List Nat) :
    x.ask u need regs = { x with banks := (x.ask u need regs).banks } := by
  unfold Tile.ask; split <;> rfl
@[simp] theorem Tile.ask_st (x : Tile) (u : BankUser) (need : List BankNeed) (regs : List Nat) : (x.ask u need regs).st = x.st := by
  rw [Tile.ask_frame]
@[simp] theorem Tile.ask_store (x : Tile) (u : BankUser) (need : List BankNeed) (regs : List Nat) :
    (x.ask u need regs).store = x.store := by rw [Tile.ask_frame]
@[simp] theorem Tile.ask_pc (x : Tile) (u : BankUser) (need : List BankNeed) (regs : List Nat) : (x.ask u need regs).pc = x.pc := by
  rw [Tile.ask_frame]
@[simp] theorem Tile.ask_reg (x : Tile) (u : BankUser) (need : List BankNeed) (regs : List Nat) (m : Nat) :
    (x.ask u need regs).reg m = x.reg m := by rw [Tile.ask_frame]; rfl
@[simp] theorem Tile.ask_regPz (x : Tile) (u : BankUser) (need : List BankNeed) (regs : List Nat) (m : Nat) :
    (x.ask u need regs).regPz m = x.regPz m := by rw [Tile.ask_frame]; rfl

/-- The tile after the fetch of an instruction that issues: it has read its word and asked for its bank (R59, R62). -/
theorem State.Issues.fetched_st {s : State} {t word : Nat} {srcs : List Nat} {y : Tile} (h : s.Issues t word srcs y) :
    y.st = (s.tile t).st := by
  obtain ⟨-, -, -, -, h4, rfl, -, -⟩ := h
  have h5 : (s.tile t).fetch = ((s.tile t).fetch.1, some word) := by rw [← h4]
  rw [Tile.ask_st]
  exact Tile.fetch_st h5

/-- An instruction that issues has its effect. -/
theorem Tile.issue_eq {x : Tile} {cc word : Nat} {srcs : List Nat} (f : Tile → Tile) (h1 : x.st = .run)
    (h2 : x.sleep = .none) (h3 : x.issueAt ≤ cc) (h4 : x.fetch.2 = some word) (h5 : definedWord word = true)
    (h6 : x.srcReady cc srcs = true) :
    x.issue cc word srcs f = f (x.fetch.1.ask .fetch [⟨banksOf x.pc.toNat 4, false⟩] (destsOf word)) := by
  have h7 : x.fetch = (x.fetch.1, some word) := by rw [← h4]
  unfold Tile.issue Tile.issueWhen
  rw [if_neg (by simp [h1, h2, h3]), h7]
  simp [h5, h6]

theorem State.afterTile_same (s : State) (t : Nat) (z : Tile) (h : z.st = (s.tile t).st) : s.afterTile t z = s.setTile t z := by
  unfold State.afterTile; rw [if_pos h]

/-- A scalar command that issues and leaves the tile's state of running as it is writes the tile. -/
theorem onTile_issues {s : State} {t word : Nat} {srcs : List Nat} {y : Tile} (h : s.Issues t word srcs y) (f : Tile → Tile) :
    onTile t s (fun x => x.issue s.cc word srcs f) = .next (s.afterTile t (f y)) := by
  obtain ⟨h0, h1, h2, h3, h4, h5, h6, h7⟩ := h
  unfold onTile
  rw [if_pos h0]; simp only [Tile.issue_eq f h1 h2 h3 h4 h6 h7, ← h5]

theorem onTile_issues_set {s : State} {t word : Nat} {srcs : List Nat} {y : Tile} (h : s.Issues t word srcs y) (f : Tile → Tile)
    (hf : (f y).st = y.st) : onTile t s (fun x => x.issue s.cc word srcs f) = .next (s.setTile t (f y)) := by
  rw [onTile_issues h, State.afterTile_same]
  rw [hf, State.Issues.fetched_st h]

end Sys2Proof.Machine
end

