-- ==== Sys2Proof/Tests/Build.lean ====
section
/-!
SUPPORT. Small states from which the tests and the witnesses are built.
-/
namespace Sys2Proof.Tests
open Sys2Proof.Machine

/-- A state that holds tile `x` as tile 0, and nothing else beyond reset. -/
def one (x : Tile) : State := { State.reset with tiles := [(0, x)] }

/-- A tile store whose first four bytes are the word `w`. -/
def code (w : Nat) : Sparse Byte := Sparse.setRun 0 [] 0 (leBytes 4 w)

/-- A running tile whose program counter stands at the instruction word `w`, with these registers. -/
def core (w : Nat) (regs : Sparse Word) : Tile :=
  { Tile.reset with
    st := .run
    codelim := 64
    regs := regs
    store := code w }

/-- Registers 1 to 6 with unlike values. -/
def some6 : Sparse Word := [(1, 0x80000000), (2, 0xFFFFFFFD), (3, 35), (4, 64), (5, 0x3F800000), (6, 0xC0400000)]

/-- The tile after the fetch of `w`. -/
def past (x : Tile) (w : Nat) : Tile := x.fetch.1.ask .fetch [⟨banksOf x.pc.toNat 4, false⟩] (destsOf w)

/-- Tile 0 issues `w` in the state that holds it. -/
abbrev issues (x : Tile) (w : Nat) (srcs : List Nat) : Prop := (one x).Issues 0 w srcs (past x w)

/-- The word of a handle (Table 3-10): VALID, WP, LAYOUT, FMT, LEN and BASE in 64-byte lines. -/
def hword (wp : Bool) (layout fmt len base : Nat) : Dword :=
  BitVec.ofNat 64 (at' 1 63 + at' (b2n wp) 62 + at' layout 60 + at' fmt 56 + at' len 13 + base)

/-- The head of a queue: the instruction `w`, enqueued at address 0x100. -/
def head (w : Nat) (granted : Bool) : QEnt := ⟨BitVec.ofNat 64 w, 1, granted⟩

/-- An engine instruction without flags (Table 3-7): OPC and its low 44 bits. -/
def engW (opc low : Nat) : Nat := at' opc 56 + at' 0x3F 50 + at' 0x3F 44 + low

end Sys2Proof.Tests
end

