-- ==== Sys2Proof/Tests/WitnessFabric.lean ====
section
/-!
SUPPORT. Witnesses for the statements about pages and read errors, exchange packets, ports, collectives and message egress.
-/
namespace Sys2Proof.Tests
open Sys2Proof.Machine

set_option Elab.async false

/-! PagesAndReadErrors: every error state of a word, in Basin and in Terrace; then pages in each state of Table 9-2. -/
theorem wit_scrub : (49151 : Nat) < 49152 ∧ ∀ e ∈ [Ecc.ok, .ce, .ue],
    Sparse.get Ecc.ok ({ Tile.reset with ecc := [(49151, e)] } : Tile).ecc 49151 = e ∧ Tile.reset.claimed (bankOf (8 * 49151)) = false ∧
    (Tile.reset.ask .access [⟨banksOf (8 * 49151) 8, false⟩] []).claimed (bankOf (8 * 49151)) = true := by decide
def page (st : PageSt) (pins : List Nat) (keep evpend : Bool) : Page := ⟨st, pins, keep, evpend, 0, 0, 0, none⟩
def paged (p : Page) (fired : List (Nat × SchedEnt × Nat)) : State :=
  { State.reset with mig := { Mig.reset with pages := [(3, p)], fired := fired } }
def faulty (st : PageSt) (e : Ecc) : State :=
  { paged (page st [] false false) [] with mem := { Mem.reset with ecc := [(24576, e)] } }
theorem wit_retry : ∀ e ∈ [Ecc.ue, .ue1, .path, .path1],
    Sparse.get Ecc.ok (faulty .home e).mem.ecc 24576 = e ∧ (faulty .home e).inTerrace 24576 = false ∧
    (faulty .resident e).inTerrace 24576 = true := by decide
def entry (act : Nat) (keep : Bool) : SchedEnt := ⟨0, 3, 1, act, 0, 5, keep⟩
def pins15 : List Nat := (List.range 15).map (100 + ·)
theorem wit_promote : (paged (page .home [] false false) [(0, entry 1 true, 0)]).mig.fired = (0, entry 1 true, 0) :: [] ∧
    (paged (page .home [] false false) []).page 3 = page .home [] false false ∧
    (5 : Nat) ∉ (page .home [] false false).pins ∧ (paged (page .home [] false false) []).waitList 0 = [] ∧
    (paged (page .home [] false false) []).partOf 0 3 = 0 := by decide
theorem wit_frame : (paged (page .home [] false false) []).freeFrame 0 = some 0 := by decide +kernel
theorem wit_pins : (5 : Nat) ∉ (page .dirty [7] true false).pins ∧ (page .dirty [7] true false).pins.length < 15 ∧
    (5 : Nat) ∉ pins15 ∧ 15 ≤ pins15.length ∧ (entry 1 false).sid ≠ 0xFFF := by decide
theorem wit_unpin : ((paged (page .resident [5] true true) [(0, entry 2 false, 0)]).page 3).pins = [5] ∧
    (page .dirty [5] false false).keep = false ∧ (page .resident [5] true true).evpend = true ∧ (5 : Nat) ∉ (page .dirty [7] true false).pins := by
  decide
theorem wit_evict : ((paged (page .promoting [] false false) [(0, entry 3 false, 0)]).page 3).st = .promoting := by decide
theorem wit_pageEnds : ((paged (page .promoting [5] false false) []).page 3).pins ≠ [] ∧ ((paged (page .promoting [] true false) []).page 3).keep = true ∧
    ((paged (page .promoting [] false false) []).page 3).keep = false ∧ ((paged (page .evicting [] false false) []).page 3).st = .evicting ∧
    ((paged (page .evicting [] false false) []).page 3).queued = none := by decide
def heldInReset : State := { State.reset with vent := { Vent.reset with startup := { State.reset.vent.startup with held := true } } }
theorem wit_held : heldInReset.vent.startup.held = true ∧ (faulty .home .ue).vent.startup.held = false ∧
    (paged (page .home [] false false) [(0, entry 1 true, 0)]).vent.startup.held = false := by decide
def waiting3 : State := { State.reset with mig := { Mig.reset with waits := [(95, [3, 4])] } }
theorem wit_waits : waiting3.waitList 95 = 3 :: [4] := by decide
theorem wit_waits2 : waiting3.freeFrame 95 = some 0 := by decide +kernel

/-! ExchangePackets: tile 0 sends two packets by entry 0 of program 7 to the tile at (3, 0). -/
def sendEnt : Nat := at' 0 112 + at' 1 104 + at' 1 96 + at' 0 81 + at' 0 74 + at' 1 64 + at' 1 58 + at' 4 43 + at' 1 39 + at' 0 34 + at' 1 32
def sending : State := { State.reset with
  cc := 1
  tiles := [(0, { Tile.reset with hnd := [(1, hword false 0 9 1 16)], xdir := [(7, BitVec.ofNat 64 (at' 5 36 + at' 1 10))], xent := [(0, sendEnt)] })]
  cal := { Caldera.reset with phases := [⟨0x5000, 7, 0, 40, []⟩] } }
theorem wit_send_packet : sending.phaseOf 0 = some ⟨0x5000, 7, 0, 40, []⟩ ∧ dirFirst ((sending.tile 0).dirEnt 7) ≤ 0 ∧
    0 < dirFirst ((sending.tile 0).dirEnt 7) + dirCount ((sending.tile 0).dirEnt 7) ∧
    1 < seN (Sparse.get 0 (sending.tile 0).xent 0) ∧ 0 + seT (Sparse.get 0 (sending.tile 0).xent 0) + 1 ≤ sending.cc ∧
    seDst sending.skipRow sending.rows (Sparse.get 0 (sending.tile 0).xent 0) = some 3 := by decide +kernel
def packet (st : PktSt) (path : List Hop) : Packet := ⟨4, 0, 3, 1024, 1, 12, 2, 0, 0, st, path, none, 1, 2, false, true⟩
def carrying (cc : Nat) (p : Packet) : State := { State.reset with cc := cc, mesh := { Mesh.reset with pkts := [p] } }
def hops : List Hop := [⟨0, 0, 1, 5⟩, ⟨1, 0, 3, 6⟩]
theorem wit_packet : (∀ st ∈ [PktSt.sendBuf, .onTrack, .landingBuf],
      (carrying 4 (packet st hops)).mesh.pkt 4 = some (packet st hops)) ∧
    hops.map (·.cyc) = [5, 6] ∧
    1 + 1 + 2 ≤ (carrying 4 (packet .sendBuf [])).cc ∧ (carrying 3 (packet .sendBuf [])).cc < 1 + 1 + 2 ∧
    (carrying 12 (packet .landingBuf [])).cc < 1 + 12 ∧ 1 + 12 ≤ (carrying 13 (packet .landingBuf [])).cc ∧ (1024 : Nat) % 8 = 0 := by decide

/-- The first router of the path in the cycle before its own and in its own, by its own link (0) and by another. -/
theorem wit_pass : (carrying 4 (packet .onTrack hops)).mesh.pkt 4 = some (packet .onTrack hops) ∧
    (packet .onTrack hops).path = ⟨0, 0, 1, 5⟩ :: [⟨1, 0, 3, 6⟩] ∧ (carrying 4 (packet .onTrack hops)).cc < 5 ∧ (2 : Nat) ≠ 1 ∧
    5 ≤ (carrying 5 (packet .onTrack hops)).cc ∧ (carrying 5 (packet .onTrack hops)).mesh.errOvf = false ∧
    (carrying 5 (packet .onTrack hops)).mesh.errHdrUe = false ∧ (carrying 5 (packet .onTrack hops)).mesh.errDataUe = false := by decide
/-- A packet that has not been read yet: cycle T + j + 1 of the phase has not come. -/
theorem wit_early : ({ sending with cal := { Caldera.reset with phases := [⟨0x5000, 7, 9, 40, []⟩] } } : State).cc <
    (⟨0x5000, 7, 9, 40, []⟩ : Phase).start + seT (Sparse.get 0 (sending.tile 0).xent 0) + 0 ∧ ((0, 0, 0) : Nat × Nat × Nat) ∉ (⟨0x5000, 7, 0, 40, []⟩ : Phase).sent := by
  decide +kernel

/-! ArbiterGrantsAndFrames. -/
def req (n : Nat) (lock : Bool) : XferReq := ⟨9, 1, 0, lock, false, none, msgHead 0 2 0, none, List.replicate n 7, []⟩
def grant (r : Requester) (n sent att : Nat) (lock : Bool) : Grant := ⟨r, req n lock, att, sent, 0, 0, 0, ⟨0, 0, 0⟩, false, false, 77, none⟩
def ported (x : Port) : State := { State.reset with cc := 5, ports := [(11, x)] }
def upPort (mode : Nat) : Port := { Port.reset with st := .up, cfg := BitVec.ofNat 32 mode }
/-- A segment at MAXPAY of 512 bytes: one, two, sixteen, seventeen of them. -/
theorem wit_request : reqAllowed .msg 512 (req 512 false) = true ∧ reqAllowed .msg 512 (req 513 false) = false ∧
    reqSegs (req 8192 true) 512 = 16 ∧ reqAllowed .coll 512 (req 8192 true) = true ∧ reqAllowed .coll 512 (req 8193 true) = false ∧
    reqAllowed .plume 512 (req 64 true) = false ∧ (ported (upPort 1)).masks = [] ∧
    ((ported (upPort 1)).port 11).holder = none ∧
    ((ported { upPort 1 with holder := some (grant .plume 2049 1 0 false) }).port 11).holder = some (grant .plume 2049 1 0 false) ∧
    (ported { upPort 1 with holder := some { grant .plume 2049 0 0 false with gat := 5 } }).cc = 5 := by decide +kernel
def session9 (st : SessSt) (num : Nat) : State → State := fun s =>
  { s with txp := { s.txp with sessions := [(9, { Session.closed with st := st, num := num, rxMax := 3 })] } }
def holding (n sent att : Nat) (lock : Bool) (pend : List Grant) : Port :=
  { upPort 2 with holder := some (grant .plume n sent att lock), pend := pend }
theorem wit_frame_end : ((ported (holding 64 0 0 false [])).port 11).replayFull = false ∧
    ({ upPort 1 with replay := List.replicate 64 (0, 0, []) } : Port).replayFull = true ∧
    (grant .plume 64 0 0 false).clear = false ∧ (session9 .closed 77 (ported (upPort 2))).carrier (grant .plume 64 0 0 false) = none ∧
    ((session9 .up 77 (ported (upPort 2))).carrier (grant .plume 64 0 0 false)).isSome = true ∧
    ((session9 .up 77 (ported (upPort 2))).sess 9).num = (grant .plume 64 0 0 false).sess ∧
    reqSegs (req 64 false) 2048 ≤ 0 + 1 ∧ 0 + 1 < reqSegs (req 2049 false) 2048 ∧ reqRank .plume < reqRank .mgmt ∧
    ({ grant .mgmt 64 0 0 false with x := { req 64 false with head := msgHead 0x01 0 0 }, sess := 0 } : Grant).clear = true := by decide +kernel
/-- A holder granted in this cycle that has sent nothing, one granted earlier, one that has sent; the limits of the session at their edge. -/
theorem wit_rivals : ({ grant .plume 2049 0 0 false with gat := 5 } : Grant).gat = (ported (upPort 1)).cc ∧
    (grant .plume 2049 0 0 false).gat ≠ (ported (upPort 1)).cc ∧ (grant .plume 2049 1 0 false).sent ≠ 0 ∧
    (session9 .up 77 (ported (upPort 2))).txp.old = [] ∧ ((session9 .up 77 (ported (upPort 2))).sess 9).txSeq + 1 < 2 ^ 34 ∧
    (session9 .up 77 (ported (upPort 2))).now < ((session9 .up 77 (ported (upPort 2))).sess 9).stAt + 86400 * nsPerSec ∧
    (session9 .closed 77 (ported (upPort 2))).txp.old = [] ∧ ((session9 .closed 77 (ported (upPort 2))).sess 9).st ≠ .up ∧
    (ported (upPort 1)).vent.startup.held = false ∧ heldInReset.vent.startup.held = true := by decide +kernel
/-- A message cuts in on a plume transfer of two segments at its 15th attempt and at its 16th. -/
def cutIn (att : Nat) : State := session9 .up 77 (ported (holding 2049 0 att false [grant .msg 64 0 0 false]))
theorem wit_preempt : ∀ a ∈ [14, 15], ((cutIn a).port 11).holder = some (grant .plume 2049 0 a false) ∧
    ((cutIn a).carrier (grant .plume 2049 0 a false)).isSome = true ∧ (grant .plume 2049 0 a false).dead = false ∧
    (grant .plume 2049 0 a false).sent + 1 < reqSegs (grant .plume 2049 0 a false).x ((cutIn a).port 11).maxpay ∧
    reqRank .plume < reqRank .msg ∧ (grant .msg 64 0 0 false) ∈ ((cutIn a).port 11).pend ∧ Requester.plume ≠ .mgmt := by decide +kernel
theorem wit_masked_pend : ((cutIn 0).port 11).pend = [grant .msg 64 0 0 false] ∧ (grant .msg 64 0 0 false).r = .msg ∧
    ((cutIn 0).port 11).replayFull = false ∧ (cutIn 0).vent.startup.held = false := by decide
theorem wit_mask : ((ported (holding 64 0 0 false [])).port 11).holder = some (grant .plume 64 0 0 false) ∧
    (grant .plume 64 0 0 false).r ≠ .coll := by decide

/-! LinkAndEthFrames: a frame of 64 zero bytes behind a carriage header, with its own CRC-32 and with another. -/
def carriage : Carriage := ⟨1, 1, false, false, true, 0, 0, 0⟩
def bodyOf (c : Carriage) : List Byte := carriageBytes c ++ List.replicate 56 0
def dframe (ftype lseq : Nat) (c : Carriage) : DFrame :=
  ⟨linkHeader ftype lseq 7 64, bodyOf c, crc32 (beBytes 8 (linkHeader ftype lseq 7 64) ++ bodyOf c), 3, 0⟩
def direct (rxSeq : Nat) (replay : List (Nat × Nat × List Byte)) : State := ported { upPort 1 with rxSeq := rxSeq, replay := replay }
abbrev frameFits (f : DFrame) : Prop := crc32 (beBytes 8 f.hdr ++ f.body) = f.crc ∧ fld f.hdr 39 28 = f.body.length
theorem wit_direct : ((direct 255 []).port 11).st = .up ∧ ((direct 255 []).port 11).mode = 1 ∧ frameFits (dframe 1 0 carriage) ∧
    ¬ frameFits { dframe 1 0 carriage with crc := 1 } ∧ fld (dframe 1 0 carriage).hdr 63 56 = 1 ∧ fld (dframe 2 0 carriage).hdr 63 56 ≠ 1 ∧
    fld (dframe 1 0 carriage).hdr 55 48 = (255 + 1) % 256 ∧ fld (dframe 1 1 carriage).hdr 55 48 ≠ (255 + 1) % 256 ∧
    (bodyCar (dframe 1 0 carriage).body).cver = 1 ∧ (bodyCar (dframe 1 0 carriage).body).cls < 5 ∧
    5 ≤ (bodyCar (dframe 1 0 { carriage with cls := 5 }).body).cls ∧ (bodyCar (dframe 1 0 { carriage with ts := true }).body).ts = true := by
  decide +kernel
theorem wit_acks : ((direct 0 [(6, 0, []), (7, 0, []), (8, 6, [])]).port 11).replay = [(6, 0, [])] ++ (7, 0, []) :: [(8, 6, [])] ∧
    (∀ e ∈ [((6 : Nat), (0 : Nat), ([] : List Byte))], e.1 ≠ 7) ∧ [((8 : Nat), (6 : Nat), ([] : List Byte))].getLast? = some (8, 6, []) ∧
    (∀ d ∈ [((8 : Nat), (6 : Nat), ([] : List Byte))], d.2.1 < 7) ∧ (∃ d ∈ [((8 : Nat), (7 : Nat), ([] : List Byte))], 7 ≤ d.2.1) ∧
    64 ≤ ((direct 0 (List.replicate 64 (7, 0, []))).port 11).replay.length := by decide
def eframe (fcs unsup : Bool) (etype : Nat) (ev : Option Nat) (c : Carriage) : EFrame := ⟨0, etype, none, fcs, unsup, bodyOf c, ev, 3, 0⟩
theorem wit_eth : ((ported (upPort 2)).port 11).st = .up ∧ ((ported (upPort 2)).port 11).mode = 2 ∧
    (eframe false false 0 none carriage).fcsOk = false ∧ (eframe true true 0 none carriage).unsupported = true ∧
    (eframe true false 0x88F7 (some 9) carriage).ev1588 = some 9 ∧ eventFrame (eframe true false 0x88B5 none carriage) = false ∧
    ({ upPort 2 with etype := 0x88B5 } : Port).ethTakes (eframe true false 0x88B5 none carriage) = true ∧
    ({ upPort 2 with etype := 0x88B6 } : Port).ethTakes (eframe true false 0x88B5 none carriage) = false ∧
    (bodyCar (eframe true false 0x88B5 none { carriage with ts := true }).body).ts = true ∧
    ({ upPort 2 with tsq := List.replicate 63 ⟨⟨0, 0, 0⟩, false, 0, 0⟩ } : Port).tsq.length < 64 := by decide +kernel

/-! PortStates. -/
def training (mode etype : Nat) : Port := { Port.reset with st := .training, cfg := BitVec.ofNat 32 mode, etype := etype }
theorem wit_port : (training 1 0).mode = 1 ∧ ((training 2 7).mode = 2 ∧ (training 2 7).etype ≠ 0) ∧ (training 1 0).st = .training ∧
    (upPort 1).st = .up ∧ (3 : Nat) < 4 ∧ fld (0x10 : Word).toNat 1 0 = 0 ∧
    (fld (2 : Word).toNat 1 0 ≠ 0 ∧ (upPort 1).mode ≠ 0 ∧ (upPort 1).mode ≠ fld (2 : Word).toNat 1 0) ∧
    (cfgReserved 3 = true ∧ fld (3 : Word).toNat 1 0 ≠ 0) ∧ (Port.reset.mode = 0 ∧ cfgReserved 1 = false) ∧
    (fld (0x300 : Word).toNat 1 0 = 0 ∧ cfgReserved 0x300 = true) ∧ cfgReserved 0x10 = false := by decide
/-- At the limit of 150 ms and one cycle past it; at the 10 ms of the identification, and before. -/
theorem wit_times : ({ ported { training 1 0 with identAt := some 0 } with cc := attemptCc } : State).cc ≤ (training 1 0).tryAt + attemptCc ∧
    (training 1 0).tryAt + attemptCc < ({ ported (training 1 0) with cc := attemptCc + 1 } : State).cc ∧
    (0 : Nat) + identCc ≤ ({ ported { training 1 0 with identAt := some 0 } with cc := identCc } : State).cc ∧ 5 < 0 + identCc := by decide +kernel
def flapped (n : Nat) : Port := { upPort 2 with flaps := List.replicate n (4, 0) }
theorem wit_flaps : ((flapped 2).flaps.filter fun f => decide ((ported (flapped 2)).cc < f.1 + 60 * ccPerSec)).length < 3 ∧
    3 ≤ ((flapped 3).flaps.filter fun f => decide ((ported (flapped 3)).cc < f.1 + 60 * ccPerSec)).length ∧
    ((ported (holding 2049 1 15 false [])).port 11).holder = some (grant .plume 2049 1 15 false) ∧
    ({ grant .coll 64 0 0 false with gat := 5 } : Grant).gat = (ported (upPort 2)).cc := by decide +kernel
/-- A transfer that a pre-emption of this cycle has cut off, beside one of an earlier cycle. -/
def cutPend : List Grant := [{ grant .plume 64 0 1 false with cut := some 5 }, { grant .plume 64 0 1 false with cut := some 4 }]
theorem wit_cut : cutPend.filter (fun h => h.cut = some (ported (upPort 2)).cc) = [{ grant .plume 64 0 1 false with cut := some 5 }] ∧
    cutPend.filter (fun h => h.cut ≠ some (ported (upPort 2)).cc) = [{ grant .plume 64 0 1 false with cut := some 4 }] := by decide
/-- The last frame of a transfer of CLASS 1, XFER 0, still in the replay buffer of a DIRECT port. -/
def unackedLast : State := { ported { upPort 1 with replay := [(3, 0, directFrame 1 3 0 (bodyOf { carriage with xfer := 0 }))] } with
  txp := { Txp.reset with sentX := [(11, { grant .plume 64 1 0 false with x := { req 64 false with cls := 1, xfer := 0 } })] } }
theorem wit_unacked : (unackedLast.unacked 11).length = 1 ∧ ((unackedLast.port 11).holder = none) ∧ unackedLast.txp.sentX.length = 1 := by decide +kernel
def toldMsg : State := { ported { upPort 2 with holder := some { grant .msg 64 0 0 false with dead := true } } with
  msgs := ⟨[⟨0x07070707, 1, true, 0x6000, 0, [0x11], false, 63, none, some 9⟩], 5⟩ }
theorem wit_deadMsg : (toldMsg.port 11).holder = some { grant .msg 64 0 0 false with dead := true } ∧
    ({ grant .msg 64 0 0 false with dead := true } : Grant).msgId = some 0x07070707 ∧
    (toldMsg.msgs.fly.any fun m => m.id == 0x07070707 && m.sentTo.isSome) = true := by decide
def idle : State := { State.reset with vent := { Vent.reset with dev := .idle, devId := 1 } }
theorem wit_enable : Sparse.get false idle.vent.map.ports 11 = false ∧ idle.vent.dev ≠ .boot ∧ idle.vent.dev ≠ .dormant := by decide

/-! DataSegmentsLand: device 9, a member of group 0x6000, writes into window 5 through port 11. -/
def sessionUp9 : Session := { Session.closed with st := .up, num := 77, rxMax := 3, stAt := 0 }
def seg (seq epoch : Nat) : Seg := ⟨0, 77, seq, epoch, 2, 0, false, false, false, false, false⟩
def member (dev : Nat) : Member := ⟨dev, 1, 0, [0], false⟩
def win5 (outside : Bool) : Win := ⟨131072, 65536, true, 0x6000, 3, false, 43, 0x0000, false, outside, 0xFFFF, [], [], []⟩
def inForce (l : List Member) : EpochMsg × List Member := (⟨0, 1, l.length, [], l, [], true, false⟩, l)
def linked (outside : Bool) : State := { idle with
  ports := [(11, upPort 1)]
  mem := { Mem.reset with wins := [(5, some (win5 outside))] }
  txp := { Txp.reset with
    sessions := [(9, sessionUp9)]
    members := [member 1, member 9]
    epochs := [inForce [member 1, member 9]]
    partners := [⟨9, 0xFFF, 0, 0⟩] } }
def heard (s : State) : State := s.setSess 9 ((s.sess 9).took 4 s.now)
theorem wit_hears : (linked true).Hears 9 (seg 4 0) (heard (linked true)) :=
  ⟨by decide, by decide, by decide, by decide, by decide +kernel, by decide +kernel, rfl⟩
theorem wit_hears2 : ((linked true).port 11).st = .up ∧ (seg 4 0).epoch = (linked true).txp.epoch ∧ (seg 4 0).seq < 2 ^ 34 := by decide
/-- A segment of an older epoch and one of an epoch not known here, heard at epoch 2. -/
def linked2 : State := { linked true with txp := { (linked true).txp with epoch := 2 } }
theorem wit_hears_stale : ∀ e ∈ [1, 3], linked2.Hears 9 (seg 4 e) (heard linked2) ∧ linked2.segWaits 9 1 2 (.win 5 65532) 4 = false := by
  have h : ∀ e ∈ [1, 3], mtypeKnown (seg 4 e).mtype = true ∧ (seg 4 e).rsv = false ∧ (linked2.sess 9).num = (seg 4 e).session := by decide
  have k : (linked2.sess 9).st = .up ∧ (linked2.sess 9).spent linked2.now = false ∧ (linked2.sess 9).fresh 4 = true ∧
    linked2.segWaits 9 1 2 (.win 5 65532) 4 = false := by decide +kernel
  exact fun e he => ⟨⟨(h e he).1, (h e he).2.1, k.1, (h e he).2.2, k.2.1, k.2.2.1, rfl⟩, k.2.2.2⟩
theorem wit_seg_epochs : ((seg 4 1).epoch ≠ 0 ∧ (seg 4 1).epoch < linked2.txp.epoch ∧ linked2.knowsEpoch (seg 4 1).epoch = true) ∧
    linked2.knowsEpoch (seg 4 3).epoch = false ∧ (linked true).knowsEpoch (seg 4 0).epoch = true ∧
    ((linked true).txp.old.find? fun e => e.1 == 9) = none ∧ (linked true).txp.epoch ≤ (seg 4 0).epoch := by decide
theorem wit_landing : (match (heard (linked true)).landing 9 1 2 (.win 5 65532) 4 with
      | .ok a => a == 131072 + 65532
      | .error _ => false) = true ∧
    (match (heard (linked false)).landing 9 1 2 (.win 5 65532) 4 with
      | .error (some c) => c == 0x0D
      | _ => false) = true ∧
    (match (heard (linked true)).landing 9 1 2 (.win 5 65533) 4 with
      | .error (some c) => c == 0x0E
      | _ => false) = true ∧
    (linked true).segWaits 9 1 2 (.win 5 65532) 4 = false ∧
    ({ linked true with mig := { Mig.reset with pages := [(2, page .promoting [] false false)] } } : State).segWaits 9 1 2 (.win 5 65532) 4 = true ∧
    (linked true).rxOf 9 1 0 = none ∧ carriage.cver = 1 ∧ 1 ≤ carriage.cls ∧ carriage.cls < 5 ∧ (linked true).coll.waiting = [] := by
  decide +kernel
theorem wit_landing_none : (match (linked true).landing 9 1 2 (.coll 4 0 0 0) 4 with
      | .error none => true
      | _ => false) = true := by decide +kernel
theorem wit_window : (linked true).win 5 = some (win5 true) ∧ (win5 true).side1 = true ∧ (65532 : Nat) + 4 ≤ (win5 true).size ∧
    (((linked true).groupOf 0x6000).any fun m => m.dev == 9) = true ∧ bitAt (win5 true).perm 1 = true := by decide
theorem wit_older : ({ (linked true) with txp := { (linked true).txp with rx := [⟨9, 1, 0, 1, [], [], none, false, 0, 0, 77⟩] } } : State).rxOf 9 1 0 =
    some ⟨9, 1, 0, 1, [], [], none, false, 0, 0, 77⟩ ∧ carriage.att < 1 := by decide

/-! CollectivesReleaseAndArrive: an ALLREDUCE of 64 INT32 elements between devices 1 and 9, of which this module's chunk is one block. -/
def coll (record : Bool) : CollDecl := ⟨3, 4, record, 9, 9, 9, 1, 5, 6, 0, 0x6000, 0, 64, 1024, 0, 65536, 0, 65536⟩
def collRun (landed : List (Nat × Nat × Nat × Nat)) : CollRun := ⟨2, [1, 9], 0, List.replicate 256 1, List.replicate 64 false, landed, [], [], [], false, false⟩
def collective (record : Bool) (landed : List (Nat × Nat × Nat × Nat)) : State :=
  { linked true with coll := { Coll.reset with decls := [(4, coll record)], runs := [(4, collRun landed)] } }
theorem wit_collective : ∀ r ∈ [true, false], ∀ l ∈ [[], [(1, 0, 0, 128)]],
    (collective r l).collOf 4 = some (coll r, collRun l) ∧ (coll r).reduces = true ∧
    0 < ceilDiv ((collRun l).hi (coll r) - (collRun l).lo (coll r)) (coll r).per ∧ ((collRun l).released.any fun p => p.1 == 0) = false := by decide +kernel
theorem wit_needed : (collective false []).needed (coll false) (collRun []) = some [0, 1] ∧
    ([0, 1].all fun k => (collRun []).hasBlock (coll false) k 0) = false ∧
    ([0, 1].all fun k => (collRun [(1, 0, 0, 128)]).hasBlock (coll false) k 0) = true ∧
    (collective true []).needed (coll true) (collRun []) = none ∧
    ((List.range (collRun [(1, 0, 0, 128)]).members.length).all fun k => (collRun [(1, 0, 0, 128)]).hasBlock (coll true) k 0) = true := by decide
theorem wit_dst : (collective false [(1, 0, 0, 128)]).dstOpen (coll false) = true ∧
    ({ collective false [] with mig := { Mig.reset with pages := [(0, page .promoting [] false false)] } } : State).dstOpen (coll false) = false ∧
    (collective false []).coll.waiting = [] ∧ (collective false []).masks.contains .coll = false ∧
    (({ collRun [] with released := [(0, [0, 1])] } : CollRun).released.any fun p => p.1 == 0) = true := by decide +kernel
def busySrc : State := { collective true [] with txp := { (collective true []).txp with waiting :=
  [⟨0, { grant .coll 64 0 0 false with x := { req 64 false with dst := some (.coll 4 0 0 0) } }, 11, false, 0⟩] } }
theorem wit_srcwin : (collRun []).srcDone = false ∧ (collective true []).win (coll true).srcWin = some (win5 true) ∧
    (collective true []).srcBusy 4 (coll true) = false ∧ (coll true).oneWindow = false ∧ busySrc.srcBusy 4 (coll true) = true := by decide +kernel
theorem wit_handover : ((((linked true).groupOf (win5 true).pset).map (·.dev)).filter fun d => d != (linked true).vent.devId) = [9] ∧
    (linked true).collServes 5 = false ∧ ([9].all (if (win5 true).handed.contains 9 then (win5 true).handed else (win5 true).handed ++ [9]).contains) = true ∧
    (win5 false).outside = false := by decide
def two9 : State := { linked true with txp := { (linked true).txp with epochs := [inForce [member 1, member 9, member 8]] } }
theorem wit_handover2 : ((((two9).groupOf (win5 true).pset).map (·.dev)).filter fun d => d != two9.vent.devId) = [9, 8] ∧
    ([9, 8].all ((win5 true).handed ++ [9]).contains) = false := by decide
def kept : WaitXfer := ⟨3, grant .coll 64 0 1 false, 11, false, 0⟩
def keeping : State := { linked true with txp := { (linked true).txp with waiting := [kept] } }
theorem wit_restart : keeping.txp.waiting.find? (fun w => w.id == 3) = some kept ∧ keeping.sessUp kept.g.x.dev = true ∧
    keeping.masks.contains kept.g.r = false ∧ keeping.nextPort kept.g.x.dev kept.port = some 11 := by decide

/-! MessageEgress: a message to group 0x6000, headed by device 9, by nobody, or by this module. -/
def up (m : Msg) (members : List Member) : State := { linked true with
  msgs := ⟨[m], 5⟩
  tiles := [(0, { Tile.reset with st := .run, ring := { MsgRing.reset with present := true, opened := true } })]
  txp := { (linked true).txp with epochs := [inForce members] } }
def out6 : Msg := ⟨4, 1, true, 0x6000, 0, [0x11], false, 63, none, none⟩
theorem wit_egress : (up out6 [member 9, member 1]).msgs.fly.find? (fun m => m.id == 4 && m.outward) = some out6 ∧
    (up out6 []).groupHead out6.dest = none ∧ (up out6 [member 9, member 1]).groupHead out6.dest = some 9 ∧
    (up out6 [member 1, member 9]).groupHead out6.dest = some (up out6 [member 1, member 9]).vent.devId ∧
    (up out6 [member 9, member 1]).sessUp 9 = true ∧ (up out6 [member 9, member 1]).masks.contains .msg = false ∧
    (up out6 [member 9, member 1]).egressEarlier out6 = false ∧ (9 : Nat) ≠ (up out6 [member 9, member 1]).vent.devId ∧
    ({ up out6 [member 9, member 1] with msgs := ⟨[{ out6 with id := 3 }, out6], 5⟩ } : State).egressEarlier out6 = true ∧
    ({ up out6 [member 9, member 1] with masks := [.msg] } : State).masks.contains .msg = true := by decide
theorem wit_incoming : (up out6 [member 1, member 9]).sessUp 9 = true ∧
    ((up out6 [member 1, member 9]).tile 0).ring.present = true ∧
    (up out6 [member 1, member 9]).groupHead 0x6000 = some (up out6 [member 1, member 9]).vent.devId ∧
    ((up { out6 with sentTo := some 9 } []).msgs.fly.any fun m => m.id == 4 && m.sentTo.isSome) = true := by decide

end Sys2Proof.Tests
end

