-- ==== Sys2Proof/Tests/WitnessTxp.lean ====
section
/-!
SUPPORT. Witnesses for the statements about sessions, membership, contributions, closing, failover and audits. Where a statement's hypotheses
name a signature or certificate check, which has no body (log entry 10), the witness meets every other hypothesis.
-/
namespace Sys2Proof.Tests
open Sys2Proof.Machine

set_option Elab.async false

/-- The session with `dev` accepts segment `g`. -/
def hears (s : State) (dev : Nat) (g : Seg) : Bool :=
  ((mtypeKnown g.mtype && !g.rsv) && decide ((s.sess dev).st = .up)) && (decide ((s.sess dev).num = g.session) && !(s.sess dev).spent s.now)
    && (s.sess dev).fresh g.seq
/-- It does so in the epoch in force. -/
def hearsNow (s : State) (dev : Nat) (g : Seg) : Bool := hears s dev g && decide (g.epoch = s.txp.epoch)
theorem hears_meets {s : State} {dev : Nat} {g : Seg} (h : hears s dev g = true) :
    s.Hears dev g (s.setSess dev ((s.sess dev).took g.seq s.now)) := by
  simp only [hears, Bool.and_eq_true, decide_eq_true_eq, Bool.not_eq_true'] at h
  exact ⟨h.1.1.1.1, h.1.1.1.2, h.1.1.2, h.1.2.1, h.1.2.2, h.2, rfl⟩
theorem hearsNow_meets {s : State} {dev : Nat} {g : Seg} (h : hearsNow s dev g = true) :
    s.HearsNow dev g (s.setSess dev ((s.sess dev).took g.seq s.now)) := by
  simp only [hearsNow, Bool.and_eq_true, decide_eq_true_eq] at h
  exact ⟨hears_meets h.1, h.2⟩
/-- The same state with the IEEE 1588 counter at n nanoseconds. -/
def clock (n : Nat) (s : State) : State := { s with aon := { s.aon with ptp := ⟨n / nsPerSec, n % nsPerSec, 0⟩ } }

/-! SessionSetUp: payloads whose fields are device 9 and incarnation 4, of the lengths of R420. -/
def hello (n : Nat) : List Byte := [0, 0, 0, 0, 0, 0, 0, 9, 0, 0, 0, 4] ++ List.replicate (n - 12) 0
def knows (inc : Nat) : State := { idle with
  ports := [(11, upPort 1)]
  txp := { Txp.reset with partners := [⟨9, 0xFFF, 0, 0⟩], known := [(9, inc)] } }
theorem wit_offer : (hello 31536).length = 31536 ∧ beNat (slice (hello 31536) 0 8) = 9 ∧ beNat (slice (hello 31536) 8 4) = 4 := by
  decide +kernel
theorem wit_offer2 : (knows 4).partner 9 ≠ none ∧ (knows 4).partner 8 = none ∧ (knows 4).hand 9 = none ∧ (4 : Nat) < (knows 5).knownInc 9 ∧
    (knows 4).knownInc 9 ≤ 4 ∧ ¬ ((hello 16).length = 31536 ∧ beNat (slice (hello 16) 0 8) = 9) ∧
    (knows 4).outPort 9 11 = some 11 ∧ (knows 4).masks.contains .mgmt = false := by decide
def handAt (opener : Bool) (phase sends : Nat) (msgs : List Byte) : Hand := ⟨opener, phase, sends, 3, 4, 4, msgs, [7], [], [], [], 11⟩
def shaking (h : Hand) : State := { knows 4 with txp := { (knows 4).txp with hands := [(9, h)] } }
def device12 (s : State) : State := { s with vent := { s.vent with devId := 12 } }
theorem wit_crossing : (shaking (handAt true 1 1 [])).hand 9 = some (handAt true 1 1 []) ∧ (shaking (handAt true 1 1 [])).vent.devId < 9 ∧
    (9 : Nat) ≤ (device12 (shaking (handAt true 1 1 []))).vent.devId := by decide
theorem wit_offer_again : (shaking (handAt false 2 1 (hello 20))).hand 9 = some (handAt false 2 1 (hello 20)) ∧
    (handAt false 2 1 (hello 20)).msgs.take (hello 20).length = hello 20 ∧ (handAt false 2 1 []).msgs.take (hello 20).length ≠ hello 20 := by decide
theorem wit_answer : (handAt true 1 1 []).opener = true ∧ (handAt true 2 1 []).phase ≠ 3 ∧
    ((handAt true 3 1 (hello 20)).phase = 3 ∧ (handAt true 3 1 (hello 20)).msgs = hello 20 ∧ (handAt true 3 1 []).msgs ≠ hello 20) ∧
    (handAt false 2 1 []).opener = false ∧ (handAt false 2 1 []).phase = 2 ∧ (handAt false 1 1 []).phase ≠ 2 ∧
    ¬ ((hello 20).length = 61328) ∧ ¬ ((hello 20).length = 29840) ∧ ((knows 4).isLeader = false ∨ (knows 4).txp.open' = none) := by decide
theorem wit_answer_length : (hello 61328).length = 61328 ∧ (hello 29840).length = 29840 := by decide +kernel

theorem wit_offer_held : heldInReset.vent.startup.held = true ∧ (knows 4).vent.startup.held = false ∧ (2 : Nat) ≠ 1 ∧ 256 ≤ (256 : Nat) ∧
    (255 : Nat) < 256 := by decide

/-! SessionsInUse: the session with device 9 hears SEQ 4; it is at a limit after 24 hours or 2^34 segments; fifteen tag failures within a second. -/
theorem wit_heard : hears (linked true) 9 (seg 4 0) = true ∧ (seg 4 0).seq < 2 ^ 34 := by decide +kernel
def aged (x : Session) : State := { linked true with txp := { (linked true).txp with sessions := [(9, x)] } }
theorem wit_spent : ((aged { sessionUp9 with rxMax := 2 ^ 34 }).sess 9).spent 0 = true ∧ sessionUp9.spent (86400 * nsPerSec) = true ∧
    sessionUp9.spent (86400 * nsPerSec - 1) = false ∧ { sessionUp9 with seen := [4] }.fresh 4 = false ∧
    { sessionUp9 with rxMax := 1028 }.fresh 4 = false ∧ mtypeKnown 0x05 = false ∧ mtypeKnown 0x16 = false := by decide +kernel
theorem wit_send : ((linked true).sess 9).st = .up ∧ ((linked true).sess 9).spent (linked true).now = false ∧
    (linked true).outPort 9 ((linked true).sess 9).port = some 11 ∧ (linked true).masks.contains .mgmt = false ∧
    ((knows 4).sess 9).st = .closed ∧ (knows 4).partner 9 ≠ none ∧ (knows 4).handBusy 9 = false := by decide +kernel
/-- Session 78 with device 9, and behind it the old session, 77. -/
def withOld (x : Session) : State := { linked true with
  txp := { (linked true).txp with sessions := [(9, { sessionUp9 with num := 78 })], old := [(9, x)] } }
theorem wit_old : (∀ x ∈ [sessionUp9, { sessionUp9 with rxMax := 2 ^ 34 }, { sessionUp9 with seen := [4] }, { sessionUp9 with num := 76 },
      { sessionUp9 with st := .closed }], (withOld x).txp.old.find? (fun e => e.1 == 9) = some (9, x)) ∧
    ((withOld sessionUp9).sess 9).num ≠ (seg 4 0).session ∧ ((withOld sessionUp9).sess 9).st = .up ∧ sessionUp9.num = (seg 4 0).session ∧
    { sessionUp9 with num := 76 }.num ≠ (seg 4 0).session ∧ sessionUp9.fresh (seg 4 0).seq = true ∧
    { sessionUp9 with seen := [4] }.fresh (seg 4 0).seq = false ∧ sessionUp9.spent (withOld sessionUp9).now = false ∧
    { sessionUp9 with rxMax := 2 ^ 34 }.spent (withOld sessionUp9).now = true ∧ (linked true).txp.old.find? (fun e => e.1 == 9) = none ∧
    { seg 4 0 with rsv := true }.rsv = true ∧ mtypeKnown { seg 4 0 with rsv := true }.mtype = true := by decide +kernel
/-- Nothing of the old session is outstanding; no entry of it has reached a limit. -/
theorem wit_old_idle : (∀ q ∈ (withOld sessionUp9).ports, q.2.pend = [] ∧ q.2.holder = none) ∧ (withOld sessionUp9).txp.waiting = [] ∧
    (withOld sessionUp9).txp.rx = [] ∧ (∀ e ∈ (withOld sessionUp9).txp.old, e.1 = 9 → e.2.spent (withOld sessionUp9).now = false) ∧
    ((withOld sessionUp9).sess 9).spent (withOld sessionUp9).now = false ∧ (withOld sessionUp9).partner 9 ≠ none ∧
    (withOld sessionUp9).handBusy 9 = false := by decide +kernel
def failing (n : Nat) (st : SessSt) : State := clock (5 * nsPerSec) { linked true with
  txp := { (linked true).txp with sessions := [(9, { sessionUp9 with st := st, fails := List.replicate n (4 * nsPerSec + 1) })] } }
theorem wit_auth : ((failing 14 .up).sess 9).st = .up ∧ ((failing 3 .lost).sess 9).st ≠ .up ∧
    ((((failing 14 .up).sess 9).fails.filter fun c => decide ((failing 14 .up).now < c + nsPerSec)) ++ [(failing 14 .up).now]).length < 16 ∧
    16 ≤ ((((failing 15 .up).sess 9).fails.filter fun c => decide ((failing 15 .up).now < c + nsPerSec)) ++ [(failing 15 .up).now]).length := by
  decide +kernel
theorem wit_hs : (shaking (handAt true 2 4 [])).hand 9 = some (handAt true 2 4 []) ∧ (handAt true 2 4 []).phase < 3 ∧
    3 ≤ (handAt true 3 1 []).phase ∧ (handAt true 2 4 []).sends < 5 ∧ 5 ≤ (handAt true 2 5 []).sends ∧
    (handAt true 2 4 []).at' + 2 * nsPerSec ≤ (clock (2 * nsPerSec + 3) (shaking (handAt true 2 4 []))).now ∧
    (shaking (handAt true 2 4 [])).now < (handAt true 2 4 []).at' + 2 * nsPerSec := by decide +kernel
/-- At 100 ms, 10 s and 60 s, and before; T_SESS is 1000 ms after reset. -/
theorem wit_timers : ((linked true).sess 9).txAt + 100 * nsPerMs ≤ (clock (100 * nsPerMs) (linked true)).now ∧
    (linked true).now < ((linked true).sess 9).txAt + 100 * nsPerMs ∧
    ((linked true).sess 9).since + (linked true).txp.tSessMs * nsPerMs ≤ (clock (1000 * nsPerMs) (linked true)).now ∧
    (clock (1000 * nsPerMs - 1) (linked true)).now < ((linked true).sess 9).since + (linked true).txp.tSessMs * nsPerMs ∧
    (linked true).partner 9 ≠ none ∧ (linked true).handBusy 9 = false ∧
    ((failing 0 .lost).sess 9).st = .lost ∧ ((knows 4).sess 9).st = .closed ∧ (failing 0 .lost).partner 9 ≠ none ∧
    (failing 0 .lost).handBusy 9 = false ∧ ((failing 0 .lost).sess 9).stAt + nsPerSec ≤ (failing 0 .lost).now ∧
    (failing 0 .lost).now < ((failing 0 .lost).sess 9).since + 60 * nsPerSec ∧
    ((knows 4).sess 9).since + 60 * nsPerSec ≤ (clock (60 * nsPerSec) (knows 4)).now ∧
    (knows 4).now < ((knows 4).sess 9).stAt + nsPerSec := by decide +kernel

/-! Membership: devices 1 and 9, led by 1 (this module) or by 9; slots 0 to 3 of the image's table, of which slot 3 is an OWNER's. -/
def manifest : Manifest := ⟨1536, 2, 2, 1, 0, 1, 0, 0, 0, 0, 2, 0, 8, 3⟩
def image : Image := ⟨List.replicate 64 5, manifest, none, [(0, false), (1, false), (2, false), (3, true)], none, RepairMap.good⟩
def imaged (au : Option AuditSect) : Option Image := some { image with audit := au }
def job (leader epoch : Nat) : State := { linked true with
  vent := { (linked true).vent with dev := .running, image := imaged none, journal := { Journal.reset with mounted := true } }
  txp := { (linked true).txp with leader := leader, epoch := epoch } }
theorem wit_now : hearsNow (job 1 2) 9 (seg 4 2) = true ∧ hearsNow (job 9 2) 9 (seg 4 2) = true ∧ (seg 4 2).session ≠ 0 ∧
    (9 : Nat) ≠ (job 1 2).vent.devId := by decide +kernel
theorem wit_epochs : hears (job 9 2) 9 (seg 4 1) = true ∧ (seg 4 1).epoch ≠ 0 ∧ (seg 4 1).epoch < (job 9 2).txp.epoch ∧
    (job 9 2).awaits (seg 4 3) .leave = true ∧ (job 9 2).awaits (seg 4 0) (.final ⟨5, 3, [], 0, []⟩) = true ∧
    (job 9 2).txp.epoch ≤ (seg 4 3).epoch := by decide +kernel
def joiner (slot : Nat) (d : Byte) : JoinMsg := ⟨7, List.replicate 32 d, slot, []⟩
theorem wit_join : (job 1 2).isLeader = true ∧ (job 9 2).isLeader = false ∧ (job 1 2).founder = false ∧
    (job 1 2).joinRefusal 8 1 (joiner 2 5) = none ∧ (job 1 2).joinRefusal 8 1 (joiner 2 6) = some 0x09 ∧
    (job 1 2).joinRefusal 8 2 (joiner 2 5) = some 0x0C ∧ (job 1 2).joinRefusal 8 1 (joiner 0 5) = some 0x0A ∧
    (job 1 2).joinRefusal 8 1 (joiner 4 5) = some 0x0A := by decide +kernel
/-- The module that asks for slot 0 founds the job once device 9 has taken slot 3. -/
def founding : State := { job 0 0 with
  txp := { (job 0 0).txp with
    members := []
    epochs := []
    joinPending := true
    joinMsg := some (joiner 0 5)
    joiners := [⟨1, 1, 0, [], false⟩] } }
theorem wit_founding : founding.founder = true ∧ founding.isLeader = true ∧ founding.joinRefusal 9 1 (joiner 3 5) = none ∧
    founding.vent.image = some image ∧ hearsNow founding 9 (seg 4 0) = true ∧
    (image.slots.all fun e => !e.2 || (founding.txp.joiners ++ [(⟨9, 7, founding.joinSlot 9 (joiner 3 5), [], false⟩ : Member)]).any fun m => m.slot == e.1) =
      true := by decide +kernel
theorem wit_leave : (job 1 2).member 9 ≠ none ∧ (job 1 2).member 8 = none := by decide
def fenced9 (s : State) : State := { s with txp := { s.txp with fenced := [9] } }
theorem wit_resends : (job 1 2).txp.epochs = inForce [member 1, member 9] :: [] ∧ founding.txp.epochs = [] ∧
    (job 1 2).suspended 9 = false ∧ (fenced9 (job 1 2)).suspended 9 = true ∧ hearsNow (fenced9 (job 1 2)) 9 (seg 4 2) = true := by decide +kernel
theorem wit_asks : TxpMsg.leave.asksEpoch = false ∧ TxpMsg.resendList.asksEpoch = true ∧ TxpMsg.resendEpoch.asksEpoch = true ∧
    (job 9 2).knowsEpoch (seg 4 1).epoch = true ∧ (job 9 2).knowsEpoch (seg 4 3).epoch = false := by decide +kernel
def epochTo (l : List Member) (ldig : List Byte) (takeover : Bool) : EpochMsg := ⟨3, 1, l.length, ldig, l.drop 2, [], false, takeover⟩
def three : List Member := [member 1, member 9, { member 12 with slot := 3 }]
def digest3 : List Byte := listDigest three
def partial3 : EpochMsg := { epochTo three [] false with joiners := three.take 1, full := true }
def batched (s : State) : State := { s with vent := { s.vent with journal := s.vent.journal.push 0x41 [] (.epochMade 9 4) } }
def stepped (s : State) (n : Nat) : State := { s with txp := { s.txp with open' := some ⟨n, 2, 8, 30000, [], [], none, none, []⟩ } }
theorem wit_epoch : (job 9 2).epochList (epochTo three [] true) = (some three, []) ∧ (job 9 2).epochList partial3 = (none, [member 1]) ∧
    (job 9 2).knowsEpoch 3 = false ∧ (job 9 2).knowsEpoch 2 = true ∧ (job 9 2).txp.epoch ≠ 0 ∧ (job 9 2).suspended 9 = false ∧
    (job 9 2).epochWaits = false ∧ (batched (job 9 2)).epochWaits = true ∧ (job 9 2).vent.journal.mounted = true ∧
    (job 9 2).vent.journal.damaged = false ∧ (stepped (job 9 2) 5).txp.open' ≠ none ∧ (job 9 2).txp.open' = none ∧
    (epochTo three [] false).first ≤ (job 9 2).txp.lastClosed + 1 := by decide +kernel
theorem wit_epoch_good : three.length = (epochTo three digest3 true).count ∧ listDigest three = padTo 32 (epochTo three digest3 true).ldig := by
  decide +kernel
theorem wit_epoch_bad : ¬ (three.length = (epochTo three [1] true).count ∧ listDigest three = padTo 32 (epochTo three [1] true).ldig) := by
  decide +kernel
def opening : StepOpenMsg := ⟨1, 2, 2, 8, 30000, []⟩
def nextUp : State := { job 9 2 with txp := { (job 9 2).txp with next := some (epochTo three [] false, three), newTimers := some (1, 2, 3) } }
theorem wit_stepOpen : (job 9 2).awaits (seg 4 2) (.stepOpen opening) = false ∧ nextUp.awaits (seg 4 2) (.stepOpen opening) = false ∧
    (epochTo three [] false).first ≤ opening.step ∧ (job 9 2).txp.next = none ∧ (job 9 2).txp.newTimers = none ∧
    (((job 9 2).boundary 1).takeTimers).txp.devs.contains (job 9 2).vent.devId = true ∧ (job 9 2).txp.lastClosed < opening.step ∧
    (job 9 2).txp.open' = none ∧ opening.step ≤ 5 ∧ (stepped (job 9 2) 5).txp.open'.map (·.step) = some 5 := by decide +kernel

/-! ContributionsAreJournaledFirst: step 5 is open at this module, the leader; device 9 contributes part 0 or 1 of its life 1. -/
def opened (incl : Option Nat) (fr : Option Freeze) : StepSt := ⟨5, 2, 8, 30000, [], [], incl, fr, []⟩
def contribution (dev inc step seq : Nat) : ContribMsg := ⟨⟨dev, inc, step, seq⟩, 2, 0, 1, [], []⟩
def leads (o : StepSt) (wms : List WmRec) : State := { job 1 2 with
  txp := { (job 1 2).txp with open' := some o, wms := wms, lastClosed := 4 } }
def open5 : StepSt := opened none none
def wm (c : ContribMsg) (committed accepted : Bool) : WmRec := ⟨c, c.id.seq + 1, 9, 4, false, committed, accepted, 0, 0⟩
def highJournal (s : State) : State := { s with vent := { s.vent with journal := { s.vent.journal with sectors := (List.range 3405).map fun k => (k, ⟨.full, k, 0x5A53, none, []⟩) } } }
theorem wit_contrib : hearsNow (leads open5 []) 9 (seg 4 2) = true ∧ (leads open5 []).isLeader = true ∧
    (job 9 2).isLeader = false ∧ (job 9 2).suspended 9 = false ∧ (fenced9 (job 9 2)).suspended 9 = true ∧
    hearsNow (fenced9 (job 9 2)) 9 (seg 4 2) = true ∧ (leads open5 []).txp.wms = [] ∧
    (((leads open5 []).txp.listAt 5).any fun x => x.dev == 9 && x.inc == 1) = true ∧
    (((leads open5 []).txp.listAt 5).any fun x => x.dev == 9 && x.inc == 2) = false ∧ (leads open5 []).knownInc 9 ≤ 1 ∧
    (leads open5 []).suspended 9 = false ∧ (leads open5 []).txp.open'.map (·.step) = some 5 ∧ (leads open5 []).txp.lastClosed < 5 ∧
    (leads open5 []).closeOf 5 = none ∧ (leads open5 []).watermark 9 5 = 0 := by decide +kernel
theorem wit_ledgered : ∀ b ∈ [true, false], (leads open5 [wm (contribution 9 1 5 0) b false]).txp.wms.find?
      (fun w => w.c.id = (⟨9, 1, 5, 0⟩ : ContribId)) = some (wm (contribution 9 1 5 0) b false) ∧
    (9 : Nat) ≠ (leads open5 [wm (contribution 9 1 5 0) b false]).vent.devId ∧
    ¬ ({ contribution 9 1 5 0 with odig := [1] }.odig = (contribution 9 1 5 0).odig) := by decide +kernel
/-- A record that waits for the deputy's copy; one that does not, because there is no deputy, or because it has been accepted. -/
def withDeputy (s : State) : State := { s with txp := { s.txp with deputy := some 9 } }
theorem wit_copyAwaited : (withDeputy (leads open5 [])).copyAwaited (wm (contribution 9 1 5 0) true false) = true ∧
    (leads open5 []).copyAwaited (wm (contribution 9 1 5 0) true false) = false ∧
    (withDeputy (leads open5 [])).copyAwaited (wm (contribution 9 1 5 0) true true) = false ∧
    (contribution 9 1 5 0).id.dev ≠ (leads open5 []).vent.devId ∧ (seg 4 2).seq < 2 ^ 34 := by decide +kernel
theorem wit_contrib_refused :
    -- the conditions of Table 12-7 in their order: an old life, suspended, a later step, a closed one, out of order, a full journal
    1 < ({ leads open5 [] with txp := { (leads open5 []).txp with known := [(9, 2)] } } : State).knownInc 9 ∧
    (fenced9 (leads open5 [])).suspended 9 = true ∧ ((leads open5 []).txp.lastClosed < 6 ∧ (leads open5 []).txp.open'.map (·.step) ≠ some 6) ∧
    4 ≤ (leads open5 []).txp.lastClosed ∧ (1 : Nat) ≠ (leads open5 []).watermark 9 5 ∧
    95 ≤ (highJournal (leads open5 [])).vent.journal.usePct := by decide +kernel
def settles : State := { job 9 2 with txp := { (job 9 2).txp with outs := [⟨contribution 1 0 5 0, 1, 0, none⟩] } }
def accepting : State := { leads open5 [wm (contribution 9 1 5 0) true false] with
  txp := { (leads open5 [wm (contribution 9 1 5 0) true false]).txp with deputy := some 9 } }
theorem wit_fwd : (job 9 2).txp.wms.find? (fun w => w.c.id = (⟨1, 0, 5, 0⟩ : ContribId)) = none ∧ hearsNow settles 9 (seg 4 2) = true ∧
    (settles.txp.outs.any fun o => o.c.id = (⟨1, 0, 5, 0⟩ : ContribId) ∧ o.settled.isNone) = true ∧ settles.vent.journal.mounted = true ∧
    accepting.isLeader = true ∧ accepting.txp.deputy = some 9 ∧ hearsNow accepting 9 (seg 4 2) = true ∧
    (∃ w ∈ accepting.txp.wms, w.c.id = ⟨9, 1, 5, 0⟩ ∧ w.committed = true ∧ w.accepted = false) := by decide +kernel

/-! RefusalsAndResends. -/
def g2 (att resends : Nat) : Grant := { grant .win 4 4 att false with x := { req 64 false with cls := 2, xfer := 6 }, resends := resends }
def sentOne (g : Grant) : State := { linked true with txp := { (linked true).txp with sentX := [(11, g)] } }
theorem wit_reject : (shaking (handAt true 1 1 [])).hand 9 = some (handAt true 1 1 []) ∧ (msgHead 0x13 0 0).session = 0 ∧
    (seg 4 0).session ≠ 0 ∧ hearsNow (sentOne (g2 14 3)) 9 (seg 4 0) = true ∧
    ((sentOne (g2 14 3)).sentGrant 9 2 6).orElse (fun _ => (sentOne (g2 14 3)).sentGrant 9 1 6) = some (11, g2 14 3) ∧
    (g2 14 3).att < 15 ∧ hearsNow settles 9 (seg 4 2) = true ∧ (12 : Nat) ≠ settles.vent.devId ∧ (12 : Nat) ≠ settles.txp.leader := by decide +kernel
theorem wit_resend : (sentOne (g2 14 13)).sentGrant 9 2 6 = some (11, g2 14 13) ∧ (13 : Nat) < (g2 14 13).att ∧ (g2 14 13).att ≤ 14 ∧
    (g2 14 13).resends < 14 ∧ 14 ≤ (g2 2 14).resends ∧ 15 ≤ (g2 15 0).att ∧ (sentOne (g2 15 0)).sentGrant 9 2 6 = some (11, g2 15 0) ∧
    (sentOne (g2 14 13)).sentGrant 9 2 7 = none := by decide +kernel
theorem wit_tContrib : settles.txp.outs.find? (fun o => o.settled.isNone && o.c.id.seq == 0 && decide (1 ≤ o.sends)) =
      some ⟨contribution 1 0 5 0, 1, 0, none⟩ ∧ settles.isLeader = false ∧ settles.txp.leader ≠ 0 ∧ settles.sessUp settles.txp.leader = true ∧
    (settles.sess settles.txp.leader).spent settles.now = false ∧ settles.now < 0 + tContrib 1 ∧
    0 + tContrib 1 ≤ (clock (200 * nsPerMs) settles).now := by decide +kernel
/-- The reasons of Table 12-7 by what they do: the next leader, the part to go on from, the ones that wait, the reserved ones. -/
theorem wit_reject_codes : settles.isLeader = false ∧ (9 : Nat) ≠ settles.vent.devId ∧ (contribution 1 0 5 0).id.dev = settles.vent.devId ∧
    (0x13 : Nat) > 0x12 ∧ (∀ c ∈ [0x01, 0x05, 0x07, 0x08, 0x10, 0x12], c ∉ [(0x02 : Nat), 0x03, 0x04, 0x06, 0x11] ∧ 1 ≤ c ∧ c ≤ 0x12) ∧
    (leads open5 []).isLeader = true ∧
    (settles.txp.outs.any fun o => o.c.id = (contribution 1 0 5 0).id ∧ o.settled.isNone) = true := by decide +kernel
/-- STALE_EPOCH without a transfer, and for the transfer of CLASS 2 and XFER 6, with epoch 3. -/
theorem wit_stale_xfer : (3 : Nat) / 2 ^ 48 = 0 ∧ (2 * 2 ^ 48 + 6 * 2 ^ 32 + 3) / 2 ^ 48 ≠ 0 ∧
    (sentOne (g2 14 3)).txp.sentX.find? (fun e => e.2.x.dev == 9 && e.2.x.cls == (2 * 2 ^ 48 + 6 * 2 ^ 32 + 3) / 2 ^ 48 &&
      e.2.x.xfer == (2 * 2 ^ 48 + 6 * 2 ^ 32 + 3) / 2 ^ 32 % 65536 && !e.2.dead) = some (11, g2 14 3) ∧ (g2 14 3).att < 15 := by decide +kernel
/-- The leader's copy of a part at its deputy, sent once, before T_CONTRIB has run and after. -/
def copying (ns : Nat) : State := clock ns (withDeputy (leads open5 [{ wm (contribution 9 1 5 0) true false with copies := 1 }]))
theorem wit_dueCopy : (copying 0).dueCopy 0 = none ∧
    (copying (200 * nsPerMs)).dueCopy 0 = some { wm (contribution 9 1 5 0) true false with copies := 1 } ∧
    (copying (200 * nsPerMs)).dueOut 0 = none ∧ (copying (200 * nsPerMs)).isLeader = true ∧ (copying (200 * nsPerMs)).txp.deputy = some 9 ∧
    (copying (200 * nsPerMs)).sessUp 9 = true ∧ ((copying (200 * nsPerMs)).sess 9).spent (copying (200 * nsPerMs)).now = false ∧
    settles.dueOut 0 = none ∧ (clock (200 * nsPerMs) settles).dueOut 0 = some ⟨contribution 1 0 5 0, 1, 0, none⟩ := by decide +kernel
def joining (sends : Nat) (pending : Bool) : State := { job 9 2 with
  txp := { (job 9 2).txp with joinPending := pending, joinSends := sends, joinMsg := some (joiner 2 5), members := [member 9] } }
theorem wit_tJoin : (joining 3 true).txp.joinPending = true ∧ (joining 3 true).founder = false ∧ founding.founder = true ∧
    (joining 3 true).txp.joinSends < 4 ∧ 4 ≤ (joining 4 true).txp.joinSends ∧
    (joining 3 true).txp.joinAt + 10 * nsPerSec ≤ (clock (10 * nsPerSec) (joining 3 true)).now ∧
    (joining 3 true).now < (joining 3 true).txp.joinAt + 10 * nsPerSec ∧
    (joining 0 false).txp.joinMsg = some (joiner 2 5) ∧ (joining 0 false).txp.devs.contains (joining 0 false).vent.devId = false ∧
    (joining 0 false).vent.image = some image ∧ image.man.txpmaj ≠ 0 ∧ (joining 0 false).txp.epoch ≠ 0 ∧
    (joining 0 false).txp.joinAt + 60 * nsPerSec ≤ (clock (60 * nsPerSec) (joining 0 false)).now := by decide +kernel
def refound : State := clock (60 * nsPerSec) { founding with txp := { founding.txp with joinPending := false, joiners := [] } }
theorem wit_refound : refound.txp.joinMsg = some (joiner 0 5) ∧ refound.txp.joinPending = false ∧ refound.txp.epoch = 0 ∧
    refound.firstSlot = some 0 ∧ refound.txp.devs.contains refound.vent.devId = false ∧
    (∃ e ∈ image.slots, e.2 = true ∧ ∀ m ∈ (refound.txp.joiners.filter fun m => m.dev != refound.vent.devId) ++
      [⟨refound.vent.devId, refound.vent.incarnation, 0, [], false⟩], m.slot ≠ e.1) := by decide +kernel
def partialRx : RxXfer := ⟨9, 1, 6, 2, [0], [], none, false, 0, 0, 77⟩
def receiving : State := { linked true with
  txp := { (linked true).txp with rx := [partialRx], waiting := [⟨3, g2 1 0, 11, true, 0⟩] } }
theorem wit_tXfer : receiving.sessUp 9 = true ∧ (receiving.sess 9).spent receiving.now = false ∧
    receiving.txp.rx.find? (fun r => r.dev == 9 && r.cls == 1 && r.xfer == 6 && !r.complete) = some partialRx ∧
    receiving.txp.waiting.find? (fun w => w.id == 3 && w.waitWin) = some ⟨3, g2 1 0, 11, true, 0⟩ ∧
    receiving.now < 0 + nsPerMs ∧ 0 + nsPerMs ≤ (clock nsPerMs receiving).now ∧ (clock 20000000 receiving).now = 20000000 := by decide +kernel
/-- Whatever the round trip, T_XFER has not run at once and has run after 20 ms. -/
theorem wit_tXfer2 : receiving.now < partialRx.at' + tXfer 9 receiving.now ∧ partialRx.at' + tXfer 9 20000000 ≤ 20000000 := by
  have h : receiving.now = 0 := by decide
  rw [h]
  simp only [partialRx, tXfer]
  omega

/-! FreezingAndClosing: device 9 leads and freezes; this module leads, with device 9's parts accepted or not. -/
def frozen (sends : Nat) : StepSt := opened (some 0) (some ⟨sends, 0, []⟩)
theorem wit_freezeAck : hearsNow (leads (frozen 1) []) 9 { seg 4 2 with step := 5 } = true ∧
    (leads (frozen 1) []).txp.open' = some (frozen 1) ∧ (frozen 1).freeze = some ⟨1, 0, []⟩ ∧ (frozen 1).step = 5 ∧
    (leads (frozen 1) []).standing.contains 9 = true := by decide +kernel
def allParts : List WmRec :=
  [wm (contribution 1 1 5 0) true true, wm (contribution 1 1 5 1) true true, wm (contribution 9 1 5 0) true true, wm (contribution 9 1 5 1) true true]
theorem wit_close : (leads open5 allParts).isLeader = true ∧ (leads open5 allParts).closeOf 5 = none ∧
    (∀ d ∈ (leads open5 allParts).txp.devs, (leads open5 allParts).npart ≤ (leads open5 allParts).acceptedParts d 5) ∧
    ¬ (∀ d ∈ (leads open5 (allParts.take 3)).txp.devs,
      (leads open5 (allParts.take 3)).npart ≤ (leads open5 (allParts.take 3)).acceptedParts d 5) ∧ open5.freeze = none := by decide +kernel
/-- Device 9 has answered the freeze and is ABSENT. -/
def answered9 : State := leads (opened (some 0) (some ⟨1, 0, [9]⟩)) (allParts.take 2)
theorem wit_close_frozen : (∀ d ∈ answered9.standing, d = answered9.vent.devId ∨ d ∈ [9]) ∧
    (∀ d ∈ answered9.txp.devs, answered9.absent? (frozen 1) d = true ∨ answered9.npart ≤ answered9.acceptedParts d 5) ∧
    answered9.absent? (frozen 1) 9 = true := by decide +kernel
def closed5 (made : Bool) : State := { job 9 2 with txp := { (job 9 2).txp with closes := [⟨5, 2, [1, 9], [0, 1], 0, [], made, false, [], []⟩] } }
theorem wit_final : (job 9 2).knowsEpoch 2 = true ∧ (job 9 2).closeOf 5 = none ∧ (∀ b ∈ [true, false],
    (closed5 b).closeOf 5 = some ⟨5, 2, [1, 9], [0, 1], 0, [], b, false, [], []⟩ ∧ hearsNow (closed5 b) 9 (seg 4 2) = true) := by decide +kernel
theorem wit_accept_close : hearsNow (leads open5 []) 9 { seg 4 2 with step := 5 } = true ∧ (leads open5 []).txp.deputy ≠ some 9 := by
  decide +kernel
theorem wit_tIncl : (leads (opened (some 0) none) []).txp.open' = some (opened (some 0) none) ∧ open5.inclAt = none ∧
    0 + open5.tInclMs * nsPerMs ≤ (clock (30000 * nsPerMs) (leads (opened (some 0) none) [])).now ∧
    (leads (opened (some 0) none) []).now < 0 + open5.tInclMs * nsPerMs ∧
    (∃ d ∈ (leads open5 []).standing, d ≠ (leads open5 []).vent.devId ∧ (leads open5 []).sessUp d = true ∧
      ((leads open5 []).sess d).spent (leads open5 []).now = false) ∧
    ((leads (frozen 2) []).standing.filter fun d => d != (leads (frozen 2) []).vent.devId && !([] : List Nat).contains d) = [9] ∧
    (answered9.standing.filter fun d => d != answered9.vent.devId && !([9] : List Nat).contains d) = [] ∧
    (2 : Nat) < 3 ∧ 0 + 2 * nsPerSec ≤ (clock (2 * nsPerSec) (leads (frozen 3) [])).now ∧ (leads (frozen 3) []).closeOf 5 = none := by
  decide +kernel

/-! LeaderFailover: device 9 leads a list of 1, 9 and 12; the session to it is down since time 0; T_LEAD is 3,000 ms. -/
def lost9 (ns : Nat) (dep : Option Nat) : State := clock ns { job 9 2 with
  txp := { (job 9 2).txp with
    sessions := [(9, { sessionUp9 with st := .lost }), (12, sessionUp9)]
    members := three
    deputy := dep } }
theorem wit_vote : hearsNow (lost9 (3000 * nsPerMs) none) 12 (seg 4 2) = true ∧
    (lost9 (3000 * nsPerMs) none).txp.leader ≠ (lost9 0 none).vent.devId ∧
    ((lost9 (3000 * nsPerMs) none).sess 9).st ≠ .up ∧
    ((lost9 (3000 * nsPerMs) none).sess 9).since + (lost9 0 none).txp.tLeadMs * nsPerMs ≤ (lost9 (3000 * nsPerMs) none).now ∧
    (lost9 (3000 * nsPerMs - 1) none).now < ((lost9 0 none).sess 9).since + (lost9 0 none).txp.tLeadMs * nsPerMs ∧
    (lost9 0 none).suspended 12 = false ∧ (lost9 0 none).txp.votedFor ≠ some (12, 2) := by decide +kernel
def voting (votes : List Nat) : State := { lost9 (3000 * nsPerMs) none with
  txp := { (lost9 (3000 * nsPerMs) none).txp with voting := true, votes := votes, votedFor := some (12, 2) } }
theorem wit_votes : (voting []).txp.votedFor = some (12, (voting []).txp.epoch) ∧ (voting []).txp.voting = true ∧ (12 : Nat) ∉ (voting []).txp.votes ∧
    (12 : Nat) ∈ (voting [12]).txp.votes ∧ (12 : Nat) ∈ (voting []).standing ∧ (voting []).standing.length < 2 * ((voting []).txp.votes.length + 2) ∧
    hearsNow (voting []) 12 (seg 4 2) = true := by decide +kernel
/-- A list of five, of whom one vote is not enough. -/
def five : State := { voting [] with txp := { (voting []).txp with members := three ++ [member 20, member 21] } }
theorem wit_votes5 : 2 * (five.txp.votes.length + 2) ≤ five.standing.length ∧ (12 : Nat) ∈ five.standing := by decide +kernel
theorem wit_deputy : (lost9 9 (some 1)).txp.devs.contains (lost9 9 (some 1)).vent.devId = true ∧ (lost9 9 (some 1)).sessUp 9 = false ∧
    (lost9 9 (some 1)).txp.deputy = some (lost9 9 (some 1)).vent.devId ∧ (lost9 9 (some 1)).suspended 1 = false ∧
    (lost9 9 (some 12)).sessUp 12 = true ∧ (lost9 9 (some 20)).sessUp 20 = false ∧ (lost9 9 none).txp.deputy = none ∧
    ({ lost9 9 (some 1) with txp := { (lost9 9 (some 1)).txp with fenced := [1] } } : State).suspended 1 = true := by decide +kernel
/-- Of two standing members one is the lost leader: no majority forms. Of three it may. -/
def pair (dep : Option Nat) : State := { lost9 (3000 * nsPerMs) dep with
  txp := { (lost9 (3000 * nsPerMs) dep).txp with members := [member 1, member 9] } }
theorem wit_pair : (pair (some 1)).standing.length ≤ 2 ∧ 2 < (lost9 (3000 * nsPerMs) (some 1)).standing.length ∧
    (pair (some 1)).txp.devs.contains (pair (some 1)).vent.devId = true ∧ (pair (some 1)).txp.deputy = some (pair (some 1)).vent.devId ∧
    (pair (some 1)).suspended (pair (some 1)).vent.devId = false ∧ ((pair (some 1)).sess 9).st ≠ .up ∧
    ((pair (some 1)).sess 9).since + (pair (some 1)).txp.tLeadMs * nsPerMs ≤ (pair (some 1)).now := by decide +kernel
def alone (at0 : Option Nat) : State := clock (3000 * nsPerMs) { job 1 2 with
  txp := { (job 1 2).txp with members := three, sessions := [], minorAt := at0 } }
theorem wit_stepDown : (alone (some 0)).isLeader = true ∧ (alone (some 0)).founder = false ∧
    2 * ((alone none).standing.filter fun d => d == (alone none).vent.devId || (alone none).sessUp d).length < (alone none).standing.length ∧
    (job 1 2).standing.length ≤ 2 * ((job 1 2).standing.filter fun d => d == (job 1 2).vent.devId || (job 1 2).sessUp d).length ∧
    0 + (alone (some 0)).txp.tLeadMs * nsPerMs ≤ (alone (some 0)).now ∧ (alone (some 1)).now < 1 + (alone (some 1)).txp.tLeadMs * nsPerMs := by
  decide +kernel
def deputed (d : Nat) : State := clock (3000 * nsPerMs) { job 1 2 with
  txp := { (job 1 2).txp with deputy := some d, sessions := [(9, { sessionUp9 with since := 1 })] } }
def closing (d : Nat) (s9 : SessSt) : State := { deputed d with
  txp := { (deputed d).txp with
    open' := some open5
    sessions := [(9, { sessionUp9 with st := s9 })]
    closes := [⟨5, 2, [1, 9], [0, 1], 0, [], true, false, [], []⟩] } }
theorem wit_deputyLost : (deputed 9).sessUp 9 = true ∧ (deputed 12).isLeader = true ∧ ((deputed 12).sess 12).st ≠ .up ∧
    ((deputed 12).sess 12).since + (deputed 12).txp.tLeadMs * nsPerMs ≤ (deputed 12).now ∧ (deputed 12).nameDeputy.closeWaiting = none ∧
    (deputed 12).standing.find? (fun k => k != (deputed 12).vent.devId && (deputed 12).sessUp k) = some 9 ∧
    (closing 12 .up).nameDeputy.closeWaiting = some ⟨5, 2, [1, 9], [0, 1], 0, [], true, false, [], []⟩ ∧
    (closing 12 .up).nameDeputy.txp.deputy = some 9 ∧
    (closing 9 .lost).nameDeputy.closeWaiting = some ⟨5, 2, [1, 9], [0, 1], 0, [], true, false, [], []⟩ ∧
    (closing 9 .lost).nameDeputy.txp.deputy = none ∧ ((closing 9 .lost).sess 9).st ≠ .up := by decide +kernel

/-! Audits: the leader holds the record of device 9's part; this module is assigned one, without an AUDIT section, for a part that the section
does not mark, and for one that it recomputes. -/
def audited (au : Option AuditSect) (a : Option Audit) : State := { job 9 2 with
  vent := { (job 9 2).vent with image := imaged au }
  txp := { (job 9 2).txp with audit := a, deputy := some 12 } }
def sect : AuditSect := ⟨3, 4, 2⟩
def closed9 (s : State) : State := { s with txp := { s.txp with lastClosed := 5 } }
theorem wit_audit : (closed9 (leads open5 allParts)).txp.wms.find? (fun w => decide (w.c.id = ⟨9, 1, 5, 0⟩) && w.committed && (w.accepted || w.fwd)
      && decide (5 ≤ (closed9 (leads open5 allParts)).txp.lastClosed)) = some (wm (contribution 9 1 5 0) true true) ∧
    (leads open5 allParts).txp.wms.find? (fun w => decide (w.c.id = ⟨9, 1, 5, 0⟩) && w.committed && (w.accepted || w.fwd)
      && decide (5 ≤ (leads open5 allParts).txp.lastClosed)) = none ∧
    (audited none none).isLeader = false ∧ (audited none none).txp.leader = 9 ∧ (12 : Nat) ≠ (audited none none).txp.leader ∧
    (audited none none).vent.image.bind (·.audit) = none ∧ (audited (some sect) none).vent.image.bind (·.audit) = some sect ∧
    bitAt sect.mask 1 = true ∧ bitAt sect.mask 0 = false ∧ (audited (some sect) none).txp.audit = none ∧
    hearsNow (audited (some sect) none) 9 (seg 4 2) = true ∧ hearsNow (closed9 (leads open5 allParts)) 9 (seg 4 2) = true ∧
    (9 : Nat) ≠ (audited none none).vent.devId ∧ (audited none none).txp.deputy ≠ some (audited none none).vent.devId := by decide +kernel
/-- CHAIN of step 4 is the latest one; of step 5 it is not known to a module that has closed step 9 and holds no record of steps 4 and 5. -/
theorem wit_chainBefore : ({ audited (some sect) none with txp := { (audited (some sect) none).txp with lastClosed := 4 } } : State).chainBefore 5 ≠ none ∧
    ({ audited (some sect) none with txp := { (audited (some sect) none).txp with lastClosed := 9 } } : State).chainBefore 5 = none := by
  decide +kernel
def asking (toDeputy : Bool) : State := audited (some sect) (some ⟨⟨9, 1, 5, 1⟩, toDeputy, 0, none, false⟩)
theorem wit_reply : hearsNow (asking false) 9 (seg 4 2) = true ∧
    (∀ b ∈ [true, false], (asking b).txp.audit = some ⟨⟨9, 1, 5, 1⟩, b, 0, none, false⟩) ∧
    (asking false).txp.deputy = some 12 ∧ (contribution 9 1 5 1).id = ⟨9, 1, 5, 1⟩ ∧
    (asking false).now < 0 + 600 * nsPerSec ∧ 0 + 600 * nsPerSec ≤ (clock (600 * nsPerSec) (asking false)).now := by decide +kernel
def leads3 : State := { leads open5 [] with
  txp := { (leads open5 []).txp with
    members := three
    sessions := [(9, sessionUp9), (12, sessionUp9)] } }
theorem wit_report : hearsNow leads3 9 (seg 4 2) = true ∧ leads3.isLeader = true ∧
    leads3.txp.cases.find? (fun k => decide (k.id = ⟨1, 1, 5, 0⟩)) = none ∧ leads3.nextAuditor ⟨1, 1, 5, 0⟩ 9 [1] = some 12 ∧
    leads3.sessUp 12 = true ∧ (leads3.sess 12).spent leads3.now = false := by decide +kernel
/-- The second auditor, device 9, names a digest that agrees with the first one against the record, or does not. -/
def cased : State := { leads3 with txp := { leads3.txp with cases := [⟨⟨1, 1, 5, 0⟩, 12, [3], 9⟩], wms := [wm (contribution 1 1 5 0) true true] } }
theorem wit_report2 : hearsNow cased 9 (seg 4 2) = true ∧ cased.isLeader = true ∧
    cased.txp.cases.find? (fun k => decide (k.id = ⟨1, 1, 5, 0⟩)) = some ⟨⟨1, 1, 5, 0⟩, 12, [3], 9⟩ ∧
    (padTo 32 ([3] : List Byte) ≠ (cased.recorded ⟨1, 1, 5, 0⟩).2) ∧
    ¬ (padTo 32 ([4] : List Byte) = padTo 32 ([3] : List Byte)) := by decide +kernel
theorem wit_auditors : (12 : Nat) ≠ cased.vent.devId ∧ cased.sessUp 12 = true ∧ (cased.sess 12).spent cased.now = false ∧ (9 : Nat) ≠ cased.vent.devId := by
  decide +kernel
/-- The release of AOUTWIN, window 4, by tile 0, its only consumer, while the audit runs. -/
def aoutWin : Win := ⟨131072, 65536, false, 0xFFF, 3, false, 43, 0x0000, false, false, 0, [], [], []⟩
def finishing : State := { audited (some sect) (some ⟨⟨9, 1, 5, 1⟩, false, 0, some (contribution 9 1 5 1), true⟩) with
  mem := { Mem.reset with wins := [(4, some aoutWin)] }
  tiles := [(0, { Tile.reset with wrels := [⟨4, 63, []⟩] })] }
theorem wit_aout : (finishing.tile 0).wrels = ⟨4, 63, []⟩ :: [] ∧ finishing.win 4 = some aoutWin ∧ aoutWin.side1 = false ∧
    (∀ k ∈ gTiles finishing.rows aoutWin.cons, k = 0 ∨ k ∈ aoutWin.released) ∧ finishing.isAout 4 = true ∧
    (finishing.txp.audit.map fun a => (a.running, a.reply)) = some (true, some (contribution 9 1 5 1)) ∧ finishing.isLeader = false ∧
    finishing.sessUp finishing.txp.leader = true ∧ (finishing.sess finishing.txp.leader).spent finishing.now = false := by decide +kernel

end Sys2Proof.Tests
end

