-- ==== Sys2Proof/Tests/WitnessVent.lean ====
section
/-!
SUPPORT. Witnesses for the statements about the journal, Vent's duties, monitors, inputs, errors, start-up, power and reset.
-/
namespace Sys2Proof.Tests
open Sys2Proof.Machine

set_option Elab.async false

/-- A mounted journal with one OPEN sector, in which a MANUFACTURE record stands. -/
def maker : JRec := ⟨0x13, leBytes 2 1536 ++ [2] ++ leBytes 8 1 ++ List.replicate 64 0, 0, true, none⟩
def jrn (recs : List JRec) (batch : List PendRec) : Journal :=
  { Journal.reset with
    sectors := [(0, ⟨.opened, 0, 0x5A53, none, recs⟩)]
    nextSeq := 1
    mounted := true
    batch := batch }
/-- Vent of device 1, of grade 1536 and stepping B0, in a state. -/
def ventIn (st : DevSt) (j : Journal) : Vent := { Vent.reset with
  dev := st
  devId := 1
  shippedGrade := 1536
  stepping := 2
  grade := 1536
  flash := ⟨[], false, []⟩
  journal := j
  startup := ⟨true, true, false, [], false⟩ }
def inState (st : DevSt) : State := { State.reset with vent := ventIn st (jrn [maker] []) }
def inBoot (u : Startup) (j : Journal) : State := { State.reset with vent := { ventIn .boot j with startup := u } }

/-! JournalWrites: one record, or two; a sector with room for exactly 48 bytes more, and one with room for less; use of 2,689 of 3,584 sectors. -/
def portRec : PendRec := ⟨0x20, [1], .nothing⟩
def writing : State := { State.reset with vent := ventIn .idle (jrn [maker] [portRec]) }
theorem wit_batch : writing.vent.journal.mounted = true ∧ writing.vent.journal.damaged = false ∧ writing.vent.startup.held = false ∧
    writing.vent.journal.batch = [portRec] ∧ writing.vent.journal.waits portRec = false ∧ portRec.next = .nothing ∧
    (writing.vent.journal.append portRec.typ portRec.payload).isSome = true := by decide
def filled (n : Nat) : Journal := jrn [⟨0x32, List.replicate n 0, 0, true, none⟩] []
theorem wit_fits : ((filled 65392).sector (filled 65392).cur).st = .opened ∧
    ((filled 65392).sector (filled 65392).cur).used + recSize ([5] : List Byte).length = 65536 := by decide +kernel
theorem wit_fitsNot : 65536 < ((filled 65393).sector (filled 65393).cur).used + recSize ([5] : List Byte).length ∧
    (filled 65393).nextErased 3584 (filled 65393).cur = some 1 := by decide +kernel
def fullSector (k : Nat) : Nat × Sector := (k, ⟨if k = 0 then .opened else .full, k, if k = 0 then 0x5A53 else 0, none, if k = 0 then [maker] else []⟩)
def crowded (n : Nat) : State := { State.reset with
  vent := ventIn .idle { jrn [] [] with sectors := (List.range n).map fullSector } }
theorem wit_crowded : (crowded 2689).vent.journal.above 75 = true ∧ (crowded 2688).vent.journal.above 75 = false := by decide +kernel
theorem wit_compacts : ((crowded 2689).vent.journal.compact (crowded 2689).liveRecords).isSome = true := by decide +kernel

/-- An OUTBOUND record waits beside a record that is written, at 3,405 sectors in use; 3,404 are not 95 %, and 3,549 are beyond 99 %. -/
def outRec : PendRec := ⟨0x42, [1], .nothing⟩
theorem wit_marks : (crowded 3405).vent.journal.high = true ∧ (crowded 3404).vent.journal.high = false ∧
    (crowded 3405).vent.journal.waits outRec = true ∧ (crowded 3405).vent.journal.waits portRec = false ∧
    (crowded 3405).vent.journal.highPosted = false ∧ (crowded 3405).vent.journal.above 99 = false ∧
    (crowded 3548).vent.journal.above 99 = false ∧ (crowded 3549).vent.journal.above 99 = true ∧ (crowded 3549).vent.dev ≠ .dormant := by
  decide +kernel
def withBatch (s : State) (b : List PendRec) : State := { s with vent := { s.vent with journal := { s.vent.journal with batch := b } } }
theorem wit_batches : (withBatch (crowded 3405) [portRec, outRec]).vent.journal.batch = [portRec, outRec] ∧
    (withBatch (crowded 3405) [outRec, portRec]).vent.journal.batch = [outRec, portRec] ∧
    (∀ p ∈ (withBatch (crowded 3405) [outRec]).vent.journal.batch, (withBatch (crowded 3405) [outRec]).vent.journal.waits p = true) ∧
    (match (crowded 3405).vent.journal.append portRec.typ portRec.payload with
      | some k => k.waits outRec
      | none => false) = true := by decide +kernel
/-- A sector that a snapshot has left OBSOLETE. -/
def obsolete5 : State := { State.reset with
  vent := ventIn .idle { jrn [maker] [] with sectors := [(0, ⟨.opened, 0, 0x5A53, none, [maker]⟩), (5, ⟨.obsolete, 0, 0x5A53, none, []⟩)] } }
theorem wit_obsolete : obsolete5.vent.journal.obsolete = some 5 ∧ (crowded 2689).vent.journal.obsolete = none ∧ obsolete5.vent.startup.held = false ∧
    obsolete5.vent.journal.mounted = true ∧ obsolete5.vent.journal.damaged = false := by decide +kernel

/-! VentsPeriodicDuties. -/
def refusedAt (n at0 cc : Nat) : State := { inState .running with
  cc := cc
  host := { HostIface.reset with refused := n, refusedAt := at0 } }
theorem wit_duties : (inState .idle).ventRuns = true ∧ (refusedAt 1 0 0).host.refused ≠ 0 ∧ (refusedAt 1 0 0).host.refusedAt = 0 ∧
    (refusedAt 1 7 (ccPerMs + 6)).host.refusedAt + ccPerMs ≤ (refusedAt 1 7 (ccPerMs + 6)).cc + 1 ∧
    (refusedAt 1 7 (ccPerMs + 5)).cc + 1 < (refusedAt 1 7 (ccPerMs + 5)).host.refusedAt + ccPerMs ∧ (inState .idle).aon.power = true ∧
    (inState .idle).mem.cnt = [] ∧ (inState .idle).ports = [] ∧ (inState .idle).tiles = [] := by decide

/-! MonitorsAndPacing: sensor 0 of the logic die at the thresholds of Table 15-7, in 1/256 °C. -/
def warm (v : Int) (pace : Nat) (below : Option Nat) (cc : Nat) : State := { inState .running with
  cc := cc
  aon := { Aon.reset with temps := [(0, v)], pace := pace, paceBelow := below } }
theorem wit_sample : (inState .idle).aon.power = true ∧ ((-10241 : Int) < -10240 ∧ (38400 : Int) < 38401) := by decide
theorem wit_pace : (warm (256 * 95) 0 none 0).aon.pace < (warm (256 * 95) 0 none 0).aon.wanted ∧
    (warm (256 * 95 - 1) 0 none 0).aon.wanted = 0 ∧
    -- level 2 begins at 98 °C and is left below 95 °C
    (warm (256 * 95) 2 (some 0) 0).aon.wanted ≤ 2 ∧ (warm (256 * 95) 2 (some 0) 0).aon.throttled = false ∧
    (warm (256 * 95) 2 (some 0) 0).aon.blind = false ∧
    (warm (256 * 95) 2 (some 0) 0).aon.included.any (fun e => decide (paceThr e.1 2 - 768 < e.2)) = false ∧
    0 + 100 * ccPerMs ≤ (warm (256 * 95) 2 (some 0) (100 * ccPerMs)).cc ∧
    (warm (256 * 95) 2 (some 0) (100 * ccPerMs - 1)).cc < 0 + 100 * ccPerMs := by decide
def hotFor (n : Nat) : State := { warm (256 * 110) 4 none n with aon := { (warm (256 * 110) 4 none n).aon with tripAt := [(0, 0)] } }
theorem wit_trip : (hotFor (10 * ccPerMs)).tripped 0 = true ∧ (hotFor (10 * ccPerMs - 1)).tripped 0 = false ∧
    (warm 0 0 none 0).vent.startup.held = false ∧ (warm 0 0 none 0).vent.dev ≠ .dormant := by decide
theorem wit_volt : voltWide 23 39999 = true ∧ voltBad 23 60001 = true ∧ voltBad 23 60000 = false ∧ voltBad 23 40000 = false := by decide
/-- The sensor has stood 3 °C below the level, or has not, since a cycle or from now on. -/
theorem wit_near : (∃ e ∈ (warm (256 * 96) 2 (some 0) 0).aon.included, paceThr e.1 2 - 768 < e.2) ∧
    (∀ e ∈ (warm (256 * 95) 2 none 0).aon.included, ¬ paceThr e.1 2 - 768 < e.2) ∧ (warm (256 * 95) 2 none 0).aon.paceBelow = none ∧
    (warm (256 * 95) 2 none 0).aon.wanted ≤ 2 ∧ (warm (256 * 96) 2 (some 0) 0).aon.wanted ≤ 2 ∧ (0 : Nat) < 2 := by decide
/-- Oscillator 3 of baseline 1,000 at 919 and at 920, in a power session that has reported it and in one that has not. -/
def oscBase : JRec := ⟨0x13, leBytes 2 1536 ++ [2] ++ leBytes 8 1 ++ (List.replicate 3 (leBytes 2 0)).flatten ++ leBytes 2 1000 ++ List.replicate 56 0, 0, true, none⟩
def oscAt (v : Nat) (seen : List Nat) : State := { State.reset with
  vent := ventIn .idle (jrn [oscBase] [])
  aon := { Aon.reset with oscs := [(3, v)], oscSeen := seen } }
theorem wit_osc : (oscAt 919 []).oscWas [] 3 = 1000 ∧ 100 * 919 < 92 * 1000 ∧ ¬ (100 * 920 < 92 * 1000) ∧ (oscAt 919 []).ventRuns = true ∧
    (oscAt 919 []).vent.journal.mounted = true ∧ (oscAt 919 []).aon.oscs = [(3, 919)] ∧ (3 : Nat) ∉ (oscAt 919 []).aon.oscSeen ∧
    (∀ e ∈ (oscAt 919 [3]).aon.oscs, e.1 ∈ (oscAt 919 [3]).aon.oscSeen) ∧
    (oscAt 919 []).vent.journal.live.find? (fun r => r.typ == 0x13) = some oscBase ∧ (oscAt 919 []).oscWas [0, 0, 0, -2] 3 = 998 := by decide +kernel

/-! ExternalInputsAndTime. -/
def inputs (cc : Nat) (sync thr : InSt) (ns : Nat) : State := { inState .idle with
  cc := cc
  aon := { Aon.reset with syncIn := sync, throttle := thr, ptp := ⟨5, ns, 0⟩ } }
def quietIn : InSt := ⟨false, [], false, false, some 0⟩
theorem wit_edge : (inputs 0 .reset .reset 0).aon.power = true ∧ (inputs 0 .reset .reset 0).aon.throttle.active ≠ true ∧
    ({ InSt.reset with active := true } : InSt).active ≠ false := by decide
theorem wit_edge_held : heldInReset.vent.startup.held = true ∧ (inputs 0 .reset .reset 0).vent.startup.held = false ∧
    (inputs 0 .reset .reset 0).aon.pace < 4 ∧ 4 ≤ (warm 0 4 none 0).aon.pace ∧ (warm 0 4 none 0).aon.power = true ∧
    (⟨true, [], false, false, some 0⟩ : InSt).stuck = false := by decide
theorem wit_sync : (inputs ccPerSec quietIn .reset 0).aon.syncIn.active = false ∧ (inputs ccPerSec quietIn .reset 0).aon.syncIn.last = some 0 ∧
    ((quietIn.edges.filter fun c => decide (ccPerSec < c + 10 * ccPerMs)) ++ [ccPerSec]).length ≤ 16 ∧
    ccPerSec - ccPerMs ≤ (ccPerSec - ccPerMs) - 0 ∧ (ccPerSec + ccPerMs) - 0 ≤ ccPerSec + ccPerMs ∧
    (ccPerSec - ccPerMs - 1) - 0 < ccPerSec - ccPerMs ∧ ccPerSec + ccPerMs < (ccPerSec + ccPerMs + 1) - 0 := by decide
theorem wit_stuck : (inputs (ccPerSec + 1) .reset ⟨true, [], false, false, some 0⟩ 0).aon.throttle.active = true ∧
    0 + ccPerSec < (inputs (ccPerSec + 1) .reset ⟨true, [], false, false, some 0⟩ 0).cc := by decide
theorem wit_lock : ((ported (upPort 2)).port 11).st = .up ∧ ((ported Port.reset).port 11).st ≠ .up := by decide
theorem wit_syncOut : (inputs 0 .reset .reset 10).aon.ptp.ns ≤ 10 ∧ 10 < (inputs 0 .reset .reset 11).aon.ptp.ns ∧
    (inputs 0 .reset .reset 999999989).aon.ptp.ns < 999999990 ∧ (inputs 0 .reset .reset 0).vent.startup.plls = true := by decide

/-! ErrorReportsAndTheLedger. -/
def reporting (codes : List Nat) : State := { inState .running with tiles := [(1535, { Tile.reset with reports := codes })] }
theorem wit_errReport : codeDomain 0x0101 = 1 ∧ knownCodes.contains 0x0101 = true ∧ ((reporting [0x0101]).tile 1535).reports.contains 0x0101 = true ∧
    ((reporting []).tile 1535).reports.contains 0x0101 = false ∧ (reporting []).vent.startup.held = false ∧
    knownCodes.contains 0x0107 = true ∧ codeDomain 0x0301 ≠ 1 ∧ gExists (reporting []).rows 0x2000 = true := by decide
def summed (cc : Nat) (gid code : Nat) : State := ({ inState .running with cc := cc } : State).setNode gid
  { CalNode.reset with sums := [(code, ⟨2, 5, 10⟩)] }
theorem wit_summary : ((summed 17 0x1000 0x0101).summary 0x1000 0x0101).count ≠ 0 ∧
    (summed 17 0x1000 0x0101).cc < ((summed 17 0x1000 0x0101).summary 0x1000 0x0101).at' + 8 ∧
    ((summed 18 0x1000 0x0101).summary 0x1000 0x0101).at' + 8 ≤ (summed 18 0x1000 0x0101).cc ∧ gParent 0x1000 ≠ 0x1000 ∧
    ((summed 18 0x5000 0x0101).summary 0x5000 0x0101).count ≠ 0 ∧ (summed 18 0x5000 0x0101).cal.ventQ.length < 64 := by decide
/-- A summary on its way to its parent, in the cycle before it arrives and in that of its arrival. -/
def flying (cc : Nat) : State := { inState .running with cc := cc, cal := { Caldera.reset with sumFly := [(9, 0x5000, 0x0101, ⟨2, 5, 0⟩)] } }
theorem wit_flying : (flying 8).cal.sumFly = [(9, 0x5000, 0x0101, ⟨2, 5, 0⟩)] ∧ (flying 8).cc < 9 ∧ 9 ≤ (flying 9).cc ∧
    ((flying 9).summary 0x5000 0x0101).count = 0 ∧ gLevel 0x5000 ≠ 2 := by decide
def queuedErr (code : Nat) (l : Ledger) : State := { inState .running with
  cal := { Caldera.reset with ventQ := List.replicate 64 (code, ⟨1, 5, 0⟩) }
  vent := { ventIn .running (jrn [maker] []) with ledger := l } }
def entryIn (st : Nat) (at0 : Nat) : LEntry := { LEntry.free with code := 0x0104, domain := 1, state := st, at' := at0 }
def fullLedger : Ledger := ⟨(List.range 16).map (·, entryIn 1 0), 16⟩
theorem wit_ledger : (queuedErr 0x0104 ⟨[], 0⟩).cal.ventQ = (0x0104, ⟨1, 5, 0⟩) :: List.replicate 63 (0x0104, ⟨1, 5, 0⟩) ∧
    64 ≤ (queuedErr 0x0104 ⟨[], 0⟩).cal.ventQ.length ∧ fullLedger.slot = none ∧ (queuedErr 0x0104 ⟨[], 0⟩).vent.ledger.slot = some 0 ∧
    hardwareClass 0x0104 = false ∧ (queuedErr 0x0104 ⟨[], 0⟩).vent.startup.verified = true := by decide
def oneEntry (st at0 cc : Nat) : State := { queuedErr 0x0104 ⟨[(15, entryIn st at0)], 1⟩ with cc := cc }
theorem wit_handle : (oneEntry 1 0 0).vent.ledger.active = none ∧ (oneEntry 1 0 0).vent.ledger.oldestOpen = some 15 ∧
    firstAction ((oneEntry 1 0 0).vent.ledger.entry 15).code = 0 ∧ ((oneEntry 1 0 0).vent.ledger.entry 15).esc = false ∧
    ((oneEntry 1 0 0).vent.ledger.entry 15).action ≠ 8 := by decide
theorem wit_timeout : (oneEntry 2 7 0).vent.ledger.active = some 15 ∧
    ((oneEntry 2 7 0).vent.ledger.entry 15).at' + 50 * ccPerMs ≤ (oneEntry 2 7 (7 + 50 * ccPerMs)).cc ∧
    (oneEntry 2 7 (6 + 50 * ccPerMs)).cc < ((oneEntry 2 7 0).vent.ledger.entry 15).at' + 50 * ccPerMs := by decide

/-- The handler faults while it works on an entry: an IMAGE_START waits, or nothing does. -/
theorem wit_handler : (oneEntry 2 7 0).vent.dev ≠ .dormant ∧ (oneEntry 2 7 0).host.inside = [] ∧
    ({ oneEntry 2 7 0 with host := { (oneEntry 2 7 0).host with go := true } } : State).host.asked ≠ none ∧
    (inState .running).vent.ledger.active = none ∧ codeDomain 0x0401 = 4 ∧ ({ LEntry.free with code := 0x0401, domain := 4 } : LEntry).domain = 4 := by
  decide

/-! StartUp: each phase of a module that starts; the journal intact and damaged. That an image in flash verifies rests on a signature. -/
def phase (plls verified recovery : Bool) : State := inBoot ⟨plls, verified, recovery, [], false⟩ { jrn [maker] [] with mounted := false }
theorem wit_start : (phase false false false).vent.startup.plls = false ∧ (phase false false false).vent.dev = .boot ∧
    (phase true false false).vent.startup.verified = false ∧ (phase true false false).vent.flash.blank = true ∧
    (phase true false false).vent.startup.held = false := by decide
theorem wit_blank : (phase true false false).vent.flash.verifies (phase true false false).vent.flash.length = false := by decide +kernel
def mountOf (j : Journal) : Journal := { j.repairLog with base := j.repairLog.findBase, batch := [], mounted := true, highPosted := false }
theorem wit_mount : (mountOf { jrn [maker] [] with mounted := false }).isDamaged = false ∧
    (mountOf { jrn [] [] with mounted := false }).isDamaged = true ∧
    (mountOf { jrn [maker, { maker with seq := 2 }] [] with mounted := false }).isDamaged = true ∧
    (phase true true false).vent.journal.mounted = false := by decide
/-- A journal whose OPEN sector has no room left, with no ERASED one behind it. -/
def noRoom : Journal := { Journal.reset with
  mounted := true
  sectors := (0, ⟨.opened, 0, 0x5A53, none, [maker, ⟨0x32, List.replicate 65312 0, 1, true, none⟩]⟩) ::
    ((List.range 3583).map fun k => (k + 1, ⟨.full, 0, 0, none, []⟩)) }
theorem get_map (v d : Sector) (i : Nat) : ∀ l : List Nat, i ∈ l → Sparse.get d (l.map fun k => (k + 1, v)) (i + 1) = v
  | [], h => nomatch h
  | k :: l, h => by
    by_cases e : i = k
    · simp [Sparse.get, e]
    · simp [Sparse.get, e, get_map v d i l ((List.mem_cons.mp h).resolve_left e)]
theorem noRoom_full (i : Nat) (h : i < 3584) : (noRoom.sector i).st ≠ .erased := by
  match i with
  | 0 => rw [Journal.sector, noRoom, Sparse.get, if_pos rfl]; decide
  | k + 1 =>
    have e : noRoom.sector (k + 1) = ⟨.full, 0, 0, none, []⟩ := by
      rw [Journal.sector, noRoom, Sparse.get, if_neg (by omega)]
      exact get_map _ _ k _ (List.mem_range.mpr (by omega))
    rw [e]; decide
theorem nextErased_none (j : Journal) (h : ∀ i < 3584, (j.sector i).st ≠ .erased) : ∀ n i, j.nextErased n i = none
  | 0, _ => rfl
  | n + 1, i => by
    have := h ((i + 1) % sectorCount) (Nat.mod_lt _ (by decide))
    simp [Journal.nextErased, this, nextErased_none j h n]
theorem wit_noRoom : noRoom.append 0x40 (leBytes 4 1) = none := by
  have hc : ¬ ((noRoom.sector noRoom.cur).st = .opened ∧ (noRoom.sector noRoom.cur).used + recSize (leBytes 4 1).length ≤ sectorBytes) := by decide +kernel
  have hd : noRoom.damaged = false := rfl
  simp only [Journal.append, hd, hc, nextErased_none _ noRoom_full, if_false, Bool.false_eq_true]
theorem wit_noRoom_mounts : noRoom.isDamaged = false := by decide +kernel
def test (p : TestPart) (hard mgmt : Bool) : SelfTest := ⟨p, [], [], [], [], hard, mgmt⟩
theorem wit_test : (test .basin false false).hard = false ∧ (test .basin false false).mgmt = false ∧ (test .basin true false).hard = true ∧
    (test .tiles false true).mgmt = true ∧ (phase true true false).vent.startup.verified = true := by decide
def tested : State := inBoot
  ⟨true, true, false, [test .tiles false false, test .fabric false false, test .terrace false false, test .basin false false, test .serdes false false], false⟩
  (jrn [maker] [])
theorem wit_merge : tested.vent.journal.mounted = true ∧ tested.vent.startup.testsDone = true ∧ tested.vent.retire = [] ∧
    (∀ r ∈ tested.vent.startup.tests, testChanges r = []) ∧ tested.vent.map.gradeOf tested.vent.shippedGrade = some tested.vent.grade ∧
    tested.aon.volts.any (fun e => voltBad e.1 e.2) = false := by decide

/-- The incarnation that the mount writes finds room, with use beyond 99 % afterwards or not. -/
theorem wit_mount_use : (match (mountOf { jrn [maker] [] with mounted := false }).append 0x40 (leBytes 4 1) with
      | some k => !k.above 99
      | none => false) = true ∧
    (match ({ jrn [] [] with sectors := (List.range 3549).map fullSector } : Journal).append 0x40 (leBytes 4 1) with
      | some k => k.above 99
      | none => false) = true := by decide +kernel
/-- A grade lost with its batch: the map leaves 1408 and no record says so. -/
def lowered : State := { tested with vent := { tested.vent with grade := 1408 } }
theorem wit_lost_grade : lowered.vent.map.gradeOf lowered.vent.shippedGrade = some 1536 ∧ lowered.lastGrade ≠ min 1536 lowered.vent.grade ∧
    lowered.vent.journal.damaged = false ∧ tested.lastGrade = min 1536 tested.vent.grade ∧
    ({ RepairMap.good with routers := [(0, true), (40, true)] } : RepairMap).gradeOf 1536 = none := by decide +kernel
theorem wit_train : (phase true false false).aon.perstLow = false ∧ (phase false false false).vent.startup.plls = false ∧
    ({ Aon.reset with perstLow := true } : Aon).perstLow = true := by decide

/-! PowerAndReset. -/
def power (on ok : Bool) : State := { inState .running with aon := { Aon.reset with power := on, pwrOk := ok } }
theorem wit_power : (power true true).aon.power = true ∧ (power true true).aon.pwrOk = true ∧ (power true false).aon.pwrOk = false ∧
    (power false false).aon.power = false ∧ (power true false).aon.railsOk = true := by decide

end Sys2Proof.Tests
end

