-- ==== Sys2Proof/Tests/WitnessMail.lean ====
section
/-!
SUPPORT. Witnesses for the statements about the mailbox, firmware and debug access, registers, the CXL function, JTAG and the sideband.
-/
namespace Sys2Proof.Tests
open Sys2Proof.Machine

set_option Elab.async false

/-- The mailbox holds this command with this request at its doorbell. -/
def asked (s : State) (code : Nat) (req : List Byte) : State := { s with
  host := { s.host with
    cmd := code
    len := req.length
    go := true
    payload := Sparse.setRun 0 [] 0 req } }

/-! MailboxChecks: each command in a state outside its column, where there is one, and with a length that is not its own. -/
def otherState (l : List DevSt) : Option DevSt :=
  [DevSt.boot, .dormant, .idle, .loaded, .running, .ended].find? fun d => !l.contains d
theorem wit_states : ∀ e ∈ mboxRows,
    (∀ d, otherState e.sts = some d → e.sts.contains (asked (inState d) e.code []).vent.dev = false) ∧
    (∃ d ∈ e.sts, e.sts.contains (asked (inState d) e.code []).vent.dev = true) ∧
    e.len (asked (inState .idle) e.code [0, 0, 0]).host.len = (e.code == 0x0701) ∧
    (asked (inState .idle) e.code []).mbServes = true ∧ (asked (inState .idle) e.code []).vent.run.starting = false := by decide
theorem wit_unsupported : (asked (inState .idle) 0x0106 []).host.go = true ∧ mboxCodes.contains 0x0106 = false ∧
    (asked (inState .boot) 0x0106 []).mbServes = true := by decide

/-- A command that a reset of the function has left inside Vent comes before the one at the doorbell. -/
def leftInside : State := { asked (inState .idle) 0x0100 [] with host := { (asked (inState .idle) 0x0100 []).host with inside := [(0x0600, [])] } }
theorem wit_inside : leftInside.host.inside = (0x0600, []) :: [] ∧ leftInside.Asks 0x0600 stAll (lenIs 0) [] ∧
    (asked (inState .idle) 0x0100 []).host.inside = [] := by decide

/-! WritesWhileBusyAreIgnored: the four registers and the ends of the payload area. -/
theorem wit_busy : (asked (inState .idle) 0x0100 []).host.go = true ∧ (asked (inState .idle) 0x0100 []).hostDown = false ∧
    ∀ off ∈ [0x0000, 0x0004, 0x0008, 0x8000, 0xFFFC],
      off = 0x0000 ∨ off = 0x0004 ∨ off = 0x0008 ∨ (0x8000 ≤ off ∧ off < 0x10000 ∧ off % 4 = 0) := by decide

/-! MailboxQueries: every query asked; the fields of its request at the ends of their ranges. -/
theorem wit_queries : (asked (inState .boot) 0x0100 []).Asks 0x0100 stBoot (lenIs 0) [] ∧ (asked (inState .boot) 0x0101 []).Asks 0x0101 stBoot (lenIs 0) [] ∧
    (asked (inState .boot) 0x0102 []).Asks 0x0102 stBoot (lenIs 0) [] ∧ (asked (inState .idle) 0x0103 []).Asks 0x0103 stAll (lenIs 0) [] ∧
    (asked (inState .idle) 0x0600 []).Asks 0x0600 stAll (lenIs 0) [] ∧ (asked (inState .idle) 0x0500 []).Asks 0x0500 stAll (lenIs 0) [] ∧
    (asked (inState .loaded) 0x0405 []).Asks 0x0405 stLRE (lenIs 0) [] := by decide
def counters (clr : Byte) : State := asked (inState .idle) 0x0104 [6, clr, 0, 0]
theorem wit_counters : (counters 0).Asks 0x0104 stILRE (lenIs 4) (counters 0).host.req ∧ leAt (counters 1).host.req 0 1 = 6 ∧ leAt (counters 1).host.req 1 1 = 1 ∧
    leAt (counters 0).host.req 1 1 = 0 ∧ leAt (counters 0).host.req 2 2 = 0 := by decide
/-- The image of 2 by 2 tiles of WitnessTxp, with window 5 of WitnessFabric, in a state. -/
def loaded (st : DevSt) (x : Win) : State := { inState st with
  vent := { ventIn st (jrn [maker] []) with image := some image }
  mem := { Mem.reset with wins := [(5, some x)] } }
theorem wit_query_fields : (asked (loaded .running (win5 true)) 0x0105 [0x00, 0x50]).Asks 0x0105 [.running] (lenIs 2) [0x00, 0x50] ∧
    gExists (loaded .running (win5 true)).rows (leAt (asked (loaded .running (win5 true)) 0x0105 [0x00, 0x50]).host.req 0 2) = true ∧
    (asked (loaded .ended (win5 true)) 0x0302 [5]).win (leAt (asked (loaded .ended (win5 true)) 0x0302 [5]).host.req 0 1) = some (win5 true) ∧
    leAt (asked (inState .idle) 0x0403 [11]).host.req 0 1 < 12 := by decide
def jrnReq : List Byte := leBytes 8 0 ++ [0, 0] ++ leBytes 2 32768
theorem wit_jrn : (asked (inState .idle) 0x0501 jrnReq).Asks 0x0501 stAll (lenIs 12) jrnReq ∧ leAt jrnReq 9 1 = 0 ∧ leAt jrnReq 10 2 = 32768 ∧
    (asked (inState .idle) 0x0601 (List.replicate 32 1)).Asks 0x0601 stAll (lenIs 32) (List.replicate 32 1) ∧
    ({ Sec.reset with unsealed := true } : Sec).unsealed = true := by decide
/-- A reserved record type, one of Table 15-4, and 0 for all. -/
theorem wit_jrn_types : ∀ e ∈ [((0x7F : Nat), false), (0x13, true), (0x47, true)], e.1 ≠ 0 ∧ jrnTypes.contains e.1 = e.2 ∧ leAt jrnReq 8 1 = 0 := by decide
def debugger (s : State) (rights : Nat) : State := { s with sec := { s.sec with session := some rights } }
theorem wit_debug_reads : (asked (loaded .running (win5 true)) 0x0701 [3, 0, 47]).Asks 0x0701 stRE (lenIs 3) [3, 0, 47] ∧
    (3 : Nat) < (asked (loaded .running (win5 true)) 0x0701 [3, 0, 47]).tileLimit ∧
    (asked (loaded .ended (win5 true)) 0x0702 [3, 0, 0xFC, 0x0F]).Asks 0x0702 stLRE (lenIs 4) [3, 0, 0xFC, 0x0F] ∧
    leAt (asked (loaded .ended (win5 true)) 0x0702 [3, 0, 0xFC, 0x0F]).host.req 2 2 = 4092 ∧
    (debugger (loaded .ended (win5 true)) 2).sec.right 1 = true ∧ (debugger (loaded .ended (win5 true)) 5).sec.right 1 = false ∧
    (loaded .ended (win5 true)).sec.right 1 = false := by decide
def tsReq : List Byte := [3, 0, 0, 0] ++ leBytes 4 (0x60000 - 28672) ++ leBytes 4 28672
theorem wit_tstore : (asked (loaded .ended (win5 true)) 0x0703 tsReq).Asks 0x0703 stRE (lenIs 12) tsReq ∧ zeroAt tsReq 2 4 = true ∧
    leAt tsReq 4 4 % 8 = 0 ∧ leAt tsReq 8 4 = 28672 ∧ leAt tsReq 4 4 + leAt tsReq 8 4 = 0x60000 := by decide

/-! LifeOfAnImage. An image of no bytes has no header; an accepted one has some twelve million bytes, which no test evaluates. -/
def loadReq (a n : Nat) : List Byte := leBytes 8 a ++ leBytes 8 n
theorem wit_load : (asked (inState .idle) 0x0200 (loadReq 0 imageEndAddr)).Asks 0x0200 [.idle] (lenIs 16) (loadReq 0 imageEndAddr) ∧
    leAt (loadReq 0 imageEndAddr) 0 8 % 65536 = 0 ∧ leAt (loadReq 0 imageEndAddr) 0 8 + leAt (loadReq 0 imageEndAddr) 8 8 = imageEndAddr ∧
    imageEndAddr < leAt (loadReq 65536 imageEndAddr) 0 8 + leAt (loadReq 65536 imageEndAddr) 8 8 ∧ leAt (loadReq 1 0) 0 8 % 65536 ≠ 0 ∧
    (inState .idle).host.bg = none := by decide
def loading : State := { inState .idle with host := { HostIface.reset with bg := some ⟨0x0200, 0, 0⟩ } }
theorem wit_loadDone : loading.host.bg = some ⟨0x0200, 0, 0⟩ ∧ loading.vent.dev = .idle ∧
    (match checkImage (loading.memBytes 0 0) 0 0 loading.vent.grade loading.vent.stepping loading.vent.map with
      | .error c => c == 0x0101
      | .ok _ => false) = true := by decide
/-- An image of eight bytes whose first word is poisoned, and one that is not. -/
def loading8 (pz : Sparse Bool) : State := { loading with
  host := { HostIface.reset with bg := some ⟨0x0200, 0, 8⟩ }
  mem := { Mem.reset with pz := pz } }
theorem wit_poisoned : ((loading8 [(0, true)]).memRead 0 8).mem.rangePz 0 8 = true ∧ ((loading8 []).memRead 0 8).mem.rangePz 0 8 = false ∧
    (loading8 []).host.bg = some ⟨0x0200, 0, 8⟩ ∧ (loading8 []).vent.dev = .idle := by decide
def atGate : State := { loaded .loaded (win5 true) with
  tiles := (List.range 4).map fun t => (t, { Tile.reset with st := .wait, sleep := .flag 44 })
  vent := { (loaded .loaded (win5 true)).vent with run := { Run.reset with starting := true } } }
theorem wit_gate : (asked (loaded .loaded (win5 true)) 0x0201 (leBytes 8 7)).Asks 0x0201 [.loaded] (lenIs 8) (leBytes 8 7) ∧
    (loaded .loaded (win5 true)).vent.image = some image ∧ (loaded .loaded (win5 true)).vent.map = image.bound ∧
    atGate.vent.run.starting = true ∧ atGate.vent.run.gateAt = none ∧ atGate.gridTiles = 4 ∧
    (∀ t < 4, (atGate.tile t).st = .wait ∧ (atGate.tile t).sleep = .flag 44) := by decide
theorem wit_stop : (asked (loaded .running (win5 true)) 0x0202 [0]).Asks 0x0202 [.running] (lenIs 1) [0] ∧
    leAt (asked (loaded .running (win5 true)) 0x0202 [1]).host.req 0 1 = 1 ∧
    (asked (loaded .ended (win5 true)) 0x0203 []).Asks 0x0203 [.loaded, .ended] (lenIs 0) [] ∧ (loaded .ended (win5 true)).vent.retire = [] := by decide

/-! ContextImages: window 6, outside and large enough for one context; a tile at the barrier and one that runs. -/
def win6 (size : Nat) (outside : Bool) : Win := { win5 outside with size := size, side1 := false, pset := 0 }
def saving (t : Tile) (w : Win) (st : DevSt) : State := { loaded st w with tiles := [(3, t)] }
def atBarrier : Tile := { Tile.reset with st := .wait, sleep := .barrier }
def ctxReq (o : Nat) : List Byte := [3, 0, 5, 0] ++ leBytes 4 o
def ctxOk (s : State) (a : Nat) : Bool := match s.ctxAddr s.host.req with
  | .ok k => k == a
  | .error _ => false
def ctxErr (s : State) (c : Nat) : Bool := match s.ctxAddr s.host.req with
  | .ok _ => false
  | .error k => k == c
theorem wit_save : (asked (saving atBarrier (win6 ctxSize true) .running) 0x0204 (ctxReq 0)).Asks 0x0204 stRE (lenIs 8) (ctxReq 0) ∧
    ctxOk (asked (saving atBarrier (win6 ctxSize true) .running) 0x0204 (ctxReq 0)) 131072 = true ∧
    (saving atBarrier (win6 ctxSize true) .running |>.tile 3).ctxReady = true ∧
    (saving { atBarrier with st := .run } (win6 ctxSize true) .running |>.tile 3).ctxReady = false ∧
    ctxErr (asked (saving atBarrier (win6 (ctxSize - 1) true) .running) 0x0204 (ctxReq 0)) stRANGE = true ∧
    ctxErr (asked (saving atBarrier (win6 ctxSize false) .running) 0x0205 (ctxReq 0)) stWIN_HELD = true ∧
    (asked (saving atBarrier (win6 ctxSize false) .running) 0x0205 (ctxReq 0)).Asks 0x0205 [.running] (lenIs 8) (ctxReq 0) := by decide
theorem wit_restoreBad : (saving atBarrier (win6 ctxSize true) .running).ctxMismatch 3 [] = true := by decide

/-! MailboxSettings. -/
theorem wit_hdmMap : (asked (inState .idle) 0x0300 (leBytes 8 (imageEndAddr - 0x1000000000))).Asks 0x0300 stILRE (lenIs 8) (leBytes 8 (imageEndAddr - 0x1000000000)) ∧
    leAt (leBytes 8 (imageEndAddr - 0x1000000000)) 0 8 + 0x1000000000 = imageEndAddr ∧
    imageEndAddr < leAt (leBytes 8 (imageEndAddr - 0x1000000000 + 65536)) 0 8 + 0x1000000000 ∧ leAt (leBytes 8 1) 0 8 % 65536 ≠ 0 := by decide
def hostWin (outside : Bool) : State := loaded .running { win5 outside with side1 := false, pset := 0 }
theorem wit_arrive : (asked (hostWin true) 0x0301 [5]).Asks 0x0301 [.running] (lenIs 1) [5] ∧ (asked (hostWin true) 0x0301 [63]).win 63 = none ∧
    (asked (hostWin true) 0x0301 [5]).win 5 = some { win5 true with side1 := false, pset := 0 } ∧ (asked (hostWin true) 0x0301 [5]).isAin 5 = false ∧
    (asked (hostWin true) 0x0301 [5]).cal.parked = none ∧ ({ win5 false with side1 := false, pset := 0 } : Win).outside = false ∧
    leAt (asked (hostWin true) 0x0301 [64]).host.req 0 1 = 64 := by decide
/-- AINWIN, window 5, for which no audit is pending. That one is taken rests on a digest of sample bytes whose number an image format fixes. -/
def auditing5 : State := { hostWin true with vent := { (hostWin true).vent with image := imaged (some ⟨5, 4, 2⟩) } }
theorem wit_ain : auditing5.isAin 5 = true ∧ ((auditing5.auditRead 5).auditArrive 5).isNone = true ∧
    auditing5.win 5 = some { win5 true with side1 := false, pset := 0 } := by decide
def addReq (dev ports : Nat) : List Byte := padTo 32 (leBytes 8 dev ++ leBytes 2 ports)
theorem wit_partner : (asked (linked true) 0x0400 (addReq 9 4095)).host.req = addReq 9 4095 ∧ leAt (addReq 9 4095) 8 2 < 4096 ∧
    (linked true).partner (partnerOf (addReq 9 4095)).dev ≠ none ∧ (lenIs 32 (addReq 9 4095).length) = true ∧
    (linked true).partner 8 = none ∧ (linked true).partner 9 ≠ none ∧ ((linked true).sess 9).st = .up := by decide
theorem wit_partnersFull : ∃ l : List Partner, Config.partnerSlots ≤ l.length ∧ l.find? (fun e => e.dev == 8) = none :=
  ⟨List.replicate Config.partnerSlots ⟨9, 0, 0, 0⟩, by simp, by simp⟩
def cfgReq (p mode hop : Byte) : List Byte := padTo 48 [p, mode, 0, 0, 0, 7, 0xFF, 0x0F, 0, 0, 0, 0, hop, 63]
theorem wit_portCfg : (asked (inState .idle) 0x0402 (cfgReq 11 0 64)).Asks 0x0402 stILRE (lenIs 48) (cfgReq 11 0 64) ∧ leAt (cfgReq 11 0 64) 0 1 = 11 ∧
    portCfgOk (cfgReq 11 0 64) = true ∧ leAt (cfgReq 11 0 64) 1 1 = 0 ∧ portCfgOk (cfgReq 11 3 64) = false ∧ 11 < leAt (cfgReq 12 0 64) 0 1 := by
  decide
def timers (a b c : Nat) : List Byte := leBytes 4 a ++ leBytes 4 b ++ leBytes 4 c
theorem wit_timers2 : (asked (inState .idle) 0x0404 (timers 200 1000 60000)).Asks 0x0404 stILRE (lenIs 12) (timers 200 1000 60000) ∧
    (200 ≤ leAt (timers 200 1000 60000) 0 4 ∧ 1000 ≤ leAt (timers 200 1000 60000) 4 4 ∧ leAt (timers 200 1000 60000) 8 4 ≤ 60000) ∧
    leAt (timers 10000 3600000 1000) 0 4 ≤ 10000 ∧ leAt (timers 10000 3600000 1000) 4 4 ≤ 3600000 ∧ 1000 ≤ leAt (timers 10000 3600000 1000) 8 4 ∧
    leAt (timers 199 1000 1000) 0 4 < 200 ∧ 10000 < leAt (timers 10001 1000 1000) 0 4 := by decide
def forced (members : List Member) : State := { lost9 0 (some 1) with txp := { (lost9 0 (some 1)).txp with members := members } }
theorem wit_force : (forced [member 1, member 9]).txp.members.length = 2 ∧
    (forced [member 1, member 9]).txp.deputy = some (forced [member 1, member 9]).vent.devId ∧
    (forced [member 1, member 9]).txp.leader = leAt (leBytes 8 9) 0 8 ∧ (forced [member 1, member 9]).sessUp 9 = false ∧
    (forced three).txp.members.length ≠ 2 ∧ (forced [member 1, member 9]).vent.dev = .running ∧
    (forced [member 1, member 9]).vent.journal.mounted = true ∧
    (asked (inState .dormant) 0x0502 (leBytes 6 5)).Asks 0x0502 stAll (lenIs 6) (leBytes 6 5) := by decide

/-! FirmwareAndDebug. That a token passes every check rests on a signature (log entry 10); its other fields are met here. -/
def fwReq (o n : Nat) : List Byte := leBytes 4 o ++ leBytes 4 n ++ [1, 2, 3]
theorem wit_fw : (asked (inState .dormant) 0x0602 (fwReq 0xFFFFFD 3)).Asks 0x0602 stDI (fun n => decide (9 ≤ n) && decide (n ≤ 32768)) (fwReq 0xFFFFFD 3) ∧
    (asked (inState .dormant) 0x0602 (fwReq 0xFFFFFD 3)).host.req.length = 8 + leAt (fwReq 0xFFFFFD 3) 4 4 ∧
    leAt (fwReq 0xFFFFFD 3) 0 4 + leAt (fwReq 0xFFFFFD 3) 4 4 = 0x1000000 ∧ (fwReq 0 4).length ≠ 8 + leAt (fwReq 0 4) 4 4 ∧
    (asked (inState .idle) 0x0603 (leBytes 4 64)).Asks 0x0603 stDI (lenIs 4) (leBytes 4 64) ∧ loading.host.bg ≠ none := by decide
def token (rights reserved : Nat) : List Byte := padTo 17152
  (leBytes 2 1 ++ leBytes 2 rights ++ leBytes 1 0 ++ leBytes 3 reserved ++ leBytes 8 1 ++ leBytes 4 0 ++ leBytes 4 1 ++ leBytes 8 (2 ^ 64 - 1))
theorem asked_req (s : State) (code : Nat) (req : List Byte) : (asked s code req).host.req = req := Sparse.getRun_setRun (0 : Byte) [] 0 req
theorem wit_token : (asked (inState .dormant) 0x0604 (token 7 0)).Asks 0x0604 stAll (lenIs 17152) (token 7 0) :=
  ⟨congrArg (fun r => some (0x0604, r)) (asked_req _ _ _), by decide, by decide, by decide +kernel⟩
theorem wit_token2 : leAt (token 7 0) 2 2 = 7 ∧ zeroAt (token 7 0) 5 8 = true ∧ zeroAt (token 7 0) 32 64 = true ∧ 8 ≤ leAt (token 8 0) 2 2 ∧
    zeroAt (token 7 1) 5 8 = false ∧ leAt (token 7 0) 8 8 = (inState .idle).vent.devId ∧
    leAt (token 7 0) 16 4 = (inState .idle).vent.incarnation ∧ (inState .idle).sec.tokno = none ∧ leAt (token 7 0) 24 8 = 2 ^ 64 - 1 := by
  decide +kernel
theorem wit_tokenBad : (inState .idle).tokenOk (leBytes 2 2) = false ∧ (debugger (inState .idle) 1).sec.session ≠ none := by decide
def setReq : List Byte := [3, 0, 47, 255]
theorem wit_set : (asked (debugger (hostWin true) 1) 0x0700 setReq).Asks 0x0700 [.running] (lenIs 4) setReq ∧
    leAt setReq 0 2 < (asked (debugger (hostWin true) 1) 0x0700 setReq).tileLimit ∧ leAt setReq 2 1 = 47 ∧
    (debugger (hostWin true) 1).sec.right 0 = true ∧ (debugger (hostWin true) 6).sec.right 0 = false ∧
    (hostWin true).jtag.lastSet ≠ some (3, 47, (hostWin true).cc) ∧
    (asked (debugger (inState .idle) 1) 0x0605 []).Asks 0x0605 stAll (lenIs 0) [] ∧ (inState .idle).sec.session = none := by decide
def committing : State := { inState .idle with host := { HostIface.reset with bg := some ⟨0x0603, 0, 64⟩ } }
theorem wit_commit : committing.host.bg = some ⟨0x0603, 0, 64⟩ ∧ committing.ventRuns = true ∧ committing.vent.journal.mounted = true := by decide

theorem wit_commit_serves : committing.mbServes = true ∧ heldInReset.mbServes = false ∧
    (inState .idle).vent.authKeys.getD 0 none = none := by decide

/-! Registers: the first and the last counter of each block of a tile, the ends of the queues. -/
theorem wit_counterOffs : ∀ off ∈ [0x810, 0x820, 0x510, 0x51C, 0x620, 0x624, 0x720, 0x730], tileCounter off = true := by decide
theorem wit_head : (inState .idle).host.go = false ∧ (1 : Word).toNat % 2 = 1 ∧ (asked (inState .idle) 0x0100 []).host.go = true ∧
    (inState .idle).vent.startup.held = false := by decide

/-! CxlFunction: HDM in IDLE, where no window is asked for; a page in promotion; Dormant, where HDM is refused. -/
theorem wit_hdm : (0xFFFFFFFFF : Nat) < 0x1000000000 ∧ (inState .idle).hdmServed false 0 = true ∧ (inState .idle).hdmServed true 0 = true ∧
    (inState .idle).pageHeld 0 64 false = false ∧ (inState .idle).memPending 0 64 = false ∧ (inState .idle).staged 0 64 = false ∧
    (inState .dormant).hdmServed false 0 = false ∧ (inState .ended).hdmServed true 0 = false ∧ (inState .idle).vent.startup.held = false ∧
    ({ inState .idle with host := { HostIface.reset with bg := some ⟨0x0200, 0, 1⟩ } } : State).staged 0 64 = true := by decide
def held (st : PageSt) : State := { inState .idle with mig := { Mig.reset with pages := [(0, page st [] false false)] } }
theorem wit_hdmWait : (held .promoting).hdmServed false 0 = true ∧ (held .promoting).pageHeld 0 64 false = true ∧
    (held .evicting).pageHeld 0 64 false = false ∧ (held .evicting).pageHeld 0 64 true = true ∧
    ({ inState .idle with mem := { Mem.reset with ecc := [(7, .ue1)] } } : State).memPending 0 64 = true := by decide
theorem wit_cxlOp : cxlOpcodes.contains 0x4001 = false := by decide

/-- PERST_N low, the module held in reset, and neither; MSI-X on, masked and unmasked; a link that is up before Vent runs, and after. -/
def perst (b : Bool) : State := { inState .idle with aon := { Aon.reset with perstLow := b } }
theorem wit_hostDown : (perst true).aon.perstLow = true ∧ (perst true).hostDown = true ∧ (perst false).hostDown = false ∧ heldInReset.hostDown = true ∧
    heldInReset.vent.startup.held = true := by decide
theorem wit_msix : HostIface.reset.msixOn = false ∧ (∀ b ∈ [true, false], { HostIface.reset with msixOn := true, msixMask := b }.msixMask = b) ∧
    (Sparse.get MsixVec.reset { HostIface.reset with msix := [(0, { MsixVec.reset with masked := false })] }.msix 0).masked = false ∧
    (Sparse.get MsixVec.reset HostIface.reset.msix 0).masked = true := by decide
def linkedUp (s : State) : State := { s with host := { s.host with linkUp := true } }
theorem wit_cfg : (linkedUp (phase true false false)).host.linkUp = true ∧ (linkedUp (phase true false false)).hostDown = false ∧
    (linkedUp (phase true false false)).ventRuns = false ∧ (linkedUp (phase true false false)).vent.dev ≠ .dormant ∧
    (linkedUp (inState .idle)).ventRuns = true ∧ (linkedUp (inState .idle)).hostDown = false ∧ (inState .idle).host.linkUp = false ∧
    bitAt (0x200 : Word).toNat 9 = true ∧ fld (0x200 : Word).toNat 7 4 = 0 := by decide

/-! JtagAndSideband. -/
theorem wit_jtag : (inState .idle).jtag.trst = false ∧ (inState .idle).aon.power = true ∧ (debugger (inState .idle) 3).sec.right 2 = false ∧
    (debugger (inState .idle) 4).sec.right 2 = true ∧ (inState .idle).sideServes = true ∧
    ({ Jtag.reset with trst := true } : Jtag).trst = true := by decide

/-! EveryStepKeepsTheInvariant: a state with bytes in memory and an image of 48 rows meets it, and steps. -/
def grid48 : State := { loaded .running (win5 true) with
  vent := { (loaded .running (win5 true)).vent with image := some { image with man := { manifest with rows := 48, cols := 32 } } }
  mem := { (loaded .running (win5 true)).mem with data := [(4, 1), (9, 2)] } }
theorem wit_inv : Sparse.wf 0 grid48.mem.data = true ∧ grid48.rows = 48 := by decide
theorem wit_inv2 : grid48.Inv ∧ ∃ u, step grid48 = .next u := ⟨⟨by decide, by decide⟩, _, rfl⟩

end Sys2Proof.Tests
end

