-- ==== Sys2Proof/Tests/WitnessCtx.lean ====
section
/-!
SUPPORT. The witness for a restore that is taken: a context image whose CHECK holds, at a parked barrier. SHAKE256 over half a million bytes
is not evaluated; the bytes around its eight bytes are.
-/
namespace Sys2Proof.Tests
open Sys2Proof.Machine

/-- The body: zeros but for the pending arrival, at level 5 with XPN 0, the image's PARKXPN. -/
def ctxTail (rest : List Byte) : List Byte := List.replicate 400 0 ++ (leBytes 4 0x500 ++ rest)
/-- A context image of tile 3 and the image of WitnessTxp. -/
def ctxWith (check body : List Byte) : List Byte :=
  leBytes 4 1 ++ leBytes 4 3 ++ leBytes 8 0 ++ List.replicate 8 5 ++ leBytes 8 0 ++ (check ++ (List.replicate 24 0 ++ body))
def fullBody : List Byte := ctxTail (List.replicate (ctxSize - 468) 0)
def ctxImage : List Byte := ctxWith (ctxCheck fullBody) fullBody
def parkedAt (b : List Byte) : State := { saving atBarrier (win6 ctxSize true) .running with
  mem := { Mem.reset with
    wins := [(5, some (win6 ctxSize true))]
    data := Sparse.setRun 0 [] 131072 b }
  cal := { Caldera.reset with parked := some ⟨0, 5, 0, 0, 0, false, false, 0⟩ } }

theorem eight (l : List Byte) (h : l.length = 8) : ∃ a b c d e f g k, l = [a, b, c, d, e, f, g, k] := by
  match l, h with
  | [a, b, c, d, e, f, g, k], _ => exact ⟨a, b, c, d, e, f, g, k, rfl⟩

theorem ctx_fields (c rest : List Byte) (h : c.length = 8) :
    leAt (ctxWith c (ctxTail rest)) 0 4 = 1 ∧ leAt (ctxWith c (ctxTail rest)) 4 4 = 3 ∧ slice (ctxWith c (ctxTail rest)) 16 8 = List.replicate 8 5 ∧
    slice (ctxWith c (ctxTail rest)) 0x20 8 = c ∧ (ctxWith c (ctxTail rest)).drop 64 = ctxTail rest ∧
    leAt (ctxWith c (ctxTail rest)) 0x1D0 4 = 0x500 := by
  obtain ⟨x0, x1, x2, x3, x4, x5, x6, x7, rfl⟩ := eight c h
  exact ⟨rfl, rfl, rfl, rfl, rfl, rfl⟩

theorem ctx_len (c : List Byte) (n : Nat) (h : c.length = 8) : (ctxWith c (ctxTail (List.replicate n 0))).length = 468 + n := by
  simp only [ctxWith, ctxTail, List.length_append, leBytes_length, List.length_replicate, h]
  omega

theorem ctx_length : ctxImage.length = ctxSize := by
  rw [ctxImage, fullBody, ctx_len _ _ (by rw [ctxCheck, shake256_length])]
  decide

theorem parked_bytes (b : List Byte) (n : Nat) (h : b.length = n) : (parkedAt b).memBytes 131072 n = b := by
  subst h
  exact Sparse.getRun_setRun (0 : Byte) [] 131072 b

theorem wit_restore_bytes : (parkedAt ctxImage).memBytes 131072 ctxSize = ctxImage := parked_bytes _ _ ctx_length

theorem wit_restore : (parkedAt ctxImage).ctxMismatch 3 ((parkedAt ctxImage).memBytes 131072 ctxSize) = false := by
  rw [wit_restore_bytes]
  obtain ⟨h0, h4, h16, h20, hb, ha⟩ := ctx_fields (ctxCheck fullBody) (List.replicate (ctxSize - 468) 0) (by simp [ctxCheck])
  have hp : (parkedAt ctxImage).digest = List.replicate 64 5 ∧ (parkedAt ctxImage).cal.parked.isNone = false ∧
      ((parkedAt ctxImage).tile 3).sleep = .barrier ∧ ((parkedAt ctxImage).tile 3).st = .wait ∧ (parkedAt ctxImage).parkXpn = 0 :=
    ⟨rfl, rfl, rfl, rfl, rfl⟩
  have hx : (ctxArr ctxImage 0).xpn = 0 ∧ (ctxArr ctxImage 0).level = 5 := by
    change leAt ctxImage 0x1D0 4 = 0x500 at ha
    simp [ctxArr, ha, fld]
  simp only [State.ctxMismatch, hp, hx]
  change leAt ctxImage 0 4 = 1 at h0
  change leAt ctxImage 4 4 = 3 at h4
  change slice ctxImage 16 8 = _ at h16
  change slice ctxImage 0x20 8 = _ at h20
  change ctxImage.drop 64 = fullBody at hb
  rw [h0, h4, h16, h20, hb]
  simp
  decide

theorem wit_restore_clean (b : List Byte) : ((parkedAt b).memRead 131072 ctxSize).mem.rangePz 131072 ctxSize = false := rfl

/-- A poisoned word of the context image. -/
theorem wit_restore_poisoned : (({ parkedAt [] with mem := { (parkedAt []).mem with pz := [(16384, true)] } } : State).memRead 131072
    ctxSize).mem.rangePz 131072 ctxSize = true := by decide

theorem wit_restore_asked : (asked (parkedAt []) 0x0205 (ctxReq 0)).Asks 0x0205 [.running] (lenIs 8) (ctxReq 0) ∧
    ctxOk (asked (parkedAt []) 0x0205 (ctxReq 0)) 131072 = true := by decide

end Sys2Proof.Tests
end

