-- ==== Sys2Proof/Tests/Slice0.lean ====
section
/-!
SUPPORT. The author's own tests: ill-formed commands, and expected values from the spec's tables and worked examples, or worked out by hand
from its rules; each test names its source.
-/
namespace Sys2Proof.Tests
open Sys2Proof.Machine

/-! WellFormed: one ill-formed command for each kind of unit, and its well-formed neighbour. -/
theorem test_wf_tile : (Instr.endProg 1536).wf = false ∧ (Instr.endProg 1535).wf = true := by decide
theorem test_wf_port : (Instr.frameTxEnd 12).wf = false ∧ (Instr.frameTxEnd 11).wf = true := by decide
theorem test_wf_sensor : (Instr.thermalTrip 64).wf = false ∧ (Instr.thermalTrip 63).wf = true := by decide
theorem test_wf_monitor : (Instr.voltageExcursion 24 0 true).wf = false ∧ (Instr.voltageExcursion 23 0 true).wf = true := by decide
theorem test_wf_report : (Instr.errorReport (.code 0x0101) 1536).wf = false ∧ (Instr.errorReport (.code 0x0401) 12).wf = false ∧
    (Instr.errorReport (.code 0x0301) 1536).wf = true := by decide
theorem test_wf_registers : (Instr.rcCounterRead (.tile 1536 0)).wf = false ∧ (Instr.registerWrite (.port 12 0) 0).wf = false ∧
    (Instr.latchedLowWordRead (.ssn 1536) false).wf = false ∧ (Instr.heartbeatTick).wf = true := by decide
theorem test_missing_unit : exec (.add 1536 1 2 3) State.reset = .fault (.noSuchUnit 1536) ∧
    exec (.lack 12 0) State.reset = .fault (.noSuchUnit 12) := ⟨rfl, rfl⟩

/-- A property of the state that a command leaves. -/
def after (c : Instr) (s : State) (p : State → Bool) : Bool :=
  match exec c s with
  | .next u => p u
  | _ => false
/-- A register of tile 0. -/
def reg0 (u : State) (n : Nat) : Word := (u.tile 0).reg n

/-! Scalar instructions. The words are written out from Tables 3-2 and 3-2a: OPC at bit 26, rd at 21, rs1 at 16, rs2 at 11. -/
-- ADD s1, s2, s3 is 0x0022_1800: 0xFFFF_FFFD + 35 wraps to 32 (R50)
theorem test_add : after (.add 0 1 2 3) (one (core 0x00221800 some6)) (fun u => reg0 u 1 == 32 && (u.tile 0).pc == 4) = true := by decide
-- SRA s1, s2, s3 has FUNC 7; the count 35 counts modulo 32 (R50): −3 shifted right by 3 is −1
theorem test_sra : after (.sra 0 1 2 3) (one (core 0x00221807 some6)) (fun u => reg0 u 1 == 0xFFFFFFFF) = true := by decide
-- DIV s1, s1, s2 with s1 = 0x8000_0000, s2 = −1: Table 3-4
theorem test_div : after (.div 0 1 1 2) (one (core 0x00211018 [(1, 0x80000000), (2, 0xFFFFFFFF)])) (fun u => reg0 u 1 == 0x80000000) = true := by
  decide
-- REMU s1, s3, s7 with s7 = 0 gives the dividend (Table 3-4)
theorem test_remu : after (.remu 0 1 3 7) (one (core 0x0023381B some6)) (fun u => reg0 u 1 == 35) = true := by decide
-- FADD s1, s5, s6: 1.0 + −3.0 = −2.0, no flag (Table 3-5)
theorem test_fadd : after (.fadd 0 1 5 6) (one (core 0x04253000 some6))
    (fun u => reg0 u 1 == 0xC0000000 && (u.tile 0).fpflags == 0) = true := by decide
-- MOVHI s1, 0xABCD is OPC 0x0D
theorem test_movhi : after (.movhi 0 1 0xABCD) (one (core 0x3420ABCD some6)) (fun u => reg0 u 1 == 0xABCD0000) = true := by decide
-- BLT s2, s3, −1 is taken to PC − 4, here below the code region (R439)
theorem test_blt : after (.blt 0 2 3 0xFFFF) (one (core 0x4843FFFF some6)) (fun u => (u.tile 0).pc == 0xFFFFFFFC) = true := by decide
-- JAL s1, 3 at PC 0 writes 4 and goes to 12
theorem test_jal : after (.jal 0 1 3) (one (core 0x5C200003 some6)) (fun u => reg0 u 1 == 4 && (u.tile 0).pc == 12) = true := by decide
-- a word with a non-zero unused field stops the program with ILLEGAL_OP (R439)
theorem test_illegal : after (.fabs 0 1 5) (one (core 0x0425080C some6)) (fun u => (u.tile 0).st == .stopped && (u.tile 0).errCode == 0x01) = true := by
  decide
-- SF.WAIT 44 is 0xC000_002C, the start gate (R362): at zero the core sleeps
theorem test_gate : after (.sfWait 0 44) (one (core 0xC000002C some6)) (fun u => (u.tile 0).st == .wait && (u.tile 0).sleep == .flag 44) = true := by
  decide
-- END is 0xFC00_0000
theorem test_end : definedWord 0xFC000000 = true ∧ definedWord 0xFC000001 = false := by decide

/-! Groups: Table 2-9, virtual tile 1000. -/
theorem test_groups : gOfTile 0 1000 = 0x03E8 ∧ gOfTile 1 1000 = 0x10F4 ∧ gOfTile 2 1000 = 0x203A ∧ gOfTile 3 1000 = 0x300D ∧
    gOfTile 4 1000 = 0x4002 ∧ gOfTile 5 1000 = 0x5000 ∧ gParent 0x10F4 = 0x203A ∧ gParent 0x300D = 0x4002 := by decide

/-! Blocked layout: the worked example of chapter 03, BF16, base 0x2_4000, block 7, row 13, column 4, in bank 9. -/
theorem test_blocked : hElemAddr (hword false 1 1 384 0x900).toNat 4 (7 * 1024 + 13 * 32 + 4) = 0x27B18 ∧ bankOf 0x27B18 = 9 := by decide

/-! Formats: the block of Table 4-3 under RNE. 0.49 = 0x3EFAE148, 0.1 = 0x3DCCCCCD, −0.23 = 0xBE6B851F, 0.03 = 0x3CF5C28F as FP32. -/
def block43 : List Val := ([0x3EFAE148, 0x3DCCCCCD, 0xBE6B851F, 0x3CF5C28F, 0x3C000000, 0].map (ffOf cFP32).decode)
theorem test_block : encodeBlock cBS4 .rne (List.replicate 6 0) block43 =
    ([(0x7, fNX), (0x3, fNX), (0xE, fNX), (0x1, fNX), (0x0, fUF ||| fNX), (0x0, 0)], 0x7B) := by decide
-- under SR 0.1, as FP32 holds it a little larger, has d = 3,355,444 by R85: 1.5 from that draw on and 2 below it
theorem test_block_sr : (encodeBlock cBS4 .sr [0, 3355444] (block43.take 2)).1.map (·.1) = [0x7, 0x3] ∧
    (encodeBlock cBS4 .sr [0, 3355443] (block43.take 2)).1.map (·.1) = [0x7, 0x4] := by decide
-- Table 4-2: the largest finite codes of E4M3, E5M2 and FP16 are 448, 57,344 and 65,504
theorem test_formats : (ffOf cE4M3).decode 0x7E = .fin false 14 5 ∧ (ffOf cE4M3).decode 0x7F = .nan false ∧
    (ffOf cE5M2).decode 0x7B = .fin false 7 13 ∧ (ffOf cE5M2).decode 0x7C = .inf false := by decide

/-! Routes: Table 7-11, runs c, d and e, and the worked example of R370 with block row 2 skipped. -/
def lat (step : Nat) (a b : Nat × Nat) : Nat := nativeLat step 0 (routeHops 0 a b)
theorem test_routes : (lat 1 (4, 15) (4, 15), lat 2 (4, 15) (4, 15)) = (4, 4) ∧ (lat 1 (4, 15) (7, 12), lat 2 (4, 15) (7, 12)) = (14, 15) ∧
    (lat 1 (4, 15) (0, 0), lat 2 (4, 15) (0, 0)) = (33, 34) ∧ (lat 1 (15, 23) (4, 15), lat 2 (15, 23) (4, 15)) = (33, 34) := by decide
theorem test_placement : physTile RepairMap.good (some 2) 495 = 610 ∧ routerOf (physPos (some 2) 495) = (7, 9) ∧ routeClass 0 495 = 3 ∧
    lat 1 (0, 0) (7, 9) = 29 ∧ lat 2 (0, 0) (7, 9) = 30 := by decide

/-! The ring of Table 8-9: 256 bytes at epoch 3, RD 120, WR 200. -/
def ring8 (wr rd : Nat) : Tile := { Tile.reset with
  st := .run
  hnd := [(5, hword false 0 9 4 64)]
  ring := { MsgRing.reset with present := true, opened := true, epoch := 3, rh := 5, wr := wr, rd := rd } }
def msg8 (len epoch : Nat) : Arrived := ⟨0xFFFF, 17, false, 0, at' epoch 12, List.replicate len 0, false⟩
def ringStep (wr rd len epoch : Nat) : Nat × Nat × Nat :=
  let r := (ring8 wr rd).receive (msg8 len epoch)
  (r.2, r.1.ring.wr, r.1.ring.rd)
theorem test_ring : ringStep 200 120 4 3 = (0, 224, 120) ∧ ringStep 224 120 7 3 = (0, 40, 120) ∧ ringStep 40 120 2 2 = (4, 40, 120) ∧
    ringStep 40 120 8 3 = (0, 80, 120) ∧ ringStep 80 120 8 3 = (1, 80, 120) ∧ ringStep 80 200 8 3 = (0, 120, 200) := by decide

/-! R199: with RD 120 and an empty header, a 16-byte record, MSG.POLL lends bytes 120 to 135 of the ring; before it, and past them, every
byte of the ring is hidden; outside the ring none is. -/
def hides (x : Tile) (o : Nat) : Bool := x.ringHides (4096 + o)
theorem test_lent : hides (ring8 200 120) 120 = true ∧ ([119, 120, 135, 136, 255].map (hides (ring8 200 120).ringLook.1)) =
    [true, false, false, true, true] ∧ (ring8 200 120).ringHides 4095 = false ∧ (ring8 200 120).ringHides 4352 = false := by decide

/-! Pacing: the warm inlet of chapter 17, 100.8 °C gives p = 2, and at 96.5 °C the level stays. -/
theorem test_pacing : (warm (256 * 1008 / 10) 0 none 0).aon.wanted = 2 ∧
    after .pacingLevelUpdate (warm (256 * 965 / 10) 2 (some 0) (100 * ccPerMs)) (fun u => u.aon.pace == 2) = true := by decide

/-! IDCODE (R436), the sizes of the wire headers (R10 byte orders), and SHAKE256 of the empty string (FIPS 202's own example). -/
theorem test_idcode : idcode 1 = 0x1C150A3D ∧ idcode 2 = 0x2C150A3D := by decide
theorem test_bytes : leBytes 4 0x01020304 = [4, 3, 2, 1] ∧ beBytes 4 0x01020304 = [1, 2, 3, 4] ∧ beNat [1, 2, 3, 4] = 0x01020304 := by decide
theorem test_shake : shake256 8 [] = [0x46, 0xB9, 0xDD, 0x2B, 0x0B, 0xA8, 0x8D, 0x13] := by decide +kernel

/-! The mailbox: IDENTIFY answers and clears GO; a write while GO reads 1 sets WERR (Table 13-3, R339, R340). -/
theorem test_identify : after .identify (asked (inState .idle) 0x0100 [])
    (fun u => !u.host.go && u.host.status == 0 && u.host.rlen == 64 && Sparse.getRun 0 u.host.payload 0 8 == [1, 0, 0, 0, 0, 0, 0, 0]) = true := by
  decide
/-- JTAG reaches the flag that SYNCF_SET has set by hand in this cycle: its record comes first (R348). -/
def bySync : State := { debugger (inState .running) 4 with
  tiles := [(3, { Tile.reset with sf := [(47, { SFlag.zero with hand := some 5 })] })]
  vent := ventIn .running (jrn [maker] [⟨0x30, [3, 0, 47, 0, 5, 0], .extendM3⟩]) }
theorem test_jtagFirst : ((bySync.tile 3).sflag 47).hand.isSome = true ∧ after (.jtagSyncfSet 3 47 9 false) bySync
    (fun u => u.vent.journal.batch.map (·.payload) == [[3, 0, 47, 0, 9, 1], [3, 0, 47, 0, 5, 0]]) = true := by decide
/-- The doorbell of an ATTEST_QUOTE samples the quote (R419). -/
def ring (s : State) : State := { s with host := { s.host with cmd := 0x0601, len := 32 } }
theorem test_doorbell : after (.registerWrite (.bar0 8) 1) (ring (inState .idle)) (fun u => u.sec.quote.isSome && u.host.go) = true := by
  decide +kernel
theorem test_werr : after (.registerWrite (.bar0 0) 7) (asked (inState .idle) 0x0100 []) (fun u => u.host.werr && u.host.cmd == 0x0100) = true := by
  decide
/-! The journal: a committed record takes the next SEQ, and its batch is empty (R392). -/
theorem test_journal : after .journalBatchWrite writing (fun u => u.vent.journal.nextSeq == 2 && u.vent.journal.batch.isEmpty) = true := by decide

end Sys2Proof.Tests
end

