-- ==== Sys2Proof/Tests/WitnessEngine.lean ====
section
/-!
SUPPORT. Witnesses for the statements about the matrix engine, the vector engine, feeds and window releases.
-/
namespace Sys2Proof.Tests.EngineWit
open Sys2Proof.Machine

/-! The matrix engine: a tile whose queue q begins with `w`, INT8 blocks in slots 0 (A) and 0 (B), and the same beyond the splits. -/
def tag6 : Tag := ⟨true, false, 6⟩
def mxTile (q : MQueue) (w : Nat) : Tile :=
  ({ Tile.reset with
    st := .run
    hnd := [(1, hword false 1 6 16 16), (2, hword false 1 9 64 64)]
    mx := { MxEng.reset with
      mqmode := 0x10080800
      atag := [(0, tag6), (8, tag6)]
      btag := [(0, tag6), (16, tag6)]
      cst := [(3, .int32), (11, .int32)] } } : Tile).setQueue (mqOf q) [head w false]
abbrev mxIssues (q : MQueue) (opc w : Nat) : Prop := (one (mxTile q w)).MxIssues 0 q opc (head w false) []

theorem wit_mx_flags : flagOk (eWflag (at' 48 50)) = false ∧ (mxTile .f (at' 0x01 56 + at' 48 50 + at' 63 44)).qf ≠ [] := by decide
theorem wit_mx_opc : mxIssues .f 0x02 (engW 0x02 0) ∧ (0x02 : Nat) ∉ [0x01, 0x10, 0x20, 0x30] ∧ mxIssues .b 0x02 (engW 0x02 0) := by decide
theorem wit_mnop : mxIssues .f 0x01 (engW 0x01 0) ∧ mxIssues .b 0x01 (engW 0x01 0) ∧ fld (engW 0x01 0) 42 0 = 0 ∧
    mxIssues .f 0x01 (engW 0x01 1) ∧ fld (engW 0x01 1) 42 0 ≠ 0 := by decide
def mldW (buf slot h : Nat) : Nat := engW 0x10 (at' buf 41 + at' slot 36 + at' h 30 + at' 6 16)
theorem wit_mld : mxIssues .f 0x10 (mldW 0 7 1) ∧ (mxTile .f (mldW 0 7 1)).mldCheck .f (mldW 0 7 1) = none ∧
    mxIssues .b 0x10 (mldW 1 31 1) ∧ (mxTile .b (mldW 1 31 1)).mldCheck .b (mldW 1 31 1) = none ∧
    mxIssues .f 0x10 (mldW 0 8 1) ∧ (mxTile .f (mldW 0 8 1)).mldCheck .f (mldW 0 8 1) = some 0x08 ∧
    (mxTile .f (mldW 0 7 3)).mldCheck .f (mldW 0 7 3) = some 0x04 := by decide
def loading (buf : Bool) : Tile :=
  { Tile.reset with mx := { MxEng.reset with mld := some ⟨0, buf, 4, 2, ⟨true, true, 1⟩, List.replicate 8 7, [true], 63⟩ } }
theorem wit_mldComplete : ∀ b ∈ [true, false],
    ((one (loading b)).tile 0).mx.mld = some ⟨0, b, 4, 2, ⟨true, true, 1⟩, List.replicate 8 7, [true], 63⟩ := by decide
theorem wit_noMld : ((one Tile.reset).tile 0).mx.mld = none := by decide
def mmaW (z cb as bs fa fb : Nat) : Nat := engW 0x20 (at' z 42 + at' cb 36 + at' as 32 + at' bs 27 + at' fa 20 + at' fb 16)
theorem wit_mma : mxIssues .f 0x20 (mmaW 0 3 0 0 6 6) ∧ (mxTile .f (mmaW 0 3 0 0 6 6)).mmaCheck .f (mmaW 0 3 0 0 6 6) = true ∧
    pairClass 6 6 0 = some (2, 32) ∧ fmtInt (mmaFa (mmaW 0 3 0 0 6 6)) = true ∧
    mxIssues .b 0x20 (mmaW 1 15 8 16 6 6) ∧ (mxTile .b (mmaW 1 15 8 16 6 6)).mmaCheck .b (mmaW 1 15 8 16 6 6) = true ∧
    mxIssues .f 0x20 (mmaW 0 3 1 0 6 6) ∧ (mxTile .f (mmaW 0 3 1 0 6 6)).mmaCheck .f (mmaW 0 3 1 0 6 6) = false := by decide
def mmaFlying : Tile := { Tile.reset with mx := { MxEng.reset with mmas := [⟨3, 9, 0, 0, 1, 0, 1, 63⟩] } }
def sliceFlying : Tile := { Tile.reset with mx := { MxEng.reset with slices := [⟨3, 9, 0, [], 63⟩] } }
theorem wit_completions : ((one mmaFlying).tile 0).mx.mmas = ⟨3, 9, 0, 0, 1, 0, 1, 63⟩ :: [] ∧ (one mmaFlying).cc < 9 ∧
    ({ one mmaFlying with cc := 9 } : State).cc = 9 ∧ ((one sliceFlying).tile 0).mx.slices = ⟨3, 9, 0, [], 63⟩ :: [] := by decide
def sliceW (dst clr cb r0 nr vd h : Nat) : Nat :=
  engW 0x30 (at' dst 42 + at' clr 41 + at' cb 37 + at' r0 33 + at' nr 29 + at' vd 24 + at' h 18)
theorem wit_slice : mxIssues .f 0x30 (sliceW 0 1 3 15 0 31 0) ∧ (mxTile .f (sliceW 0 1 3 15 0 31 0)).sliceCheck .f (sliceW 0 1 3 15 0 31 0) = none ∧
    mxIssues .b 0x30 (sliceW 1 0 11 0 15 0 2) ∧ (mxTile .b (sliceW 1 0 11 0 15 0 2)).sliceCheck .b (sliceW 1 0 11 0 15 0 2) = none ∧
    mxIssues .f 0x30 (sliceW 0 0 3 15 1 0 0) ∧ (mxTile .f (sliceW 0 0 3 15 1 0 0)).sliceCheck .f (sliceW 0 0 3 15 1 0 0) = some 0x08 ∧
    (mxTile .b (sliceW 1 0 11 0 15 0 3)).sliceCheck .b (sliceW 1 0 11 0 15 0 3) = some 0x04 := by decide

/-! The vector engine: a tile whose V-queue begins with `w`; H1 and H3 are FP32 stripes of 4 KiB, H4 one of BF16, and stream slots 0 and
1 stand at H1 and H3. -/
def vxTile (w : Nat) : Tile :=
  { Tile.reset with
    st := .run
    qv := [head w false]
    hnd := [(1, hword false 0 0 64 16), (3, hword false 0 0 64 128), (4, hword true 0 1 64 128)]
    vx := { VxEng.reset with
      slots := [(0, ⟨true, 1, 0⟩), (1, ⟨true, 3, 0⟩), (2, ⟨true, 4, 0⟩)]
      prism := [(0, BitVec.ofNat 64 (at' 0x02 58 + at' 0 55 + at' 8 50 + at' 9 45)),
                (1, BitVec.ofNat 64 (at' 0x38 58 + at' 3 55 + at' 0 50))] } }
abbrev vxIssues (w : Nat) : Prop := (one (vxTile w)).VxIssues 0 (head w false) []
def elW (opc fn n d a b c : Nat) : Nat := engW opc (at' (n - 1) 32 + at' d 26 + at' a 20 + at' b 14 + at' c 8 + fn)
/-- The word of a row of Table 6-4: registers, or streams for D and A where `st`. -/
def rowW (r : VRow) (n d a : Nat) : Nat := elW r.opc r.fn n d a (if 2 ≤ r.arity then 3 else 63) (if 3 ≤ r.arity then 4 else 63)
/-- A plan that stands where it should, with no conflict, or the code that it should have. -/
def planned (x : Tile) (r : Except Byte VPlan) (check : Option Byte) : Bool :=
  match r with
  | .ok p => check.isNone && !x.vconflict p.use
  | .error c => check == some c
/-- The hypotheses about a row and its operands: they resolve, and pass the checks or answer `check`; nothing in flight is met. -/
def elementwise (r : VRow) (n d a : Nat) (check : Option Byte) : Bool :=
  let w := rowW r n d a
  let x := vxTile w
  eOpc w == r.opc && vFn w == r.fn && vN w == n && (x.vDABC w).isSome && planned x (x.elemPlan r.arity r.cost w) check
theorem wit_vec_issues : ∀ r ∈ vecRows, vxIssues (rowW r 64 31 2) := by decide +kernel
theorem wit_vec_reg : ∀ r ∈ vecRows, elementwise r 64 31 2 none = true := by decide +kernel
theorem wit_vec_strm : ∀ r ∈ vecRows, elementwise r 1 32 33 none = true ∧ elementwise r 64 33 2 none = true := by decide +kernel
theorem wit_vec_bad : ∀ r ∈ vecRows, elementwise r 64 34 2 (some 0x08) = true := by decide +kernel
/-- A head that conflicts with an instruction in flight, which writes the register that A names. -/
def uses (rregs wregs rhnd whnd : List Nat) : VUse := ⟨rregs, wregs, rhnd, whnd, [], []⟩
def conflicting (w : Nat) : Tile :=
  { vxTile w with vx := { (vxTile w).vx with fly := [⟨0, 6, 63, uses [] [2] [] []⟩] } }
theorem wit_vec_dep : ∀ r ∈ vecRows, (one (conflicting (rowW r 64 31 2))).VxIssues 0 (head (rowW r 64 31 2) false) [] ∧
    (match (conflicting (rowW r 64 31 2)).elemPlan r.arity r.cost (rowW r 64 31 2) with
      | .ok p => (conflicting (rowW r 64 31 2)).vconflict p.use
      | .error _ => false) = true := by decide +kernel
theorem wit_vec_undefined : flagOk (eWflag (engW 0x20 0x0D)) = true ∧ eWflag (engW 0x20 0x0D) = 0x3F ∧ vDefined (engW 0x20 0x0D) = false ∧
    (vxTile (engW 0x20 0x0D)).vfree 0 = true ∧ flagOk (eSflag (at' 0x20 56 + at' 63 50 + at' 48 44)) = false := by decide

/-! Two strips, from registers that the destination does not meet; R112 leaves no register of the tile undefined. -/
theorem wit_vec_two : ∀ r ∈ vecRows, vxIssues (rowW r 128 16 0) ∧ elementwise r 128 16 0 none = true ∧
    (∀ q < 32, (vxTile (rowW r 128 16 0)).undAfter q = 0) := by decide +kernel
theorem wit_apart (x : Tile) : x.Apart 128 (.reg 0) (.reg 16) ∧ x.Apart 128 (.reg 3) (.reg 16) ∧ x.Disjoint 128 (.reg 4) (.reg 16) := by
  refine ⟨?_, ?_, ?_⟩
  · intro i hi j hj _
    exact ⟨by simp [Tile.elPlace], by rintro r v ⟨⟩ ⟨⟩; omega⟩
  · intro i hi j hj _
    exact ⟨by simp [Tile.elPlace], by rintro r v ⟨⟩ ⟨⟩; omega⟩
  · intro i hi j hj
    exact ⟨by simp [Tile.elPlace], by rintro r v ⟨⟩ ⟨⟩; omega⟩

/-! The cycles that the counters of EngineChecksStopOrWait count: an MMA of the C-block still in use, a head without the turn in PAIRED mode,
an occupied vector engine, a SLICE and a vector instruction that write registers at once, a head that meets an earlier instruction. -/
def locked (q : MQueue) : Tile :=
  let y := mxTile q (sliceW 0 0 (if q = .f then 3 else 11) 0 0 0 0)
  { y with mx := { y.mx with mmas := [⟨0, 9, if q = .f then 3 else 11, 0, 1, 0, 1, 63⟩] } }
def noTurn : Tile :=
  let y := mxTile .b (engW 0x01 0)
  { y with mx := { y.mx with mqmode := y.mx.mqmode ||| 1 } }
def twoWriters : Tile := { Tile.reset with
  banks := [⟨.vector, [⟨[], true⟩], 0, []⟩, ⟨.handoff, [⟨[], true⟩], 0, []⟩] }
theorem wit_counted : (locked .f).mxLocked 0 .f = true ∧ (locked .b).mxLocked 0 .b = true ∧ noTurn.mxTurnWaits 0 = true ∧
    twoWriters.handWaits = true ∧ (⟨7, 9, 63, VUse.none⟩ : VFly).busyEnd = 7 ∧
    ({ Tile.reset with vx := { VxEng.reset with fly := [⟨7, 9, 63, VUse.none⟩] } } : Tile).vfree 0 = false ∧
    (conflicting (elW 0x20 0 64 31 2 63 63)).vLocked 0 = true := by decide +kernel

/-! VectorControlAndCompletion. -/
theorem wit_vnop : vxIssues (engW 0x01 0) ∧ fld (engW 0x01 0) 43 0 = 0 := by decide
def vsdW : Nat := engW 0x10 (at' 3 42 + at' 63 36 + at' 0xFFFFF 16)
theorem wit_vsd : vxIssues vsdW ∧ eOpc vsdW = 0x10 ∧ fld vsdW 15 0 = 0 := by decide
def pkldW (off : Nat) : Nat := engW 0x11 (at' 1 38 + at' off 18)
theorem wit_pkld : vxIssues (pkldW 1016) ∧ eOpc (pkldW 1016) = 0x11 ∧ fld (pkldW 1016) 17 0 = 0 ∧ fld (pkldW 1016) 43 38 = 1 ∧
    hValid ((vxTile (pkldW 1016)).hndOf 1) = true ∧ hLayout ((vxTile (pkldW 1016)).hndOf 1) = 0 ∧
    hFmt ((vxTile (pkldW 1016)).hndOf 1) = 0 ∧ 4 * 1016 + 32 = 64 * hLen ((vxTile (pkldW 1016)).hndOf 1) ∧ (∀ f ∈ (vxTile (pkldW 1016)).vx.fly, 1 ∉ f.use.whnd) := by decide
def rngS : Nat := engW 0x12 (at' 1 43 + at' 0xFFFFFF 19 + at' 0xFF 11)
def rngB : Nat := engW 0x13 (at' 1 43 + 0xFFFFFFFF)
theorem wit_rngset : vxIssues rngS ∧ eOpc rngS = 0x12 ∧ fld rngS 10 0 = 0 ∧
    vxIssues rngB ∧ eOpc rngB = 0x13 ∧ fld rngB 42 32 = 0 := by decide
def vFlying (due : Nat) : Tile := { Tile.reset with vx := { VxEng.reset with fly := [⟨0, due, 63, VUse.none⟩] } }
theorem wit_vcomplete : (vFlying 0).vx.fly.find? (fun f => decide (f.due ≤ 0)) = some ⟨0, 0, 63, VUse.none⟩ ∧
    (∀ f ∈ (vFlying 1).vx.fly, 0 < f.due) := by decide

/-! VectorReductions: the widest run, from registers, and one from a stream. -/
def redW (k n d a : Nat) : Nat := elW 0x50 k n d a 63 63
def reduction (k n d a : Nat) : Bool :=
  let w := redW k n d a
  let x := vxTile w
  eOpc w == 0x50 && fld w 2 0 == k && !x.sliceInto (vD w) && (x.vop (vA w) (vN w)).isSome && planned x (vredPlan x w) none
theorem wit_reduce : ∀ k ∈ List.range 7, vxIssues (redW k 2048 31 0) ∧ reduction k 2048 31 0 = true ∧ reduction k 1 0 32 = true := by
  decide +kernel
theorem wit_isum : (([(5, false), (0xFFFFFFFF, false)] : List (Word × Bool)).any (·.2)) = false := by decide

/-! ConversionsDrawsAndPrism. -/
def cvtW (n d a src dst rnd : Nat) : Nat := engW 0x30 (at' (n - 1) 32 + at' d 26 + at' a 20 + at' src 16 + at' dst 12 + at' rnd 10)
def conversion (n d a src dst rnd : Nat) : Bool :=
  let w := cvtW n d a src dst rnd
  let x := vxTile w
  eOpc w == 0x30 && (x.cvtAD w).isSome && planned x (cvtPlan x w) none
theorem wit_cvt : vxIssues (cvtW 64 31 0 0 9 0) ∧ conversion 64 31 0 0 9 0 = true ∧ conversion 64 33 32 0 0 2 = true ∧
    conversion 1 5 34 1 0 0 = true := by decide +kernel
def rngW (kind n d a thr adv : Nat) : Nat := engW 0x60 (at' (n - 1) 32 + at' d 26 + at' a 20 + at' thr 8 + at' kind 5 + at' 1 4 + at' adv 3)
def draw (kind n d a thr : Nat) : Bool :=
  let w := rngW kind n d a thr 1
  let x := vxTile w
  eOpc w == 0x60 && fld w 7 5 == kind && (x.rngDA w).isSome && planned x (rngPlan kind x w) none
theorem wit_rng : (∀ k ∈ List.range 4, vxIssues (rngW k 2048 0 63 0 1) ∧ draw k 2048 0 63 0 = true) ∧ draw 2 1 31 63 0xFFF = true ∧
    draw 3 64 31 33 0 = true := by decide +kernel
def prismW (n a b c d : Nat) : Nat := elW 0x40 0 n d a b c
/-- Program 0 of `vxTile` reads ports A and B and writes port D. -/
def prismRuns (n a b d : Nat) : Bool :=
  let w := prismW n a b 63 d
  let x := vxTile w
  let prog := x.program (fld w 7 5)
  eOpc w == 0x40 && progIns prog == [0, 1] && progOuts prog == [3] && (x.prismPorts w).isSome && planned x (prismPlan x w) none
theorem wit_prism : vxIssues (prismW 64 0 1 63 31) ∧ prismRuns 64 0 1 31 = true ∧ prismRuns 64 32 33 2 = true ∧ prismRuns 64 0 1 33 = true := by
  decide +kernel

/-! The plans of CVT, PRISM, RNG and VRED that EngineChecksStopOrWait names: a destination in H4, which is write-protected, a source register past
the last, and a source that an instruction in flight writes. -/
def fails (r : Except Byte VPlan) : Bool :=
  match r with
  | .ok _ => false
  | .error _ => true
def waits (x : Tile) (r : Except Byte VPlan) : Bool :=
  match r with
  | .ok p => x.vconflict p.use
  | .error _ => false
theorem wit_planFails : vxIssues (cvtW 64 34 0 0 9 0) ∧ fails (cvtPlan (vxTile (cvtW 64 34 0 0 9 0)) (cvtW 64 34 0 0 9 0)) = true ∧
    vxIssues (cvtW 64 63 0 0 9 0) ∧ fails (cvtPlan (vxTile (cvtW 64 63 0 0 9 0)) (cvtW 64 63 0 0 9 0)) = true ∧
    vxIssues (prismW 64 0 1 63 34) ∧ fails (prismPlan (vxTile (prismW 64 0 1 63 34)) (prismW 64 0 1 63 34)) = true ∧
    (∀ k ∈ List.range 4, vxIssues (rngW k 64 34 63 0 1) ∧ fails (rngPlan k (vxTile (rngW k 64 34 63 0 1)) (rngW k 64 34 63 0 1)) = true) ∧
    (∀ k ∈ List.range 7, vxIssues (redW k 64 32 0) ∧ fails (vredPlan (vxTile (redW k 64 32 0)) (redW k 64 32 0)) = true) := by decide +kernel
theorem wit_planWaits : waits (conflicting (cvtW 64 31 2 0 9 0)) (cvtPlan (conflicting (cvtW 64 31 2 0 9 0)) (cvtW 64 31 2 0 9 0)) = true ∧
    waits (conflicting (prismW 64 2 1 63 31)) (prismPlan (conflicting (prismW 64 2 1 63 31)) (prismW 64 2 1 63 31)) = true ∧
    (∀ k ∈ List.range 4, waits (conflicting (rngW k 64 2 63 0 1)) (rngPlan k (conflicting (rngW k 64 2 63 0 1)) (rngW k 64 2 63 0 1)) = true) ∧
    (∀ k ∈ List.range 7, waits (conflicting (redW k 64 31 2)) (vredPlan (conflicting (redW k 64 31 2)) (redW k 64 31 2)) = true) := by
  decide +kernel

/-! FeedsStartAndMove: the descriptor at byte 0 of H1; the feed moves 64 bytes between device address 64 and byte 64 of H3. -/
def descBytes (out : Nat) : List Byte := leBytes 8 (at' 5 48 + 64) ++ leBytes 8 (at' out 32 + at' 3 26 + at' 1 13 + 1)
def feedTile (w out : Nat) (feeds : List FeedFly) : Tile :=
  { Tile.reset with
    st := .run
    qd := [head w false]
    store := Sparse.setRun 0 [] 1024 (descBytes out)
    hnd := [(1, hword false 0 9 1 16), (3, hword false 0 9 2 128)]
    feeds := feeds
    feedNo := feeds.length }
def feedW : Nat := engW 0x20 (at' 1 38)
def other (n : Nat) : FeedFly := ⟨n, 5, 65536 * (n + 1), false, 16384 + 64 * n, 64, 63⟩
theorem wit_dq : (feedTile (engW 0x01 0) 0 []).qd = head (engW 0x01 0) false :: [] ∧ flagOk (eWflag (engW 0x01 0)) = true ∧
    flagOk (eSflag (engW 0x01 0)) = true ∧ eWflag (engW 0x01 0) = 0x3F ∧ eOpc (engW 0x01 0) = 0x01 ∧ fld (engW 0x01 0) 43 0 = 0 ∧
    eOpc (engW 0x02 0) ∉ [0x01, 0x20, 0x30] := by decide
theorem wit_dq_bad : flagOk (eWflag (at' 0x01 56 + at' 48 50 + at' 63 44)) = false ∧ eOpc (engW 0x01 1) = 0x01 ∧ fld (engW 0x01 1) 43 0 ≠ 0 ∧
    (feedTile (at' 0x01 56 + at' 48 50 + at' 63 44) 0 []).qd ≠ [] := by decide
/-- The descriptor's address and the check of its words. -/
def checked (x : Tile) (w : Nat) : Except Byte FeedDesc :=
  match x.feedTable w with
  | .ok a => ((x.touch a 16).ask .feed [⟨banksOf a 16, false⟩] []).feedDesc a
  | .error c => .error c
/-- The descriptor passes in either direction with seven feeds in flight; one at its range is overlapped; one past the table's only
descriptor is out of bounds; one whose handle is invalid fails in its words. -/
theorem wit_feedCheck : (∀ out ∈ [0, 1], (match checked (feedTile feedW out ((List.range 7).map other)) feedW with
      | .ok d => d.sid == 5 && d.daddr == 64 && d.out == (out == 1) && d.ts == 8256 && d.len == 64 &&
          !((feedTile feedW out ((List.range 7).map other)).feeds.any (feedsMeet d)) &&
          (feedTile feedW out [⟨0, 5, 0, true, 0, 128, 63⟩]).feeds.any (feedsMeet d)
      | .error _ => false) = true) ∧
    (match (feedTile feedW 0 []).feedTable (engW 0x20 (at' 1 38 + at' 4 25)) with
      | .error c => c == 0x05
      | .ok _ => false) = true ∧
    (match checked { feedTile feedW 0 [] with hnd := [(1, hword false 0 9 1 16)] } feedW with
      | .error c => c == 0x04
      | .ok _ => false) = true ∧
    eOpc feedW = 0x20 ∧ (feedTile feedW 0 []).fdesc = none ∧ ((List.range 7).map other).length < 8 ∧
    8 ≤ ((List.range 8).map other).length := by decide +kernel
def waitingFeed : Tile := { feedTile feedW 0 [] with fdesc := some ⟨5, 64, false, 3, 8256, 64⟩ }
theorem wit_feedWaits : waitingFeed.fdesc = some ⟨5, 64, false, 3, 8256, 64⟩ := rfl
def flying (out : Bool) : Tile := { Tile.reset with st := .run, feeds := [⟨2, 5, 64, out, 8192, 64, 43⟩] }
def outsideWin : Win := ⟨0, 65536, false, 0, 3, false, 43, 0x5000, false, true, 0, [], [], []⟩
theorem wit_feedComplete : ∀ out ∈ [true, false],
    ((one (flying out)).tile 0).feeds.find? (fun g => g.id == 2) = some ⟨2, 5, 64, out, 8192, 64, 43⟩ ∧
    (one (flying out)).feedHeld ⟨2, 5, 64, out, 8192, 64, 43⟩ = false ∧
    ({ one (flying out) with mem := { Mem.reset with wins := [(0, some outsideWin)] } } : State).feedHeld ⟨2, 5, 64, out, 8192, 64, 43⟩ = true := by
  decide

/-! WindowRelease: window 5, whose CONS is the group of tiles 0, 1, 32, 33; then the last of a group of one. -/
def heldWin (cons : Nat) (outside : Bool) : Win := ⟨0, 65536, false, 0, 3, false, 43, cons, false, outside, 0xFFFF, [], [], []⟩
def wrelW : Nat := engW 0x30 (at' 5 38)
def wrelling (x : Tile) (v : Win) : State := { one x with mem := { Mem.reset with wins := [(5, some v)] } }
theorem wit_wrel : (feedTile wrelW 0 []).qd = head wrelW false :: [] ∧ eOpc wrelW = 0x30 ∧ fld wrelW 37 0 = 0 ∧ fld wrelW 43 38 = 5 ∧
    (wrelling (feedTile wrelW 0 []) (heldWin 0x1000 false)).win 5 = some (heldWin 0x1000 false) ∧
    0 ∈ gTiles (wrelling (feedTile wrelW 0 []) (heldWin 0x1000 false)).rows (heldWin 0x1000 false).cons ∧
    (0 : Nat) ∉ (heldWin 0x1000 false).issued ∧
    (wrelling (feedTile wrelW 0 []) (heldWin 0x1000 true)).wrelOk 0 wrelW = false := by decide +kernel
def releasing5 (feeds : List FeedFly) : Tile := { Tile.reset with st := .run, wrels := [⟨5, 63, [0]⟩], feeds := feeds }
theorem wit_wrelEffect : ((one (releasing5 [])).tile 0).wrels = ⟨5, 63, [0]⟩ :: [] ∧ (∀ f ∈ (releasing5 []).feeds, f.id ∉ [0]) ∧
    (∃ f ∈ (releasing5 [other 0]).feeds, f.id ∈ [0]) ∧
    (¬ ∀ k ∈ gTiles 48 (heldWin 0x1000 false).cons, k = 0 ∨ k ∈ (heldWin 0x1000 false).released) ∧
    (∀ k ∈ gTiles 48 (heldWin 0x0000 false).cons, k = 0 ∨ k ∈ (heldWin 0x0000 false).released) ∧
    (∀ a, (wrelling (releasing5 []) (heldWin 0x0000 false)).txp.audit = some a → a.running = false) := by
  refine ⟨by decide, by decide, by decide, by decide +kernel, by decide +kernel, ?_⟩
  intro a h; exact nomatch (show (none : Option Audit) = some a from h)
/-- The same window of the partner side, the source of no collective. -/
theorem wit_wrelPartner : ({ heldWin 0x0000 false with side1 := true } : Win).side1 = true ∧
    (wrelling (releasing5 []) { heldWin 0x0000 false with side1 := true }).coll.waiting = [] ∧
    (∀ d ∈ (wrelling (releasing5 []) { heldWin 0x0000 false with side1 := true }).coll.decls, d.2.srcWin ≠ 5) := by decide

end Sys2Proof.Tests.EngineWit
end

