-- ==== Sys2Proof/Tests/WitnessSync.lean ====
section
/-!
SUPPORT. Witnesses for the statements about sync flags, barriers and messages.
-/
namespace Sys2Proof.Tests.SyncWit
open Sys2Proof.Machine

/-! FlagsFollowTheFourRules: who asks for SF5 of tile 0; the flag has one increment to give. -/
def has (n v : Nat) : Sparse SFlag := [(n, ⟨v, none, 0, 0, false, false⟩)]
def askMx : Tile := { Tile.reset with st := .run, sf := has 5 1, qf := [⟨BitVec.ofNat 64 (at' 0x01 56 + at' 5 50 + at' 0x3F 44), 0, false⟩] }
def askV : Tile := { Tile.reset with st := .run, sf := has 5 1, qv := [⟨BitVec.ofNat 64 (at' 0x01 56 + at' 5 50 + at' 0x3F 44), 0, false⟩] }
def askD : Tile := { Tile.reset with st := .run, sf := has 5 1, qd := [⟨BitVec.ofNat 64 (at' 0x01 56 + at' 5 50 + at' 0x3F 44), 0, false⟩] }
def askCore : Tile := { Tile.reset with st := .wait, sleep := .flag 5, sf := has 5 1 }
theorem wit_grant : (askMx.mxWants 0 5 = some .f ∧ 1 ≤ (askMx.sflag 5).val0 ∧ (askMx.sflag 5).dec = 0) ∧
    (askV.mxWants 0 5 = none ∧ askV.vWants 0 5 = true) ∧
    (askD.mxWants 0 5 = none ∧ askD.vWants 0 5 = false ∧ askD.dWants (fun _ => true) 5 = true) ∧
    (askCore.mxWants 0 5 = none ∧ askCore.vWants 0 5 = false ∧ askCore.dWants (fun _ => true) 5 = false ∧ askCore.sleep = .flag 5) ∧
    (1 ≤ (askCore.sflag 5).val0 ∧ (askCore.sflag 5).dec = 0) := by decide
theorem wit_noGrant : (Tile.reset.sflag 5).val0 = 0 ∧
    (({ Tile.reset with sf := [(5, ⟨3, none, 0, 1, false, false⟩)] } : Tile).sflag 5).dec ≠ 0 ∧
    (({ Tile.reset with sf := has 5 1 } : Tile).mxWants 0 5 = none ∧ ({ Tile.reset with sf := has 5 1 } : Tile).sleep ≠ .flag 5) := by decide

/-! BarrierArrivalsCombine: an arrival with one value and with a pair; then node 0x1000 of the four tiles 0, 1, 32, 33. -/
def barW (rop : Nat) : Nat := encR 0x31 (if rop = 0 then 0 else 8) 2 rop (256 * 5 + 7)
theorem wit_arrive : (∀ rop ∈ [0, 1, 5], issues (core (barW rop) some6) (barW rop) [2]) ∧
    (∀ rop ∈ [6, 7], issues (core (barW rop) some6) (barW rop) [2, 3]) := by decide
def arr (level rop : Nat) (v : Word) : Arrival := ⟨7, level, rop, 8, v, 0, false, false, false, 0, false⟩
def arrives (a : Arrival) : Tile := { Tile.reset with st := .wait, sleep := .barrier, arr := some a }
def nval (level : Nat) (v : Word) : NVal := ⟨7, level, 4, v, 0, false, false, 0⟩
def at1000 (got : List (Nat × NVal)) (held : Bool) (a : Arrival) : State :=
  { State.reset with tiles := [(33, arrives a)], cal := { Caldera.reset with nodes := [(0x1000, { CalNode.reset with got := got, held := held })] } }
def three (level : Nat) : List (Nat × NVal) := [(0, nval level 1), (1, nval level 2), (2, nval level 3)]
theorem wit_child : State.reset.rows ≤ 48 ∧ gLevel 0x1000 ≠ 0 ∧ gExists State.reset.rows 0x1000 = true ∧
    (gChildren State.reset.rows 0x1000)[3]? = some 33 ∧ (at1000 [] false (arr 5 4 9)).childArrival 33 = some (nval 5 9, false) := by decide
theorem wit_notLast : (insertOn (·.1) (3, nval 5 9) ([] : List (Nat × NVal))).length < (gChildren 48 0x1000).length := by decide
theorem wit_held : ((at1000 [] true (arr 5 4 9)).node 0x1000).held = true := by decide
theorem wit_disagree : ¬ ∀ a ∈ three 5, a.2.xpn = (nval 4 9).xpn ∧ a.2.level = (nval 4 9).level ∧ a.2.rop = (nval 4 9).rop := by decide
theorem wit_marked : (at1000 [] false { arr 5 4 9 with bad := true }).childArrival 33 = some (nval 5 9, true) := by decide
/-- The last arrival, of a barrier of level 5 that goes upward and of one of level 1 that completes here. -/
theorem wit_last : (∀ level ∈ [1, 5], (at1000 (three level) false (arr level 4 9)).childArrival 33 = some (nval level 9, false) ∧
    (∀ a ∈ three level, a.2.xpn = 7 ∧ a.2.level = level ∧ a.2.rop = 4) ∧
    (gChildren 48 0x1000).length ≤ (insertOn (·.1) (3, nval level 9) (three level)).length ∧
    combineChildren ((insertOn (·.1) (3, nval level 9) (three level)).map (·.2)) = some (nval level 15)) ∧
    gLevel 0x1000 = 1 ∧ (0x1000 : Nat) ≠ 0x5000 := by decide

/-! BarriersReleaseAndEnd. -/
def rel (gid : Nat) : Release := ⟨gid, 0, 0, nval 5 15⟩
def releasing (gid : Nat) : State := { State.reset with cal := { Caldera.reset with releases := [rel gid] } }
theorem wit_release : ∀ gid ∈ [0x5000, 0x1000], (releasing gid).cal.releases.find? (fun r => r.gid == gid && decide (r.at' ≤ 0)) = some (rel gid) := by
  decide
/-- IdleStepIsOneCycle: the same release, due in an idle step. -/
theorem wit_idleRelease : (releasing 0x1000).pending = [] ∧ (releasing 0x1000).cal.releases = [rel 0x1000] ∧ (rel 0x1000).at' ≤ (releasing 0x1000).cc ∧
    (∀ r ∈ State.reset.cal.releases, State.reset.cc < r.at') := by decide
def phase (gid : Nat) : Phase := ⟨gid, 7, 0, 0, []⟩
def inPhase : State := { State.reset with tiles := [(33, arrives (arr 1 4 9))], cal := { Caldera.reset with phases := [phase 0x1000] } }
theorem wit_phaseEnd : inPhase.cal.phases.find? (fun p => p.gid == 0x1000 && decide (p.start + p.lx ≤ inPhase.cc)) = some (phase 0x1000) ∧
    33 ∈ gTiles inPhase.rows 0x1000 ∧ 2 ∉ gTiles inPhase.rows 0x1000 ∧ (inPhase.tile 33).arr = some (arr 1 4 9) ∧
    (inPhase.tile 33).sleep = .barrier := by decide +kernel
/-- A packet of tile 33 that has not landed keeps the phase open. -/
def late33 : State := { inPhase with mesh := { Mesh.reset with pkts := [⟨0, 33, 0, 1024, 1, 12, 0, 0, 0, .landingBuf, [], none, 0, 0, false, false⟩] } }
theorem wit_phaseDone : inPhase.phaseDone (phase 0x1000) = true ∧ late33.phaseDone (phase 0x1000) = false ∧
    late33.cal.phases.find? (fun p => p.gid == 0x1000 && decide (p.start + p.lx ≤ late33.cc)) = some (phase 0x1000) := by decide +kernel
theorem wit_releaseTwo : 33 ∈ gTiles 48 0x1000 ∧ (arrives (arr 1 6 9)).arr = some (arr 1 6 9) ∧ (arr 1 6 9).rd ≠ 0 ∧
    (arrives (arr 1 6 9)).sleep = .barrier := by decide +kernel
def dogged (cc : Nat) (expired : Bool) : State := { State.reset with
  cc := cc
  cal := { Caldera.reset with wdog := 1, nodes := [(0x1000, { CalNode.reset with got := [(0, nval 5 1)], expired := expired })] } }
theorem wit_watchdog : (dogged 65537 false).cal.wdog ≠ 0 ∧ ((dogged 65537 false).node 0x1000).got ≠ [] ∧
    ((dogged 65537 false).node 0x1000).expired = false ∧
    ((dogged 65537 false).node 0x1000).firstAt + 65536 * (dogged 65537 false).cal.wdog < (dogged 65537 false).cc ∧
    ((dogged 65537 true).node 0x1000).expired = true := by decide

/-! MessagesFromAProgram. -/
def sendW : Nat := encR 0x32 5 3 4 47
def sender (outst : Nat) : Tile :=
  { core sendW [(3, 40), (4, 0x20003), (5, 0x11), (6, 0x22), (7, 0x33)] with ring := { MsgRing.reset with outst := outst } }
theorem wit_send : ∀ n ∈ [0, 7, 8], issues (sender n) sendW [3, 4, 5, 6, 7] ∧ (sender n).ring.outst = n := by decide
theorem wit_sendFull : (sender 8).nextWord 0 = some sendW ∧ (sender 8).ring.outst = 8 ∧
    (sender 8).srcReady 0 (3 :: 4 :: payRegs 5 ((sender 8).reg 4).toNat) = true ∧
    issues { sender 0 with store := code (encR 0x32 5 3 4 48) } (encR 0x32 5 3 4 48) [3, 4, 5, 6, 7] := by decide
def reader (op rd wr : Nat) (mark : Byte) : Tile :=
  { core (encR 0x32 9 0 0 (256 * op)) [] with
    store := code (encR 0x32 (if op = 3 then 0 else 9) 0 0 (256 * op)) ++ [(64 + rd + 1, mark)]
    hnd := [(0, hword false 0 9 4 1)]
    ring := { MsgRing.reset with present := true, opened := true, rd := rd, wr := wr } }
theorem wit_recv : ∀ op ∈ [1, 2], issues (reader op 16 32 0) (encR 0x32 9 0 0 (256 * op)) [] ∧
    issues (reader op 16 16 0) (encR 0x32 9 0 0 (256 * op)) [] ∧ issues (reader op 240 16 0x80) (encR 0x32 9 0 0 (256 * op)) [] ∧
    bitAt (reader op 240 16 0x80).ringHead 15 = true := by decide
theorem wit_free : issues (reader 3 240 16 0) (encR 0x32 0 0 0 768) [] ∧ issues (reader 3 16 16 0) (encR 0x32 0 0 0 768) [] := by decide
theorem wit_ctl : ∀ f ∈ [1024, 1025, 1026, 1026 + 16 * 15], issues (core (encR 0x32 0 0 0 f) []) (encR 0x32 0 0 0 f) [] := by decide

/-! MessagesAreAnsweredOnce: a message of tile 1 to tile 0, whose ring is in each of the states of Table 8-8. -/
def msg (answer : Option Nat) (poison : Bool) (tag flag : Nat) : Msg := ⟨4, 1, false, 0, tag, [0x11], poison, flag, answer, none⟩
def meets (x : Tile) (m : Msg) : State := { State.reset with tiles := [(0, x)], msgs := ⟨[m], 5⟩ }
def ringOf (opened : Bool) : Tile := { Tile.reset with st := .run, ring := { MsgRing.reset with present := true, opened := opened } }
theorem wit_message : (∀ m ∈ [msg none false 0 63, msg none true 0 63, msg none false 0x1000 63],
      (meets (ringOf true) m).msgs.fly.find? (fun k => k.id == 4 && k.answer.isNone && k.sentTo.isNone) = some m ∧
      (meets (ringOf true) m).msgTile m.esc m.dest = some 0 ∧
      ∀ k ∈ (meets (ringOf true) m).msgs.fly, ¬ (k.src = m.src ∧ k.id < m.id ∧ k.answer = none ∧ (meets (ringOf true) m).msgTile k.esc k.dest = some 0)) ∧
    (ringOf true).st ≠ .idle ∧ (ringOf true).ring.opened = true ∧ (ringOf false).ring.opened = false ∧ Tile.reset.st = .idle ∧
    fld 0x1000 15 12 ≠ (ringOf true).ring.epoch ∧ fld 0 15 12 = (ringOf true).ring.epoch := by decide
/-- A record of 16 bytes in a ring of 256: at WR, at the top with RD > 0 and with RD = 0, at 0 behind a skip marker, and no room. -/
def ringRW (rd wr : Nat) : Tile := { ringOf true with ring := { (ringOf true).ring with rd := rd, wr := wr } }
abbrev fitsAt (r : MsgRing) (n : Nat) : Prop :=
  (r.rd ≤ r.wr ∧ (r.wr + n < r.bytes ∨ (r.wr + n = r.bytes ∧ r.rd ≠ 0))) ∨ (r.wr < r.rd ∧ r.wr + n < r.rd)
theorem wit_room : (Arrived.record ⟨0xFFFF, 1, false, 0, 0, [0x11], false⟩).length = 16 ∧
    fitsAt (ringRW 0 0).ring 16 ∧ fitsAt (ringRW 16 240).ring 16 ∧ ¬ fitsAt (ringRW 0 240).ring 16 ∧ fitsAt (ringRW 32 8).ring 16 ∧
    ¬ fitsAt (ringRW 32 16).ring 16 ∧ (¬ fitsAt (ringRW 24 248).ring 16 ∧ (ringRW 24 248).ring.rd ≠ 0 ∧ 16 < (ringRW 24 248).ring.rd) ∧
    (ringRW 0 0).ring.present = true ∧ Tile.reset.ring.present = false := by decide
def full4 : Tile := { Tile.reset with ring := { MsgRing.reset with nack := List.replicate 4 ⟨1, 0, 0⟩ } }
theorem wit_nack : full4.ring.nack.length = 4 ∧ Tile.reset.ring.nack.length < 4 := by decide
theorem wit_answer : ∀ c ∈ [0, 1, 6], ∀ f ∈ [0, 43, 63],
    (meets Tile.reset (msg (some c) false 0 f)).msgs.fly.find? (fun k => k.id == 4) = some (msg (some c) false 0 f) ∧
    (msg (some c) false 0 f).answer = some c := by decide

end Sys2Proof.Tests.SyncWit
end

