-- ==== Sys2Proof/Tests/WitnessTile.lean ====
section
/-!
SUPPORT. Witnesses for the statements about one tile's scalar core, its flags and its messages: for each clause a concrete state and
operands that meet its hypotheses together.
-/
namespace Sys2Proof.Tests.TileWit
open Sys2Proof.Machine

/-! StepRunsTheFrontCommand, IdleStepIsOneCycle, CommandsRunWhereTheirUnitExists. -/
theorem wit_front : ({ State.reset with pending := [.heartbeatTick, .moduleReset] } : State).pending = .heartbeatTick :: [.moduleReset] := rfl
theorem wit_idle : State.reset.pending = [] := rfl
theorem wit_unit : (Instr.scalarWake 1535).wf = true ∧ (Instr.scalarWake 1536).wf = false ∧ (Instr.frameTxEnd 11).wf = true ∧
    (Instr.frameTxEnd 12).wf = false := by decide

/-! FetchStopAndEnd. -/
def atEnd : Tile := { core 0 [] with pc := 64 }
def odd : Tile := { core 0 [] with pc := 2 }
def badWord : Tile := { core 0 [] with spz := [(0, true)] }
theorem wit_fetch : odd.pc.toNat % 4 ≠ 0 ∧ atEnd.codelim ≤ atEnd.pc.toNat ∧
    (badWord.pc.toNat % 4 = 0 ∧ badWord.pc.toNat < badWord.codelim ∧ (badWord.touch 0 4).wordPz 0 = true) ∧
    ((core 0 []).pc.toNat % 4 = 0 ∧ (core 0 []).pc.toNat < (core 0 []).codelim ∧ ((core 0 []).touch 0 4).wordPz 0 = false) := by decide
theorem wit_fetched : (core 0x00200000 []).fetch = ((core 0x00200000 []).fetch.1, some 0x00200000) := by decide
def fetched (w : Nat) : Prop := (one (core w [])).tile 0 = core w [] ∧ (core w []).st = .run ∧ (core w []).sleep = .none ∧
  (core w []).issueAt ≤ (one (core w [])).cc ∧ (core w []).fetch = ((core w []).fetch.1, some w)
theorem wit_illegal : fetched 0xFFFFFFFF ∧ definedWord 0xFFFFFFFF = false := by unfold fetched; decide
theorem wit_other : fetched 0x00200000 ∧ definedWord 0x00200000 = true ∧ (0x00200000 : Nat) ≠ 0x00400000 := by unfold fetched; decide
def late : Tile := { core 0x00200000 [] with ready := [(3, 7)] }
theorem wit_unready : late.fetch = (late.fetch.1, some 0x00200000) ∧ late.srcReady 0 [3] = false := by decide
theorem wit_stopStates : (core 0 []).st = .run ∧ ({ Tile.reset with st := .wait } : Tile).st = .wait ∧ Tile.reset.st = .idle := by decide
theorem wit_end : issues (core 0xFC000000 []) 0xFC000000 [] := by decide
def ended : Tile := { core 0xFC000000 [] with sleep := .ending }
def busyEnd : Tile := { ended with qd := [head 0 false] }
theorem wit_tileDone : ((one ended).tile 0).st = .run ∧ ((one ended).tile 0).sleep = .ending ∧ ((one ended).tile 0).quiet = true ∧
    ((one busyEnd).tile 0).sleep = .ending ∧ ((one busyEnd).tile 0).quiet = false := by decide

/-! ScalarArithmeticWritesItsResult. -/
theorem wit_int : ∀ e ∈ intRows, issues (core (encR 0x00 1 2 3 e.func) some6) (encR 0x00 1 2 3 e.func) [2, 3] := by decide
theorem wit_intS0 : ∀ e ∈ intRows, issues (core (encR 0x00 0 2 31 e.func) some6) (encR 0x00 0 2 31 e.func) [2, 31] := by decide
theorem wit_imm : ∀ e ∈ immRows, issues (core (encI e.opc 31 2 31) some6) (encI e.opc 31 2 31) [2] := by decide
theorem wit_movhi : issues (core (encI 0x0D 31 0 0xFFFF) []) (encI 0x0D 31 0 0xFFFF) [] := by decide
theorem wit_fp : ∀ e ∈ fpRows, issues (core (encR 0x01 1 5 6 e.func) some6) (encR 0x01 1 5 6 e.func) [5, 6] := by decide
theorem wit_fma : issues (core (encR 0x01 1 5 6 0x003) some6) (encR 0x01 1 5 6 0x003) [5, 6, 1] := by decide
theorem wit_fabs : ∀ f ∈ [0x00C, 0x00D], issues (core (encR 0x01 1 6 0 f) some6) (encR 0x01 1 6 0 f) [6] := by decide

/-! BranchesAndJumpsMoveTheProgramCounter: taken and not taken, and a backward displacement. -/
theorem wit_branch : ∀ e ∈ branchRows, issues (core (encI e.opc 2 3 0xFFFF) some6) (encI e.opc 2 3 0xFFFF) [2, 3] := by decide
theorem wit_jumps : issues (core (encI 0x16 0 0 0x7FFF) []) (encI 0x16 0 0 0x7FFF) [] ∧
    issues (core (encI 0x17 31 0 0x8000) []) (encI 0x17 31 0 0x8000) [] ∧
    issues (core (encI 0x18 0 4 0) some6) (encI 0x18 0 4 0) [4] := by decide

/-! LoadsWriteTheirRegister, StoresWriteTheirBytes: the last aligned offset of a handle of one line; then each failing check. -/
def mem1 (w : Nat) (h : Dword) : Tile := { core w some6 with hnd := [(1, h)] }
def lastOff (size : Nat) : Nat := (64 - size) / size
abbrev accessOk (x : Tile) (size : Nat) : Prop :=
  let o := (x.reg 0 + (BitVec.ofNat 10 (lastOff size)).signExtend 32 * BitVec.ofNat 32 size).toNat
  hValid (x.hndOf 1) = true ∧ o + size = 64 * hLen (x.hndOf 1) ∧ hWp (x.hndOf 1) = false ∧ o % size = 0
theorem wit_load : ∀ e ∈ loadRows, issues (mem1 (encM e.opc 7 1 0 (lastOff e.size)) (hword false 0 0 1 1)) (encM e.opc 7 1 0 (lastOff e.size)) [0] ∧
    accessOk (mem1 (encM e.opc 7 1 0 (lastOff e.size)) (hword false 0 0 1 1)) e.size := by decide
theorem wit_ldD : issues (mem1 (encM 0x25 30 1 0 7) (hword false 0 0 1 1)) (encM 0x25 30 1 0 7) [0] ∧
    accessOk (mem1 (encM 0x25 30 1 0 7) (hword false 0 0 1 1)) 8 := by decide
theorem wit_store : ∀ e ∈ storeRows,
    issues (mem1 (encM e.opc 2 1 0 (lastOff e.size)) (hword false 0 0 1 1)) (encM e.opc 2 1 0 (lastOff e.size)) (0 :: e.srcs 2) ∧
    accessOk (mem1 (encM e.opc 2 1 0 (lastOff e.size)) (hword false 0 0 1 1)) e.size := by decide
/-- LD.W and ST.W at s3 = 35 with immediate 0, or s4 = 64: invalid, one byte past the end, write-protected, misaligned. -/
theorem wit_badLoad : issues (mem1 (encM 0x24 7 1 4 0) 0) (encM 0x24 7 1 4 0) [4] ∧ hValid 0 = false ∧
    issues (mem1 (encM 0x24 7 1 4 0) (hword false 0 0 1 1)) (encM 0x24 7 1 4 0) [4] ∧ 64 * hLen (hword false 0 0 1 1).toNat < 64 + 4 ∧
    issues (mem1 (encM 0x24 7 1 3 0) (hword true 0 0 1 1)) (encM 0x24 7 1 3 0) [3] ∧ 35 + 4 ≤ 64 * hLen (hword true 0 0 1 1).toNat ∧
    35 % 4 ≠ 0 := by decide
theorem wit_badStore : issues (mem1 (encM 0x28 2 1 4 0) 0) (encM 0x28 2 1 4 0) [4, 2] ∧ hValid 0 = false ∧
    issues (mem1 (encM 0x28 2 1 4 0) (hword false 0 0 1 1)) (encM 0x28 2 1 4 0) [4, 2] ∧ 64 * hLen (hword false 0 0 1 1).toNat < 64 + 4 ∧
    issues (mem1 (encM 0x28 2 1 3 0) (hword true 0 0 1 1)) (encM 0x28 2 1 3 0) [3, 2] ∧ hWp (hword true 0 0 1 1).toNat = true ∧
    issues (mem1 (encM 0x28 2 1 3 0) (hword false 0 0 1 1)) (encM 0x28 2 1 3 0) [3, 2] ∧ 35 + 4 ≤ 64 * hLen (hword false 0 0 1 1).toNat ∧
    hWp (hword false 0 0 1 1).toNat = false ∧ 35 % 4 ≠ 0 := by decide

/-! EnqueueAppendsOrStalls: an empty queue, the last free entry, a full one. -/
def enqW (x : Nat) : Nat := encR 0x2C 0 5 6 x
def fill (x n : Nat) : Tile := { core (enqW x) some6 with
  qf := List.replicate n (head 0 false), qb := List.replicate n (head 0 false), qv := List.replicate n (head 0 false)
  qd := List.replicate n (head 0 false) }
theorem wit_enq : ∀ x ∈ [0, 1, 2], issues (fill x 15) (enqW x) [5, 6] ∧ issues (fill x 16) (enqW x) [5, 6] := by decide
theorem wit_enqD : issues (fill 3 31) (enqW 3) [5, 6] ∧ issues (fill 3 32) (enqW 3) [5, 6] ∧
    ((past (fill 3 31) (enqW 3)).queue .d).length = 31 ∧ ((past (fill 0 15) (enqW 0)).queue .f).length = 15 := by decide

theorem wit_qfull : ∀ x ∈ [0, 1, 2], (fill x 16).nextWord 0 = some (enqW x) ∧ (fill x 16).srcReady 0 [5, 6] = true := by decide
theorem wit_qfullD : (fill 3 32).nextWord 0 = some (enqW 3) ∧ (fill 3 32).srcReady 0 [5, 6] = true ∧
    ((fill 3 32).queue .d).length = 32 := by decide

/-! TileRegistersAndFlags. -/
theorem wit_trr : issues (core (encI 0x2D 7 0 (4 * 0x3FF)) []) (encI 0x2D 7 0 (4 * 0x3FF)) [] ∧
    issues (core (encI 0x2D 7 0 (4 * 0x2)) []) (encI 0x2D 7 0 (4 * 0x2)) [] := by decide
def trw (v : Word) (mld : Bool) : Tile :=
  { core (encI 0x2E 0 1 0x500) [(1, v)] with mx := { MxEng.reset with mld := if mld then some ⟨9, false, 0, 1, ⟨true, false, 3⟩, [], [], 63⟩ else none } }
abbrev mqFits (v : Word) : Prop := fld v.toNat 20 16 ≤ 16 ∧ fld v.toNat 29 24 ≤ 32 ∧ fld v.toNat 12 8 ≤ 16
theorem wit_trw : issues (core (encI 0x2E 0 1 0x010) some6) (encI 0x2E 0 1 0x010) [1] ∧
    (issues (trw 0x21101000 false) (encI 0x2E 0 1 0x500) [1] ∧ ¬ mqFits 0x21101000) ∧
    (issues (trw 0x20101000 false) (encI 0x2E 0 1 0x500) [1] ∧ mqFits 0x20101000 ∧ (past (trw 0x20101000 false) (encI 0x2E 0 1 0x500)).mxDrained = true) ∧
    (issues (trw 0x20101000 true) (encI 0x2E 0 1 0x500) [1] ∧ (past (trw 0x20101000 true) (encI 0x2E 0 1 0x500)).mxDrained = false) := by decide
def mqWaits : Tile := { core 0 [] with sleep := .mqApply 0x20101000 }
theorem wit_mqApply : ((one mqWaits).tile 0).st = .run ∧ ((one mqWaits).tile 0).sleep = .mqApply 0x20101000 ∧
    ((one mqWaits).tile 0).mxDrained = true := by decide
def sync (op n v : Nat) : Tile := { core (encR 0x30 0 0 0 (256 * op + n)) [] with sf := [(n, ⟨v, none, 0, 0, false, false⟩)] }
theorem wit_sfWait : issues (sync 0 47 1) (encR 0x30 0 0 0 47) [] ∧ 1 ≤ ((past (sync 0 47 1) (encR 0x30 0 0 0 47)).sflag 47).val0 ∧
    ((past (sync 0 47 1) (encR 0x30 0 0 0 47)).sflag 47).dec = 0 ∧ (past (sync 0 47 1) (encR 0x30 0 0 0 47)).headWants (fun _ => true) 0 47 = false ∧
    issues (sync 0 0 0) (encR 0x30 0 0 0 0) [] ∧ ((past (sync 0 0 0) (encR 0x30 0 0 0 0)).sflag 0).val0 = 0 ∧
    issues (sync 0 48 1) (encR 0x30 0 0 0 48) [] := by decide
theorem wit_sfSig : ∀ n ∈ [0, 43, 44, 47, 48, 62], issues (sync 1 n 5) (encR 0x30 0 0 0 (256 + n)) [] := by decide
theorem wit_sfRead : ∀ n ∈ [47, 48], issues (sync 2 n 5) (encR 0x30 0 0 0 (512 + n)) [] := by decide
def ringAt (rd wr : Nat) (first : Byte) : Tile :=
  { Tile.reset with
    st := .wait
    sleep := .recv 9
    store := [(65, first)]
    ring := { MsgRing.reset with present := true, opened := true, rh := 0, rd := rd, wr := wr }
    hnd := [(0, hword false 0 9 4 1)] }
theorem wit_wake : ({ core 0 [] with sleep := .granted 3 5 } : Tile).sleep = .granted 3 5 ∧
    ((ringAt 0 16 0).sleep = .recv 9 ∧ (ringAt 0 16 0).ring.rd ≠ (ringAt 0 16 0).ring.wr ∧ bitAt (ringAt 0 16 0).ringHead 15 = false) ∧
    ((ringAt 16 16 0).sleep = .recv 9 ∧ (ringAt 16 16 0).ring.rd = (ringAt 16 16 0).ring.wr) := by decide
/-- A skip marker at RD, with WR at 0 and beyond. -/
def marker (wr : Nat) : Tile := { ringAt 240 wr 0 with store := [(305, 0x80)] }
theorem wit_wakeMarker : ∀ wr ∈ [0, 16], (marker wr).sleep = .recv 9 ∧ (marker wr).ring.rd ≠ (marker wr).ring.wr ∧
    bitAt (marker wr).ringHead 15 = true := by decide

end Sys2Proof.Tests.TileWit
end

/-!
PROOFS. Register accesses of Vent and the host (O56), and the commands that answer without naming a unit while the module is held in reset (O3).
-/
namespace Sys2Proof.Machine

/-! ### What a held module answers -/

/-- A domain that is held in reset takes no write, whatever register it names (R431). -/
theorem registerWrite_held {s : State} (h : s.vent.startup.held = true) (r : WReg) (v : Word) :
    exec (.registerWrite r v) s = .next s := by
  show execRegisterWrite r v s = .next s
  unfold execRegisterWrite
  rw [if_pos h]

/-- The module while RESET_N is low: what RESET_N_ASSERT leaves of the state after reset. -/
def State.underReset : State := ({ State.reset with aon := { State.reset.aon with resetLow := true } } : State).restarted true

theorem resetNAssert_reset : exec .resetNAssert State.reset = .next State.underReset := rfl

/-- Refutes O3: while RESET_N is low, REGISTER_WRITE leaves the state as it is before it looks at the tile that it names, so that a
write to tile 1,536, which no module has, ends in a next state. -/
theorem not_commandsRunWhereTheirUnitExists : ¬ Obligations.CommandsRunWhereTheirUnitExists := by
  unfold Obligations.CommandsRunWhereTheirUnitExists
  intro h
  have ill : (Instr.registerWrite (.tile 1536 0x010) 0).wf = false := rfl
  obtain ⟨n, hn⟩ := (h (.registerWrite (.tile 1536 0x010) 0) State.underReset).2 ill
  rw [registerWrite_held rfl] at hn
  cases hn

/-! ### The reads that clear, latch or drop -/

/-- The read of a tile's counter answers it and clears it alone (R12). -/
theorem rcCounterRead_tile {t off : Nat} (ht : t < 1536) (ho : tileCounter off = true) (s : State) :
    exec (.rcCounterRead (.tile t off)) s =
      .next ((s.setTile t { s.tile t with cnt := Sparse.del (s.tile t).cnt off }).answerWord ((s.tile t).peek off)) := by
  show execRcCounterRead (.tile t off) s = _
  unfold execRcCounterRead
  simp only
  rw [if_neg (by omega), if_pos ho]

theorem msgNackRead_next {t : Nat} (ht : t < 1536) (s : State) :
    exec (.msgNackRead t) s = .next ((s.setTile t ((s.tile t).readEffect 0x70C)).answerWord ((s.tile t).peek 0x70C)) := by
  show execMsgNackRead t s = _
  unfold execMsgNackRead
  rw [if_neg (by omega)]

theorem Tile.peek_nack (x : Tile) : x.peek 0x70C = x.ring.nackWord := rfl

@[simp] theorem State.tile_answerWord (s : State) (v : Word) (k : Nat) : (s.answerWord v).tile k = s.tile k := rfl
@[simp] theorem State.port_answerWord (s : State) (v : Word) (k : Nat) : (s.answerWord v).port k = s.port k := rfl

theorem tsqEntryRead_next {p i : Nat} (hp : p < 12) (hi : i ≤ 3) (s : State) :
    exec (.tsqEntryRead p i) s =
      .next ((if i = 3 then s.setPort p { s.port p with tsq := (s.port p).tsq.drop 1 } else s).answerWord ((s.port p).tsqWord i)) := by
  show execTsqEntryRead p i s = _
  unfold execTsqEntryRead
  rw [onPort_next hp]
  simp only
  rw [if_neg (by omega)]

theorem latchedLowWordRead_migSstep {s : State} (h : s.vent.startup.held = false) :
    exec (.latchedLowWordRead .migSstep false) s =
      .next { s.answerWord (w32 s.mig.sstep) with mig := { s.mig with sstepHold := some (w32 (s.mig.sstep / 2 ^ 32)) } } ∧
    exec (.latchedLowWordRead .migSstep true) s =
      .next { s.answerWord (s.mig.sstepHold.getD (w32 (s.mig.sstep / 2 ^ 32))) with mig := { s.mig with sstepHold := none } } := by
  constructor
  · show execLatchedLowWordRead .migSstep false s = _
    unfold execLatchedLowWordRead
    rw [if_neg (by simp [h])]
    rfl
  · show execLatchedLowWordRead .migSstep true s = _
    unfold execLatchedLowWordRead
    rw [if_neg (by simp [h])]
    rfl

/-! ### The writes -/

/-- A module that is not held acts on a write by the block of its register. -/
theorem registerWrite_tile {s : State} (h : s.vent.startup.held = false) (t off : Nat) (v : Word) :
    exec (.registerWrite (.tile t off) v) s = onTile t s fun x => x.ventPoke off v := by
  show execRegisterWrite (.tile t off) v s = _
  unfold execRegisterWrite
  rw [if_neg (by simp [h])]

theorem registerWrite_port {s : State} (h : s.vent.startup.held = false) (p off : Nat) (v : Word) :
    exec (.registerWrite (.port p off) v) s = onPort p s fun u => u.portPoke p off v := by
  show execRegisterWrite (.port p off) v s = _
  unfold execRegisterWrite
  rw [if_neg (by simp [h])]

theorem registerWrite_bar0 {s : State} (h : s.vent.startup.held = false) (off : Nat) (v : Word) :
    exec (.registerWrite (.bar0 off) v) s = .next (s.bar0Poke off v) := by
  show execRegisterWrite (.bar0 off) v s = _
  unfold execRegisterWrite
  rw [if_neg (by simp [h])]

theorem registerWrite_cal {s : State} (h : s.vent.startup.held = false) (v : Word) :
    exec (.registerWrite (.cal 0x000) v) s = .next { s with cal := { s.cal with wdog := v.toNat % 2 ^ 24 } } ∧
    exec (.registerWrite (.cal 0x008) v) s = .next { s with
      cal := { s.cal with
        errUe := s.cal.errUe && !bitAt v.toNat 0
        errMismatch := s.cal.errMismatch && !bitAt v.toNat 1 } } := by
  constructor
  · show execRegisterWrite (.cal 0x000) v s = _
    unfold execRegisterWrite
    rw [if_neg (by simp [h])]
    rfl
  · show execRegisterWrite (.cal 0x008) v s = _
    unfold execRegisterWrite
    rw [if_neg (by simp [h])]
    rfl

/-- MEM holds no register that a write changes (Table 9-13). -/
theorem registerWrite_mem (s : State) (off : Nat) (v : Word) : exec (.registerWrite (.mem off) v) s = .next s := by
  show execRegisterWrite (.mem off) v s = _
  unfold execRegisterWrite
  split <;> rfl

/-- A write of Vent to a tile register leaves whether the tile runs. -/
theorem Tile.ventPoke_st (x : Tile) (off : Nat) (v : Word) : (x.ventPoke off v).st = x.st := by
  unfold Tile.ventPoke Tile.applyMq Tile.poke Tile.setSflag
  (repeat' split) <;> rfl

theorem registerWrite_tile_next {s : State} (h : s.vent.startup.held = false) {t : Nat} (ht : t < 1536) (off : Nat) (v : Word) :
    exec (.registerWrite (.tile t off) v) s = .next (s.setTile t ((s.tile t).ventPoke off v)) := by
  rw [registerWrite_tile h, onTile_next ht, State.afterTile_same _ _ _ (Tile.ventPoke_st _ _ _)]

/-- While GO reads 1, a write to a protected offset sets WERR and does nothing else (R340). -/
theorem State.bar0Poke_busy {s : State} (hgo : s.host.go = true) (hd : s.hostDown = false) {off : Nat} (ho : mboxOff off = true)
    (v : Word) : s.bar0Poke off v = { s with host := { s.host with werr := true } } := by
  have h4 : off % 4 = 0 := by
    unfold mboxOff at ho
    simp only [Bool.and_eq_true, beq_iff_eq] at ho
    exact ho.1
  unfold State.bar0Poke
  simp only
  rw [if_neg (by simp [hd, h4]), if_pos ho]
  simp [State.doorbell, HostIface.mboxPoke, hgo]

/-- The doorbell sets GO; that of an ATTEST_QUOTE samples what the quote reports (R339, R419). -/
theorem State.bar0Poke_doorbell {s : State} (hgo : s.host.go = false) (hd : s.hostDown = false) {v : Word} (hv : v.toNat % 2 = 1) :
    s.bar0Poke 0x0008 v = s.doorbell { s.host with go := true } := by
  have hbit : bitAt v.toNat 0 = true := by simp [bitAt, hv]
  unfold State.bar0Poke
  simp only
  rw [if_neg (by simp [hd]), if_pos (by decide)]
  simp [HostIface.mboxPoke, HostIface.mboxWrite, hgo, hbit]

theorem registerWrite_port_next {s : State} (h : s.vent.startup.held = false) {p : Nat} (hp : p < 12) (off : Nat) (v : Word) :
    exec (.registerWrite (.port p off) v) s = .next (s.portPoke p off v) := by
  rw [registerWrite_port h, onPort_next hp]

theorem mailboxWriteWhileBusy_busy {s : State} (hgo : s.host.go = true) (hd : s.hostDown = false) {off : Nat}
    (ho : mboxOff off = true) (v : Word) :
    exec (.mailboxWriteWhileBusy off v) s = .next { s with host := { s.host with werr := true } } := by
  show execMailboxWriteWhileBusy off v s = _
  unfold execMailboxWriteWhileBusy
  rw [if_pos ⟨hgo, ho⟩, State.bar0Poke_busy hgo hd ho]

theorem evqHeadWrite_next {s : State} (hd : s.hostDown = false) (v : Word) :
    exec (.evqHeadWrite v) s = .next { s with host := s.host.headWrite v } := by
  show execEvqHeadWrite v s = _
  unfold execEvqHeadWrite
  rw [if_neg (by simp [hd])]

/-- Settles O56, clause by clause from the equation of each access. -/
theorem registers : Obligations.Registers := by
  unfold Obligations.Registers
  refine ⟨fun s t off ht ho => ?_, fun s => ⟨⟨_, rfl, rfl, rfl⟩, ⟨_, rfl, rfl, rfl⟩, fun h => ?_, fun h => ?_⟩, fun s t ht => ?_,
    fun s p i hp hi => ?_, fun s r v h => registerWrite_held h r v, fun s v h => ⟨(registerWrite_cal h v).1, (registerWrite_cal h v).2,
    fun off => registerWrite_mem s off v, fun t ht => ?_, fun t ht => ?_, fun p hp => ?_, fun hgo hd off ho => ?_, fun hgo hd hv => ?_,
    fun hd => evqHeadWrite_next hd v⟩⟩
  · -- an RC counter of a tile
    refine ⟨_, rcCounterRead_tile ht ho s, rfl, ?_, fun k hk => ?_, fun n => ?_, fun k hk => ?_, rfl⟩
    · simp [Sparse.get_del]
    · simp [Sparse.get_del, hk]
    · simp [Tile.reg, Tile.regPz]
    · simp [State.tile_setTile, hk]
  · -- the low word of MIG.SSTEP
    exact ⟨_, (latchedLowWordRead_migSstep h).1, rfl, rfl⟩
  · -- its high word
    exact ⟨_, (latchedLowWordRead_migSstep h).2, rfl, rfl⟩
  · -- the NACK queue
    refine ⟨_, msgNackRead_next ht s, rfl, ?_, fun k hk => ?_⟩
    · rw [State.tile_answerWord, State.tile_setTile_self]; rfl
    · rw [State.tile_answerWord, State.tile_setTile, if_neg hk]
  · -- the time-stamp queue
    refine ⟨_, tsqEntryRead_next hp hi s, rfl, ?_, fun q hq => ?_⟩
    · rw [State.port_answerWord]
      split
      · rw [State.port_setPort_self]
      · rfl
    · rw [State.port_answerWord]
      split
      · rw [State.port_setPort, if_neg hq]
      · rfl
  · -- TILE.FPFLAGS
    refine ⟨_, registerWrite_tile_next h ht _ _, ?_, fun k hk => ?_⟩
    · rw [State.tile_setTile_self]; rfl
    · rw [State.tile_setTile, if_neg hk]
  · -- TILE.ERR
    refine ⟨_, registerWrite_tile_next h ht _ _, ?_, fun k hk => ?_⟩
    · rw [State.tile_setTile_self]; rfl
    · rw [State.tile_setTile, if_neg hk]
  · -- PORTn.ETYPE
    refine ⟨_, registerWrite_port_next h hp _ _, ?_, rfl⟩
    exact State.port_setPort_self s p _
  · -- a write while GO reads 1
    refine mailboxWriteWhileBusy_busy hgo hd ?_ v
    obtain rfl | rfl | rfl | rfl := ho <;> rfl
  · -- the doorbell
    have hw : exec (.registerWrite (.bar0 0x0008) v) s = .next (s.doorbell { s.host with go := true }) := by
      rw [registerWrite_bar0 h, State.bar0Poke_doorbell hgo hd hv]
    refine ⟨fun hc => ?_, fun hc => ?_⟩
    · rw [hw]; simp [State.doorbell, hc]
    · rw [hw]; simp [State.doorbell, hc, hgo]

end Sys2Proof.Machine

/-!
PROOFS. The tile register instructions, the sync flag instructions and the wake wire (O10).
-/
namespace Sys2Proof.Machine

/-! ### Writing a tile that goes on -/

/-- Neither a stop is noted nor can the image end where the tile is left in neither STOPPED nor DONE. -/
theorem State.afterTile_live (s : State) (t : Nat) (z : Tile) (h1 : z.st ≠ .stopped) (h2 : z.st ≠ .done) :
    s.afterTile t z = s.setTile t z := by
  unfold State.afterTile
  simp [h1, h2]

/-- A command on a tile that leaves it in neither STOPPED nor DONE, or as it was, writes the tile. -/
theorem onTile_live {t : Nat} (ht : t < 1536) (s : State) (f : Tile → Tile)
    (h : (f (s.tile t)).st = .run ∨ (f (s.tile t)).st = (s.tile t).st) : onTile t s f = .next (s.setTile t (f (s.tile t))) := by
  rw [onTile_next ht]
  obtain h | h := h
  · rw [State.afterTile_live _ _ _ (by simp [h]) (by simp [h])]
  · rw [State.afterTile_same _ _ _ h]

/-- The fetch reads the tile store and changes none of its bytes. -/
theorem State.Issues.fetched_store {s : State} {t word : Nat} {srcs : List Nat} {y : Tile} (h : s.Issues t word srcs y) :
    y.store = (s.tile t).store := by
  obtain ⟨-, -, -, -, hw, rfl, -, -⟩ := h
  have hf : (s.tile t).fetch = ((s.tile t).fetch.1, some word) := by rw [← hw]
  rw [Tile.ask_store]
  exact Tile.fetch_store hf

/-- A value in control position taints the tile where it is poisoned (R52). -/
theorem Tile.ctrl_eq (y : Tile) (pz : Bool) : y.ctrl pz = if pz then y.tainted else y := by
  unfold Tile.ctrl Tile.mark Tile.tainted Tile.report
  cases pz
  · rfl
  · cases ht : y.taint
    · simp
    · simp only [if_true]; rw [← ht]

@[simp] theorem Tile.ctrl_st (y : Tile) (pz : Bool) : (y.ctrl pz).st = y.st := by
  rw [Tile.ctrl_eq]; split <;> rfl
@[simp] theorem Tile.ctrl_pc (y : Tile) (pz : Bool) : (y.ctrl pz).pc = y.pc := by
  rw [Tile.ctrl_eq]; split <;> rfl
@[simp] theorem Tile.ctrl_mx (y : Tile) (pz : Bool) : (y.ctrl pz).mx = y.mx := by
  rw [Tile.ctrl_eq]; split <;> rfl
@[simp] theorem Tile.ctrl_mxDrained (y : Tile) (pz : Bool) : (y.ctrl pz).mxDrained = y.mxDrained := by
  rw [Tile.ctrl_eq]; split <;> rfl

/-! ### TRR and TRW -/

@[simp] theorem Tile.readEffect_st (x : Tile) (off : Nat) : (x.readEffect off).st = x.st := by
  unfold Tile.readEffect; split <;> rfl
@[simp] theorem Tile.readEffect_store (x : Tile) (off : Nat) : (x.readEffect off).store = x.store := by
  unfold Tile.readEffect; split <;> rfl
@[simp] theorem Tile.poke_st (x : Tile) (off : Nat) (v : Word) : (x.poke off v).st = x.st := by
  unfold Tile.poke Tile.setSflag; (repeat' split) <;> rfl
@[simp] theorem Tile.poke_pc (x : Tile) (off : Nat) (v : Word) : (x.poke off v).pc = x.pc := by
  unfold Tile.poke Tile.setSflag; (repeat' split) <;> rfl

/-- An instruction with one result and no flags retires as Table 3-3 says. -/
theorem Tile.retired_plain (y : Tile) (cc rd lat : Nat) (v : Word) (pz : Bool) :
    y.Retired (y.retire cc rd v pz lat) cc rd lat v pz 0 := by
  have h := y.retired_retire cc rd lat v pz 0
  rwa [show (y.fpflags ||| 0 : BitVec 5) = y.fpflags from BitVec.or_zero] at h

theorem Tile.sameStore_of_store {x z : Tile} (h : x.store = z.store) : z.SameStore x := by
  intro a
  show Sparse.get 0 x.store a = Sparse.get 0 z.store a
  rw [h]

/-- TRR: what the read does, then the register's value in rd (R69). -/
theorem trr_next {s : State} {t : Nat} {rd : BitVec 5} {off : BitVec 10} {y : Tile}
    (h : s.Issues t (encI 0x2D rd.toNat 0 (4 * off.toNat)) [] y) :
    exec (.trr t rd off) s = .next (s.setTile t ((y.readEffect (4 * off.toNat)).retire s.cc rd.toNat
      (if ventOnly (4 * off.toNat) then 0 else y.peek (4 * off.toNat)) false 2)) :=
  onTile_issues_set h _ (by rw [Tile.retire_st, Tile.readEffect_st])

/-- What TRW does where it issues. -/
def Tile.trw (cc off rs1 : Nat) (y : Tile) : Tile :=
  let v := y.reg rs1
  let z := y.ctrl (y.regPz rs1)
  if off = 0x500 then
    if !mqOk v.toNat then ({ z with mx := { z.mx with mqmode := z.mx.mqmode ||| 0x80000000 } } : Tile).advance cc
    else if z.mxDrained then (z.applyMq v).advance cc
    else { z with sleep := .mqApply v }
  else (z.poke off v).advance cc

theorem Tile.trw_st (cc off rs1 : Nat) (y : Tile) : (y.trw cc off rs1).st = y.st := by
  unfold Tile.trw
  simp only
  (repeat' split) <;> simp [Tile.applyMq]

theorem trw_next {s : State} {t : Nat} {rs1 : BitVec 5} {off : BitVec 10} {y : Tile}
    (h : s.Issues t (encI 0x2E 0 rs1.toNat (4 * off.toNat)) [rs1.toNat] y) :
    exec (.trw t rs1 off) s = .next (s.setTile t (y.trw s.cc (4 * off.toNat) rs1.toNat)) :=
  onTile_issues_set h (Tile.trw s.cc (4 * off.toNat) rs1.toNat) (Tile.trw_st _ _ _ _)

theorem mqOk_iff (v : Nat) : mqOk v = true ↔ fld v 20 16 ≤ 16 ∧ fld v 29 24 ≤ 32 ∧ fld v 12 8 ≤ 16 := by
  unfold mqOk mqAsplit mqBsplit mqCsplit
  simp [and_assoc]

theorem bitAt_eq_testBit (w b : Nat) : bitAt w b = w.testBit b := by
  rw [bitAt, Nat.testBit_eq_decide_div_mod_eq]; rfl

theorem Tile.poke_sflag (x : Tile) (v : Word) {n : Nat} (hn : n < 48) :
    x.poke (0x400 + 4 * n) v = x.setSflag n { x.sflag n with
      ovf := (x.sflag n).ovf && !v.toNat.testBit 8
      rsv := (x.sflag n).rsv && !v.toNat.testBit 9 } := by
  unfold Tile.poke
  rw [if_pos (by omega), show (0x400 + 4 * n - 0x400) / 4 = n by omega]
  simp only [bitAt_eq_testBit]

/-- A 1 in bits 24 to 31 clears a bit of NOVF (Table 8-12). -/
theorem Tile.poke_novf (x : Tile) (v : Word) {i : Nat} (hi : i < 8) :
    (x.poke 0x710 v).ring.novf.testBit i = (x.ring.novf.testBit i && !v.toNat.testBit (24 + i)) := by
  show (BitVec.ofNat 8 x.ring.novf &&& ~~~(BitVec.ofNat 8 (v.toNat / 2 ^ 24))).toNat.testBit i = _
  rw [BitVec.testBit_toNat, BitVec.getLsbD_and, BitVec.getLsbD_not, BitVec.getLsbD_ofNat, BitVec.getLsbD_ofNat, Nat.testBit_div_two_pow]
  simp [hi, Nat.add_comm]

/-- A register that holds no W1C field ignores a write (R12). -/
theorem Tile.poke_ignored (x : Tile) (v : Word) {off : Nat} (h1 : off ∉ [0x010, 0x504, 0x600, 0x710]) (h2 : off < 0x400 ∨ 0x4C0 ≤ off) :
    x.poke off v = x := by
  unfold Tile.poke
  rw [if_neg (by omega)]
  split <;> simp_all

/-- A stalled write of TILE.MQ_MODE takes effect once the engine has drained (R117). -/
theorem mqModeApply_next {t : Nat} (ht : t < 1536) {s : State} {v : Word} (hr : (s.tile t).st = .run)
    (hs : (s.tile t).sleep = .mqApply v) (hd : (s.tile t).mxDrained = true) :
    exec (.mqModeApply t) s =
      .next (s.setTile t { (s.tile t).applyMq v with sleep := .none, pc := (s.tile t).pc + 4, issueAt := s.cc + 1 }) := by
  show execMqModeApply t s = _
  unfold execMqModeApply
  refine (onTile_live ht s _ ?_).trans ?_
  all_goals simp only [hs]; rw [if_pos ⟨hr, hd⟩]
  · exact .inl hr
  · rfl

/-! ### Sync flags -/

/-- SF.WAIT where it issues; a flag number from 48 up names no flag and stops the program (R174). -/
theorem sfWait_next {s : State} {t : Nat} {n : BitVec 6} {y : Tile} (h : s.Issues t (encR 0x30 0 0 0 n.toNat) [] y) :
    exec (.sfWait t n) s = .next (s.afterTile t
      (if 48 ≤ n.toNat then y.stop 0x09
       else if y.grantable n.toNat && !y.headWants (s.wrelOk t) s.cc n.toNat then (y.takeFlag n.toNat).advance s.cc
       else { y with st := .wait, sleep := .flag n.toNat })) :=
  onTile_issues h _

theorem sfSig_next {s : State} {t : Nat} {n : BitVec 6} {y : Tile} (h : s.Issues t (encR 0x30 0 0 0 (256 + n.toNat)) [] y) :
    exec (.sfSig t n) s = .next (s.afterTile t (if 48 ≤ n.toNat then y.stop 0x09 else (y.signal n.toNat).advance s.cc)) :=
  onTile_issues h _

theorem sfRead_next {s : State} {t : Nat} {rd : BitVec 5} {n : BitVec 6} {y : Tile}
    (h : s.Issues t (encR 0x30 rd.toNat 0 0 (512 + n.toNat)) [] y) :
    exec (.sfRead t rd n) s = .next (s.afterTile t
      (if 48 ≤ n.toNat then y.stop 0x09 else y.retire s.cc rd.toNat (w32 (y.sflag n.toNat).val0) false 2)) :=
  onTile_issues h _

theorem Tile.grantable_iff (y : Tile) (n : Nat) : y.grantable n = true ↔ 1 ≤ (y.sflag n).val0 ∧ (y.sflag n).dec = 0 := by
  unfold Tile.grantable; simp

/-- SF.WAIT takes the decrement at issue where the flag gives one and no engine's head goes first (R172, R173, R176). -/
theorem sfWait_taken {s : State} {t : Nat} {n : BitVec 6} {y : Tile} (h : s.Issues t (encR 0x30 0 0 0 n.toNat) [] y)
    (hn : n.toNat < 48) (hv : 1 ≤ (y.sflag n.toNat).val0) (hd : (y.sflag n.toNat).dec = 0)
    (hw : y.headWants (s.wrelOk t) s.cc n.toNat = false) :
    exec (.sfWait t n) s = .next (s.setTile t ((y.takeFlag n.toNat).advance s.cc)) := by
  rw [sfWait_next h, if_neg (by omega), if_pos (by simp [Tile.grantable_iff, hv, hd, hw])]
  exact congrArg _ (State.afterTile_same _ _ _ h.fetched_st)

/-- SF.WAIT sleeps where it cannot take the decrement. -/
theorem sfWait_sleeps {s : State} {t : Nat} {n : BitVec 6} {y : Tile} (h : s.Issues t (encR 0x30 0 0 0 n.toNat) [] y)
    (hn : n.toNat < 48)
    (hw : (y.sflag n.toNat).val0 = 0 ∨ (y.sflag n.toNat).dec ≠ 0 ∨ y.headWants (s.wrelOk t) s.cc n.toNat = true) :
    exec (.sfWait t n) s = .next (s.setTile t { y with st := .wait, sleep := .flag n.toNat }) := by
  have hno : ¬ (y.grantable n.toNat && !y.headWants (s.wrelOk t) s.cc n.toNat) = true := by
    rw [Bool.and_eq_true, Tile.grantable_iff]
    rintro ⟨⟨h1, h2⟩, h3⟩
    obtain h4 | h4 | h4 := hw
    · omega
    · exact h4 h2
    · simp [h4] at h3
  rw [sfWait_next h, if_neg (by omega), if_neg hno, State.afterTile_live _ _ _ (by simp) (by simp)]

/-- A signal of SF0 to SF43 increments; one of SF44 to SF47 only sets RSV, whose rise is reported (R175). -/
theorem Tile.signal_low (y : Tile) {n : Nat} (hn : n < 44) :
    y.signal n = y.setSflag n { y.sflag n with inc := (y.sflag n).inc + 1 } := by
  unfold Tile.signal
  rw [if_neg (by omega), if_neg (by omega)]
  rfl

theorem Tile.signal_reserved (y : Tile) {n : Nat} (h1 : 44 ≤ n) (h2 : n < 48) :
    y.signal n = { y.setSflag n { y.sflag n with rsv := true } with
      reports := if (y.sflag n).rsv then y.reports else y.reports ++ [0x0106] } := by
  unfold Tile.signal
  rw [if_neg (by omega), if_pos h1]
  simp only
  split <;> rfl

/-! ### The wake wire -/

/-- What the wake wire does at one tile. -/
def Tile.scalarWake (cc : Nat) (x : Tile) : Tile :=
  match x.sleep with
  | .granted _ c => x.wake c
  | .recv rd =>
    match x.ringLook with
    | (y, none) => y
    | (y, some o) => ((y.setReg rd.toNat (w32 o) false).setReady rd.toNat (cc + 2)).wake cc
  | _ => x

theorem scalarWake_eq (t : Nat) (s : State) : exec (.scalarWake t) s = onTile t s (Tile.scalarWake s.cc) := rfl

@[simp] theorem Tile.headTouch_st (x : Tile) : x.headTouch.st = x.st := by
  unfold Tile.headTouch; split <;> simp
@[simp] theorem Tile.headTouch_ring (x : Tile) : x.headTouch.ring = x.ring := by
  unfold Tile.headTouch
  split
  · rfl
  · rw [Tile.touch_frame]
@[simp] theorem Tile.headTouch_pc (x : Tile) : x.headTouch.pc = x.pc := by
  unfold Tile.headTouch; split <;> simp

/-- A read of the header gives the same header afterwards. -/
@[simp] theorem Tile.headTouch_ringHead (x : Tile) : x.headTouch.ringHead = x.ringHead := by
  unfold Tile.headTouch
  split
  · rfl
  · rw [Tile.touch_frame]; rfl

theorem Tile.ringLook_empty {x : Tile} (h : x.ring.rd = x.ring.wr) : x.ringLook = (x, none) := by
  have hu : x.headTouch = x := by unfold Tile.headTouch; rw [if_pos h]
  unfold Tile.ringLook
  simp [hu, h]

theorem Tile.ringLook_record {x : Tile} (h : x.ring.rd ≠ x.ring.wr) (hm : bitAt x.ringHead 15 = false) :
    x.ringLook = ({ x.headTouch with ring := { x.ring with lent := true } }, some x.ring.rd) := by
  unfold Tile.ringLook
  simp [h, hm]

theorem Tile.ringLook_marker {x : Tile} (h : x.ring.rd ≠ x.ring.wr) (hm : bitAt x.ringHead 15 = true) :
    x.ringLook = if x.ring.wr = 0 then ({ x.headTouch with ring := { x.ring with rd := 0 } }, none)
      else ({ x.headTouch with ring := { x.ring with rd := 0, lent := true } }, some 0) := by
  unfold Tile.ringLook
  simp [h, hm, eq_comm]

theorem Tile.scalarWake_granted {x : Tile} {n c : Nat} (h : x.sleep = .granted n c) (cc : Nat) : x.scalarWake cc = x.wake c := by
  unfold Tile.scalarWake; rw [h]

theorem Tile.scalarWake_none {x y : Tile} {rd : BitVec 5} (h : x.sleep = .recv rd) (hl : x.ringLook = (y, none)) (cc : Nat) :
    x.scalarWake cc = y := by
  unfold Tile.scalarWake; rw [h]; simp only [hl]

theorem Tile.scalarWake_some {x y : Tile} {rd : BitVec 5} {o : Nat} (h : x.sleep = .recv rd) (hl : x.ringLook = (y, some o)) (cc : Nat) :
    x.scalarWake cc = ((y.setReg rd.toNat (w32 o) false).setReady rd.toNat (cc + 2)).wake cc := by
  unfold Tile.scalarWake; rw [h]; simp only [hl]

/-- A tile with the registers of `x` wakes with a value in rd: the write, and the rest of the tile. -/
theorem Tile.wake_wrote (x y : Tile) (rd cc : Nat) (v : Word) (hr : y.regs = x.regs) (hp : y.rpz = x.rpz) (hy : y.ready = x.ready) :
    let z := ((y.setReg rd v false).setReady rd (cc + 2)).wake cc
    x.Wrote z rd v false (cc + 2) ∧
      z = { y with regs := z.regs, rpz := z.rpz, ready := z.ready, st := .run, sleep := .none, pc := y.pc + 4, issueAt := cc + 3 } := by
  intro z
  have hw := y.wrote_setReg rd (cc + 2) v false
  refine ⟨fun n => ?_, ?_⟩
  · have := hw n
    simp only [Tile.reg, Tile.regPz, hr, hp, hy] at this ⊢
    exact this
  · cases rd <;> rfl

@[simp] theorem Tile.headTouch_regs (x : Tile) : x.headTouch.regs = x.regs := by unfold Tile.headTouch; split <;> simp
@[simp] theorem Tile.headTouch_rpz (x : Tile) : x.headTouch.rpz = x.rpz := by unfold Tile.headTouch; split <;> simp
@[simp] theorem Tile.headTouch_ready (x : Tile) : x.headTouch.ready = x.ready := by
  unfold Tile.headTouch
  split
  · rfl
  · rw [Tile.touch_frame]

theorem scalarWake_next {t : Nat} (ht : t < 1536) {s : State} {z : Tile} (hz : (s.tile t).scalarWake s.cc = z)
    (hs : z.st = .run ∨ z.st = (s.tile t).st) : exec (.scalarWake t) s = .next (s.setTile t z) := by
  subst hz
  exact onTile_live ht s _ hs

/-- Settles O10. -/
theorem tileRegistersAndFlags : Obligations.TileRegistersAndFlags := by
  unfold Obligations.TileRegistersAndFlags
  refine ⟨⟨fun s t rd off y h => ?_, fun s t rs1 off y h => ?_, fun x v => ?_, fun s t v ht hr hs hd => ?_⟩,
    ⟨fun s t n y h => ?_, fun s t n y h => ?_, fun s t rd n y h => ?_⟩, fun s t ht => ?_⟩
  · -- TRR
    refine ⟨_, trr_next h, Tile.retired_plain _ _ _ _ _ _, Tile.sameStore_of_store ?_⟩
    rw [Tile.retire_store, Tile.readEffect_store, h.fetched_store]
  · -- TRW
    intro v r ok
    have hr : y.ctrl (y.regPz rs1.toNat) = r := Tile.ctrl_eq y _
    have hpc : r.pc = y.pc := by rw [← hr, Tile.ctrl_pc]
    have hmx : r.mx = y.mx := by rw [← hr, Tile.ctrl_mx]
    have hok : mqOk (y.reg rs1.toNat).toNat = true ↔ ok := mqOk_iff _
    have hdr : r.mxDrained = y.mxDrained := by rw [← hr, Tile.ctrl_mxDrained]
    refine ⟨fun ho => ?_, fun ho hk => ?_, fun ho hk hd => ?_, fun ho hk hd => ?_⟩
    all_goals rw [trw_next h, Tile.trw]; simp only [hr]
    · rw [if_neg ho]
      simp only [Tile.advance, Tile.poke_pc, hpc]; rfl
    · rw [if_pos ho, if_pos (by simpa [← hok] using hk)]
      simp only [Tile.advance, hpc, hmx]
    · rw [if_pos ho, if_neg (by simp [hok.mpr hk]), hdr, if_pos hd]
      simp only [Tile.advance, Tile.applyMq, hpc, hmx]; rfl
    · rw [if_pos ho, if_neg (by simp [hok.mpr hk]), hdr, if_neg (by simp [hd])]
  · -- the W1C fields
    exact ⟨rfl, rfl, rfl, fun i hi => x.poke_novf v hi, rfl, fun n hn => x.poke_sflag v hn, fun off h1 h2 => x.poke_ignored v h1 h2⟩
  · -- MQ_MODE_APPLY
    exact mqModeApply_next ht hr hs hd
  · -- SF.WAIT
    refine ⟨fun hn hv hd hw => sfWait_taken h hn hv hd hw, fun hn hw => sfWait_sleeps h hn hw, fun hn => ?_⟩
    rw [sfWait_next h, if_pos hn]
  · -- SF.SIG
    refine ⟨fun hn => ?_, fun h1 h2 => ?_, fun hn => ?_⟩
    · rw [sfSig_next h, if_neg (by omega), Tile.signal_low y hn]
      exact congrArg _ (State.afterTile_same _ _ _ h.fetched_st)
    · rw [sfSig_next h, if_neg (by omega), Tile.signal_reserved y h1 h2]
      exact congrArg _ (State.afterTile_same _ _ _ h.fetched_st)
    · rw [sfSig_next h, if_pos hn]
  · -- SF.READ
    refine ⟨fun hn => ⟨_, ?_, Tile.retired_plain _ _ _ _ _ _, Tile.sameStore_of_store ?_⟩, fun hn => ?_⟩
    · rw [sfRead_next h, if_neg (by omega), State.afterTile_same _ _ _ ((Tile.retire_st _ _ _ _ _ _).trans h.fetched_st)]; rfl
    · rw [Tile.retire_store, h.fetched_store]
    · rw [sfRead_next h, if_pos hn]
  · -- the wake wire
    intro x
    refine ⟨fun n c hs => ?_, fun rd hs hne hm => ?_, fun rd hs hne hm => ?_, fun rd hs he => ?_⟩
    · exact scalarWake_next ht (Tile.scalarWake_granted hs _) (.inl rfl)
    · obtain ⟨h1, h2⟩ := x.wake_wrote { x.headTouch with ring := { x.ring with lent := true } } rd.toNat s.cc (w32 x.ring.rd)
        x.headTouch_regs x.headTouch_rpz x.headTouch_ready
      exact ⟨_, scalarWake_next ht (Tile.scalarWake_some hs (Tile.ringLook_record hne hm) _) (.inl rfl), h1, h2.trans (by simp)⟩
    · have hl := Tile.ringLook_marker hne hm
      refine ⟨fun hw => ?_, fun hw => ?_⟩
      · rw [if_pos hw] at hl
        refine (scalarWake_next ht (Tile.scalarWake_none hs hl _) (.inr x.headTouch_st)).trans ?_
        simp [hw]
      · rw [if_neg hw] at hl
        obtain ⟨h1, h2⟩ := x.wake_wrote { x.headTouch with ring := { x.ring with rd := 0, lent := true } } rd.toNat s.cc (w32 0)
          x.headTouch_regs x.headTouch_rpz x.headTouch_ready
        exact ⟨_, scalarWake_next ht (Tile.scalarWake_some hs hl _) (.inl rfl), h1, h2.trans (by simp [hw])⟩
    · exact scalarWake_next ht (Tile.scalarWake_none hs (Tile.ringLook_empty he) _) (.inr rfl)

end Sys2Proof.Machine

/-!
PROOFS. The queries of the mailbox (O51).
-/
namespace Sys2Proof

/-! ### Bits packed into bytes -/

/-- The number that a list of bits spells, bit 0 first. -/
def bitsVal (bs : List Bool) : Nat := bs.foldr (fun b acc => b2n b + 2 * acc) 0

theorem b2n_le_one (b : Bool) : b2n b ≤ 1 := by cases b <;> decide

theorem bitsVal_lt (bs : List Bool) : bitsVal bs < 2 ^ bs.length := by
  induction bs with
  | nil => decide
  | cons b bs ih =>
    have hb := b2n_le_one b
    show b2n b + 2 * bitsVal bs < 2 ^ (bs.length + 1)
    rw [Nat.pow_succ]
    omega

theorem bitsVal_testBit (bs : List Bool) (i : Nat) : (bitsVal bs).testBit i = bs.getD i false := by
  induction bs generalizing i with
  | nil => simp [bitsVal]
  | cons b bs ih =>
    show (b2n b + 2 * bitsVal bs).testBit i = _
    cases i with
    | zero => cases b <;> simp [b2n, Nat.testBit_zero]
    | succ i =>
      have hb := b2n_le_one b
      rw [Nat.testBit_succ, show (b2n b + 2 * bitsVal bs) / 2 = bitsVal bs by omega, ih]
      rfl

@[simp] theorem bitsToBytes_length (bs : List Bool) : (bitsToBytes bs).length = ceilDiv bs.length 8 := leBytes_length _ _

/-- The bytes that bits are packed into spell the same number. -/
theorem leNat_bitsToBytes (bs : List Bool) : leNat (bitsToBytes bs) = bitsVal bs := by
  show leNat (leBytes (ceilDiv bs.length 8) (bitsVal bs)) = _
  rw [leNat_leBytes, Nat.mod_eq_of_lt]
  calc bitsVal bs < 2 ^ bs.length := bitsVal_lt bs
    _ ≤ 2 ^ (8 * ceilDiv bs.length 8) := Nat.pow_le_pow_right (by decide) (by unfold ceilDiv; omega)
    _ = 256 ^ ceilDiv bs.length 8 := by rw [Nat.pow_mul]

theorem leNat_append_zeros (l : List Byte) (m : Nat) : leNat (l ++ List.replicate m 0) = leNat l := by
  induction l with
  | nil => induction m with
    | zero => rfl
    | succ m ih => simpa [leNat, List.replicate_succ] using ih
  | cons b l ih => simp only [List.cons_append, leNat, ih]

/-- Padding leaves the number that bytes spell. -/
theorem leNat_padTo {n : Nat} {l : List Byte} (h : l.length ≤ n) : leNat (padTo n l) = leNat l := by
  unfold padTo
  rw [List.take_of_length_le (by simp; omega), leNat_append_zeros]

namespace Machine

/-- A run of whole words touches those words. -/
theorem wordsOf_aligned {a n : Nat} (ha : a % 8 = 0) (hn : n % 8 = 0) (h0 : 0 < n) :
    wordsOf a n = (List.range (n / 8)).map (a / 8 + ·) := by
  unfold wordsOf
  rw [if_neg (by omega), show (a + n - 1) / 8 - a / 8 + 1 = n / 8 by omega]

/-- The poison bits of TSTORE_READ: one for each word, in 8-byte units (Table 13-6). -/
def Tile.poisonBits (x : Tile) (a n : Nat) : List Byte :=
  let pz := bitsToBytes ((wordsOf a n).map x.wordPz)
  padTo (8 * ceilDiv pz.length 8) pz

theorem Tile.poisonBits_length (x : Tile) {a n : Nat} (ha : a % 8 = 0) (hn : n % 8 = 0) (h0 : 0 < n) :
    (x.poisonBits a n).length = 8 * ceilDiv (n / 8) 64 := by
  unfold Tile.poisonBits
  simp only [padTo_length, bitsToBytes_length, wordsOf_aligned ha hn h0, List.length_map, List.length_range, ceilDiv]
  omega

theorem Tile.poisonBits_bit (x : Tile) {a n : Nat} (ha : a % 8 = 0) (hn : n % 8 = 0) (h0 : 0 < n) (i : Nat) :
    bitAt (leNat (x.poisonBits a n)) i = (decide (i < n / 8) && x.wordPz (a / 8 + i)) := by
  unfold Tile.poisonBits
  rw [leNat_padTo (by unfold ceilDiv; omega), leNat_bitsToBytes, bitAt_eq_testBit, bitsVal_testBit, wordsOf_aligned ha hn h0]
  by_cases hi : i < n / 8
  · simp [hi]
  · simp [hi]

/-! ### What a completion leaves -/

theorem HostIface.msi_frame (h : HostIface) (v : Nat) : (h.msi v).shadow = h.shadow ∧ (h.msi v).go = h.go ∧ (h.msi v).status = h.status := by
  unfold HostIface.msi
  (repeat' split) <;> exact ⟨rfl, rfl, rfl⟩

theorem State.complete_shadow (s : State) (status : Nat) (resp : List Byte) : (s.complete status resp).host.shadow = s.host.shadow := by
  show (s.host.complete status resp).shadow = _
  unfold HostIface.complete
  split
  · rfl
  · exact (HostIface.msi_frame _ 0).1

/-- A completion answers the command in progress. -/
theorem State.answered_complete {s t : State} (h1 : t.host.inside = s.host.inside) (status : Nat) (resp : List Byte) :
    s.Answered (t.complete status resp) status := by
  constructor
  · intro h
    show (t.host.complete status resp).go = false ∧ (t.host.complete status resp).status = status
    unfold HostIface.complete
    rw [if_neg (by simp [h1, h])]
    exact ⟨(HostIface.msi_frame _ 0).2.1, (HostIface.msi_frame _ 0).2.2⟩
  · intro x l h
    show (t.host.complete status resp).inside = l
    unfold HostIface.complete
    rw [if_pos (by simp [h1, h])]
    simp [h1, h]

theorem Sparse.get_foldl_clear (ks : List Nat) (m : Sparse Nat) (k : Nat) :
    Sparse.get 0 (ks.foldl (fun (a : Sparse Nat) k => Sparse.set 0 a k 0) m) k = if k ∈ ks then 0 else Sparse.get 0 m k := by
  induction ks generalizing m with
  | nil => simp
  | cons j ks ih =>
    rw [List.foldl_cons, ih, Sparse.get_set]
    by_cases h1 : k ∈ ks <;> by_cases h2 : k = j <;> simp [h1, h2]

/-! ### The queries -/

theorem State.stateBytes_state (s : State) : leAt s.stateBytes 0 2 = s.vent.dev.code ∧ leAt s.stateBytes 2 2 = s.vent.dcause % 65536 := by
  constructor
  · show leNat (leBytes 2 s.vent.dev.code) = _
    rw [leNat_leBytes]
    cases s.vent.dev <;> rfl
  · show leNat (leBytes 2 s.vent.dcause) = _
    exact leNat_leBytes _ _

/-- What GET_COUNTERS does where its request names the collectives' block (Table 13-7). -/
theorem getCounters_pcoll {s : State} {r : List Byte} (h : s.Asks 0x0104 stILRE (lenIs 4) r) (hb : leAt r 0 1 = 6) (hi : leAt r 2 2 = 0)
    (hc : leAt r 1 1 ≤ 1) :
    exec .getCounters s = .next ((if leAt r 1 1 = 1 then
        { s with host := { s.host with shadow := ([4, 8, 12].map (shadowKey 6 0)).foldl (fun (a : Sparse Nat) k => Sparse.set 0 a k 0) s.host.shadow } } else s).complete
      stOK ((([4, 8, 12].map (shadowKey 6 0)).map fun k => leBytes 8 (Sparse.get 0 s.host.shadow k)).flatten)) := by
  show execGetCounters s = _
  unfold execGetCounters
  rw [mbox_run _ h]
  simp only [hb, hi]
  rw [if_neg (by omega), if_neg (by omega), if_neg (by omega)]
  rfl

theorem attestQuote_next {s : State} {r : List Byte} (h : s.Asks 0x0601 stAll (lenIs 32) r) :
    let b := s.sec.quote.getD (s.quoteBody r)
    let u := if s.host.inside.isEmpty then { s with sec := { s.sec with quote := none } } else s
    exec .attestQuote s = .next (if s.sec.unsealed || s.identityOk then u.complete stOK (b ++ leBytes 17088 (Config.signQuote b).toNat)
      else ({ u with free := s.free + 1 } : State).complete stOK (b ++ leBytes 17088 (Config.freeValue s.free))) :=
  mbox_run _ h

/-- The debug reads answer with the READ right, and NO_DEBUG without it (R348). -/
theorem syncfRead_next {s : State} {r : List Byte} (h : s.Asks 0x0701 stRE (lenIs 3) r) (h1 : leAt r 0 2 < s.tileLimit)
    (h2 : leAt r 2 1 < 48) :
    exec .syncfRead s = .next (if s.sec.right 1 then s.complete stOK (leBytes 4 ((s.tile (leAt r 0 2)).sflag (leAt r 2 1)).word.toNat)
      else s.complete stNO_DEBUG []) := by
  show execSyncfRead s = _
  unfold execSyncfRead
  rw [mbox_run _ h]
  simp only
  rw [if_neg (by omega)]
  cases s.sec.right 1 <;> rfl

theorem tregRead_next {s : State} {r : List Byte} (h : s.Asks 0x0702 stLRE (lenIs 4) r) (h1 : leAt r 0 2 < s.tileLimit)
    (h2 : leAt r 2 2 < 4096) (h3 : leAt r 2 2 % 4 = 0) :
    exec .tregRead s = .next (if s.sec.right 1 then s.complete stOK (leBytes 4 (s.tregWord (leAt r 0 2) (leAt r 2 2)).toNat)
      else s.complete stNO_DEBUG []) := by
  show execTregRead s = _
  unfold execTregRead
  rw [mbox_run _ h]
  simp only
  rw [if_neg (by omega)]
  cases s.sec.right 1 <;> rfl

/-- The fields of a TSTORE_READ request are in range (Table 13-6). -/
def State.tstoreOk (s : State) (r : List Byte) : Prop :=
  leAt r 0 2 < s.tileLimit ∧ zeroAt r 2 4 = true ∧ leAt r 4 4 % 8 = 0 ∧ leAt r 8 4 % 8 = 0 ∧ 0 < leAt r 8 4 ∧ leAt r 8 4 ≤ 28672 ∧
    leAt r 4 4 + leAt r 8 4 ≤ 0x60000

theorem tstoreRead_next {s : State} {r : List Byte} (h : s.Asks 0x0703 stRE (lenIs 12) r) (hr : s.tstoreOk r) :
    let x := (s.tile (leAt r 0 2)).touch (leAt r 4 4) (leAt r 8 4)
    exec .tstoreRead s = .next (if s.sec.right 1 then
        (s.setTile (leAt r 0 2) x).complete stOK (x.bytes (leAt r 4 4) (leAt r 8 4) ++ x.poisonBits (leAt r 4 4) (leAt r 8 4))
      else s.complete stNO_DEBUG []) := by
  obtain ⟨h1, h2, h3, h4, h5, h6, h7⟩ := hr
  intro x
  show execTstoreRead s = _
  unfold execTstoreRead
  rw [mbox_run _ h]
  simp only
  rw [if_neg (by rw [h2]; simp; omega)]
  cases s.sec.right 1 <;> rfl

/-- Settles O51: each query runs its body on the request that it asks (`mbox_run`), whose checks the hypotheses decide. -/
theorem mailboxQueries : Obligations.MailboxQueries := by
  unfold Obligations.MailboxQueries
  refine ⟨fun s => ⟨fun h => ⟨mbox_run _ h, padTo_length _ _⟩, fun h => ⟨mbox_run _ h, padTo_length _ _, s.stateBytes_state⟩,
    fun h => ⟨_, mbox_run _ h, padTo_length _ _⟩, fun h => mbox_run _ h, fun h => mbox_run _ h, fun h => mbox_run _ h, fun h => ?_⟩,
    fun s r => ⟨fun h hb hi => ?_, fun h hg => ?_, fun h hw x hx => ?_, fun h hp => ?_, fun h h1 h2 h3 => ?_, fun h => ?_,
      fun h h1 h2 => ?_, fun h h1 h2 h3 => ?_, fun h h1 h2 h3 h4 h5 h6 h7 => ?_⟩⟩
  · -- TXP_STATUS
    refine ⟨_, _, _, mbox_run _ h, fun o ho => ?_, fun d hd => ?_⟩
    · rw [ho]
    · rw [hd]; rfl
  · -- GET_COUNTERS
    intro ks
    refine ⟨fun hc => ?_, fun hc => ?_⟩
    · rw [getCounters_pcoll h hb hi (by omega), if_neg (by omega)]
    · have hx := getCounters_pcoll h hb hi (by omega)
      rw [if_pos hc] at hx
      refine ⟨_, hx, State.answered_complete (by rfl) _ _, fun k hk => ?_, fun k hk => ?_⟩
      · rw [State.complete_shadow]
        exact (Sparse.get_foldl_clear ks _ k).trans (if_pos hk)
      · rw [State.complete_shadow]
        exact (Sparse.get_foldl_clear ks _ k).trans (if_neg hk)
  · -- BAR_PENDING
    refine (mbox_run _ h).trans ?_
    simp [hg]
  · -- WIN_QUERY
    refine (mbox_run _ h).trans ?_
    simp only [hx]
    rw [if_neg (by omega)]
  · -- PORT_STATUS
    refine (mbox_run _ h).trans ?_
    simp only
    rw [if_neg (by omega)]
  · -- JRN_READ
    refine ⟨fun h4 h5 => (mbox_run _ h).trans ?_, fun h4 => (mbox_run _ h).trans ?_⟩
    · simp only
      rw [if_pos (.inr (.inr (.inr ⟨h4, by rw [h5]; rfl⟩)))]
    · simp only
      rw [if_neg]
      rintro (h5 | h5 | h5 | ⟨h5, h6⟩)
      · exact h5 h1
      · omega
      · omega
      · obtain h4 | h4 := h4
        · exact h5 h4
        · exact absurd h6 (by rw [h4]; decide)
  · -- ATTEST_QUOTE
    intro b
    rw [attestQuote_next h]
    split
    case isTrue =>
      refine ⟨_, _, rfl, ?_, ?_, fun hi => ?_, fun _ => rfl⟩
      · split <;> rfl
      · split <;> rfl
      · rw [if_pos (by simp [hi])]
    case isFalse hn =>
      refine ⟨_, _, rfl, ?_, ?_, fun hi => ?_, fun hu => absurd (by rw [hu]; rfl) hn⟩
      · split <;> rfl
      · split <;> rfl
      · rw [if_pos (by simp [hi])]
  · -- SYNCF_READ
    rw [syncfRead_next h h1 h2]
    exact ⟨fun hr => by rw [if_pos hr], fun hr => by rw [if_neg (by simp [hr])]⟩
  · -- TREG_READ
    rw [tregRead_next h h1 h2 h3]
    exact ⟨fun hr => by rw [if_pos hr], fun hr => by rw [if_neg (by simp [hr])]⟩
  · -- TSTORE_READ
    rw [tstoreRead_next h ⟨h1, h2, h3, h4, h5, h6, h7⟩]
    refine ⟨fun hr => ⟨_, _, rfl, by rw [if_pos hr], fun a => ?_, ?_, fun i => ?_⟩, fun hr => by rw [if_neg (by simp [hr])]⟩
    · show Sparse.get 0 _ a = Sparse.get 0 _ a
      rw [Tile.touch_store]
    · exact Tile.poisonBits_length _ h3 h4 h5
    · exact Tile.poisonBits_bit _ h3 h4 h5 i

end Machine
end Sys2Proof

/-!
PROOFS. One core cycle in which no command waits (O2): what each part of `State.tick` keeps.
-/
namespace Sys2Proof

/-- A store whose values are all changed reads the changed value, where the change leaves the default. -/
theorem Sparse.get_map {α : Type} (d : α) (f : α → α) (hd : f d = d) (m : Sparse α) (k : Nat) :
    Sparse.get d (m.map fun e => (e.1, f e.2)) k = f (Sparse.get d m k) := by
  induction m with
  | nil => exact hd.symm
  | cons e m ih =>
    show (if k = e.1 then f e.2 else Sparse.get d (m.map fun e => (e.1, f e.2)) k) = f (if k = e.1 then e.2 else Sparse.get d m k)
    split
    · rfl
    · exact ih

namespace Machine

/-! ### A tile in one cycle -/

/-- What the program of a tile sees of its core: registers, program counter, queues and state. -/
def Tile.core (x : Tile) : Sparse Word × Sparse Bool × Word × (List QEnt × List QEnt × List QEnt × List QEnt) × TileSt :=
  (x.regs, x.rpz, x.pc, (x.qf, x.qb, x.qv, x.qd), x.st)

theorem Tile.same_of_core {x y : Tile} (h : y.core = x.core) :
    y.SameRegs x ∧ y.pc = x.pc ∧ y.queue = x.queue ∧ y.st = x.st := by
  simp only [Tile.core, Prod.mk.injEq] at h
  obtain ⟨hr, hz, hpc, ⟨hf, hb, hv, hd⟩, hst⟩ := h
  refine ⟨fun n => ⟨?_, ?_⟩, hpc, ?_, hst⟩
  · rw [Tile.reg, Tile.reg, hr]
  · rw [Tile.regPz, Tile.regPz, hz]
  · funext q
    cases q <;> assumption

theorem Tile.touch_core (x : Tile) (a n : Nat) : (x.touch a n).core = x.core := by rw [Tile.touch_frame]; rfl

theorem Tile.ask_core (x : Tile) (u : BankUser) (need : List BankNeed) (regs : List Nat) : (x.ask u need regs).core = x.core := by
  unfold Tile.ask
  split <;> rfl

theorem Tile.writePz_core (a n : Nat) (pz : Bool) (x : Tile) (w : Nat) : (Tile.writePz a n pz x w).core = x.core := by
  unfold Tile.writePz
  split
  · rfl
  · rw [Tile.checkWord_frame]; rfl

theorem Tile.write_core (x : Tile) (a : Nat) (bs : List Byte) (pz : Bool) : (x.write a bs pz).core = x.core :=
  foldl_keep Tile.core _ (Tile.writePz_core a bs.length pz) _ x

/-- The counters that a cycle counts are not TILE.CNT_BANKWAIT. -/
theorem Tile.stallCounter_ne {x : Tile} {c w off : Nat} (h : x.stallCounter c w = some off) : off ≠ 0x81C := by
  rintro rfl
  unfold Tile.stallCounter at h
  simp only at h
  split_ifs at h <;> cases h

/-- What a count outside TILE.CNT_BANKWAIT keeps, the counters of a cycle keep. -/
theorem Tile.countCycle_keep {γ : Type} (π : Tile → γ) (h : ∀ x off, off ≠ 0x81C → π (x.bump off 1) = π x) (x : Tile) (c : Nat) :
    π (x.countCycle c) = π x := by
  have hif : ∀ (b : Bool) (off : Nat) (y : Tile), off ≠ 0x81C → π (y.bumpIf b off) = π y := by
    intro b off y ho
    cases b
    · rfl
    · exact h y off ho
  unfold Tile.countCycle
  simp only
  rw [hif _ _ _ (by decide), hif _ _ _ (by decide), hif _ _ _ (by decide), hif _ _ _ (by decide), hif _ _ _ (by decide)]
  split
  next off ho =>
    obtain ⟨w, -, hw⟩ := Option.bind_eq_some_iff.1 ho
    exact h x off (Tile.stallCounter_ne hw)
  next => rfl

/-- What delays, new requests and counts keep, the banks of a cycle keep. -/
theorem Tile.bankCycle_keep {γ : Type} (π : Tile → γ) (hd : ∀ x u, π (Tile.delay x u) = π x)
    (hb : ∀ (x : Tile) (l : List BankReq), π { x with banks := l } = π x) (hc : ∀ x off n, π (x.bump off n) = π x) (x : Tile) :
    π x.bankCycle = π x := by
  have hz : ∀ (b : Bool) (y : Tile) (n : Nat), π (if b then y else y.bump 0x81C n) = π y := by
    intro b y n
    cases b
    · exact hc y _ n
    · rfl
  unfold Tile.bankCycle
  simp only
  split
  · rw [hc, hd, hz, hb, foldl_keep π _ hd]
  · rw [hz, hb, foldl_keep π _ hd]

theorem Tile.settle_keep {γ : Type} (π : Tile → γ) (hs : ∀ (x : Tile) (m : Sparse SFlag), π { x with sf := m } = π x)
    (hr : ∀ (x : Tile) (code : Nat), π (x.report code) = π x) (x : Tile) : π x.settle = π x := by
  refine foldl_keep π _ (fun y n => ?_) _ x
  unfold Tile.settleFlag
  simp only
  split
  · rw [hr]; exact hs y _
  · exact hs y _

theorem Tile.cycle_core (x : Tile) (c : Nat) : (x.cycle c).core = x.core := by
  unfold Tile.cycle
  rw [Tile.settle_keep Tile.core (fun _ _ => rfl) (fun _ _ => rfl),
    Tile.bankCycle_keep Tile.core (fun x u => by cases u <;> rfl) (fun _ _ => rfl) (fun _ _ _ => rfl),
    Tile.countCycle_keep Tile.core (fun _ _ _ => rfl)]

theorem Tile.cycle_store (x : Tile) (c : Nat) : (x.cycle c).store = x.store := by
  unfold Tile.cycle
  rw [Tile.settle_keep Tile.store (fun _ _ => rfl) (fun _ _ => rfl),
    Tile.bankCycle_keep Tile.store (fun x u => by cases u <;> rfl) (fun _ _ => rfl) (fun _ _ _ => rfl),
    Tile.countCycle_keep Tile.store (fun _ _ _ => rfl)]

theorem sat32_zero (v : Word) : sat32 v 0 = v := by
  have := v.isLt
  unfold sat32 satN w32
  rw [Nat.add_zero, Nat.min_eq_left (by omega)]
  simp

/-- The counter at `off`. -/
def Tile.count (off : Nat) (x : Tile) : Word := Sparse.get 0 x.cnt off

theorem Tile.count_bump (x : Tile) (off n : Nat) : (x.bump off n).count off = sat32 (x.count off) n := Sparse.get_set_self ..

theorem Tile.count_bump_ne (x : Tile) {off k : Nat} (n : Nat) (h : k ≠ off) : (x.bump off n).count k = x.count k := Sparse.get_set_ne _ _ _ h

theorem Tile.delay_cnt (x : Tile) (u : BankUser) : (x.delay u).cnt = x.cnt := by cases u <;> rfl

/-- The losers of a cycle are a matter of the requests alone. -/
theorem Tile.bankLost_congr {x y : Tile} (h : y.banks = x.banks) : y.bankLost = x.bankLost := by
  unfold Tile.bankLost Tile.bidders
  rw [h]

/-- The banks of a cycle add their losers to TILE.CNT_BANKWAIT (R62). -/
theorem Tile.bankCycle_count (x : Tile) : x.bankCycle.count 0x81C = sat32 (x.count 0x81C) x.bankLost.length := by
  have hf : ∀ (l : List BankUser), (l.foldl Tile.delay x).count 0x81C = x.count 0x81C := fun l =>
    foldl_keep (Tile.count 0x81C) _ (fun y u => by unfold Tile.count; rw [Tile.delay_cnt]) l x
  have hz : ∀ y : Tile, y.count 0x81C = x.count 0x81C →
      (if x.bankLost.isEmpty then y else y.bump 0x81C x.bankLost.length).count 0x81C = sat32 (x.count 0x81C) x.bankLost.length := by
    intro y hy
    split
    next he => rw [hy, List.isEmpty_iff.1 he, List.length_nil, sat32_zero]
    next => rw [Tile.count_bump, hy]
  unfold Tile.bankCycle
  simp only
  split
  · rw [Tile.count_bump_ne _ _ (by decide)]
    exact hz _ (hf _)
  · exact hz _ (hf _)

theorem Tile.cycle_count (x : Tile) (c : Nat) : (x.cycle c).count 0x81C = sat32 (x.count 0x81C) x.bankLost.length := by
  unfold Tile.cycle
  rw [Tile.settle_keep (Tile.count 0x81C) (fun _ _ => rfl) (fun _ _ => rfl), Tile.bankCycle_count,
    Tile.countCycle_keep (Tile.count 0x81C) (fun y off ho => Tile.count_bump_ne y 1 ho.symm),
    Tile.bankLost_congr (Tile.countCycle_keep Tile.banks (fun _ _ _ => rfl) x c)]

/-- A tile after a module reset has nothing to do in a cycle. -/
theorem Tile.reset_cycle (c : Nat) : Tile.reset.cycle c = Tile.reset := by
  have hn : Tile.reset.nextWord c = none := if_pos (.inl (by decide))
  have hp : Tile.reset.mxTurnWaits c = false := by
    unfold Tile.mxTurnWaits
    rw [show mqPaired Tile.reset.mx.mqmode.toNat = false from rfl]
    rfl
  have hc : Tile.reset.countCycle c = Tile.reset := by
    unfold Tile.countCycle
    rw [hn, hp]
    rfl
  unfold Tile.cycle
  rw [hc]
  rfl

/-! ### The parts of a cycle -/

theorem State.meshCycle_keep {γ : Type} (π : State → γ) (hr : ∀ p t s kj, π (State.sendRead p t s kj) = π s)
    (hl : ∀ (s : State) p, π (s.land p) = π s) (hm : ∀ (s : State) (m : Mesh), π { s with mesh := m } = π s) (s : State) :
    π s.meshCycle = π s := by
  unfold State.meshCycle
  simp only
  rw [foldl_keep π _ hl, hm]
  exact foldl_keep π _ (fun u p => foldl_keep π _ (fun v t => foldl_keep π _ (hr p t) _ _) _ _) _ _

theorem State.sumCycle_keep {γ : Type} (π : State → γ) (h : ∀ (s : State) (c : Caldera), π { s with cal := c } = π s) (s : State) :
    π s.sumCycle = π s := by
  unfold State.sumCycle
  exact (foldl_keep π _ (fun u e => h u _) _ _).trans (h s _)

/-- The part of a cycle that counts: the cycle count, the tiles, the IEEE 1588 counter. -/
def State.countOn (s : State) : State :=
  { s with cc := s.cc + 1, tiles := s.tiles.map fun e => (e.1, e.2.cycle s.cc), aon := if s.aon.power then s.aon.clock else s.aon }

theorem State.tick_eq (s : State) : s.tick = s.releaseCycle.meshCycle.countStalls.countOn.sumCycle.gateEnd := rfl

theorem State.countOn_tile (s : State) (t : Nat) : s.countOn.tile t = (s.tile t).cycle s.cc :=
  Sparse.get_map Tile.reset (Tile.cycle s.cc) (Tile.reset_cycle s.cc) s.tiles t

/-- What an idle step leaves outside the tiles. -/
def State.outside (s : State) :=
  (s.out, s.ports, s.coll, s.txp, s.mem.data, s.vent.journal, s.vent.flash, s.sec)

/-- The clock and the queue. -/
def State.clockAndQueue (s : State) : Nat × List Instr := (s.cc, s.pending)

/-- The end of IMAGE_START keeps what the mailbox, Vent's state and its run are not part of. -/
theorem State.gateEnd_keep {γ : Type} (π : State → γ) (h : ∀ (s : State) (d : DevSt) (r : Run), π { s with vent := { s.vent with dev := d, run := r } } = π s)
    (hh : ∀ (s : State) (i : HostIface), π { s with host := i } = π s) (s : State) : π s.gateEnd = π s := by
  have hs : π s.started = π s := by
    unfold State.started
    simp only
    split
    · exact (hh _ _).trans (h s _ _)
    · exact h s _ _
  unfold State.gateEnd
  split
  · split
    · exact hs
    · rfl
  · rfl

/-! ### The releases -/

theorem State.mapTiles_keep {γ : Type} (π : State → γ) (h : ∀ (s : State) (t : Nat) (x : Tile), π (s.setTile t x) = π s) (s : State)
    (gid : Nat) (f : Tile → Tile) : π (s.mapTiles gid f) = π s := foldl_keep π _ (fun u t => h u t _) _ s

/-- The clock, the queue and the releases that wait. -/
def State.clockQueueReleases (s : State) : Nat × List Instr × List Release := (s.cc, s.pending, s.cal.releases)

theorem State.deviceRelease_clockQueueReleases (s : State) : s.deviceRelease.clockQueueReleases = s.clockQueueReleases := by
  unfold State.deviceRelease State.fireSchedule
  simp only
  (repeat' split) <;> rfl

theorem State.stepBoundary_clockQueueReleases (s : State) (xpn : Nat) :
    (s.stepBoundary xpn).clockQueueReleases = s.clockQueueReleases := by
  unfold State.stepBoundary
  (repeat' split) <;> rfl

/-- A release keeps the clock and the queue, and takes itself from the releases that wait. -/
theorem State.release_clockQueueReleases (s : State) (r : Release) :
    (s.release r).clockQueueReleases = (s.cc, s.pending, s.cal.releases.erase r) := by
  have hm := State.mapTiles_keep State.clockQueueReleases (fun _ _ _ => rfl) s r.gid (Tile.release r.v (max r.at' s.cc))
  simp only [State.clockQueueReleases, Prod.mk.injEq] at hm
  obtain ⟨hcc, hp, hr⟩ := hm
  unfold State.release
  simp only
  split
  · rw [State.stepBoundary_clockQueueReleases, State.deviceRelease_clockQueueReleases]
    simp only [State.clockQueueReleases, hcc, hp, hr]
  · simp only [State.clockQueueReleases, hcc, hp, hr]

theorem State.release_clockAndQueue (s : State) (r : Release) : (s.release r).clockAndQueue = s.clockAndQueue := by
  have h := s.release_clockQueueReleases r
  simp only [State.clockQueueReleases, Prod.mk.injEq] at h
  obtain ⟨hcc, hp, -⟩ := h
  rw [State.clockAndQueue, hcc, hp]
  rfl

theorem State.releaseCycle_of_none_due {s : State} (h : ∀ r ∈ s.cal.releases, s.cc < r.at') : s.releaseCycle = s := by
  unfold State.releaseCycle
  rw [List.filter_eq_nil_iff.2 fun r hr => by simpa using h r hr]
  rfl

/-- The one release that waits and is due happens in the cycle. -/
theorem State.releaseCycle_of_one_due {s : State} {r : Release} (h : s.cal.releases = [r]) (hr : r.at' ≤ s.cc) :
    s.releaseCycle = s.release r := by
  unfold State.releaseCycle
  rw [h, List.filter_cons_of_pos (by simpa using hr)]
  rfl

/-! ### The cycle as a whole -/

theorem step_idle {s : State} (h : s.pending = []) : step s = .next s.tick := by
  unfold step
  rw [h]

theorem State.tick_clock (s : State) : s.tick.cc = s.cc + 1 ∧ s.tick.pending = s.pending := by
  have hend : s.tick.clockAndQueue = s.releaseCycle.meshCycle.countStalls.countOn.clockAndQueue := by
    rw [State.tick_eq, State.gateEnd_keep State.clockAndQueue (fun _ _ _ => rfl) (fun _ _ => rfl),
      State.sumCycle_keep State.clockAndQueue (fun _ _ => rfl)]
  have hbegin : s.releaseCycle.meshCycle.countStalls.clockAndQueue = s.clockAndQueue :=
    (State.meshCycle_keep State.clockAndQueue (fun p t u kj => by unfold State.sendRead; simp only; split <;> rfl) (fun _ _ => rfl)
      (fun _ _ => rfl) s.releaseCycle).trans (foldl_keep State.clockAndQueue _ State.release_clockAndQueue _ s)
  simp only [State.clockAndQueue, Prod.mk.injEq] at hend hbegin
  obtain ⟨hcc, hp⟩ := hend
  obtain ⟨hcc', hp'⟩ := hbegin
  exact ⟨hcc.trans (congrArg (· + 1) hcc'), hp.trans hp'⟩

theorem State.tick_outside {s : State} (h : s.releaseCycle = s) : s.tick.outside = s.outside := by
  rw [State.tick_eq, h, State.gateEnd_keep State.outside (fun _ _ _ => rfl) (fun _ _ => rfl),
    State.sumCycle_keep State.outside (fun _ _ => rfl)]
  exact State.meshCycle_keep State.outside (fun p t u kj => by unfold State.sendRead; simp only; split <;> rfl) (fun _ _ => rfl)
    (fun _ _ => rfl) s

/-- After the reads and landings of the mesh each tile has its cycle. -/
theorem State.tick_tile {s : State} (h : s.releaseCycle = s) (t : Nat) : s.tick.tile t = (s.meshCycle.tile t).cycle s.meshCycle.cc := by
  rw [State.tick_eq, h, State.gateEnd_keep (fun u : State => u.tile t) (fun _ _ _ => rfl) (fun _ _ => rfl),
    State.sumCycle_keep (fun u : State => u.tile t) (fun _ _ => rfl)]
  exact State.countOn_tile _ t

theorem State.setTile_core {s : State} {k : Nat} {x : Tile} (h : x.core = (s.tile k).core) (t : Nat) :
    ((s.setTile k x).tile t).core = (s.tile t).core := by
  rw [State.tile_setTile]
  split
  next hk => rw [h, hk]
  next => rfl

theorem State.sendRead_core (p : Phase) (k : Nat) (s : State) (kj : Nat × Nat) (t : Nat) :
    ((State.sendRead p k s kj).tile t).core = (s.tile t).core := by
  unfold State.sendRead
  simp only
  split
  · exact State.setTile_core ((Tile.ask_core ..).trans (Tile.touch_core ..)) t
  · exact State.setTile_core ((Tile.ask_core ..).trans (Tile.touch_core ..)) t

theorem State.land_core (s : State) (p : Packet) (t : Nat) : ((s.land p).tile t).core = (s.tile t).core :=
  State.setTile_core ((Tile.ask_core ..).trans ((Tile.write_core ..).trans (Tile.write_core ..))) t

theorem State.meshCycle_core (s : State) (t : Nat) : (s.meshCycle.tile t).core = (s.tile t).core :=
  State.meshCycle_keep (fun u : State => (u.tile t).core) (fun p k u kj => State.sendRead_core p k u kj t)
    (fun u p => State.land_core u p t) (fun _ _ => rfl) s

/-- With no exchange phase and no packet under way the mesh does nothing. -/
theorem State.meshCycle_of_idle {s : State} (h1 : s.cal.phases = []) (h2 : s.mesh.pkts = []) : s.meshCycle = s := by
  unfold State.meshCycle
  simp only [h1, h2, List.foldl_nil, List.map_nil, List.filter_nil]
  rw [← h2]

/-- Settles O2: each part of `State.tick` keeps the projection that a clause reads, and the release that is due is the first part. -/
theorem idleStepIsOneCycle : Obligations.IdleStepIsOneCycle := by
  unfold Obligations.IdleStepIsOneCycle
  refine ⟨fun s hp => ?_, fun s hp hdue => ?_, fun s u r hp hr hdue hu => ?_, fun x c => ⟨fun a => ?_, Tile.cycle_count x c⟩⟩
  · obtain ⟨hcc, hq⟩ := s.tick_clock
    exact ⟨s.tick, step_idle hp, hcc, hq.trans hp⟩
  · have hrel := State.releaseCycle_of_none_due hdue
    have hout := State.tick_outside hrel
    simp only [State.outside, Prod.mk.injEq] at hout
    obtain ⟨h1, h2, h3, h4, h5, h6, h7, h8⟩ := hout
    refine ⟨s.tick, step_idle hp, h1, h2, h3, h4, h5, h6, h7, h8, fun t => Tile.same_of_core ?_, fun hph hpk t => ?_⟩
    · rw [State.tick_tile hrel, Tile.cycle_core, State.meshCycle_core]
    · rw [State.tick_tile hrel, State.meshCycle_of_idle hph hpk]
  · have hex : exec (.barrierRelease r.gid) s = .next (s.release r) := by
      show execBarrierRelease r.gid s = _
      unfold execBarrierRelease
      rw [hr, List.find?_cons_of_pos (by simpa using hdue)]
    obtain rfl : s.release r = u := by
      rw [hex] at hu
      injection hu
    have h := s.release_clockQueueReleases r
    simp only [State.clockQueueReleases, Prod.mk.injEq, hr, List.erase_cons_head] at h
    obtain ⟨hcc, hq, hnone⟩ := h
    have hrel : (s.release r).releaseCycle = s.releaseCycle := by
      rw [State.releaseCycle_of_one_due hr hdue, State.releaseCycle_of_none_due (by rw [hnone]; simp)]
    rw [step_idle hp, step_idle (hq.trans hp), State.tick_eq, State.tick_eq, hrel]
  · rw [Tile.byteAt, Tile.byteAt, Tile.cycle_store]

end Machine
end Sys2Proof

/-!
PROOFS. The release of a barrier, the end of its exchange phase, and the watchdog (O13).
-/
namespace Sys2Proof.Machine

/-! ### Changing every tile of a group -/

/-- A change of a group's tiles changes the tiles and nothing else of the module. -/
theorem State.mapTiles_frame (s : State) (gid : Nat) (f : Tile → Tile) :
    s.mapTiles gid f = { s with tiles := (s.mapTiles gid f).tiles } :=
  congrArg (fun u : State => { u with tiles := (s.mapTiles gid f).tiles })
    (State.mapTiles_keep (fun u : State => { u with tiles := [] }) (fun _ _ _ => rfl) s gid f)

/-- A fold that changes the tiles of a list, each once, changes each of them once and leaves every other tile. -/
theorem State.tile_foldl_setTile (f : Tile → Tile) (t : Nat) (l : List Nat) (hl : l.Nodup) (s : State) :
    (l.foldl (fun (u : State) k => u.setTile k (f (u.tile k))) s).tile t = if t ∈ l then f (s.tile t) else s.tile t := by
  induction l generalizing s with
  | nil => rfl
  | cons k l ih =>
    obtain ⟨hk, hl⟩ := List.nodup_cons.1 hl
    rw [List.foldl_cons, ih hl, State.tile_setTile]
    by_cases htk : t = k
    · subst htk
      rw [if_neg hk, if_pos rfl, if_pos List.mem_cons_self]
    · simp only [List.mem_cons, htk, false_or, if_false]

theorem gTiles_nodup (rows gid : Nat) : (gTiles rows gid).Nodup := List.nodup_range.filter _

theorem State.tile_mapTiles (s : State) (gid : Nat) (f : Tile → Tile) (t : Nat) :
    (s.mapTiles gid f).tile t = if t ∈ gTiles s.rows gid then f (s.tile t) else s.tile t :=
  State.tile_foldl_setTile f t _ (gTiles_nodup _ _) s

/-! ### The release -/

/-- What every release does: its result at the tiles of its scope, the exchange phase of its program, its idle supersteps. -/
def State.beginPhase (s : State) (r : Release) : State :=
  let s1 := s.mapTiles r.gid (Tile.release r.v (max r.at' s.cc))
  { s1 with
    cal := { s1.cal with
      releases := s1.cal.releases.erase r
      phases := s1.cal.phases ++ [⟨r.gid, r.v.xpn, max r.at' s.cc, dirLx ((s.tile (gHead s.rows r.gid)).dirEnt r.v.xpn), []⟩]
      idleSs := s1.cal.idleSs + r.idle }
    mem := { s1.mem with stall := Sparse.set 0 s1.mem.stall 6 (Sparse.get 0 s1.mem.stall 6 + r.idle) }
    aon := { s1.aon with paceIdle := s1.aon.paceIdle + r.idle } }

theorem State.release_device (s : State) {r : Release} (h : r.gid = 0x5000) :
    s.release r = (s.beginPhase r).deviceRelease.stepBoundary r.v.xpn := if_pos h

theorem State.release_group (s : State) {r : Release} (h : r.gid ≠ 0x5000) : s.release r = s.beginPhase r := if_neg h

theorem State.beginPhase_tile (s : State) (r : Release) (t : Nat) :
    (s.beginPhase r).tile t = if t ∈ gTiles s.rows r.gid then (s.tile t).release r.v (max r.at' s.cc) else s.tile t :=
  s.tile_mapTiles r.gid _ t

theorem State.beginPhase_phases (s : State) (r : Release) : (s.beginPhase r).cal.phases = s.cal.phases ++
    [⟨r.gid, r.v.xpn, max r.at' s.cc, dirLx ((s.tile (gHead s.rows r.gid)).dirEnt r.v.xpn), []⟩] := by
  unfold State.beginPhase
  rw [State.mapTiles_frame]

@[simp] theorem State.beginPhase_mig (s : State) (r : Release) : (s.beginPhase r).mig = s.mig := by
  unfold State.beginPhase
  rw [State.mapTiles_frame]

@[simp] theorem State.beginPhase_cntBar (s : State) (r : Release) : (s.beginPhase r).cal.cntBar = s.cal.cntBar := by
  unfold State.beginPhase
  rw [State.mapTiles_frame]

/-- The schedule of a superstep fires entries; it writes no other register of MIG and nothing outside it. -/
theorem State.fireSchedule_frame (s : State) (n : Nat) : s.fireSchedule n =
    { s with mig := { s.mig with fired := (s.fireSchedule n).mig.fired, errBacklog := (s.fireSchedule n).mig.errBacklog } } := by
  unfold State.fireSchedule
  (repeat' split) <;> rfl

theorem State.stepBoundary_frame (s : State) (xpn : Nat) : s.stepBoundary xpn = { s with txp := (s.stepBoundary xpn).txp } := by
  unfold State.stepBoundary
  (repeat' split) <;> rfl

/-- What the device-wide release adds to a release outside the schedule and the run's step: one superstep, one barrier counted. -/
theorem State.deviceRelease_stepBoundary (s : State) (xpn : Nat) :
    let u := s.deviceRelease.stepBoundary xpn
    u.tiles = s.tiles ∧ u.cal = { s.cal with cntBar := sat32 s.cal.cntBar 1 } ∧ u.mig.sstep = s.mig.sstep + 1 := by
  intro u
  simp only [u]
  rw [State.stepBoundary_frame]
  unfold State.deviceRelease
  rw [State.fireSchedule_frame]
  exact ⟨rfl, rfl, rfl⟩

theorem State.release_tiles (s : State) (r : Release) : (s.release r).tiles = (s.beginPhase r).tiles := by
  by_cases h : r.gid = 0x5000
  · rw [s.release_device h]
    exact ((s.beginPhase r).deviceRelease_stepBoundary _).1
  · rw [s.release_group h]

theorem State.release_tile (s : State) (r : Release) (t : Nat) :
    (s.release r).tile t = if t ∈ gTiles s.rows r.gid then (s.tile t).release r.v (max r.at' s.cc) else s.tile t := by
  rw [← s.beginPhase_tile r t, State.tile, State.release_tiles]
  rfl

theorem State.release_phases (s : State) (r : Release) : (s.release r).cal.phases = s.cal.phases ++
    [⟨r.gid, r.v.xpn, max r.at' s.cc, dirLx ((s.tile (gHead s.rows r.gid)).dirEnt r.v.xpn), []⟩] := by
  rw [← s.beginPhase_phases r]
  by_cases h : r.gid = 0x5000
  · obtain ⟨-, hcal, -⟩ := (s.beginPhase r).deviceRelease_stepBoundary r.v.xpn
    rw [s.release_device h, hcal]
  · rw [s.release_group h]

theorem State.release_releases (s : State) (r : Release) : (s.release r).cal.releases = s.cal.releases.erase r :=
  congrArg (·.2.2) (s.release_clockQueueReleases r)

/-- The device-wide release advances MIG.SSTEP and CAL.CNT_BAR (R203, R220). -/
theorem State.release_device_counts (s : State) {r : Release} (h : r.gid = 0x5000) :
    (s.release r).mig.sstep = s.mig.sstep + 1 ∧ (s.release r).cal.cntBar = sat32 s.cal.cntBar 1 := by
  obtain ⟨-, hcal, hmig⟩ := (s.beginPhase r).deviceRelease_stepBoundary r.v.xpn
  rw [s.release_device h, hmig, hcal]
  simp

/-- A waiting tile receives the result, and from ROP 6 on its index in the next register (R182, R186). -/
theorem Tile.release_reg {x : Tile} {a : Arrival} (ha : x.arr = some a) (hs : x.sleep = .barrier) (v : NVal) (cyc : Nat) :
    (a.rd ≠ 0 → (x.release v cyc).reg a.rd.toNat = v.val ∧ (x.release v cyc).regPz a.rd.toNat = v.pzVal) ∧
    (6 ≤ v.rop → (x.release v cyc).reg (a.rd.toNat + 1) = v.idx ∧ (x.release v cyc).regPz (a.rd.toNat + 1) = v.pzIdx) := by
  have hrd : a.rd ≠ 0 → a.rd.toNat ≠ 0 := fun h hz => h (BitVec.eq_of_toNat_eq hz)
  unfold Tile.release
  simp only [ha, hs, ne_eq, not_true_eq_false, if_false]
  by_cases hp : 6 ≤ v.rop
  · rw [if_pos hp]
    exact ⟨fun h => by simp [Tile.reg_setReg, Tile.regPz_setReg, hrd h],
      fun _ => by simp [Tile.reg_setReg, Tile.regPz_setReg]⟩
  · rw [if_neg hp]
    exact ⟨fun h => by simp [Tile.reg_setReg, Tile.regPz_setReg, hrd h], fun h => absurd h hp⟩

/-- What is found due at a scope is of that scope. -/
theorem gid_of_find_due {α : Type} {gid : Nat} {l : List α} {g : α → Nat} {due : α → Bool} {a : α}
    (h : l.find? (fun a => g a == gid && due a) = some a) : g a = gid := by
  have := List.find?_some h
  simp only [Bool.and_eq_true, beq_iff_eq] at this
  exact this.1

theorem barrierRelease_due {s : State} {gid : Nat} {r : Release}
    (h : s.cal.releases.find? (fun r => r.gid == gid && decide (r.at' ≤ s.cc)) = some r) :
    exec (.barrierRelease gid) s = .next (s.release r) := by
  show execBarrierRelease gid s = _
  unfold execBarrierRelease
  rw [h]

/-! ### The end of the exchange phase -/

/-- What the end of phase p leaves: its scope's tiles resumed, and the phase gone. -/
def State.endPhase (s : State) (gid : Nat) (p : Phase) : State :=
  let s1 := s.mapTiles gid (Tile.phaseEnd (p.start + p.lx))
  { s1 with cal := { s1.cal with phases := s1.cal.phases.erase p } }

theorem exchangePhaseEnd_due {s : State} {gid : Nat} {p : Phase}
    (h : s.cal.phases.find? (fun p => p.gid == gid && decide (p.start + p.lx ≤ s.cc)) = some p) :
    exec (.exchangePhaseEnd gid) s = .next (if s.phaseDone p then s.endPhase gid p else s) := by
  show execExchangePhaseEnd gid s = _
  unfold execExchangePhaseEnd
  simp only [h]
  cases s.phaseDone p <;> rfl

theorem State.endPhase_tile (s : State) (gid : Nat) (p : Phase) (t : Nat) :
    (s.endPhase gid p).tile t = if t ∈ gTiles s.rows gid then (s.tile t).phaseEnd (p.start + p.lx) else s.tile t :=
  s.tile_mapTiles gid _ t

theorem State.endPhase_frame (s : State) (gid : Nat) (p : Phase) :
    (s.endPhase gid p).cal.phases = s.cal.phases.erase p ∧ (s.endPhase gid p).mem = s.mem ∧ (s.endPhase gid p).ports = s.ports := by
  unfold State.endPhase
  rw [State.mapTiles_frame]
  exact ⟨rfl, rfl, rfl⟩

/-- A tile that took part enters its next superstep; its store stays (R26). -/
theorem Tile.phaseEnd_arrived {x : Tile} {a : Arrival} (ha : x.arr = some a) (cyc : Nat) :
    (x.phaseEnd cyc).ssn = x.ssn + 1 ∧ (x.phaseEnd cyc).arr = none ∧ (x.phaseEnd cyc).SameStore x := by
  unfold Tile.phaseEnd
  rw [ha]
  simp only
  split <;> exact ⟨rfl, rfl, fun _ => rfl⟩

/-- A core that waits at the barrier resumes behind its BAR.ARRIVE (R24). -/
theorem Tile.phaseEnd_waiting {x : Tile} {a : Arrival} (ha : x.arr = some a) (hs : x.sleep = .barrier) (cyc : Nat) :
    (x.phaseEnd cyc).st = .run ∧ (x.phaseEnd cyc).sleep = .none ∧ (x.phaseEnd cyc).pc = x.pc + 4 ∧ (x.phaseEnd cyc).issueAt = cyc := by
  unfold Tile.phaseEnd
  rw [ha]
  simp only [hs, if_true, and_self]

/-! ### The watchdog -/

theorem State.node_setNode (s : State) (g k : Nat) (n : CalNode) : (s.setNode g n).node k = if k = g then n else s.node k :=
  Sparse.get_set CalNode.reset s.cal.nodes g k n

/-- The watchdog fires at a node: the node has expired, the first GID stays, and one event counts the tiles that do not wait. -/
def State.watchdogFires (s : State) (gid : Nat) : State :=
  let s1 := s.setNode gid { s.node gid with expired := true }
  ({ s1 with cal := { s1.cal with wdFired := true, wdGid := if s1.cal.wdFired then s1.cal.wdGid else gid } } : State).post 0x04
    (leBytes 2 gid ++ leBytes 2 (s.notWaiting gid).length)

theorem barrierWatchdogExpiry_fires {s : State} {gid : Nat} (hon : s.cal.wdog ≠ 0) (hgot : (s.node gid).got ≠ [])
    (hexp : (s.node gid).expired = false) (hlate : (s.node gid).firstAt + 65536 * s.cal.wdog < s.cc) :
    exec (.barrierWatchdogExpiry gid) s = .next (s.watchdogFires gid) := by
  show execBarrierWatchdogExpiry gid s = _
  unfold execBarrierWatchdogExpiry
  have hgot' : (s.node gid).got.isEmpty = false := by simpa using hgot
  exact if_neg (by simp [hon, hgot', hexp, hlate])

theorem barrierWatchdogExpiry_once {s : State} {gid : Nat} (hexp : (s.node gid).expired = true) :
    exec (.barrierWatchdogExpiry gid) s = .next s := by
  show execBarrierWatchdogExpiry gid s = _
  unfold execBarrierWatchdogExpiry
  exact if_pos (.inr (.inr (.inl hexp)))

theorem State.watchdogFires_node (s : State) (gid : Nat) : (s.watchdogFires gid).node gid = { s.node gid with expired := true } :=
  (s.node_setNode gid gid _).trans (if_pos rfl)

/-- Settles O13: the release, the end of the phase and the watchdog each from the equation of its command. -/
theorem barriersReleaseAndEnd : Obligations.BarriersReleaseAndEnd := by
  unfold Obligations.BarriersReleaseAndEnd
  refine ⟨fun s gid r hr => ?_, fun s gid p hp => ⟨fun hd => ?_, fun hd => ?_⟩, fun s gid => ⟨fun hon hgot hexp hlate => ?_,
    barrierWatchdogExpiry_once⟩⟩
  · -- the release
    obtain rfl : r.gid = gid := gid_of_find_due hr
    refine ⟨_, barrierRelease_due hr, s.release_phases r, s.release_releases r, s.release_device_counts, fun h => ?_, s.release_tile r,
      fun t ht a ha hs => ?_⟩
    · rw [s.release_group h]
      exact ⟨s.beginPhase_mig r, s.beginPhase_cntBar r⟩
    · rw [s.release_tile r t, if_pos ht]
      exact Tile.release_reg ha hs r.v _
  · -- a packet of the phase has still to land
    rw [exchangePhaseEnd_due hp, hd]
    rfl
  · -- the end of the phase
    obtain ⟨hphases, hmem, hports⟩ := s.endPhase_frame gid p
    refine ⟨s.endPhase gid p, ?_, hphases, hmem, hports, fun t ht => ?_, fun t ht a ha => ?_⟩
    · rw [exchangePhaseEnd_due hp, if_pos hd]
    · rw [s.endPhase_tile gid p t, if_neg ht]
    · rw [s.endPhase_tile gid p t, if_pos ht]
      obtain ⟨hssn, harr, hstore⟩ := Tile.phaseEnd_arrived ha (p.start + p.lx)
      exact ⟨hssn, harr, hstore, fun hs => Tile.phaseEnd_waiting ha hs _⟩
  · -- the watchdog
    have hnode := s.watchdogFires_node gid
    exact ⟨_, barrierWatchdogExpiry_fires hon hgot hexp hlate, rfl, rfl, by rw [hnode], by rw [hnode], rfl, rfl, rfl⟩

end Sys2Proof.Machine

/-!
PROOFS. The values at reset (O60), and what a stop leaves (O4).
-/
namespace Sys2Proof.Machine

/-! ### The values at reset -/

/-- A tile's part of the reset values: IDLE, every register, handle and byte zero. -/
theorem Tile.reset_values : Tile.reset.st = .idle ∧ (∀ n, Tile.reset.reg n = 0 ∧ Tile.reset.regPz n = false) ∧
    (∀ n, Tile.reset.hndOf n = 0) ∧ ∀ a, Tile.reset.byteAt a = 0 :=
  ⟨rfl, fun n => ⟨by unfold Tile.reg; split <;> rfl, by unfold Tile.regPz; split <;> rfl⟩, fun _ => rfl, fun _ => rfl⟩

theorem State.reset_inv : State.reset.Inv := ⟨rfl, Nat.le_refl 48⟩

/-- Settles O60: after reset every sparse store is empty, so that a read gives its default. -/
theorem resetValues : Obligations.ResetValues := by
  unfold Obligations.ResetValues
  refine ⟨⟨⟨rfl, rfl, rfl, rfl, rfl⟩, ?host, ?cal, ⟨rfl, rfl, rfl, rfl, rfl⟩, fun p => ⟨rfl, rfl, rfl⟩, fun t => Tile.reset_values,
    fun a => ⟨rfl, rfl, rfl⟩⟩, State.reset_inv⟩
  case host => exact ⟨rfl, rfl, rfl, rfl, rfl, rfl, rfl, rfl, rfl, rfl, rfl⟩
  case cal => exact ⟨rfl, rfl, rfl, rfl, rfl, rfl, rfl, rfl, rfl, rfl⟩

/-! ### What a stop leaves -/

/-- A running tile whose FEED at the head of the D-queue has had its descriptor read (R226). -/
def Tile.feedRead : Tile := { Tile.reset with st := .run, fdesc := some ⟨0, 0, false, 0, 0, 0⟩ }

theorem Tile.feedRead_stop (code : Byte) : (Tile.feedRead.stop code).fdesc = none := rfl

/-- Refutes O4: a stop discards the descriptor that the FEED at the head of the D-queue has read, together with that queue; the statement
gives the stopped tile every field that it does not list as it was, and it does not list the descriptor. -/
theorem not_fetchStopAndEnd : ¬ Obligations.FetchStopAndEnd := by
  unfold Obligations.FetchStopAndEnd
  rintro ⟨-, -, -, hstop, -⟩
  have h := congrArg Tile.fdesc ((hstop Tile.feedRead 0x01).1 (.inl rfl))
  rw [Tile.feedRead_stop] at h
  cases h

end Sys2Proof.Machine

/-!
PROOFS. The scalar instructions that write a result to rd (O5), and the branches and jumps (O6).
-/
namespace Sys2Proof.Machine

/-! ### The results of Tables 3-2a to 3-5 in numbers -/

theorem iShl_eq (a b : Word) : iShl a b = BitVec.ofNat 32 (a.toNat * 2 ^ (b.toNat % 32)) := by
  apply BitVec.eq_of_toNat_eq
  rw [iShl, BitVec.toNat_shiftLeft, Nat.shiftLeft_eq, BitVec.toNat_ofNat]

theorem iShr_eq (a b : Word) : iShr a b = BitVec.ofNat 32 (a.toNat / 2 ^ (b.toNat % 32)) := by
  apply BitVec.eq_of_toNat_eq
  rw [iShr, BitVec.toNat_ushiftRight, Nat.shiftRight_eq_div_pow, BitVec.toNat_ofNat,
    Nat.mod_eq_of_lt (Nat.lt_of_le_of_lt (Nat.div_le_self _ _) a.isLt)]

theorem iSra_eq (a b : Word) : iSra a b = BitVec.ofInt 32 (a.toInt / 2 ^ (b.toNat % 32)) := by
  rw [iSra, BitVec.sshiftRight, Int.shiftRight_eq_div_pow]
  norm_cast

theorem mul_eq_ofInt (a b : Word) : a * b = BitVec.ofInt 32 (a.toInt * b.toInt) := by
  rw [BitVec.ofInt_mul, BitVec.ofInt_toInt, BitVec.ofInt_toInt]

theorem iDiv_eq (a b : Word) : iDiv a b = if b = 0 then 0xFFFFFFFF else BitVec.ofInt 32 (a.toInt.tdiv b.toInt) := by
  unfold iDiv
  split
  next => rfl
  next =>
    apply BitVec.eq_of_toInt_eq
    rw [BitVec.toInt_sdiv, BitVec.toInt_ofInt]

theorem iDivu_eq (a b : Word) : iDivu a b = if b = 0 then 0xFFFFFFFF else BitVec.ofNat 32 (a.toNat / b.toNat) := by
  unfold iDivu
  split
  next => rfl
  next =>
    apply BitVec.eq_of_toNat_eq
    rw [BitVec.toNat_udiv, BitVec.toNat_ofNat, Nat.mod_eq_of_lt (Nat.lt_of_le_of_lt (Nat.div_le_self _ _) a.isLt)]

theorem iRem_eq (a b : Word) : iRem a b = if b = 0 then a else BitVec.ofInt 32 (a.toInt.tmod b.toInt) := by
  unfold iRem
  split
  next => rfl
  next => rw [← BitVec.toInt_srem, BitVec.ofInt_toInt]

theorem iRemu_eq (a b : Word) : iRemu a b = if b = 0 then a else BitVec.ofNat 32 (a.toNat % b.toNat) := by
  unfold iRemu
  split
  next => rfl
  next =>
    apply BitVec.eq_of_toNat_eq
    rw [BitVec.toNat_umod, BitVec.toNat_ofNat, Nat.mod_eq_of_lt (Nat.lt_of_le_of_lt (Nat.mod_le _ _) a.isLt)]

/-- The shift count of an immediate is its low five bits, however it is extended. -/
theorem toNat_setWidth_imm (i : BitVec 16) : (i.setWidth 32).toNat = i.toNat := by
  rw [BitVec.toNat_setWidth, Nat.mod_eq_of_lt (Nat.lt_trans i.isLt (by decide))]

theorem iSlt_signExtend (a : Word) (i : BitVec 16) : iSlt a (i.signExtend 32) = if a.toInt < i.toInt then 1 else 0 := by
  rw [iSlt, BitVec.toInt_signExtend_of_le (by decide)]

/-- MOVHI puts the immediate in the upper half. -/
theorem setWidth_shiftLeft_16 (i : BitVec 16) : (i.setWidth 32 <<< 16 : Word) = BitVec.ofNat 32 (i.toNat * 65536) := by
  apply BitVec.eq_of_toNat_eq
  rw [BitVec.toNat_shiftLeft, toNat_setWidth_imm, Nat.shiftLeft_eq, BitVec.toNat_ofNat]

theorem fAbs_eq (a : Word) : fAbs a = BitVec.ofNat 32 (a.toNat % 2 ^ 31) := by
  apply BitVec.eq_of_toNat_eq
  rw [fAbs, BitVec.toNat_and, show (0x7FFFFFFF : Word).toNat = 2 ^ 31 - 1 from rfl, Nat.and_two_pow_sub_one_eq_mod, BitVec.toNat_ofNat,
    Nat.mod_eq_of_lt (a := a.toNat % 2 ^ 31) (by omega)]

/-- Adding the top bit carries into no other, so that it flips the sign. -/
theorem fNeg_eq (a : Word) : fNeg a = a + 0x80000000 := by
  apply BitVec.eq_of_getLsbD_eq
  intro i hi
  have hcarry : BitVec.carry i a 0x80000000 false = false := by
    have hlow : 2147483648 % 2 ^ i = 0 :=
      Nat.mod_eq_zero_of_dvd (pow_dvd_pow 2 (show i ≤ 31 by omega))
    have hlt : a.toNat % 2 ^ i < 2 ^ i := Nat.mod_lt _ (Nat.two_pow_pos i)
    simp [BitVec.carry, hlow, hlt]
  rw [fNeg, BitVec.getLsbD_xor, BitVec.getLsbD_add hi, hcarry, Bool.xor_false]

theorem fcmp_eq (p : Int → Int → Bool) (a b : Word) : fcmp p a b = cmpResult p a b := by
  unfold fcmp fCmp cmpResult
  simp only
  split <;> rfl

/-! ### What the rows of the tables run -/

theorem aluR_congr {op op' : Word → Word → Word} (h : ∀ a b, op a b = op' a b) (func lat t rd rs1 rs2 : Nat) (s : State) :
    aluR func lat op t rd rs1 rs2 s = aluR func lat op' t rd rs1 rs2 s := by
  rw [show op = op' from funext fun a => funext (h a)]

/-- Each integer instruction of the R format is `aluR` with the operation of its row. -/
theorem exec_intRow : ∀ e ∈ intRows, ∀ (t : Nat) (rd rs1 rs2 : BitVec 5) (s : State),
    exec (e.con t rd rs1 rs2) s = aluR e.func e.lat e.op t rd.toNat rs1.toNat rs2.toNat s := by
  simp only [intRows, List.forall_mem_cons]
  exact ⟨fun _ _ _ _ _ => rfl, fun _ _ _ _ _ => rfl, fun _ _ _ _ _ => rfl, fun _ _ _ _ _ => rfl, fun _ _ _ _ _ => rfl,
    fun _ _ _ _ _ => aluR_congr iShl_eq .., fun _ _ _ _ _ => aluR_congr iShr_eq .., fun _ _ _ _ _ => aluR_congr iSra_eq ..,
    fun _ _ _ _ _ => rfl, fun _ _ _ _ _ => rfl, fun _ _ _ _ _ => aluR_congr mul_eq_ofInt .., fun _ _ _ _ _ => rfl,
    fun _ _ _ _ _ => rfl, fun _ _ _ _ _ => aluR_congr iDiv_eq .., fun _ _ _ _ _ => aluR_congr iDivu_eq ..,
    fun _ _ _ _ _ => aluR_congr iRem_eq .., fun _ _ _ _ _ => aluR_congr iRemu_eq .., List.forall_mem_nil _⟩

theorem fpuR_congr {op op' : Word → Word → Word × Flg} (h : ∀ a b, op a b = op' a b) (func lat t rd rs1 rs2 : Nat) (s : State) :
    fpuR func lat op t rd rs1 rs2 s = fpuR func lat op' t rd rs1 rs2 s := by
  rw [show op = op' from funext fun a => funext (h a)]

/-- Each FP32 instruction with two sources is `fpuR` with the operation of its row. -/
theorem exec_fpRow : ∀ e ∈ fpRows, ∀ (t : Nat) (rd rs1 rs2 : BitVec 5) (s : State),
    exec (e.con t rd rs1 rs2) s = fpuR e.func e.lat e.op t rd.toNat rs1.toNat rs2.toNat s := by
  simp only [fpRows, List.forall_mem_cons]
  exact ⟨fun _ _ _ _ _ => rfl, fun _ _ _ _ _ => rfl, fun _ _ _ _ _ => rfl, fun _ _ _ _ _ => rfl, fun _ _ _ _ _ => rfl,
    fun _ _ _ _ _ => fpuR_congr (fcmp_eq _) .., fun _ _ _ _ _ => fpuR_congr (fcmp_eq _) ..,
    fun _ _ _ _ _ => fpuR_congr (fcmp_eq _) .., List.forall_mem_nil _⟩

/-- What an instruction with an immediate does where it issues: the result of s[rs1] and the immediate. -/
def Tile.immResult (cc rd rs1 : Nat) (v : Word → Word) (y : Tile) : Tile :=
  (y.addFp 0 (y.regPz rs1)).retire cc rd (v (y.reg rs1)) (y.regPz rs1) 1

theorem aluI_eq {op : Word → Word → Word} {v : Word} {g : Word → Word} (h : ∀ a, op a v = g a) (opc t rd rs1 imm : Nat) (s : State) :
    aluI opc op t rd rs1 imm v s = onTile t s fun x => x.issue s.cc (encI opc rd rs1 imm) [rs1] (Tile.immResult s.cc rd rs1 g) := by
  rw [← show (fun a => op a v) = g from funext h]
  rfl

/-- Each integer instruction with an immediate has the result of its row. -/
theorem exec_immRow : ∀ e ∈ immRows, ∀ (t : Nat) (rd rs1 : BitVec 5) (imm : BitVec 16) (s : State),
    exec (e.con t rd rs1 imm) s = onTile t s fun x => x.issue s.cc (encI e.opc rd.toNat rs1.toNat imm.toNat) [rs1.toNat]
      (Tile.immResult s.cc rd.toNat rs1.toNat fun a => e.op a imm) := by
  have hcount : ∀ (f : Word → Word → Word) (g : Nat → Word → Word), (∀ a b, f a b = g (b.toNat % 32) a) →
      ∀ (i : BitVec 16) a, f a (i.setWidth 32) = g (i.toNat % 32) a := by
    intro f g h i a
    rw [h, toNat_setWidth_imm]
  simp only [immRows, List.forall_mem_cons]
  exact ⟨fun _ _ _ _ _ => rfl, fun _ _ _ _ _ => rfl, fun _ _ _ _ _ => rfl, fun _ _ _ _ _ => rfl,
    fun _ _ _ i _ => aluI_eq (hcount iShl (fun n a => BitVec.ofNat 32 (a.toNat * 2 ^ n)) iShl_eq i) ..,
    fun _ _ _ i _ => aluI_eq (hcount iShr (fun n a => BitVec.ofNat 32 (a.toNat / 2 ^ n)) iShr_eq i) ..,
    fun _ _ _ i _ => aluI_eq (hcount iSra (fun n a => BitVec.ofInt 32 (a.toInt / 2 ^ n)) iSra_eq i) ..,
    fun _ _ _ i _ => aluI_eq (iSlt_signExtend · i) .., fun _ _ _ _ _ => rfl, List.forall_mem_nil _⟩

/-! ### Retirement -/

/-- An instruction that issues and retires one result with its flags writes the tile as Tables 3-3 to 3-5 say. -/
theorem onTile_retires {s : State} {t word : Nat} {srcs : List Nat} {y : Tile} (h : s.Issues t word srcs y) {f : Tile → Tile}
    {rd lat : Nat} {v : Word} {pz : Bool} {fl : Flg} (hf : f y = (y.addFp fl pz).retire s.cc rd v pz lat) :
    ∃ z : Tile, onTile t s (fun x => x.issue s.cc word srcs f) = .next (s.setTile t z) ∧
      y.Retired z s.cc rd lat v pz (spFlags pz fl) ∧ z.SameStore (s.tile t) := by
  refine ⟨f y, onTile_issues_set h f ?_, ?_, Tile.sameStore_of_store ?_⟩
  · rw [hf, Tile.retire_st, Tile.addFp_st]
  · rw [hf]
    exact Tile.retired_retire y s.cc rd lat v pz (spFlags pz fl)
  · rw [hf, Tile.retire_store, Tile.addFp_store, h.fetched_store]

/-- Settles O5: every row of the tables runs one of the shared forms, and each of these retires. -/
theorem scalarArithmeticWritesItsResult : Obligations.ScalarArithmeticWritesItsResult := by
  unfold Obligations.ScalarArithmeticWritesItsResult
  refine ⟨fun e he s t rd rs1 rs2 y h => ?intR, ⟨fun e he s t rd rs1 imm y h => ?imm, fun s t rd imm y h => ?movhi⟩,
    fun e he s t rd rs1 rs2 y h => ?fpR, fun s t rd rs1 rs2 y h => ?fma, ?fp1⟩
  case intR =>
    rw [exec_intRow e he]
    exact onTile_retires h rfl
  case imm =>
    rw [exec_immRow e he]
    exact onTile_retires h rfl
  case movhi =>
    refine ⟨_, onTile_issues_set h _ (Tile.retire_st ..), ?_, Tile.sameStore_of_store ?_⟩
    · rw [setWidth_shiftLeft_16]
      exact Tile.retired_plain ..
    · rw [Tile.retire_store, h.fetched_store]
  case fpR =>
    rw [exec_fpRow e he]
    exact onTile_retires h rfl
  case fma => exact onTile_retires h rfl
  case fp1 =>
    simp only [List.forall_mem_cons]
    refine ⟨fun s t rd rs1 y h => ?_, fun s t rd rs1 y h => ?_, List.forall_mem_nil _⟩
    · rw [← fAbs_eq]
      exact onTile_retires h rfl
    · rw [← fNeg_eq]
      exact onTile_retires h rfl

/-! ### Branches and jumps -/

theorem branch_congr {c c' : Word → Word → Bool} (h : ∀ a b, c a b = c' a b) (opc t ra rb : Nat) (imm : BitVec 16) (s : State) :
    branch opc c t ra rb imm s = branch opc c' t ra rb imm s := by
  rw [show c = c' from funext fun a => funext (h a)]

/-- Each conditional branch is `branch` with the condition of its row. -/
theorem exec_branchRow : ∀ e ∈ branchRows, ∀ (t : Nat) (ra rb : BitVec 5) (imm : BitVec 16) (s : State),
    exec (e.con t ra rb imm) s = branch e.opc e.cond t ra.toNat rb.toNat imm s := by
  simp only [branchRows, List.forall_mem_cons]
  exact ⟨fun _ _ _ _ _ => rfl, fun _ _ _ _ _ => branch_congr (fun _ _ => decide_not) .., fun _ _ _ _ _ => rfl,
    fun _ _ _ _ _ => rfl, fun _ _ _ _ _ => rfl, fun _ _ _ _ _ => rfl, List.forall_mem_nil _⟩

/-- A register write with its readiness changes the registers, their poison and their readiness, nothing else. -/
theorem Tile.setReg_setReady_frame (y : Tile) (n c : Nat) (v : Word) (pz : Bool) :
    let z := (y.setReg n v pz).setReady n c
    z = { y with regs := z.regs, rpz := z.rpz, ready := z.ready } := by
  cases n <;> rfl

theorem branch_next {s : State} {t opc ra rb : Nat} {imm : BitVec 16} {y : Tile} (c : Word → Word → Bool)
    (h : s.Issues t (encI opc ra rb imm.toNat) [ra, rb] y) :
    branch opc c t ra rb imm s = .next (s.setTile t
      (if c (y.reg ra) (y.reg rb) then (y.ctrl (y.regPz ra || y.regPz rb)).jump s.cc (target y.pc imm)
       else (y.ctrl (y.regPz ra || y.regPz rb)).advance s.cc)) :=
  onTile_issues_set h _ (by simp only; split <;> simp)

/-- Settles O6. -/
theorem branchesAndJumpsMoveTheProgramCounter : Obligations.BranchesAndJumpsMoveTheProgramCounter := by
  unfold Obligations.BranchesAndJumpsMoveTheProgramCounter
  refine ⟨fun e he s t ra rb imm y h => ?branch, fun s t imm y h => ?j, fun s t rd imm y h => ?jal, fun s t rs1 y h => ?jr⟩
  case branch =>
    intro z
    have hpc : z.pc = y.pc := by
      rw [show z = y.ctrl _ from (Tile.ctrl_eq y _).symm, Tile.ctrl_pc]
    rw [exec_branchRow e he, branch_next e.cond h, Tile.ctrl_eq, Tile.advance]
    rw [show (if y.regPz ra.toNat || y.regPz rb.toNat then y.tainted else y) = z from rfl, hpc]
    rfl
  case j => exact onTile_issues_set h (fun y => y.jump s.cc (target y.pc imm)) rfl
  case jal =>
    refine ⟨_, onTile_issues_set h _ ?_, y.wrote_setReg rd.toNat (s.cc + 1) (y.pc + 4) false, ?_⟩
    · simp
    · exact congrArg (Tile.jump · s.cc (target y.pc imm)) (y.setReg_setReady_frame rd.toNat (s.cc + 1) (y.pc + 4) false)
  case jr =>
    rw [← Tile.ctrl_eq]
    exact onTile_issues_set h (fun y => (y.ctrl (y.regPz rs1.toNat)).jump s.cc (y.reg rs1.toNat)) (by simp)

end Sys2Proof.Machine

/-!
PROOFS. Loads and stores through a handle (O7, O8).
-/
namespace Sys2Proof.Machine

/-! ### Which registers a load writes -/

/-- The opcode and the destination of an instruction of the M format. -/
theorem fld_encM {opc rd h rs imm : Nat} (ho : opc < 64) (hd : rd < 32) (hh : h < 64) (hs : rs < 32) (hi : imm < 1024) :
    fld (encM opc rd h rs imm) 31 26 = opc ∧ fld (encM opc rd h rs imm) 25 21 = rd := by
  simp only [fld, encM, at']
  omega

/-- A load of one register. -/
theorem destsOf_load {opc rd h rs imm : Nat} (h1 : 0x20 ≤ opc) (h2 : opc < 0x25) (hd : rd < 32) (hh : h < 64) (hs : rs < 32)
    (hi : imm < 1024) : destsOf (encM opc rd h rs imm) = [rd] := by
  obtain ⟨hopc, hrd⟩ := fld_encM (Nat.lt_trans h2 (by decide)) hd hh hs hi
  unfold destsOf
  simp only [hopc, hrd]
  rw [if_neg (by omega), if_pos (by omega)]

/-- LD.D. -/
theorem destsOf_loadPair {rd h rs imm : Nat} (hd : rd < 32) (hh : h < 64) (hs : rs < 32) (hi : imm < 1024) :
    destsOf (encM 0x25 rd h rs imm) = [rd, rd + 1] := by
  obtain ⟨hopc, hrd⟩ := fld_encM (opc := 0x25) (by decide) hd hh hs hi
  unfold destsOf
  simp only [hopc, hrd]
  exact if_pos trivial

/-! ### The checks of an access -/

theorem memCheck_ok {h o size : Nat} {store : Bool} (hv : hValid h = true) (hb : o + size ≤ 64 * hLen h)
    (hw : store = true → hWp h = false) (ha : o % size = 0) : memCheck h o size store = none := by
  unfold memCheck hInBounds
  cases store
  · simp [hv, hb, ha]
  · simp [hv, hb, ha, hw rfl]

/-- The checks fail in the order of R47: HANDLE_INVALID, HANDLE_BOUNDS, HANDLE_WP, MISALIGN. -/
theorem memCheck_fails {h o size : Nat} {store : Bool} {code : Byte}
    (hbad : (hValid h = false ∧ code = 0x04) ∨ (hValid h = true ∧ 64 * hLen h < o + size ∧ code = 0x05) ∨
      (hValid h = true ∧ o + size ≤ 64 * hLen h ∧ store = true ∧ hWp h = true ∧ code = 0x06) ∨
      (hValid h = true ∧ o + size ≤ 64 * hLen h ∧ (store = true → hWp h = false) ∧ o % size ≠ 0 ∧ code = 0x07)) :
    memCheck h o size store = some code := by
  unfold memCheck hInBounds
  obtain ⟨hv, rfl⟩ | ⟨hv, hb, rfl⟩ | ⟨hv, hb, hs, hw, rfl⟩ | ⟨hv, hb, hw, ha, rfl⟩ := hbad
  · simp [hv, cHINVALID]
  · simp [hv, hb, cHBOUNDS]
  · simp [hv, hb, hs, hw, cHWP]
  · cases store
    · simp [hv, hb, ha, cMISALIGN]
    · simp [hv, hb, ha, hw rfl, cMISALIGN]

/-! ### Loads -/

theorem Tile.ctrl_frame (y : Tile) (pz : Bool) :
    y.ctrl pz = { y with taint := (y.ctrl pz).taint, reports := (y.ctrl pz).reports } := by
  rw [Tile.ctrl_eq]
  split <;> rfl

/-- The tile after the read of a load, before the write of its register. -/
def Tile.loadRead (y : Tile) (pz : Bool) (a size : Nat) (regs : List Nat) : Tile :=
  ((if pz then y.tainted else y).touch a size).ask .access [⟨banksOf a size, false⟩] regs

/-- The read of a load changes the taint, check bits, poison, counts, reports and requests only. -/
theorem Tile.loadRead_frame (y : Tile) (pz : Bool) (a size : Nat) (regs : List Nat) :
    let r := y.loadRead pz a size regs
    r = { y with taint := r.taint, ecc := r.ecc, spz := r.spz, cnt := r.cnt, reports := r.reports, banks := r.banks } := by
  unfold Tile.loadRead
  rw [← Tile.ctrl_eq, Tile.ask_frame, Tile.touch_frame, Tile.ctrl_frame]

theorem Tile.loadRead_seen (y : Tile) (pz : Bool) (a size : Nat) (regs : List Nat) (b n : Nat) :
    (y.loadRead pz a size regs).seen b n = y.seen b n := by
  rw [y.loadRead_frame pz a size regs]
  rfl

theorem Tile.loadRead_pc (y : Tile) (pz : Bool) (a size : Nat) (regs : List Nat) : (y.loadRead pz a size regs).pc = y.pc := by
  rw [y.loadRead_frame pz a size regs]
theorem Tile.loadRead_st (y : Tile) (pz : Bool) (a size : Nat) (regs : List Nat) : (y.loadRead pz a size regs).st = y.st := by
  rw [y.loadRead_frame pz a size regs]
theorem Tile.loadRead_store (y : Tile) (pz : Bool) (a size : Nat) (regs : List Nat) : (y.loadRead pz a size regs).store = y.store := by
  rw [y.loadRead_frame pz a size regs]

section
variable {s : State} {t opc size rd h rs : Nat} {imm : BitVec 10} {y : Tile} {wr : Tile → Nat → Bool → Tile}

/-- A load that passes its checks reads its bytes and writes its destination. -/
theorem loadOp_next (hi : s.Issues t (encM opc rd h rs imm.toNat) [rs] y) (hwr : ∀ x v pz, (wr x v pz).st = x.st)
    (hc : memCheck (y.hndOf h) (memOff (y.reg rs) imm size) size false = none) :
    let a := hByteAddr (y.hndOf h) (memOff (y.reg rs) imm size)
    let r := y.loadRead (y.regPz rs) a size (destsOf (encM opc rd h rs imm.toNat))
    loadOp opc size t rd h rs imm wr s = .next (s.setTile t ((wr r (leNat (y.seen a size)) (r.anyPz a size)).advance s.cc)) := by
  intro a r
  have hr : ((y.ctrl (y.regPz rs)).touch a size).ask .access [⟨banksOf a size, false⟩] (destsOf (encM opc rd h rs imm.toNat)) = r := by
    rw [Tile.ctrl_eq]
    rfl
  refine (onTile_issues_set hi _ ?_).trans ?_
  all_goals simp only [hc]
  · rw [hr, Tile.advance_st, hwr, y.loadRead_st]
  · rw [hr, y.loadRead_seen]

theorem loadOp_stops {c : Byte} (hi : s.Issues t (encM opc rd h rs imm.toNat) [rs] y)
    (hc : memCheck (y.hndOf h) (memOff (y.reg rs) imm size) size false = some c) :
    loadOp opc size t rd h rs imm wr s = .next (s.afterTile t ((if y.regPz rs then y.tainted else y).stop c)) := by
  refine (onTile_issues hi _).trans ?_
  simp only [hc]
  rw [Tile.ctrl_eq]

end

theorem loadTo_st (cc rd : Nat) (f : Nat → Word) (y : Tile) (v : Nat) (pz : Bool) : (loadTo cc rd f y v pz).st = y.st := by
  simp [loadTo]
theorem loadTo_store (cc rd : Nat) (f : Nat → Word) (y : Tile) (v : Nat) (pz : Bool) : (loadTo cc rd f y v pz).store = y.store := by
  simp [loadTo]

/-- The write of a loaded value changes the registers, their poison and their readiness, nothing else. -/
theorem loadTo_frame (cc rd : Nat) (f : Nat → Word) (y : Tile) (v : Nat) (pz : Bool) :
    let z := loadTo cc rd f y v pz
    z = { y with regs := z.regs, rpz := z.rpz, ready := z.ready } :=
  y.setReg_setReady_frame rd (cc + 4) (f v) pz

/-- The destination pair of LD.D. -/
def loadPair (cc rd : Nat) (y : Tile) (v : Nat) (pz : Bool) : Tile :=
  loadTo cc (rd + 1) (fun u => w32 (u / 2 ^ 32)) (loadTo cc rd w32 y v pz) v pz

theorem loadPair_frame (cc rd : Nat) (y : Tile) (v : Nat) (pz : Bool) :
    let z := loadPair cc rd y v pz
    z = { y with regs := z.regs, rpz := z.rpz, ready := z.ready } := by
  intro z
  have h1 := loadTo_frame cc (rd + 1) (fun u => w32 (u / 2 ^ 32)) (loadTo cc rd w32 y v pz) v pz
  have h2 := loadTo_frame cc rd w32 y v pz
  exact h1.trans (by rw [h2]; rfl)

/-- LD.D writes the low word to rd and the high word to rd + 1. -/
theorem loadPair_wrote (cc rd : Nat) (y : Tile) (v : Nat) (pz : Bool) (n : Nat) :
    let z := loadPair cc rd y v pz
    (z.reg n = if n = rd + 1 then BitVec.ofNat 32 (v / 2 ^ 32) else if n = rd ∧ n ≠ 0 then BitVec.ofNat 32 v else y.reg n) ∧
      (z.regPz n = if n = rd + 1 ∨ (n = rd ∧ n ≠ 0) then pz else y.regPz n) ∧
      (n ≠ 0 → Sparse.get 0 z.ready n = if n = rd ∨ n = rd + 1 then cc + 4 else Sparse.get 0 y.ready n) := by
  intro z
  obtain ⟨hlo, hloPz, hloReady⟩ := y.wrote_setReg rd (cc + 4) (w32 v) pz n
  obtain ⟨hhi, hhiPz, hhiReady⟩ := (loadTo cc rd w32 y v pz).wrote_setReg (rd + 1) (cc + 4) (w32 (v / 2 ^ 32)) pz n
  refine ⟨hhi.trans ?_, hhiPz.trans ?_, fun hn => (hhiReady hn).trans ?_⟩
  · rw [show (loadTo cc rd w32 y v pz).reg n = _ from hlo]
    by_cases h1 : n = rd + 1
    · rw [if_pos ⟨h1, by omega⟩, if_pos h1]; rfl
    · rw [if_neg (fun h => h1 h.1), if_neg h1]; rfl
  · rw [show (loadTo cc rd w32 y v pz).regPz n = _ from hloPz]
    by_cases h1 : n = rd + 1
    · rw [if_pos ⟨h1, by omega⟩, if_pos (.inl h1)]
    · simp only [h1, false_and, false_or, if_false]
  · rw [show Sparse.get 0 (loadTo cc rd w32 y v pz).ready n = _ from hloReady hn]
    by_cases h1 : n = rd + 1
    · rw [if_pos h1, if_pos (.inr h1)]
    · simp only [h1, or_false, if_false]

/-- Each load of one register is `loadOp` with the value of its row. -/
theorem exec_loadRow : ∀ e ∈ loadRows, ∀ (t : Nat) (rd : BitVec 5) (h : BitVec 6) (rs : BitVec 5) (imm : BitVec 10) (s : State),
    exec (e.con t rd h rs imm) s = loadOp e.opc e.size t rd.toNat h.toNat rs.toNat imm (loadTo s.cc rd.toNat e.val) s := by
  simp only [loadRows, List.forall_mem_cons]
  exact ⟨fun _ _ _ _ _ _ => rfl, fun _ _ _ _ _ _ => rfl, fun _ _ _ _ _ _ => rfl, fun _ _ _ _ _ _ => rfl, fun _ _ _ _ _ _ => rfl,
    List.forall_mem_nil _⟩

theorem exec_ldD (t : Nat) (rd : BitVec 5) (h : BitVec 6) (rs : BitVec 5) (imm : BitVec 10) (s : State) :
    exec (.ldD t rd h rs imm) s = loadOp 0x25 8 t rd.toNat h.toNat rs.toNat imm (loadPair s.cc rd.toNat) s := rfl

/-- Every load, LD.D among them, is `loadOp` with some write of its destination. -/
theorem exec_anyLoad : ∀ e ∈ loadRows ++ [⟨.ldD, 0x25, 8, fun v => BitVec.ofNat 32 v⟩],
    ∀ (t : Nat) (rd : BitVec 5) (h : BitVec 6) (rs : BitVec 5) (imm : BitVec 10) (s : State),
    ∃ wr, exec (e.con t rd h rs imm) s = loadOp e.opc e.size t rd.toNat h.toNat rs.toNat imm wr s := by
  intro e he t rd h rs imm s
  obtain he | he := List.mem_append.1 he
  · exact ⟨_, exec_loadRow e he ..⟩
  · obtain rfl := List.mem_singleton.1 he
    exact ⟨_, exec_ldD ..⟩

theorem loadRows_opc : ∀ e ∈ loadRows, 0x20 ≤ e.opc ∧ e.opc < 0x25 := by
  simp only [loadRows, List.forall_mem_cons]
  exact ⟨by decide, by decide, by decide, by decide, by decide, List.forall_mem_nil _⟩

/-- Settles O7. -/
theorem loadsWriteTheirRegister : Obligations.LoadsWriteTheirRegister := by
  unfold Obligations.LoadsWriteTheirRegister
  refine ⟨fun y a => rfl, fun e he s t rd h rs imm y hi => ?one, fun s t rd h rs imm y hi => ?pair⟩
  case one =>
    intro o hd hv hb ha r
    obtain ⟨ho1, ho2⟩ := loadRows_opc e he
    have hex := loadOp_next (size := e.size) hi (loadTo_st s.cc rd.toNat e.val) (memCheck_ok hv hb (fun h => nomatch h) ha)
    rw [destsOf_load ho1 ho2 rd.isLt h.isLt rs.isLt imm.isLt, ← exec_loadRow e he] at hex
    refine ⟨_, hex, Tile.wrote_setReg r rd.toNat (s.cc + 4) _ _, Tile.sameStore_of_store ?_, ?_⟩
    · rw [Tile.advance_store, loadTo_store, Tile.loadRead_store, hi.fetched_store]
    · refine (congrArg (Tile.advance · s.cc) (loadTo_frame s.cc rd.toNat e.val r _ _)).trans ?_
      rw [Tile.advance, show r.pc = y.pc from y.loadRead_pc ..]
      rfl
  case pair =>
    intro o hd hv hb ha r v pz
    have hst : ∀ x v pz, (loadPair s.cc rd.toNat x v pz).st = x.st := fun x v pz => by rw [loadPair_frame]
    have hex := loadOp_next (size := 8) hi hst (memCheck_ok hv hb (fun h => nomatch h) ha)
    rw [destsOf_loadPair rd.isLt h.isLt rs.isLt imm.isLt, ← exec_ldD] at hex
    refine ⟨_, hex, fun n => ?_, Tile.sameStore_of_store ?_, ?_⟩
    · have hw := loadPair_wrote s.cc rd.toNat r v pz n
      have hf : r = _ := y.loadRead_frame (y.regPz rs.toNat) (hByteAddr hd o) 8 [rd.toNat, rd.toNat + 1]
      rw [show y.reg n = r.reg n by rw [hf]; rfl, show y.regPz n = r.regPz n by rw [hf]; rfl, show y.ready = r.ready by rw [hf]]
      exact hw
    · rw [Tile.advance_store, loadPair_frame, Tile.loadRead_store, hi.fetched_store]
    · refine (congrArg (Tile.advance · s.cc) (loadPair_frame s.cc rd.toNat r _ _)).trans ?_
      rw [Tile.advance, show r.pc = y.pc from y.loadRead_pc ..]
      rfl

/-! ### Stores -/

@[simp] theorem Tile.wordPz_setWordPz (x : Tile) (w k : Nat) (pz : Bool) :
    (x.setWordPz w pz).wordPz k = if k = w then pz else x.wordPz k := Sparse.get_set ..

@[simp] theorem Tile.wordPz_report (x : Tile) (code k : Nat) : (x.report code).wordPz k = x.wordPz k := rfl
@[simp] theorem Tile.wordPz_bump (x : Tile) (off n k : Nat) : (x.bump off n).wordPz k = x.wordPz k := rfl

theorem Tile.writePz_frame (a n : Nat) (pz : Bool) (x : Tile) (w : Nat) :
    let z := Tile.writePz a n pz x w
    z = { x with spz := z.spz, ecc := z.ecc, cnt := z.cnt, reports := z.reports } := by
  unfold Tile.writePz
  split
  · rfl
  · rw [Tile.checkWord_frame]; rfl

/-- A check of a word leaves the error state and the poison of every other word of the tile store. -/
theorem Tile.checkWord_other (x : Tile) {w k : Nat} (h : k ≠ w) :
    (x.checkWord w).wordPz k = x.wordPz k ∧ Sparse.get Ecc.ok (x.checkWord w).ecc k = Sparse.get Ecc.ok x.ecc k := by
  have hk : k ≠ eccKey 0 w := by simpa [eccKey] using h
  have hkeep : ∀ y : Tile, y.spz = x.spz ∨ y.spz = Sparse.set false x.spz w true →
      y.ecc = x.ecc ∨ y.ecc = Sparse.set Ecc.ok x.ecc (eccKey 0 w) .ok →
      y.wordPz k = x.wordPz k ∧ Sparse.get Ecc.ok y.ecc k = Sparse.get Ecc.ok x.ecc k := by
    rintro y hp he
    constructor
    · unfold Tile.wordPz
      obtain hp | hp := hp
      · rw [hp]
      · rw [hp, Sparse.get_set_ne _ _ _ h]
    · obtain he | he := he
      · rw [he]
      · rw [he, Sparse.get_set_ne _ _ _ hk]
  unfold Tile.checkWord Tile.check
  split
  · exact hkeep _ (.inl rfl) (.inl rfl)
  · exact hkeep _ (.inl rfl) (.inr rfl)
  · exact hkeep _ (.inr rfl) (.inr rfl)

/-- The check of a word looks at the error state and the poison of that word alone: an uncorrectable error poisons it. -/
theorem Tile.checkWord_wordPz (x : Tile) (w : Nat) :
    (x.checkWord w).wordPz w =
      if Sparse.get Ecc.ok x.ecc w = .ok ∨ Sparse.get Ecc.ok x.ecc w = .ce then x.wordPz w else true := by
  have hk : eccKey 0 w = w := by simp [eccKey]
  unfold Tile.checkWord Tile.check
  rw [hk]
  split
  next h => rw [if_pos (.inl h)]
  next h => rw [if_pos (.inr h), Tile.wordPz_bump]; rfl
  next hok hce =>
    rw [if_neg (by rintro (h | h); exacts [hok h, hce h]), Tile.wordPz_report, Tile.wordPz_bump, Tile.wordPz_setWordPz, if_pos rfl]

/-- The poison that a write of bytes a to a + n − 1 leaves in a word that it touches (R60). -/
def Tile.writtenPz (x : Tile) (a n : Nat) (pz : Bool) (w : Nat) : Bool :=
  if a ≤ 8 * w ∧ 8 * w + 8 ≤ a + n then pz else (x.checkWord w).wordPz w || pz

theorem Tile.writePz_wordPz (a n : Nat) (pz : Bool) (x : Tile) (w : Nat) :
    (Tile.writePz a n pz x w).wordPz w = x.writtenPz a n pz w := by
  unfold Tile.writePz Tile.writtenPz
  split <;> simp

/-- Writing one word leaves the error state and the poison of every other. -/
theorem Tile.writePz_other (a n : Nat) (pz : Bool) (x : Tile) {w k : Nat} (h : k ≠ w) :
    (Tile.writePz a n pz x w).wordPz k = x.wordPz k ∧
      Sparse.get Ecc.ok (Tile.writePz a n pz x w).ecc k = Sparse.get Ecc.ok x.ecc k := by
  have hk : k ≠ eccKey 0 w := by simpa [eccKey] using h
  obtain ⟨hp, he⟩ := x.checkWord_other h
  unfold Tile.writePz
  split
  · exact ⟨(Tile.wordPz_setWordPz ..).trans (if_neg h), Sparse.get_set_ne Ecc.ok x.ecc Ecc.ok hk⟩
  · exact ⟨by simp [h, hp], he⟩

/-- What a word would be left with depends on its own error state and poison. -/
theorem Tile.writtenPz_congr {x y : Tile} {k : Nat} (hp : y.wordPz k = x.wordPz k)
    (he : Sparse.get Ecc.ok y.ecc k = Sparse.get Ecc.ok x.ecc k) (a n : Nat) (pz : Bool) :
    y.writtenPz a n pz k = x.writtenPz a n pz k := by
  unfold Tile.writtenPz
  rw [Tile.checkWord_wordPz, Tile.checkWord_wordPz, hp, he]

theorem Tile.foldl_writePz_frame (a n : Nat) (pz : Bool) (ws : List Nat) (x : Tile) :
    let z := ws.foldl (Tile.writePz a n pz) x
    z = { x with spz := z.spz, ecc := z.ecc, cnt := z.cnt, reports := z.reports } := by
  induction ws generalizing x with
  | nil => rfl
  | cons w ws ih =>
    simp only [List.foldl_cons]
    have h1 := ih (Tile.writePz a n pz x w)
    have h2 := Tile.writePz_frame a n pz x w
    simp only at h1
    rw [h1, h2]

/-- The words of a run, each written once: each has the poison of its write, every other keeps its own. -/
theorem Tile.foldl_writePz_wordPz (a n : Nat) (pz : Bool) (ws : List Nat) (hn : ws.Nodup) (x : Tile) (k : Nat) :
    (ws.foldl (Tile.writePz a n pz) x).wordPz k = if k ∈ ws then x.writtenPz a n pz k else x.wordPz k := by
  induction ws generalizing x with
  | nil => simp
  | cons w ws ih =>
    obtain ⟨hw, hn⟩ := List.nodup_cons.1 hn
    rw [List.foldl_cons, ih hn]
    by_cases hk : k = w
    · subst k
      simp [hw, Tile.writePz_wordPz]
    · obtain ⟨hp, he⟩ := Tile.writePz_other a n pz x hk
      simp [hk, hp, Tile.writtenPz_congr hp he]

theorem wordsOf_nodup (a n : Nat) : (wordsOf a n).Nodup := by
  unfold wordsOf
  split
  · exact List.nodup_nil
  · exact List.nodup_range.map (add_right_injective _)

/-- A write: the poison of each word, and nothing but the store and its check bits, counts and reports. -/
theorem Tile.write_wordPz (x : Tile) (a : Nat) (bs : List Byte) (pz : Bool) (w : Nat) :
    (x.write a bs pz).wordPz w = if w ∈ wordsOf a bs.length then x.writtenPz a bs.length pz w else x.wordPz w :=
  Tile.foldl_writePz_wordPz a bs.length pz _ (wordsOf_nodup a bs.length) x w

theorem Tile.write_frame (x : Tile) (a : Nat) (bs : List Byte) (pz : Bool) :
    let z := x.write a bs pz
    z = { x with store := z.store, spz := z.spz, ecc := z.ecc, cnt := z.cnt, reports := z.reports } := by
  have h := Tile.foldl_writePz_frame a bs.length pz (wordsOf a bs.length) x
  simp only at h
  unfold Tile.write
  simp only
  rw [h]

theorem Tile.write_byteAt (x : Tile) (a : Nat) (bs : List Byte) (pz : Bool) (b : Nat) :
    (x.write a bs pz).byteAt b = if a ≤ b ∧ b < a + bs.length then bs.getD (b - a) 0 else x.byteAt b := by
  have h := Tile.foldl_writePz_frame a bs.length pz (wordsOf a bs.length) x
  unfold Tile.byteAt Tile.write
  rw [Sparse.get_setRun, h]

section
variable {s : State} {t opc size rsrc h rs : Nat} {imm : BitVec 10} {y : Tile} {srcs : List Nat}

/-- What a store that passes its checks does where it issues. -/
def Tile.storeTo (cc : Nat) (y r : Tile) (a size : Nat) (srcs : List Nat) : Tile :=
  ((r.write a (y.storeBytes srcs size) (srcs.any y.regPz || r.taint)).ask .access [⟨banksOf a size, false⟩] []).advance cc

theorem Tile.storeTo_frame (cc : Nat) (y r : Tile) (a size : Nat) (srcs : List Nat) :
    let z := y.storeTo cc r a size srcs
    z = { r with store := z.store, spz := z.spz, ecc := z.ecc, cnt := z.cnt, reports := z.reports,
                 banks := r.banks ++ [⟨.access, [⟨banksOf a size, false⟩], 0, []⟩], pc := r.pc + 4, issueAt := cc + 1 } := by
  have hw := r.write_frame a (y.storeBytes srcs size) (srcs.any y.regPz || r.taint)
  simp only at hw
  unfold Tile.storeTo
  simp only
  rw [hw]
  rfl

theorem Tile.storeTo_reg (cc : Nat) (y r : Tile) (a size : Nat) (srcs : List Nat) (n : Nat) :
    (y.storeTo cc r a size srcs).reg n = r.reg n ∧ (y.storeTo cc r a size srcs).regPz n = r.regPz n := by
  rw [Tile.storeTo_frame]
  exact ⟨rfl, rfl⟩

theorem storeOp_next (hi : s.Issues t (encM opc rsrc h rs imm.toNat) (rs :: srcs) y)
    (hc : memCheck (y.hndOf h) (memOff (y.reg rs) imm size) size true = none) :
    storeOp opc size t rsrc h rs imm srcs s = .next (s.setTile t (y.storeTo s.cc (if y.regPz rs then y.tainted else y)
      (hByteAddr (y.hndOf h) (memOff (y.reg rs) imm size)) size srcs)) := by
  refine (onTile_issues_set hi _ ?_).trans ?_
  all_goals simp only [hc]
  · rw [Tile.advance_st, Tile.ask_st, Tile.write_frame, Tile.ctrl_st]
  · rw [Tile.ctrl_eq]
    rfl

theorem storeOp_stops {c : Byte} (hi : s.Issues t (encM opc rsrc h rs imm.toNat) (rs :: srcs) y)
    (hc : memCheck (y.hndOf h) (memOff (y.reg rs) imm size) size true = some c) :
    storeOp opc size t rsrc h rs imm srcs s = .next (s.afterTile t ((if y.regPz rs then y.tainted else y).stop c)) := by
  refine (onTile_issues hi _).trans ?_
  simp only [hc]
  rw [Tile.ctrl_eq]

end

/-- Each store is `storeOp` with the registers of its row. -/
theorem exec_storeRow : ∀ e ∈ storeRows, ∀ (t : Nat) (rd : BitVec 5) (h : BitVec 6) (rs : BitVec 5) (imm : BitVec 10) (s : State),
    exec (e.con t rd h rs imm) s = storeOp e.opc e.size t rd.toNat h.toNat rs.toNat imm (e.srcs rd) s := by
  simp only [storeRows, List.forall_mem_cons]
  exact ⟨fun _ _ _ _ _ _ => rfl, fun _ _ _ _ _ _ => rfl, fun _ _ _ _ _ _ => rfl, fun _ _ _ _ _ _ => rfl, List.forall_mem_nil _⟩

/-- The registers of a store hold as many bytes as it stores. -/
theorem storeRows_length : ∀ e ∈ storeRows, ∀ (y : Tile) (rd : BitVec 5), (y.storeBytes (e.srcs rd) e.size).length = e.size := by
  simp only [storeRows, List.forall_mem_cons]
  exact ⟨fun _ _ => rfl, fun _ _ => rfl, fun _ _ => rfl, fun _ _ => rfl, List.forall_mem_nil _⟩

/-- Settles O8. -/
theorem storesWriteTheirBytes : Obligations.StoresWriteTheirBytes := by
  unfold Obligations.StoresWriteTheirBytes
  refine ⟨fun e he s t rd h rs imm y hi => ?runs, fun e he s t rd h rs imm y code hi hbad => ?load,
    fun e he s t rd h rs imm y code hi hbad => ?store⟩
  case runs =>
    intro o hd hv hb hw ha a r pz
    have hex := storeOp_next (size := e.size) hi (memCheck_ok hv hb (fun _ => hw) ha)
    rw [← exec_storeRow e he] at hex
    have hlen := storeRows_length e he y rd
    have hr : r = _ := (Tile.ctrl_eq y (y.regPz rs.toNat)).symm.trans (Tile.ctrl_frame y _)
    have hframe := y.storeTo_frame s.cc r a e.size (e.srcs rd)
    have hpc : r.pc = y.pc := by rw [hr]
    refine ⟨_, hex, fun b => ?_, fun w => ?_, fun n => ?_, hframe.trans ?_⟩
    · have hbyte := r.write_byteAt a (y.storeBytes (e.srcs rd) e.size) pz b
      rw [hlen] at hbyte
      rw [show (s.tile t).byteAt b = r.byteAt b by rw [hr, Tile.byteAt, Tile.byteAt, ← hi.fetched_store]]
      exact hbyte
    · have hword := r.write_wordPz a (y.storeBytes (e.srcs rd) e.size) pz w
      rw [hlen] at hword
      exact hword
    · rw [show y.reg n = r.reg n by rw [hr]; rfl, show y.regPz n = r.regPz n by rw [hr]; rfl]
      obtain ⟨hreg, hpz⟩ := y.storeTo_reg s.cc r a e.size (e.srcs rd) n
      exact ⟨hreg.symm, hpz.symm⟩
    · rw [hpc]
      rfl
  case load =>
    obtain ⟨wr, hex⟩ := exec_anyLoad e he t rd h rs imm s
    rw [hex]
    exact loadOp_stops hi (memCheck_fails hbad)
  case store =>
    rw [exec_storeRow e he]
    exact storeOp_stops hi (memCheck_fails hbad)

end Sys2Proof.Machine

/-!
PROOFS. The enqueue instructions and their stall (O9).
-/
namespace Sys2Proof.Machine

/-! ### What the fetch of an instruction that issues leaves -/

/-- The fetch changes check bits, poison, counts, reports and requests only. -/
theorem State.Issues.fetched_frame {s : State} {t word : Nat} {srcs : List Nat} {y : Tile} (h : s.Issues t word srcs y) :
    y = { s.tile t with ecc := y.ecc, spz := y.spz, cnt := y.cnt, reports := y.reports, banks := y.banks } := by
  obtain ⟨-, -, -, -, hw, hy, -, -⟩ := h
  have hf : (s.tile t).fetch = ((s.tile t).fetch.1, some word) := by rw [← hw]
  rw [hy, Tile.ask_frame, Tile.fetch_frame hf]

theorem State.Issues.fetched_queue {s : State} {t word : Nat} {srcs : List Nat} {y : Tile} (h : s.Issues t word srcs y) (q : EQueue) :
    y.queue q = (s.tile t).queue q := by
  rw [h.fetched_frame]
  cases q <;> rfl

/-! ### Instructions that can stall -/

theorem Tile.issueWhen_go {x : Tile} {go : Tile → Bool} (hgo : go x = true) (cc word : Nat) (srcs : List Nat) (f : Tile → Tile) :
    x.issueWhen cc word srcs go f = x.issue cc word srcs f := by
  unfold Tile.issue Tile.issueWhen
  simp only [hgo]

/-- An instruction that stalls leaves the tile, its fetch included. -/
theorem State.Issues.issueWhen_stall {s : State} {t word : Nat} {srcs : List Nat} {y : Tile} (h : s.Issues t word srcs y)
    {go : Tile → Bool} (hgo : go (s.tile t) = false) (f : Tile → Tile) :
    (s.tile t).issueWhen s.cc word srcs go f = s.tile t := by
  obtain ⟨-, hrun, hsleep, hat, hw, -, hdef, -⟩ := h
  have hf : (s.tile t).fetch = ((s.tile t).fetch.1, some word) := by rw [← hw]
  unfold Tile.issueWhen
  rw [if_neg (by simp [hrun, hsleep, hat]), hf]
  simp [hdef, hgo]

/-! ### Queues -/

@[simp] theorem Tile.queue_setQueue_self (x : Tile) (q : EQueue) (l : List QEnt) : (x.setQueue q l).queue q = l := by
  cases q <;> rfl

theorem Tile.queue_setQueue_ne (x : Tile) {q r : EQueue} (l : List QEnt) (h : r ≠ q) : (x.setQueue q l).queue r = x.queue r := by
  cases q <;> cases r <;> simp [Tile.setQueue, Tile.queue] at h ⊢

theorem Tile.setQueue_frame (x : Tile) (q : EQueue) (l : List QEnt) :
    let z := x.setQueue q l
    z = { x with qf := z.qf, qb := z.qb, qv := z.qv, qd := z.qd } := by
  cases q <;> rfl

theorem Tile.queue_advance (x : Tile) (cc : Nat) (q : EQueue) : (x.advance cc).queue q = x.queue q := by
  cases q <;> rfl

theorem Tile.queue_ctrl (y : Tile) (pz : Bool) (q : EQueue) : (y.ctrl pz).queue q = y.queue q := by
  rw [Tile.ctrl_frame]
  cases q <;> rfl

/-! ### ENQ -/

/-- What ENQ does where it has room. -/
def Tile.enq (cc : Nat) (q : EQueue) (rs1 rs2 : Nat) (y : Tile) : Tile :=
  let z := y.ctrl (y.regPz rs1 || y.regPz rs2)
  (z.setQueue q (z.queue q ++ [⟨y.reg rs1 ++ y.reg rs2, y.pcHi, false⟩])).advance cc

section
variable {s : State} {t rs1 rs2 : Nat} {y : Tile} {q : EQueue}

theorem enqOp_room (h : s.Issues t (encR 0x2C 0 rs1 rs2 q.func) [rs1, rs2] y) (hroom : (y.queue q).length < q.depth) :
    enqOp q t rs1 rs2 s = .next (s.setTile t (y.enq s.cc q rs1 rs2)) := by
  have hgo : Tile.hasRoom q (s.tile t) = true := by
    rw [h.fetched_queue] at hroom
    simpa [Tile.hasRoom] using hroom
  have hst : (y.enq s.cc q rs1 rs2).st = y.st := by
    rw [Tile.enq, Tile.advance_st, Tile.setQueue_frame, Tile.ctrl_st]
  rw [← onTile_issues_set h (Tile.enq s.cc q rs1 rs2) hst]
  have ht := h.1
  rw [enqOp, onTile_next ht, onTile_next ht, Tile.issueWhen_go hgo]
  rfl

theorem enqOp_full (h : s.Issues t (encR 0x2C 0 rs1 rs2 q.func) [rs1, rs2] y) (hfull : q.depth ≤ (y.queue q).length) :
    enqOp q t rs1 rs2 s = .next (s.setTile t (s.tile t)) := by
  have hgo : Tile.hasRoom q (s.tile t) = false := by
    rw [h.fetched_queue] at hfull
    simpa [Tile.hasRoom] using hfull
  rw [enqOp, onTile_next h.1, h.issueWhen_stall hgo, State.afterTile_same _ _ _ rfl]

end

theorem Tile.enq_queue (cc : Nat) (q : EQueue) (rs1 rs2 : Nat) (y : Tile) :
    (y.enq cc q rs1 rs2).queue q = y.queue q ++ [⟨y.reg rs1 ++ y.reg rs2, BitVec.ofNat 8 (y.pc.toNat / 256), false⟩] := by
  rw [Tile.enq, Tile.queue_advance, Tile.queue_setQueue_self, Tile.queue_ctrl]
  rfl

theorem Tile.enq_queue_ne (cc : Nat) {q r : EQueue} (h : r ≠ q) (rs1 rs2 : Nat) (y : Tile) :
    (y.enq cc q rs1 rs2).queue r = y.queue r := by
  rw [Tile.enq, Tile.queue_advance, Tile.queue_setQueue_ne _ _ h, Tile.queue_ctrl]

theorem Tile.enq_frame (cc : Nat) (q : EQueue) (rs1 rs2 : Nat) (y : Tile) :
    let z := y.enq cc q rs1 rs2
    z = { (if y.regPz rs1 || y.regPz rs2 then y.tainted else y) with
      qf := z.qf, qb := z.qb, qv := z.qv, qd := z.qd, pc := y.pc + 4, issueAt := cc + 1 } := by
  intro z
  have h : z = { y.ctrl (y.regPz rs1 || y.regPz rs2) with
      qf := z.qf, qb := z.qb, qv := z.qv, qd := z.qd, pc := (y.ctrl (y.regPz rs1 || y.regPz rs2)).pc + 4, issueAt := cc + 1 } := by
    simp only [z, Tile.enq]
    cases q <;> rfl
  rw [Tile.ctrl_pc, Tile.ctrl_eq] at h
  exact h

/-! ### The counters of a cycle -/

/-- A cycle counts outside TILE.CNT_BANKWAIT and TILE.CNT_MXHOWAIT what its counters count. -/
theorem Tile.cycle_count_ne (x : Tile) (c : Nat) {off : Nat} (h1 : off ≠ 0x81C) (h2 : off ≠ 0x51C) :
    (x.cycle c).count off = (x.countCycle c).count off := by
  have hdelay : ∀ (y : Tile) (u : BankUser), (y.delay u).count off = y.count off := fun y u => by
    unfold Tile.count
    rw [Tile.delay_cnt]
  have hlost : ∀ (l : List BankUser) (y : Tile), (l.foldl Tile.delay y).count off = y.count off := fun l y =>
    foldl_keep (Tile.count off) _ hdelay l y
  have hbank : ∀ (b : Bool) (y : Tile) (n : Nat), (if b then y else y.bump 0x81C n).count off = y.count off := by
    intro b y n
    cases b
    · exact Tile.count_bump_ne y n h1
    · rfl
  unfold Tile.cycle
  rw [Tile.settle_keep (Tile.count off) (fun _ _ => rfl) (fun _ _ => rfl)]
  unfold Tile.bankCycle
  simp only
  split
  · rw [Tile.count_bump_ne _ _ h2, hdelay, hbank]
    exact hlost _ _
  · rw [hbank]
    exact hlost _ _

theorem Tile.count_bumpIf_ne (b : Bool) (x : Tile) {off k : Nat} (h : k ≠ off) : (x.bumpIf b off).count k = x.count k := by
  cases b
  · rfl
  · exact Tile.count_bump_ne x 1 h

theorem Tile.count_bumpIf (x : Tile) (off : Nat) {b : Bool} (h : b = true) : (x.bumpIf b off).count off = sat32 (x.count off) 1 := by
  subst h
  exact Tile.count_bump x off 1

/-- The tile after the counter of a stall at the program counter. -/
def Tile.countStall (x : Tile) (c : Nat) : Tile :=
  match (x.nextWord c).bind (x.stallCounter c) with
  | some off => x.bump off 1
  | none => x

theorem Tile.countCycle_eq (x : Tile) (c : Nat) : x.countCycle c =
    (((((x.countStall c).bumpIf (x.arrayBusy c) 0x510).bumpIf (x.mxLocked c .f || x.mxLocked c .b) 0x514).bumpIf (x.mxTurnWaits c) 0x518).bumpIf
      (!x.vfree c) 0x620).bumpIf (x.vLocked c) 0x624 := rfl

/-- A stall at an ENQ with its sources ready and its queue full is counted (R54). -/
theorem Tile.countStall_enq {x : Tile} {c w : Nat} (hw : x.nextWord c = some w) (hopc : fld w 31 26 = 0x2C)
    (hr : x.srcReady c [fld w 20 16, fld w 15 11] = true) (hfull : Tile.hasRoom (enqQueue w) x = false) :
    (x.countStall c).count 0x820 = sat32 (x.count 0x820) 1 := by
  have hs : (x.nextWord c).bind (x.stallCounter c) = some 0x820 := by
    rw [hw]
    show x.stallCounter c w = some 0x820
    unfold Tile.stallCounter
    simp only [hopc, hr, hfull]
    rfl
  unfold Tile.countStall
  rw [hs]
  exact Tile.count_bump x 0x820 1

theorem Tile.cycle_count_stall (x : Tile) (c : Nat) : (x.cycle c).count 0x820 = (x.countStall c).count 0x820 := by
  rw [Tile.cycle_count_ne x c (by decide) (by decide), Tile.countCycle_eq, Tile.count_bumpIf_ne _ _ (by decide),
    Tile.count_bumpIf_ne _ _ (by decide), Tile.count_bumpIf_ne _ _ (by decide), Tile.count_bumpIf_ne _ _ (by decide),
    Tile.count_bumpIf_ne _ _ (by decide)]

/-- The fields of an ENQ. -/
theorem fld_encEnq {rs1 rs2 func : Nat} (h1 : rs1 < 32) (h2 : rs2 < 32) (hf : func < 4) :
    let w := encR 0x2C 0 rs1 rs2 func
    fld w 31 26 = 0x2C ∧ fld w 20 16 = rs1 ∧ fld w 15 11 = rs2 ∧ fld w 1 0 = func := by
  simp only [fld, encR, at']
  omega

theorem enqQueue_encEnq {rs1 rs2 : Nat} (h1 : rs1 < 32) (h2 : rs2 < 32) (q : EQueue) : enqQueue (encR 0x2C 0 rs1 rs2 q.func) = q := by
  obtain ⟨-, -, -, hf⟩ := fld_encEnq h1 h2 (func := q.func) (by cases q <;> decide)
  unfold enqQueue
  rw [hf]
  cases q <;> rfl

/-- The three clauses on one queue: with room, full, and the cycle that counts the stall. -/
theorem enq_appends_or_stalls (q : EQueue) :
    (∀ (s : State) (t : Nat) (rs1 rs2 : BitVec 5) (y : Tile),
      s.Issues t (encR 0x2C 0 rs1.toNat rs2.toNat q.func) [rs1.toNat, rs2.toNat] y →
      let r := if y.regPz rs1.toNat || y.regPz rs2.toNat then y.tainted else y
      ((y.queue q).length < q.depth →
        ∃ z : Tile, enqOp q t rs1.toNat rs2.toNat s = .next (s.setTile t z) ∧
          z.queue q = y.queue q ++ [⟨y.reg rs1.toNat ++ y.reg rs2.toNat, BitVec.ofNat 8 (y.pc.toNat / 256), false⟩] ∧
          (∀ k, k ≠ q → z.queue k = y.queue k) ∧
          z = { r with qf := z.qf, qb := z.qb, qv := z.qv, qd := z.qd, pc := y.pc + 4, issueAt := s.cc + 1 }) ∧
      (q.depth ≤ (y.queue q).length → enqOp q t rs1.toNat rs2.toNat s = .next (s.setTile t (s.tile t)))) ∧
    (∀ (x : Tile) (c : Nat) (rs1 rs2 : BitVec 5), x.nextWord c = some (encR 0x2C 0 rs1.toNat rs2.toNat q.func) →
      x.srcReady c [rs1.toNat, rs2.toNat] = true → q.depth ≤ (x.queue q).length →
      Sparse.get 0 (x.cycle c).cnt 0x820 = sat32 (Sparse.get 0 x.cnt 0x820) 1) := by
  refine ⟨fun s t rs1 rs2 y h => ⟨fun hroom => ?_, fun hfull => enqOp_full h hfull⟩, fun x c rs1 rs2 hw hr hfull => ?_⟩
  · exact ⟨_, enqOp_room h hroom, Tile.enq_queue .., fun k hk => Tile.enq_queue_ne s.cc hk .., Tile.enq_frame ..⟩
  · obtain ⟨hopc, hrs1, hrs2, -⟩ := fld_encEnq rs1.isLt rs2.isLt (func := q.func) (by cases q <;> decide)
    refine (x.cycle_count_stall c).trans (Tile.countStall_enq hw hopc ?_ ?_)
    · rw [hrs1, hrs2, hr]
    · rw [enqQueue_encEnq rs1.isLt rs2.isLt]
      simpa [Tile.hasRoom] using hfull

/-- Settles O9: the four queues alike. -/
theorem enqueueAppendsOrStalls : Obligations.EnqueueAppendsOrStalls := by
  unfold Obligations.EnqueueAppendsOrStalls
  simp only [List.forall_mem_cons]
  exact ⟨enq_appends_or_stalls .f, enq_appends_or_stalls .b, enq_appends_or_stalls .v, enq_appends_or_stalls .d, List.forall_mem_nil _⟩

end Sys2Proof.Machine

/-!
PROOFS. The checks of an engine instruction at its head, and the counters of waiting cycles (O16).
-/
namespace Sys2Proof.Machine

/-- A command on a tile that exists leaves of it what its effect does. -/
theorem onTile_to {t : Nat} (ht : t < 1536) {s : State} {f : Tile → Tile} {z : Tile} (h : f (s.tile t) = z) :
    onTile t s f = .next (s.afterTile t z) := by
  rw [onTile_next ht, h]

/-! ### A matrix row at the head of its queue -/

section
variable {x : Tile} {cc : Nat} {q : MQueue} {e : QEnt} {l : List QEnt}

/-- A flag field that names no flag stops the program, whatever the row. -/
theorem Tile.mxRow_badFlag (hq : x.queue (mqOf q) = e :: l)
    (hf : flagOk (eWflag e.word.toNat) = false ∨ flagOk (eSflag e.word.toNat) = false) (opc : Nat) (body : Tile → Nat → Tile) :
    x.mxRow cc q opc body = x.stopAt 0x09 e.pchi := by
  unfold Tile.mxRow
  simp only [hq]
  rw [if_pos (by obtain hf | hf := hf <;> simp [hf])]
  rfl

end

/-- Where the engine issues from queue q, a row whose OPC is at the head, or any row at an undefined OPC, stops with the check that fails. -/
theorem State.MxIssues.mxRow_fails {s : State} {t : Nat} {q : MQueue} {opc : Nat} {e : QEnt} {l : List QEnt} (h : s.MxIssues t q opc e l)
    {row : Nat} (hrow : mxOpc opc = false ∨ opc = row) {c : Byte} (hc : (s.tile t).mxCheck q e.word.toNat = some c)
    (body : Tile → Nat → Tile) : (s.tile t).mxRow s.cc q row body = (s.tile t).stopAt c e.pchi := by
  obtain ⟨-, hq, rfl, hw, hs, hch, -⟩ := h
  unfold Tile.mxRow
  simp only [hq]
  rw [if_neg (by simp [hw, hs]), if_neg ?_, hc]
  obtain hrow | hrow := hrow
  · simp [hrow, hch]
  · simp [hrow, hch]

theorem Tile.mxCheck_undefined {x : Tile} {q : MQueue} {w : Nat} (h : eOpc w ∉ [0x01, 0x10, 0x20, 0x30]) :
    mxOpc (eOpc w) = false ∧ x.mxCheck q w = some 0x08 := by
  simp only [List.mem_cons, List.not_mem_nil, or_false, not_or] at h
  obtain ⟨h1, h2, h3, h4⟩ := h
  constructor
  · simp [mxOpc, h1, h2, h3, h4]
  · unfold Tile.mxCheck
    split
    case h_5 => rfl
    all_goals contradiction

theorem exec_mnop (t : Nat) (q : MQueue) (s : State) :
    exec (.mnop t q) s = onTile t s fun x => x.mxRow s.cc q 0x01 fun y w => (y.mxLeave s.cc q w).signal (eSflag w) := rfl
theorem exec_mld (t : Nat) (q : MQueue) (s : State) :
    exec (.mld t q) s = onTile t s fun x => x.mxRow s.cc q 0x10 (Tile.mld s.cc q) := rfl
theorem exec_mma (t : Nat) (q : MQueue) (s : State) :
    exec (.mma t q) s = onTile t s fun x => x.mxRow s.cc q 0x20 (Tile.mma s.cc q) := rfl
theorem exec_slice (t : Nat) (q : MQueue) (s : State) :
    exec (.slice t q) s = onTile t { s with free := s.free + 1 } fun x => x.mxRow s.cc q 0x30 (Tile.slice s.free s.cc q) := rfl

/-- The four matrix rows on one queue: what the row leaves of the tile whichever it is, its command leaves. -/
theorem exec_mxRows {s : State} {t : Nat} {q : MQueue} {z : Tile} (ht : t < 1536)
    (h : ∀ row body, (s.tile t).mxRow s.cc q row body = z) :
    ∀ i ∈ [(Instr.mnop t q, s), (Instr.mld t q, s), (Instr.mma t q, s), (Instr.slice t q, { s with free := s.free + 1 })],
      exec i.1 s = .next (i.2.afterTile t z) := by
  simp only [List.forall_mem_cons]
  rw [exec_mnop, exec_mld, exec_mma, exec_slice]
  exact ⟨onTile_to ht (h _ _), onTile_to ht (h _ _), onTile_to ht (h _ _), onTile_to ht (h _ _), List.forall_mem_nil _⟩

/-! ### A vector row at the head of the V-queue -/

section
variable {x : Tile} {cc : Nat} {e : QEnt} {l : List QEnt} {mine : Nat → Bool} {plan : Tile → Nat → Except Byte VPlan}
  {body : Tile → Nat → Tile}

theorem Tile.vRow_badFlag (hq : x.qv = e :: l)
    (hf : flagOk (eWflag e.word.toNat) = false ∨ flagOk (eSflag e.word.toNat) = false) :
    x.vRow cc mine plan body = x.stopAt 0x09 e.pchi := by
  unfold Tile.vRow
  simp only [hq]
  rw [if_pos (by obtain hf | hf := hf <;> simp [hf])]
  rfl

/-- The wait of a head is satisfied where it has none or has been granted. -/
theorem Tile.waitOk_of_granted (h : eWflag e.word.toNat = 0x3F ∨ e.granted = true) : x.waitOk e = true := by
  unfold Tile.waitOk
  obtain h | h := h <;> simp [h]

variable (hq : x.qv = e :: l) (hw : flagOk (eWflag e.word.toNat) = true) (hs : flagOk (eSflag e.word.toNat) = true)
  (hg : eWflag e.word.toNat = 0x3F ∨ e.granted = true) (hv : x.vfree cc = true)
include hq hw hs hg hv

theorem Tile.vRow_undefined (hd : vDefined e.word.toNat = false) : x.vRow cc mine plan body = x.stopAt 0x08 e.pchi := by
  unfold Tile.vRow
  simp only [hq]
  rw [if_neg (by simp [hw, hs]), if_neg (by simp [hv, Tile.waitOk_of_granted hg]), if_pos (by simp [hd])]
  rfl

theorem Tile.vRow_planFails (hd : vDefined e.word.toNat = true) (hm : mine e.word.toNat = true) {code : Byte}
    (hp : plan x e.word.toNat = .error code) : x.vRow cc mine plan body = x.stopAt code e.pchi := by
  unfold Tile.vRow
  simp only [hq]
  rw [if_neg (by simp [hw, hs]), if_neg (by simp [hv, Tile.waitOk_of_granted hg]), if_neg (by simp [hd]), if_neg (by simp [hm]), hp]

theorem Tile.vRow_conflict (hd : vDefined e.word.toNat = true) (hm : mine e.word.toNat = true) {p : VPlan}
    (hp : plan x e.word.toNat = .ok p) (hc : x.vconflict p.use = true) : x.vRow cc mine plan body = x := by
  unfold Tile.vRow
  simp only [hq]
  rw [if_neg (by simp [hw, hs]), if_neg (by simp [hv, Tile.waitOk_of_granted hg]), if_neg (by simp [hd]), if_neg (by simp [hm]), hp]
  simp [hc]

end

/-- A command is a vector row: on its tile it runs `vRow` with these own encodings and this plan, and takes the next free value. -/
def IsVRow (i : Instr) (t : Nat) (mine : Nat → Bool) (plan : Tile → Nat → Except Byte VPlan) : Prop :=
  ∀ s : State, ∃ body, exec i s = onTile t { s with free := s.free + 1 } fun x => x.vRow s.cc mine plan body

section
variable {i : Instr} {t : Nat} {mine : Nat → Bool} {plan : Tile → Nat → Except Byte VPlan} {s : State} {e : QEnt} {l : List QEnt}

theorem IsVRow.next (hi : IsVRow i t mine plan) (ht : t < 1536) {z : Tile}
    (h : ∀ body, (s.tile t).vRow s.cc mine plan body = z) :
    exec i s = .next (State.afterTile { s with free := s.free + 1 } t z) := by
  obtain ⟨body, hex⟩ := hi s
  rw [hex, onTile_next ht]
  exact congrArg _ (congrArg _ (h body))

/-- A vector instruction that issues, and whose row is this one, stops with the check that fails. -/
theorem IsVRow.planFails (hi : IsVRow i t mine plan) (h : s.VxIssues t e l) (hm : mine e.word.toNat = true) {code : Byte}
    (hp : plan (s.tile t) e.word.toNat = .error code) :
    exec i s = .next (State.afterTile { s with free := s.free + 1 } t ((s.tile t).stopAt code e.pchi)) := by
  obtain ⟨ht, hq, hw, hs, hg, hv, hd⟩ := h
  exact hi.next ht fun body => Tile.vRow_planFails hq hw hs hg hv hd hm hp

/-- A vector instruction that conflicts with an earlier one leaves the tile (R133). -/
theorem IsVRow.conflict (hi : IsVRow i t mine plan) (h : s.VxIssues t e l) (hm : mine e.word.toNat = true) {p : VPlan}
    (hp : plan (s.tile t) e.word.toNat = .ok p) (hc : (s.tile t).vconflict p.use = true) :
    exec i s = .next (State.setTile { s with free := s.free + 1 } t (s.tile t)) := by
  obtain ⟨ht, hq, hw, hs, hg, hv, hd⟩ := h
  rw [hi.next ht fun body => Tile.vRow_conflict hq hw hs hg hv hd hm hp hc]
  exact congrArg _ (State.afterTile_same _ _ _ rfl)

end

/-- The element-wise rows. -/
theorem isVRow_vecRow : ∀ r ∈ vecRows, ∀ t,
    IsVRow (r.con t) t (fun w => eOpc w == r.opc && vFn w == r.fn) (Tile.elemPlan r.arity r.cost) := by
  simp only [vecRows, List.forall_mem_cons]
  exact ⟨fun _ _ => ⟨_, rfl⟩, fun _ _ => ⟨_, rfl⟩, fun _ _ => ⟨_, rfl⟩, fun _ _ => ⟨_, rfl⟩, fun _ _ => ⟨_, rfl⟩,
    fun _ _ => ⟨_, rfl⟩, fun _ _ => ⟨_, rfl⟩, fun _ _ => ⟨_, rfl⟩, fun _ _ => ⟨_, rfl⟩, fun _ _ => ⟨_, rfl⟩,
    fun _ _ => ⟨_, rfl⟩, fun _ _ => ⟨_, rfl⟩, fun _ _ => ⟨_, rfl⟩, fun _ _ => ⟨_, rfl⟩, fun _ _ => ⟨_, rfl⟩,
    fun _ _ => ⟨_, rfl⟩, fun _ _ => ⟨_, rfl⟩, fun _ _ => ⟨_, rfl⟩, fun _ _ => ⟨_, rfl⟩, fun _ _ => ⟨_, rfl⟩,
    fun _ _ => ⟨_, rfl⟩, fun _ _ => ⟨_, rfl⟩, fun _ _ => ⟨_, rfl⟩, fun _ _ => ⟨_, rfl⟩, fun _ _ => ⟨_, rfl⟩,
    fun _ _ => ⟨_, rfl⟩, fun _ _ => ⟨_, rfl⟩, fun _ _ => ⟨_, rfl⟩, fun _ _ => ⟨_, rfl⟩, fun _ _ => ⟨_, rfl⟩,
    fun _ _ => ⟨_, rfl⟩, fun _ _ => ⟨_, rfl⟩, fun _ _ => ⟨_, rfl⟩, List.forall_mem_nil _⟩

/-- The rows of CVT, PRISM, RNG and VRED: the command, OPC, its other own bits, its plan. -/
def planRows : List ((Nat → Instr) × Nat × (Nat → Bool) × (Tile → Nat → Except Byte VPlan)) :=
  [(Instr.cvt, 0x30, fun _ : Nat => true, cvtPlan), (.prism, 0x40, fun _ => true, prismPlan),
   (.rngBits, 0x60, fun v => fld v 7 5 == 0, rngPlan 0), (.rngUnif, 0x60, fun v => fld v 7 5 == 1, rngPlan 1),
   (.rngBern, 0x60, fun v => fld v 7 5 == 2, rngPlan 2), (.rngGumbel, 0x60, fun v => fld v 7 5 == 3, rngPlan 3),
   (.vredSum, 0x50, fun v => fld v 2 0 == 0, vredPlan), (.vredSumsq, 0x50, fun v => fld v 2 0 == 1, vredPlan),
   (.vredMax, 0x50, fun v => fld v 2 0 == 2, vredPlan), (.vredMin, 0x50, fun v => fld v 2 0 == 3, vredPlan),
   (.vredArgmax, 0x50, fun v => fld v 2 0 == 4, vredPlan), (.vredArgmin, 0x50, fun v => fld v 2 0 == 5, vredPlan),
   (.vredIsum, 0x50, fun v => fld v 2 0 == 6, vredPlan)]

theorem isVRow_planRow : ∀ r ∈ planRows, ∀ t, ∃ mine : Nat → Bool,
    (∀ w, eOpc w = r.2.1 → r.2.2.1 w = true → mine w = true) ∧ IsVRow (r.1 t) t mine r.2.2.2 := by
  have both : ∀ (o : Nat) (sel : Nat → Bool) (w : Nat), eOpc w = o → sel w = true → (eOpc w == o && sel w) = true :=
    fun o sel w h hs => by simp [h, hs]
  simp only [planRows, List.forall_mem_cons]
  exact ⟨fun _ => ⟨_, fun _ h _ => beq_iff_eq.2 h, fun _ => ⟨_, rfl⟩⟩, fun _ => ⟨_, fun _ h _ => beq_iff_eq.2 h, fun _ => ⟨_, rfl⟩⟩,
    fun _ => ⟨_, both _ _, fun _ => ⟨_, rfl⟩⟩, fun _ => ⟨_, both _ _, fun _ => ⟨_, rfl⟩⟩, fun _ => ⟨_, both _ _, fun _ => ⟨_, rfl⟩⟩,
    fun _ => ⟨_, both _ _, fun _ => ⟨_, rfl⟩⟩, fun _ => ⟨_, both _ _, fun _ => ⟨_, rfl⟩⟩, fun _ => ⟨_, both _ _, fun _ => ⟨_, rfl⟩⟩,
    fun _ => ⟨_, both _ _, fun _ => ⟨_, rfl⟩⟩, fun _ => ⟨_, both _ _, fun _ => ⟨_, rfl⟩⟩, fun _ => ⟨_, both _ _, fun _ => ⟨_, rfl⟩⟩,
    fun _ => ⟨_, both _ _, fun _ => ⟨_, rfl⟩⟩, fun _ => ⟨_, both _ _, fun _ => ⟨_, rfl⟩⟩, List.forall_mem_nil _⟩

/-! ### The head of the D-queue -/

theorem Tile.dRow_badFlag {x : Tile} {e : QEnt} {l : List QEnt} (hq : x.qd = e :: l)
    (hf : flagOk (eWflag e.word.toNat) = false ∨ flagOk (eSflag e.word.toNat) = false) (opc : Nat)
    (body : Tile → QEnt → Nat → Bool → Tile) : x.dRow opc body = x.stopAt 0x09 e.pchi := by
  unfold Tile.dRow
  simp only [hq]
  rw [if_pos (by obtain hf | hf := hf <;> simp [hf])]
  rfl

theorem Tile.dRow_own {x : Tile} {e : QEnt} {l : List QEnt} (hq : x.qd = e :: l) (hw : flagOk (eWflag e.word.toNat) = true)
    (hs : flagOk (eSflag e.word.toNat) = true) (hg : eWflag e.word.toNat = 0x3F ∨ e.granted = true) {opc : Nat}
    (ho : eOpc e.word.toNat = opc) (hopc : opc = 0x01 ∨ opc = 0x20 ∨ opc = 0x30) (body : Tile → QEnt → Nat → Bool → Tile) :
    x.dRow opc body = body x e e.word.toNat true := by
  have hgo : (eWflag e.word.toNat == 0x3F || e.granted) = true := by obtain h | h := hg <;> simp [h]
  unfold Tile.dRow
  simp only [hq, hgo]
  rw [if_neg (by simp [hw, hs]), if_neg (by simp), if_neg (by omega), if_pos ho]

theorem exec_dnop (t : Nat) (s : State) :
    exec (.dnop t) s = onTile t s fun x => x.dRow 0x01 fun y e w go =>
      if fld w 43 0 ≠ 0 then y.stopAt cDESC e.pchi else if go then y.dLeave.signal (eSflag w) else y := rfl
theorem exec_feed (t : Nat) (s : State) : exec (.feed t) s = onTile t s fun x => x.dRow 0x20 Tile.feedBody := rfl

@[simp] theorem Tile.stopAt_wrels (x : Tile) (code hi : Byte) : (x.stopAt code hi).wrels = x.wrels := by
  unfold Tile.stopAt Tile.halt
  cases x.st <;> rfl

/-- A WREL whose flag fields name no flag stops the program and releases nothing. -/
theorem execWrel_stops {s : State} {t : Nat} {c hi : Byte} (ht : t < 1536)
    (h : ∀ body, (s.tile t).dRow 0x30 body = (s.tile t).stopAt c hi) :
    exec (.wrel t) s = .next (s.afterTile t ((s.tile t).stopAt c hi)) := by
  show execWrel t s = _
  unfold execWrel
  simp only [h]
  rw [if_neg (by omega), if_neg (by simp)]

/-! ### The counters of waiting cycles -/

/-- The counters of a stall at the program counter are TILE.CNT_QFULL and that of MSG.SEND. -/
theorem Tile.countStall_count_ne (x : Tile) (c : Nat) {off : Nat} (h1 : off ≠ 0x820) (h2 : off ≠ 0x730) :
    (x.countStall c).count off = x.count off := by
  unfold Tile.countStall
  split
  next o ho =>
    obtain ⟨w, -, hw⟩ := Option.bind_eq_some_iff.1 ho
    refine Tile.count_bump_ne x 1 ?_
    rintro rfl
    unfold Tile.stallCounter at hw
    simp only at hw
    split_ifs at hw
    · exact h1 (Option.some.inj hw).symm
    · exact h2 (Option.some.inj hw).symm
  next => rfl

section
variable {x : Tile} {c : Nat}

/-- A cycle in which a matrix head waits on an interlock (R113). -/
theorem Tile.cycle_counts_mxLock (h : x.mxLocked c .f = true ∨ x.mxLocked c .b = true) :
    (x.cycle c).count 0x514 = sat32 (x.count 0x514) 1 := by
  rw [Tile.cycle_count_ne x c (by decide) (by decide), Tile.countCycle_eq, Tile.count_bumpIf_ne _ _ (by decide),
    Tile.count_bumpIf_ne _ _ (by decide), Tile.count_bumpIf_ne _ _ (by decide), Tile.count_bumpIf _ _ (by simpa using h),
    Tile.count_bumpIf_ne _ _ (by decide), Tile.countStall_count_ne _ _ (by decide) (by decide)]

/-- A cycle in which a head waits for the turn (R116). -/
theorem Tile.cycle_counts_mxTurn (h : x.mxTurnWaits c = true) : (x.cycle c).count 0x518 = sat32 (x.count 0x518) 1 := by
  rw [Tile.cycle_count_ne x c (by decide) (by decide), Tile.countCycle_eq, Tile.count_bumpIf_ne _ _ (by decide),
    Tile.count_bumpIf_ne _ _ (by decide), Tile.count_bumpIf _ _ h, Tile.count_bumpIf_ne _ _ (by decide),
    Tile.count_bumpIf_ne _ _ (by decide), Tile.countStall_count_ne _ _ (by decide) (by decide)]

/-- A cycle in which the vector engine is occupied (R132). -/
theorem Tile.cycle_counts_vBusy (h : x.vfree c = false) : (x.cycle c).count 0x620 = sat32 (x.count 0x620) 1 := by
  rw [Tile.cycle_count_ne x c (by decide) (by decide), Tile.countCycle_eq, Tile.count_bumpIf_ne _ _ (by decide),
    Tile.count_bumpIf _ _ (by simp [h]), Tile.count_bumpIf_ne _ _ (by decide), Tile.count_bumpIf_ne _ _ (by decide),
    Tile.count_bumpIf_ne _ _ (by decide), Tile.countStall_count_ne _ _ (by decide) (by decide)]

/-- A cycle in which the V-queue head waits for an earlier instruction (R133). -/
theorem Tile.cycle_counts_vLock (h : x.vLocked c = true) : (x.cycle c).count 0x624 = sat32 (x.count 0x624) 1 := by
  rw [Tile.cycle_count_ne x c (by decide) (by decide), Tile.countCycle_eq, Tile.count_bumpIf _ _ h,
    Tile.count_bumpIf_ne _ _ (by decide), Tile.count_bumpIf_ne _ _ (by decide), Tile.count_bumpIf_ne _ _ (by decide),
    Tile.count_bumpIf_ne _ _ (by decide), Tile.countStall_count_ne _ _ (by decide) (by decide)]

theorem Tile.countCycle_count_handoff (x : Tile) (c : Nat) : (x.countCycle c).count 0x51C = x.count 0x51C := by
  rw [Tile.countCycle_eq, Tile.count_bumpIf_ne _ _ (by decide), Tile.count_bumpIf_ne _ _ (by decide),
    Tile.count_bumpIf_ne _ _ (by decide), Tile.count_bumpIf_ne _ _ (by decide), Tile.count_bumpIf_ne _ _ (by decide),
    Tile.countStall_count_ne _ _ (by decide) (by decide)]

/-- Whether a SLICE waits is a matter of the requests alone. -/
theorem Tile.handWaits_congr {x y : Tile} (h : y.banks = x.banks) : y.handWaits = x.handWaits := by
  unfold Tile.handWaits Tile.vWriting
  rw [Tile.bankLost_congr h]
  unfold Tile.bidders
  rw [h]

/-- The banks of a cycle in which a SLICE waits for a register write (R111). -/
theorem Tile.bankCycle_count_handoff (h : x.handWaits = true) : x.bankCycle.count 0x51C = sat32 (x.count 0x51C) 1 := by
  have hdelay : ∀ (y : Tile) (u : BankUser), (y.delay u).count 0x51C = y.count 0x51C := fun y u => by
    unfold Tile.count
    rw [Tile.delay_cnt]
  have hbank : ∀ (b : Bool) (y : Tile) (n : Nat), (if b then y else y.bump 0x81C n).count 0x51C = y.count 0x51C := by
    intro b y n
    cases b
    · exact Tile.count_bump_ne y n (by decide)
    · rfl
  unfold Tile.bankCycle
  simp only
  rw [if_pos h, Tile.count_bump, hdelay, hbank]
  exact congrArg (sat32 · 1) (foldl_keep (Tile.count 0x51C) _ hdelay _ x)

theorem Tile.cycle_counts_mxHandoff (h : x.handWaits = true) : (x.cycle c).count 0x51C = sat32 (x.count 0x51C) 1 := by
  have hbanks : (x.countCycle c).banks = x.banks := Tile.countCycle_keep Tile.banks (fun _ _ _ => rfl) x c
  unfold Tile.cycle
  rw [Tile.settle_keep (Tile.count 0x51C) (fun _ _ => rfl) (fun _ _ => rfl),
    Tile.bankCycle_count_handoff (by rw [Tile.handWaits_congr hbanks, h]), Tile.countCycle_count_handoff]

end

/-- Settles O16: each check where its row makes it, then the counters of a cycle. -/
theorem engineChecksStopOrWait : Obligations.EngineChecksStopOrWait := by
  unfold Obligations.EngineChecksStopOrWait
  refine ⟨fun s t q e l ht hq => ?matrix, fun s t e l ht hq => ?vector, fun s t e l ht hq => ?data, fun x c => ?counters⟩
  case matrix =>
    intro x w s1 all
    refine ⟨fun hf => ?_, fun opc h ho => ?_, fun h hr => ?_, fun h c hc => ?_, fun h hc => ?_, fun h c hc => ?_⟩
    · exact exec_mxRows ht fun row body => Tile.mxRow_badFlag hq hf row body
    · have hopc : eOpc w = opc := h.2.2.1
      obtain ⟨hun, hcheck⟩ := Tile.mxCheck_undefined (x := x) (q := q) (w := w) (by rw [hopc]; exact ho)
      rw [hopc] at hun
      exact exec_mxRows ht fun row body => h.mxRow_fails (.inl hun) hcheck body
    all_goals have hopc : eOpc w = _ := h.2.2.1
    · have hcheck : x.mxCheck q w = some 0x08 := by
        unfold Tile.mxCheck
        simp only [hopc]
        exact if_pos hr
      rw [exec_mnop]
      exact onTile_to ht (h.mxRow_fails (.inr rfl) hcheck _)
    · have hcheck : x.mxCheck q w = some c := by
        unfold Tile.mxCheck
        simp only [hopc]
        exact hc
      rw [exec_mld]
      exact onTile_to ht (h.mxRow_fails (.inr rfl) hcheck _)
    · have hcheck : x.mxCheck q w = some 0x08 := by
        unfold Tile.mxCheck
        simp only [hopc, hc]
        rfl
      rw [exec_mma]
      exact onTile_to ht (h.mxRow_fails (.inr rfl) hcheck _)
    · have hcheck : x.mxCheck q w = some c := by
        unfold Tile.mxCheck
        simp only [hopc]
        exact hc
      rw [exec_slice]
      exact onTile_to ht (h.mxRow_fails (.inr rfl) hcheck _)
  case vector =>
    intro x w s1
    refine ⟨fun r hr => ?_, fun h r hr ho hsel => ?_⟩
    · have hrow := isVRow_vecRow r hr t
      refine ⟨fun hf => hrow.next ht fun _ => Tile.vRow_badFlag hq hf, fun hw hs hg hv hd => hrow.next ht fun _ =>
        Tile.vRow_undefined hq hw hs hg hv hd, fun h ho hfn => ?_⟩
      have hm : (eOpc w == r.opc && vFn w == r.fn) = true := by simp [ho, hfn]
      exact ⟨fun code hp => hrow.planFails h hm hp, fun p hp hc => hrow.conflict h hm hp hc⟩
    · obtain ⟨mine, hmine, hrow⟩ := isVRow_planRow r hr t
      have hm := hmine w ho hsel
      exact ⟨fun code hp => hrow.planFails h hm hp, fun p hp hc => hrow.conflict h hm hp hc⟩
  case data =>
    intro x w
    refine ⟨fun hf => ?_, fun hw hs hg ho hr => ?_⟩
    · simp only [List.forall_mem_cons]
      refine ⟨?_, ?_, ?_, List.forall_mem_nil _⟩
      · rw [exec_dnop]
        exact onTile_to ht (Tile.dRow_badFlag hq hf ..)
      · rw [exec_feed]
        exact onTile_to ht (Tile.dRow_badFlag hq hf ..)
      · exact execWrel_stops ht fun body => Tile.dRow_badFlag hq hf 0x30 body
    · rw [exec_dnop]
      exact onTile_to ht ((Tile.dRow_own hq hw hs hg ho (.inl rfl) _).trans (if_pos hr))
  case counters =>
    intro counted
    exact ⟨Tile.cycle_counts_mxLock, Tile.cycle_counts_mxTurn, Tile.cycle_counts_mxHandoff, Tile.cycle_counts_vBusy, Tile.cycle_counts_vLock⟩

end Sys2Proof.Machine

/-!
PROOFS. The scrubber, Basin's retries, and the pages of Terrace (O26).
-/
namespace Sys2Proof.Machine

/-! ### The scrubber -/

section
variable {x : Tile} {w : Nat}

theorem eccKey_store (w : Nat) : eccKey 0 w = w := by simp [eccKey]

theorem Tile.checkWord_of_ok (h : Sparse.get Ecc.ok x.ecc w = .ok) : x.checkWord w = x := by
  unfold Tile.checkWord Tile.check
  rw [eccKey_store, h]

theorem Tile.checkWord_of_ce (h : Sparse.get Ecc.ok x.ecc w = .ce) :
    x.checkWord w = ({ x with ecc := Sparse.set Ecc.ok x.ecc w .ok } : Tile).bump 0x810 1 := by
  unfold Tile.checkWord Tile.check
  rw [eccKey_store, h]

theorem Tile.checkWord_of_ue (h : Sparse.get Ecc.ok x.ecc w = .ue) :
    x.checkWord w = ((({ x with ecc := Sparse.set Ecc.ok x.ecc w .ok } : Tile).setWordPz w true).bump 0x814 1).report 0x0102 := by
  unfold Tile.checkWord Tile.check
  rw [eccKey_store, h]

/-- After its check a word has no error left. -/
theorem Tile.checkWord_ecc (x : Tile) (w : Nat) : Sparse.get Ecc.ok (x.checkWord w).ecc w = .ok := by
  unfold Tile.checkWord Tile.check
  rw [eccKey_store]
  split
  next h => exact h
  next => exact Sparse.get_set_self Ecc.ok x.ecc w Ecc.ok
  next => exact Sparse.get_set_self Ecc.ok x.ecc w Ecc.ok

end

theorem tileStoreScrub_claimed {s : State} {t word : Nat} (ht : t < 1536) (h : (s.tile t).claimed (bankOf (8 * word)) = true) :
    exec (.tileStoreScrub t word) s = .next (s.setTile t (s.tile t)) := by
  show execTileStoreScrub t word s = _
  unfold execTileStoreScrub
  rw [onTile_next ht, if_neg (by simp [h]), State.afterTile_same _ _ _ rfl]

theorem tileStoreScrub_free {s : State} {t word : Nat} (ht : t < 1536) (hw : word < 49152)
    (h : (s.tile t).claimed (bankOf (8 * word)) = false) :
    exec (.tileStoreScrub t word) s = .next (s.setTile t ((s.tile t).checkWord word)) := by
  show execTileStoreScrub t word s = _
  unfold execTileStoreScrub
  rw [onTile_next ht, if_pos ⟨hw, by simp [h]⟩, State.afterTile_same _ _ _ (by rw [Tile.checkWord_frame])]

/-! ### Basin's retries -/

/-- The error state of word w recorded as `e`. -/
def State.setErr (s : State) (w : Nat) (e : Ecc) : State := { s with mem := { s.mem with ecc := Sparse.set Ecc.ok s.mem.ecc w e } }

theorem State.setErr_err (s : State) (w : Nat) (e : Ecc) : Sparse.get Ecc.ok (s.setErr w e).mem.ecc w = e := Sparse.get_set_self ..

/-- A lost word is poisoned, counted, and has no error left. -/
theorem State.memUe_word (s : State) (w : Nat) :
    Sparse.get Ecc.ok (s.memUe w).mem.ecc w = .ok ∧ (s.memUe w).mem.wordPz w = true ∧
      Sparse.get 0 (s.memUe w).mem.cnt (if s.inTerrace w then 0x00C else 0x004) =
        sat32 (Sparse.get 0 s.mem.cnt (if s.inTerrace w then 0x00C else 0x004)) 1 :=
  ⟨Sparse.get_set_self Ecc.ok s.mem.ecc w Ecc.ok, Sparse.get_set_self false s.mem.pz w true, Sparse.get_set_self 0 s.mem.cnt _ _⟩

theorem basinReadRetry_held {s : State} (h : s.vent.startup.held = true) (word : Nat) (ok : Bool) :
    exec (.basinReadRetry word ok) s = .next s := by
  show execBasinReadRetry word ok s = _
  unfold execBasinReadRetry
  simp only
  rw [if_pos h]

/-- What a reread of a word leaves where the module is not held. -/
def State.reread (s : State) (w : Nat) (ok : Bool) : State :=
  match Sparse.get Ecc.ok s.mem.ecc w with
  | .ok => if ok then s.memBump 0x010 1 else if s.inTerrace w then s.memUe w else s.setErr w .path1
  | .ce => if ok then (s.memCheckWord w).memBump 0x010 1 else if s.inTerrace w then s.memUe w else s.setErr w .path1
  | .ue => if s.inTerrace w then s.memUe w else s.setErr w .ue1
  | .ue1 => s.memUe w
  | .path => if ok then (s.setErr w .ok).memBump 0x010 1 else if s.inTerrace w then s.memUe w else s.setErr w .path1
  | .path1 => if ok then (s.setErr w .ok).memBump 0x010 1 else s.memUe w

theorem basinReadRetry_next {s : State} (h : s.vent.startup.held = false) (word : Nat) (ok : Bool) :
    exec (.basinReadRetry word ok) s = .next (s.reread word ok) := by
  show execBasinReadRetry word ok s = _
  unfold execBasinReadRetry State.reread
  simp only
  rw [if_neg (by simp [h])]
  cases Sparse.get Ecc.ok s.mem.ecc word <;> rfl

section
variable {s : State} {w : Nat} {ok : Bool}

/-- A stored error in Basin fails its first reread. -/
theorem State.reread_ue (h : Sparse.get Ecc.ok s.mem.ecc w = .ue) (ht : s.inTerrace w = false) : s.reread w ok = s.setErr w .ue1 := by
  unfold State.reread
  rw [h]
  exact if_neg (by simp [ht])

/-- An error of the read path in Basin that its first reread meets again. -/
theorem State.reread_path (h : Sparse.get Ecc.ok s.mem.ecc w = .ok ∨ Sparse.get Ecc.ok s.mem.ecc w = .ce ∨ Sparse.get Ecc.ok s.mem.ecc w = .path)
    (ht : s.inTerrace w = false) : s.reread w false = s.setErr w .path1 := by
  unfold State.reread
  obtain h | h | h := h
  all_goals
    rw [h]
    exact (if_neg (by simp)).trans (if_neg (by simp [ht]))

/-- The last reread fails: the word is lost. -/
theorem State.reread_lost (h : Sparse.get Ecc.ok s.mem.ecc w = .ue1 ∨ (Sparse.get Ecc.ok s.mem.ecc w = .ue ∧ s.inTerrace w = true) ∨
      (ok = false ∧ (Sparse.get Ecc.ok s.mem.ecc w = .path1 ∨ (s.inTerrace w = true ∧
        (Sparse.get Ecc.ok s.mem.ecc w = .ok ∨ Sparse.get Ecc.ok s.mem.ecc w = .ce ∨ Sparse.get Ecc.ok s.mem.ecc w = .path))))) :
    s.reread w ok = s.memUe w := by
  unfold State.reread
  obtain h | ⟨h, ht⟩ | ⟨rfl, h | ⟨ht, h | h | h⟩⟩ := h
  · rw [h]
  · rw [h]; exact if_pos ht
  · rw [h]; exact if_neg (by simp)
  all_goals
    rw [h]
    exact (if_neg (by simp)).trans (if_pos ht)

/-- A retry that cleared the error of its word. -/
theorem State.setErr_memBump (s : State) (w : Nat) :
    Sparse.get Ecc.ok ((s.setErr w .ok).memBump 0x010 1).mem.ecc w = .ok ∧ ((s.setErr w .ok).memBump 0x010 1).mem.pz = s.mem.pz ∧
      Sparse.get 0 ((s.setErr w .ok).memBump 0x010 1).mem.cnt 0x010 = sat32 (Sparse.get 0 s.mem.cnt 0x010) 1 :=
  ⟨s.setErr_err w .ok, rfl, Sparse.get_set_self 0 s.mem.cnt _ _⟩

/-- The reread succeeds: the word has no error left, and the retry is counted. -/
theorem State.reread_good (h1 : Sparse.get Ecc.ok s.mem.ecc w ≠ .ue) (h2 : Sparse.get Ecc.ok s.mem.ecc w ≠ .ue1) :
    Sparse.get Ecc.ok (s.reread w true).mem.ecc w = .ok ∧ (s.reread w true).mem.pz = s.mem.pz ∧
      Sparse.get 0 (s.reread w true).mem.cnt 0x010 = sat32 (Sparse.get 0 s.mem.cnt 0x010) 1 := by
  unfold State.reread
  cases h : Sparse.get Ecc.ok s.mem.ecc w with
  | ok => exact ⟨h, rfl, Sparse.get_set_self 0 s.mem.cnt _ _⟩
  | ce =>
    simp only [if_true]
    unfold State.memCheckWord
    rw [if_pos h]
    refine ⟨s.setErr_err w .ok, rfl, (Sparse.get_set_self 0 _ _ _).trans (congrArg (sat32 · 1) (Sparse.get_set_ne 0 s.mem.cnt _ ?_))⟩
    split <;> decide
  | ue => exact absurd h h1
  | ue1 => exact absurd h h2
  | path => exact s.setErr_memBump w
  | path1 => exact s.setErr_memBump w

/-- A reread changes no byte and no tile. -/
theorem State.reread_frame (s : State) (w : Nat) (ok : Bool) :
    (s.reread w ok).mem.data = s.mem.data ∧ (s.reread w ok).tiles = s.tiles := by
  unfold State.reread State.memCheckWord
  split
  next => split_ifs <;> exact ⟨rfl, rfl⟩
  next => split_ifs <;> exact ⟨rfl, rfl⟩
  next => split_ifs <;> exact ⟨rfl, rfl⟩
  next => exact ⟨rfl, rfl⟩
  next => split_ifs <;> exact ⟨rfl, rfl⟩
  next => split_ifs <;> exact ⟨rfl, rfl⟩

end

end Sys2Proof.Machine

/-!
PROOFS. The pages of Terrace (O26): what a schedule entry, a promotion, a write-back and a frame grant do to a page's entry, and what they leave.
-/
namespace Sys2Proof.Machine

/-! ### What operations on pages leave -/

/-- The state without the page directory and the migration engine's lists and counters, and without the recorded errors of words. -/
def State.besidePages (s : State) : State :=
  { s with mem := { s.mem with ecc := [] }, mig := { Mig.reset with sched := s.mig.sched, sstep := s.mig.sstep } }

/-- The parts of the state that neither an operation on pages nor a read of the device range changes. -/
def State.besideRead (s : State) :=
  (s.mem.data, s.mem.wins, s.tiles, s.ports, s.vent, s.cal, s.mig.sched, s.mig.sstep, s.coll, s.host.inside)

theorem State.besideRead_eq {s u : State} (h : u.besidePages = s.besidePages) : u.besideRead = s.besideRead := by
  have h' : u.besidePages.besideRead = s.besidePages.besideRead := congrArg State.besideRead h
  exact h'

/-- The frame of page p lingers for the feeds that still read it. -/
def State.lingers (s : State) (p : Nat) : State :=
  if (s.readersOf p).isEmpty then s
  else { s with mig := { s.mig with linger := s.mig.linger ++ [((s.page p).part, (s.page p).frame, s.readersOf p)] } }

/-- A further Terrace cycle of the engine. -/
def State.nextApply (s : State) : State := { s with mig := { s.mig with applyNo := s.mig.applyNo + 1 } }

/-- The fired entries not yet applied. -/
def State.setFired (s : State) (l : List (Nat × SchedEnt × Nat)) : State := { s with mig := { s.mig with fired := l } }

section
variable (s : State) (p q part f n : Nat) (x : Page) (l : List Nat) (lf : List (Nat × SchedEnt × Nat))

@[simp] theorem State.page_setPage : (s.setPage p x).page p = x := Sparse.get_set_self Page.home s.mig.pages p x
@[simp] theorem State.page_migBump : (s.migBump f n).page q = s.page q := rfl
@[simp] theorem State.page_setWaitList : (s.setWaitList part l).page q = s.page q := rfl
@[simp] theorem State.page_dropErrors : (s.dropErrors p).page q = s.page q := rfl
@[simp] theorem State.page_pinError : s.pinError.page q = s.page q := rfl
@[simp] theorem State.page_nextApply : s.nextApply.page q = s.page q := rfl
@[simp] theorem State.page_setFired : (s.setFired lf).page q = s.page q := rfl
@[simp] theorem State.waitList_setPage : (s.setPage p x).waitList part = s.waitList part := rfl
@[simp] theorem State.page_lingers : (s.lingers p).page q = s.page q := by
  unfold State.lingers
  split_ifs <;> rfl
theorem State.page_startPromotion : (s.startPromotion p part f).page p =
    { s.page p with st := .promoting, part := part, frame := f, queued := none } := by
  unfold State.startPromotion
  rw [State.page_migBump, State.page_setPage]

@[simp] theorem State.besidePages_setPage : (s.setPage p x).besidePages = s.besidePages := rfl
@[simp] theorem State.besidePages_migBump : (s.migBump f n).besidePages = s.besidePages := rfl
@[simp] theorem State.besidePages_setWaitList : (s.setWaitList part l).besidePages = s.besidePages := rfl
@[simp] theorem State.besidePages_dropErrors : (s.dropErrors p).besidePages = s.besidePages := rfl
@[simp] theorem State.besidePages_pinError : s.pinError.besidePages = s.besidePages := rfl
@[simp] theorem State.besidePages_nextApply : s.nextApply.besidePages = s.besidePages := rfl
@[simp] theorem State.besidePages_setFired : (s.setFired lf).besidePages = s.besidePages := rfl
@[simp] theorem State.besidePages_startPromotion : (s.startPromotion p part f).besidePages = s.besidePages := rfl
@[simp] theorem State.besidePages_joinWait : (s.joinWait p part).besidePages = s.besidePages := rfl
@[simp] theorem State.besidePages_lingers : (s.lingers p).besidePages = s.besidePages := by
  unfold State.lingers
  split_ifs <;> rfl

end

/-! ### Evictions -/

section
variable {s : State} {p : Nat}

theorem State.evict_resident (h : (s.page p).st = .resident) :
    s.evict p = (((s.lingers p).dropErrors p).setPage p { Page.home with pins := (s.page p).pins }).migBump 0x024 1 := by
  unfold State.evict
  simp only [h]
  rfl

theorem State.evict_dirty (h : (s.page p).st = .dirty) :
    s.evict p = (s.setPage p { s.page p with st := .evicting, keep := false, evpend := false, emptyAt := 0 }).migBump 0x024 1 := by
  unfold State.evict
  simp only [h]

theorem State.evict_other (h1 : (s.page p).st ≠ .resident) (h2 : (s.page p).st ≠ .dirty) : s.evict p = s := by
  unfold State.evict
  cases h : (s.page p).st with
  | resident => exact absurd h h1
  | dirty => exact absurd h h2
  | home => simp only [h]
  | promoting => simp only [h]
  | evicting => simp only [h]

@[simp] theorem State.besidePages_evict (s : State) (p : Nat) : (s.evict p).besidePages = s.besidePages := by
  by_cases h1 : (s.page p).st = .resident
  · rw [State.evict_resident h1]; simp
  · by_cases h2 : (s.page p).st = .dirty
    · rw [State.evict_dirty h2]; simp
    · rw [State.evict_other h1 h2]

theorem State.page_evict_resident (h : (s.page p).st = .resident) : (s.evict p).page p = { Page.home with pins := (s.page p).pins } := by
  rw [State.evict_resident h, State.page_migBump, State.page_setPage]

theorem State.page_evict_dirty (h : (s.page p).st = .dirty) :
    (s.evict p).page p = { s.page p with st := .evicting, keep := false, evpend := false, emptyAt := 0 } := by
  rw [State.evict_dirty h, State.page_migBump, State.page_setPage]

/-- The unpin rule evicts a page in a frame that no user pins and that is not kept, or whose eviction is asked for. -/
theorem State.unpinRule_evicts (hp : (s.page p).pins = []) (hst : (s.page p).st = .resident ∨ (s.page p).st = .dirty)
    (hk : (s.page p).keep = false ∨ (s.page p).evpend = true) : s.unpinRule p = s.evict p := by
  have hc : ((s.page p).evpend || !(s.page p).keep) = true := by
    obtain hk | hk := hk <;> simp [hk]
  unfold State.unpinRule
  simp [hp, hst, hc]

/-- It leaves any other page. -/
theorem State.unpinRule_keeps (h : (s.page p).pins ≠ [] ∨ ((s.page p).keep = true ∧ (s.page p).evpend = false)) : s.unpinRule p = s := by
  unfold State.unpinRule
  obtain hp | ⟨hk, he⟩ := h
  · simp [hp]
  · simp [hk, he]

@[simp] theorem State.besidePages_unpinRule (s : State) (p : Nat) : (s.unpinRule p).besidePages = s.besidePages := by
  unfold State.unpinRule
  simp only
  split_ifs
  · exact s.besidePages_evict p
  · rfl

end

/-! ### Promotions -/

/-- A listed value changed for another changes no test that both fail. -/
theorem Sparse.any_put {α : Type} (d : α) {P : α → Bool} {v : α} {k : Nat} (m : Sparse α) (hv : P v = false) (hk : P (Sparse.get d m k) = false) :
    (Sparse.put m k v).any (fun e => P e.2) = m.any fun e => P e.2 := by
  induction m with
  | nil => simp [Sparse.put, hv]
  | cons e m ih =>
    obtain ⟨i, w⟩ := e
    by_cases hi : k = i
    · have hw : P w = false := by simpa [Sparse.get, hi] using hk
      simp [Sparse.put, hi, hv, hw]
    · have hk' : P (Sparse.get d m k) = false := by simpa [Sparse.get, hi] using hk
      by_cases hlt : k < i
      · simp [Sparse.put, hi, hlt, hv]
      · simp [Sparse.put, hi, hlt, ih hk']

section
variable {s : State} {p part f u : Nat} {k : Bool} {x : Page}

/-- A page at home, written as another page at home, holds no frame before or after. -/
theorem State.freeFrame_setPage (hs : (s.page p).st = .home) (hx : x.st = .home) (hd : x ≠ Page.home) :
    (s.setPage p x).freeFrame part = s.freeFrame part := by
  have hu (g : Nat) : (s.setPage p x).frameUsed part g = s.frameUsed part g := by
    refine congrArg (· || s.mig.linger.any fun l => l.1 == part && l.2.1 == g) ?_
    show (Sparse.set Page.home s.mig.pages p x).any (fun e => decide (e.2.st ≠ .home) && e.2.part == part && e.2.frame == g) = _
    rw [show Sparse.set Page.home s.mig.pages p x = Sparse.put s.mig.pages p x from if_neg hd]
    exact Sparse.any_put Page.home (P := fun y => decide (y.st ≠ .home) && y.part == part && y.frame == g) s.mig.pages (by simp [hx])
      (by simp [show (Sparse.get Page.home s.mig.pages p).st = .home from hs])
  unfold State.freeFrame
  simp only [hu]

theorem State.promoteInto_free (hw : s.waitList part = []) (hf : s.freeFrame part = some f) : s.promoteInto p part = s.startPromotion p part f := by
  unfold State.promoteInto
  simp [hw, hf]

@[simp] theorem State.besidePages_promoteInto (s : State) (p part : Nat) : (s.promoteInto p part).besidePages = s.besidePages := by
  unfold State.promoteInto
  split
  next => rfl
  next =>
    split
    next =>
      simp only
      split
      next => simp
      next => simp
    next => simp

theorem State.promote_member (h : u ∈ (s.page p).pins) : s.promote p u part k = s := by
  unfold State.promote
  simp [h]

theorem State.promote_refused (h : u ∉ (s.page p).pins) (hu : u = 0xFFF ∨ 15 ≤ (s.page p).pins.length) : s.promote p u part k = s.pinError := by
  unfold State.promote
  simp [h, hu]

/-- Page p with user u in its pin set. -/
def State.pinned (s : State) (p u : Nat) (k : Bool) : Page := { s.page p with pins := (s.page p).pins ++ [u], keep := (s.page p).keep || k }

/-- A promotion of a page that has a frame, or is about to have one, only pins it. -/
theorem State.promote_inFrame (h : u ∉ (s.page p).pins) (hu : u ≠ 0xFFF) (hl : (s.page p).pins.length < 15)
    (hst : (s.page p).st = .promoting ∨ (s.page p).st = .resident ∨ (s.page p).st = .dirty) :
    s.promote p u part k = s.setPage p (s.pinned p u k) := by
  unfold State.promote
  obtain hst | hst | hst := hst
  all_goals simp [h, hu, hst, hl, State.pinned]

/-- A promotion of a page at home that no promotion waits for. -/
theorem State.promote_home (h : u ∉ (s.page p).pins) (hu : u ≠ 0xFFF) (hl : (s.page p).pins.length < 15)
    (hst : (s.page p).st = .home) (hq : (s.page p).queued = none) :
    s.promote p u part k = (s.setPage p (s.pinned p u k)).promoteInto p part := by
  unfold State.promote
  simp [h, hu, hst, hl, hq, State.pinned]

theorem State.promote_free (h : u ∉ (s.page p).pins) (hu : u ≠ 0xFFF) (hl : (s.page p).pins.length < 15)
    (hst : (s.page p).st = .home) (hq : (s.page p).queued = none) (hw : s.waitList part = []) (hf : s.freeFrame part = some f) :
    s.promote p u part k = (s.setPage p (s.pinned p u k)).startPromotion p part f := by
  have hd : s.pinned p u k ≠ Page.home := fun e => by simpa [State.pinned, Page.home] using congrArg Page.pins e
  have hx : (s.pinned p u k).st = .home := hst
  rw [State.promote_home h hu hl hst hq]
  exact State.promoteInto_free hw ((State.freeFrame_setPage hst hx hd).trans hf)

@[simp] theorem State.besidePages_promote (s : State) (p u part : Nat) (k : Bool) : (s.promote p u part k).besidePages = s.besidePages := by
  unfold State.promote
  simp only
  split
  next => simp
  next =>
    split
    next => simp
    next =>
      split
      next =>
        split
        next => simp
        next => simp
      next => simp
      next => simp

end

/-! ### Unpins and requests to evict -/

section
variable {s : State} {p u : Nat}

theorem State.unpin_stranger (h : u ∉ (s.page p).pins) : s.unpin p u = s.pinError := by
  unfold State.unpin
  simp [h]

/-- The last user of a page in a frame leaves it. -/
theorem State.unpin_last (h : (s.page p).pins = [u]) (hst : (s.page p).st = .resident ∨ (s.page p).st = .dirty) :
    s.unpin p u = (s.setPage p { s.page p with pins := [], emptyAt := s.mig.applyNo }).unpinRule p := by
  unfold State.unpin
  obtain hst | hst := hst
  all_goals simp [h, hst]

@[simp] theorem State.besidePages_unpin (s : State) (p u : Nat) : (s.unpin p u).besidePages = s.besidePages := by
  unfold State.unpin
  simp only
  split
  next => simp
  next =>
    split
    next =>
      split
      next => split <;> simp
      next => simp
    next => split <;> simp
    next => simp

theorem State.evictReq_promoting (h : (s.page p).st = .promoting) :
    s.evictReq p = (s.setPage p { s.page p with evpend := true }).migBump 0x02C 1 := by
  unfold State.evictReq
  simp only [h]

@[simp] theorem State.besidePages_evictReq (s : State) (p : Nat) : (s.evictReq p).besidePages = s.besidePages := by
  unfold State.evictReq
  simp only
  split
  next => simp
  next => simp
  next => simp
  next =>
    split
    next => simp
    next => simp

@[simp] theorem State.besidePages_applyEntry (s : State) (e : SchedEnt) (p : Nat) : (s.applyEntry e p).besidePages = s.besidePages := by
  unfold State.applyEntry
  split <;> simp

@[simp] theorem State.besidePages_applyPages (n : Nat) (s : State) : (State.applyPages n s).besidePages = s.besidePages := by
  induction n generalizing s with
  | zero => rfl
  | succ n ih =>
    unfold State.applyPages
    split
    next => rfl
    next => exact (ih _).trans (s.besidePages_applyEntry _ _)

end

end Sys2Proof.Machine

/-!
PROOFS. The page instructions (O26): a schedule entry applied, a promotion and a write-back that end, a frame granted.
-/
namespace Sys2Proof.Machine

/-! ### The reads of a copy -/

/-- An event leaves the commands that a reset left inside Vent. -/
theorem HostIface.inside_post (h : HostIface) (p : Ptp) (typ : Nat) (detail : List Byte) : (h.post p typ detail).inside = h.inside := by
  have hm (h : HostIface) (v : Nat) : (h.msi v).inside = h.inside := by
    unfold HostIface.msi
    split_ifs <;> rfl
  have hw (h : HostIface) (typ : Nat) (detail : List Byte) : (h.writeEvent p typ detail).inside = h.inside := by
    unfold HostIface.writeEvent
    exact hm _ 1
  unfold HostIface.post
  simp only
  split
  next => rfl
  next =>
    split
    next => rfl
    next =>
      by_cases hl : h.lostPend = 0
      · rw [if_pos hl]
        split
        next => rfl
        next => exact hw h typ detail
      · rw [if_neg hl]
        split
        next => exact hw h 0x0C _
        next => exact (hw _ typ detail).trans (hw h 0x0C _)

section
variable (s : State) (w a n : Nat)

theorem State.besideRead_memCheckWord : (s.memCheckWord w).besideRead = s.besideRead := by
  unfold State.memCheckWord
  split_ifs <;> rfl

theorem State.besideRead_memUe : (s.memUe w).besideRead = s.besideRead := by
  have hi : (s.memUe w).host.inside = s.host.inside := HostIface.inside_post ..
  unfold State.besideRead
  rw [hi]
  rfl

theorem State.besideRead_memSettle : (s.memSettle w).besideRead = s.besideRead := by
  unfold State.memSettle
  simp only
  split_ifs
  · exact s.besideRead_memCheckWord w
  · exact State.besideRead_memUe { s with free := s.free + 1 } w
  · rfl

@[simp] theorem State.besideRead_memRead : (s.memRead a n).besideRead = s.besideRead :=
  foldl_keep State.besideRead (fun (u : State) (e : Nat × Ecc) => u.memSettle e.1) (fun u e => u.besideRead_memSettle e.1) _ s

theorem State.memRead_clean {s : State} (h : s.mem.ecc = []) : s.memRead a n = s := by
  unfold State.memRead
  rw [h]
  rfl

/-- Where no collective waits, none goes on. -/
theorem State.retryColl_idle {s : State} (h : s.coll.waiting = []) : s.retryColl = s := by
  unfold State.retryColl
  rw [h]
  rfl

end

theorem State.besideRead_iff {s u : State} : u.besideRead = s.besideRead ↔
    u.mem.data = s.mem.data ∧ u.mem.wins = s.mem.wins ∧ u.tiles = s.tiles ∧ u.ports = s.ports ∧ u.vent = s.vent ∧ u.cal = s.cal ∧
      u.mig.sched = s.mig.sched ∧ u.mig.sstep = s.mig.sstep ∧ u.coll = s.coll ∧
      u.host.inside = s.host.inside := by
  simp only [State.besideRead, Prod.mk.injEq]

/-- A state that differs from one without waiting collectives in pages and reads alone has none either. -/
theorem State.retryColl_of_besideRead {s u : State} (hw : s.coll.waiting = []) (h : u.besideRead = s.besideRead) : u.retryColl = u := by
  obtain ⟨-, -, -, -, -, -, -, -, hc, -⟩ := State.besideRead_iff.mp h
  exact State.retryColl_idle (hc ▸ hw)

/-! ### The instructions -/

section
variable {s : State}

theorem scheduleEntryApply_held (h : s.vent.startup.held = true) (n : Nat) : exec (.scheduleEntryApply n) s = .next s := by
  show execScheduleEntryApply n s = _
  unfold execScheduleEntryApply
  rw [if_pos h]

theorem scheduleEntryApply_next (h : s.vent.startup.held = false) (n : Nat) :
    exec (.scheduleEntryApply n) s = .next (State.applyPages (min n 4) s.nextApply) := by
  show execScheduleEntryApply n s = _
  unfold execScheduleEntryApply
  rw [if_neg (by simp [h])]
  rfl

/-- One page of the oldest fired entry. -/
theorem scheduleEntryApply_one (h : s.vent.startup.held = false) {ss done : Nat} {e : SchedEnt} {rest : List (Nat × SchedEnt × Nat)}
    (hf : s.mig.fired = (ss, e, done) :: rest) :
    exec (.scheduleEntryApply 1) s = .next ((s.nextApply.applyEntry e (e.first + done)).setFired
      (if done + 1 < e.npages then (ss, e, done + 1) :: rest else rest)) := by
  have hf' : s.nextApply.mig.fired = (ss, e, done) :: rest := hf
  rw [scheduleEntryApply_next h]
  show Host.Outcome.next (State.applyPages 1 s.nextApply) = _
  unfold State.applyPages
  rw [hf']
  rfl

/-- A page whose promotion has ended. -/
def State.promoted (s : State) (page : Nat) : State :=
  ((s.memRead (65536 * page) 65536).setPage page { s.page page with st := .resident }).unpinRule page

theorem promotionComplete_next (hw : s.coll.waiting = []) {page : Nat} (h : (s.page page).st = .promoting) :
    exec (.promotionComplete page) s = .next (s.promoted page) := by
  have hb : (s.promoted page).besideRead = s.besideRead :=
    (State.besideRead_eq ((State.besidePages_unpinRule ..).trans (State.besidePages_setPage ..))).trans (s.besideRead_memRead _ _)
  show execPromotionComplete page s = _
  unfold execPromotionComplete
  simp only
  rw [if_pos h]
  exact congrArg Host.Outcome.next (State.retryColl_of_besideRead hw hb)

theorem promotionComplete_idle {page : Nat} (h : (s.page page).st ≠ .promoting) : exec (.promotionComplete page) s = .next s := by
  show execPromotionComplete page s = _
  unfold execPromotionComplete
  simp only
  rw [if_neg h]

/-- A page whose write-back has ended, before a promotion that waits for it. -/
def State.writtenBack (s : State) (page : Nat) : State :=
  ((s.lingers page).memRead (65536 * page) 65536).setPage page
    { s.page page with st := .home, part := 0, frame := 0, emptyAt := 0, queued := none }

/-- With the promotion that waits for it, where a user still pins the page. -/
def State.writtenBackOn (s : State) (page : Nat) : State :=
  if (s.page page).queued.isSome && !(s.page page).pins.isEmpty then (s.writtenBack page).promoteInto page ((s.page page).queued.getD 0)
  else s.writtenBack page

theorem State.besideRead_writtenBackOn (s : State) (page : Nat) : (s.writtenBackOn page).besideRead = s.besideRead := by
  have hb : (s.writtenBack page).besideRead = s.besideRead :=
    (State.besideRead_eq (State.besidePages_setPage ..)).trans
      (((s.lingers page).besideRead_memRead _ _).trans (State.besideRead_eq (s.besidePages_lingers page)))
  unfold State.writtenBackOn
  split_ifs
  · exact (State.besideRead_eq (State.besidePages_promoteInto ..)).trans hb
  · exact hb

theorem writeBackComplete_next (hw : s.coll.waiting = []) {page : Nat} (h : (s.page page).st = .evicting) :
    exec (.writeBackComplete page) s = .next (s.writtenBackOn page) := by
  have hb := State.retryColl_of_besideRead hw (s.besideRead_writtenBackOn page)
  rw [← hb]
  unfold State.writtenBackOn
  show execWriteBackComplete page s = _
  unfold execWriteBackComplete
  simp only
  rw [if_neg (not_not.mpr h)]
  cases hq : (s.page page).queued with
  | none => rfl
  | some part =>
    by_cases hp : (s.page page).pins.isEmpty = true
    · simp only [hp, if_true]
      rfl
    · simp only [hp]
      rfl

theorem writeBackComplete_idle {page : Nat} (h : (s.page page).st ≠ .evicting) : exec (.writeBackComplete page) s = .next s := by
  show execWriteBackComplete page s = _
  unfold execWriteBackComplete
  simp only
  rw [if_pos h]

theorem frameWaitGrant_next {part p f : Nat} {rest : List Nat} (hw : s.waitList part = p :: rest) (hf : s.freeFrame part = some f) :
    exec (.frameWaitGrant part) s = .next ((s.setWaitList part rest).startPromotion p part f) := by
  show execFrameWaitGrant part s = _
  unfold execFrameWaitGrant
  rw [hw, hf]

theorem frameWaitGrant_idle {part : Nat} (h : s.waitList part = [] ∨ s.freeFrame part = none) : exec (.frameWaitGrant part) s = .next s := by
  show execFrameWaitGrant part s = _
  unfold execFrameWaitGrant
  obtain h | h := h
  · rw [h]
  · rw [h]
    cases s.waitList part <;> rfl

end

end Sys2Proof.Machine

/-!
PROOFS. What the page instructions keep, and the page of an unpin (O26).
-/
namespace Sys2Proof.Machine

/-! ### What the page instructions leave -/

/-- The instruction takes s to a state of which all that pages and reads do not hold is as in s; without errors to find in its reads (`clean`),
all that pages do not hold. -/
def State.KeepsBesidePages (s : State) (c : Instr) (clean : Prop) : Prop :=
  ∃ u : State, exec c s = .next u ∧ u.besideRead = s.besideRead ∧ (clean → u.besidePages = s.besidePages)

section
variable {s : State}

theorem State.keepsBesidePages_of_besidePages {c : Instr} {u : State} (he : exec c s = .next u) (h : u.besidePages = s.besidePages) (clean : Prop) :
    s.KeepsBesidePages c clean :=
  ⟨u, he, State.besideRead_eq h, fun _ => h⟩

theorem State.KeepsBesidePages.imp {c : Instr} {a b : Prop} (h : s.KeepsBesidePages c a) (hab : b → a) : s.KeepsBesidePages c b := by
  obtain ⟨u, he, hr, hp⟩ := h
  exact ⟨u, he, hr, fun hb => hp (hab hb)⟩

theorem scheduleEntryApply_keeps (n : Nat) (clean : Prop) : s.KeepsBesidePages (.scheduleEntryApply n) clean := by
  cases h : s.vent.startup.held with
  | true => exact State.keepsBesidePages_of_besidePages (scheduleEntryApply_held h n) rfl clean
  | false =>
    exact State.keepsBesidePages_of_besidePages (scheduleEntryApply_next h n) ((State.besidePages_applyPages ..).trans s.besidePages_nextApply) clean

theorem frameWaitGrant_keeps (part : Nat) (clean : Prop) : s.KeepsBesidePages (.frameWaitGrant part) clean := by
  cases hw : s.waitList part with
  | nil => exact State.keepsBesidePages_of_besidePages (frameWaitGrant_idle (.inl hw)) rfl clean
  | cons p rest =>
    cases hf : s.freeFrame part with
    | none => exact State.keepsBesidePages_of_besidePages (frameWaitGrant_idle (.inr hf)) rfl clean
    | some f => exact State.keepsBesidePages_of_besidePages (frameWaitGrant_next hw hf) rfl clean

theorem State.besideRead_promoted (s : State) (page : Nat) : (s.promoted page).besideRead = s.besideRead :=
  (State.besideRead_eq ((State.besidePages_unpinRule ..).trans (State.besidePages_setPage ..))).trans (s.besideRead_memRead _ _)

theorem State.besidePages_promoted (h : s.mem.ecc = []) (page : Nat) : (s.promoted page).besidePages = s.besidePages := by
  unfold State.promoted
  rw [State.memRead_clean _ _ h, State.besidePages_unpinRule, State.besidePages_setPage]

theorem State.besidePages_writtenBackOn (h : s.mem.ecc = []) (page : Nat) : (s.writtenBackOn page).besidePages = s.besidePages := by
  have he : (s.lingers page).mem.ecc = [] := by
    unfold State.lingers
    split_ifs <;> exact h
  have hb : (s.writtenBack page).besidePages = s.besidePages := by
    unfold State.writtenBack
    rw [State.memRead_clean _ _ he, State.besidePages_setPage, State.besidePages_lingers]
  unfold State.writtenBackOn
  split_ifs
  · exact (State.besidePages_promoteInto ..).trans hb
  · exact hb

theorem promotionComplete_keeps (hw : s.coll.waiting = []) (page : Nat) : s.KeepsBesidePages (.promotionComplete page) (s.mem.ecc = []) := by
  by_cases h : (s.page page).st = .promoting
  · exact ⟨_, promotionComplete_next hw h, s.besideRead_promoted page, fun he => State.besidePages_promoted he page⟩
  · exact State.keepsBesidePages_of_besidePages (promotionComplete_idle h) rfl _

theorem writeBackComplete_keeps (hw : s.coll.waiting = []) (page : Nat) : s.KeepsBesidePages (.writeBackComplete page) (s.mem.ecc = []) := by
  by_cases h : (s.page page).st = .evicting
  · exact ⟨_, writeBackComplete_next hw h, s.besideRead_writtenBackOn page, fun he => State.besidePages_writtenBackOn he page⟩
  · exact State.keepsBesidePages_of_besidePages (writeBackComplete_idle h) rfl _

theorem pageInstr_keeps (hw : s.coll.waiting = []) (n page part : Nat) :
    ∀ c ∈ [Instr.scheduleEntryApply n, .frameWaitGrant part, .promotionComplete page, .writeBackComplete page],
      s.KeepsBesidePages c (s.mem.ecc = [] ∨ c = .scheduleEntryApply n ∨ c = .frameWaitGrant part) := by
  intro c hc
  simp only [List.mem_cons, List.not_mem_nil, or_false] at hc
  obtain rfl | rfl | rfl | rfl := hc
  · exact scheduleEntryApply_keeps n _
  · exact frameWaitGrant_keeps part _
  · exact (promotionComplete_keeps hw page).imp fun h => h.resolve_right (by simp)
  · exact (writeBackComplete_keeps hw page).imp fun h => h.resolve_right (by simp)

end

/-! ### One page of a schedule entry -/

section
variable {s : State} {e : SchedEnt} {p : Nat}

theorem State.applyEntry_promote (h : e.act = 1) : s.applyEntry e p = s.promote p e.sid (s.partOf e.part p) e.keep := by
  unfold State.applyEntry
  simp only [h]

theorem State.applyEntry_unpin (h : e.act = 2) : s.applyEntry e p = s.unpin p e.sid := by
  unfold State.applyEntry
  simp only [h]

theorem State.applyEntry_evict (h : e.act = 3) : s.applyEntry e p = s.evictReq p := by
  unfold State.applyEntry
  simp only [h]

/-- The last user of a page that is not kept leaves it: the page leaves its frame. -/
theorem State.page_unpin_evicts {u : Nat} (hp : (s.page p).pins = [u]) (hk : (s.page p).keep = false ∨ (s.page p).evpend = true) :
    ((s.page p).st = .resident → ((s.unpin p u).page p).st = .home) ∧
    ((s.page p).st = .dirty → ((s.unpin p u).page p).st = .evicting ∧ ((s.unpin p u).page p).keep = false ∧
      ((s.unpin p u).page p).evpend = false) := by
  let v := s.setPage p { s.page p with pins := [], emptyAt := s.mig.applyNo }
  have hv : v.page p = { s.page p with pins := [], emptyAt := s.mig.applyNo } := s.page_setPage p _
  have hpv : (v.page p).pins = [] := by rw [hv]
  have hkv : (v.page p).keep = false ∨ (v.page p).evpend = true := by rw [hv]; exact hk
  constructor
  · intro hst
    have hsv : (v.page p).st = .resident := by rw [hv]; exact hst
    rw [State.unpin_last hp (.inl hst), State.unpinRule_evicts hpv (.inl hsv) hkv, State.page_evict_resident hsv]
    rfl
  · intro hst
    have hsv : (v.page p).st = .dirty := by rw [hv]; exact hst
    rw [State.unpin_last hp (.inr hst), State.unpinRule_evicts hpv (.inr hsv) hkv, State.page_evict_dirty hsv]
    exact ⟨rfl, rfl, rfl⟩

/-- A kept page stays in its frame without users. -/
theorem State.page_unpin_keeps {u : Nat} (hp : (s.page p).pins = [u]) (hst : (s.page p).st = .resident ∨ (s.page p).st = .dirty)
    (hk : (s.page p).keep = true) (he : (s.page p).evpend = false) :
    (s.unpin p u).page p = { s.page p with pins := [], emptyAt := s.mig.applyNo } := by
  rw [State.unpin_last hp hst, State.unpinRule_keeps (.inr (by rw [State.page_setPage]; exact ⟨hk, he⟩)), State.page_setPage]

end

end Sys2Proof.Machine

/-!
PROOFS. The obligation on pages and read errors (O26).
-/
namespace Sys2Proof.Machine

/-- One page of an entry that promotes. -/
theorem State.page_applyEntry_promote {s : State} {e : SchedEnt} {p : Nat} (he : e.act = 1) :
    (e.sid ∈ (s.page p).pins → s.applyEntry e p = s) ∧
    (e.sid ≠ 0xFFF → (s.page p).st = .home → (s.page p).queued = none → e.sid ∉ (s.page p).pins → (s.page p).pins.length < 15 →
      s.waitList (s.partOf e.part p) = [] → ∀ f, s.freeFrame (s.partOf e.part p) = some f →
        s.applyEntry e p = (s.setPage p (s.pinned p e.sid e.keep)).startPromotion p (s.partOf e.part p) f) ∧
    (e.sid ≠ 0xFFF → ((s.page p).st = .promoting ∨ (s.page p).st = .resident ∨ (s.page p).st = .dirty) → e.sid ∉ (s.page p).pins →
      (s.page p).pins.length < 15 → s.applyEntry e p = s.setPage p (s.pinned p e.sid e.keep)) ∧
    (e.sid ∉ (s.page p).pins → e.sid = 0xFFF ∨ 15 ≤ (s.page p).pins.length → s.applyEntry e p = s.pinError) := by
  rw [State.applyEntry_promote he]
  exact ⟨State.promote_member, fun hu hst hq hm hl hw f hf => State.promote_free hm hu hl hst hq hw hf,
    fun hu hst hm hl => State.promote_inFrame hm hu hl hst, State.promote_refused⟩

/-- A promotion by a schedule entry: the pinned page takes its frame. -/
theorem State.page_pinned_startPromotion {s : State} {p u part f : Nat} {k : Bool} (hq : (s.page p).queued = none) :
    ((s.setPage p (s.pinned p u k)).startPromotion p part f).page p =
      { s.page p with st := .promoting, part := part, frame := f, pins := (s.page p).pins ++ [u], keep := (s.page p).keep || k } := by
  rw [State.page_startPromotion, State.page_setPage]
  unfold State.pinned
  rw [← hq]

/-- A page whose promotion ends with users, or kept, is resident. -/
theorem State.page_promoted_stays {s : State} {page : Nat}
    (h : (s.page page).pins ≠ [] ∨ ((s.page page).keep = true ∧ (s.page page).evpend = false)) :
    (s.promoted page).page page = { s.page page with st := .resident } := by
  unfold State.promoted
  rw [State.unpinRule_keeps (by rw [State.page_setPage]; exact h), State.page_setPage]

/-- One whose last user has left during the promotion, and not kept, leaves its frame at once. -/
theorem State.page_promoted_leaves {s : State} {page : Nat} (hp : (s.page page).pins = [])
    (hk : (s.page page).keep = false ∨ (s.page page).evpend = true) : ((s.promoted page).page page).st = .home := by
  unfold State.promoted
  rw [State.unpinRule_evicts (by rw [State.page_setPage]; exact hp) (by rw [State.page_setPage]; exact .inl rfl)
    (by rw [State.page_setPage]; exact hk), State.page_evict_resident (by rw [State.page_setPage])]
  rfl

/-- A page written back for which no promotion waits is at home with its users. -/
theorem State.page_writtenBackOn {s : State} {page : Nat} (hq : (s.page page).queued = none) :
    (s.writtenBackOn page).page page = { s.page page with st := .home, part := 0, frame := 0, emptyAt := 0, queued := none } := by
  unfold State.writtenBackOn
  rw [if_neg (by simp [hq])]
  exact State.page_setPage _ _ _

theorem State.cnt_migBump (s : State) (o n : Nat) : Sparse.get 0 (s.migBump o n).mig.cnt o = sat32 (Sparse.get 0 s.mig.cnt o) n :=
  Sparse.get_set_self 0 s.mig.cnt o _

/-- What the check of a word of the tile store does by the word's error state. -/
theorem Tile.checkWord_counts (x : Tile) (w : Nat) :
    (Sparse.get Ecc.ok x.ecc w = .ce → (x.checkWord w).spz = x.spz ∧ Sparse.get 0 (x.checkWord w).cnt 0x810 = sat32 (Sparse.get 0 x.cnt 0x810) 1) ∧
    (Sparse.get Ecc.ok x.ecc w = .ue → (x.checkWord w).wordPz w = true ∧ Sparse.get 0 (x.checkWord w).cnt 0x814 = sat32 (Sparse.get 0 x.cnt 0x814) 1 ∧
      (x.checkWord w).reports = x.reports ++ [0x0102]) := by
  constructor
  · intro h
    rw [Tile.checkWord_of_ce h]
    exact ⟨rfl, Sparse.get_set_self 0 x.cnt _ _⟩
  · intro h
    rw [Tile.checkWord_of_ue h]
    exact ⟨Sparse.get_set_self false x.spz w true, Sparse.get_set_self 0 x.cnt _ _, rfl⟩

theorem State.besidePages_eq {s u : State} (h : u.besidePages = s.besidePages) : u.mem.pz = s.mem.pz ∧ u.host = s.host := by
  have hm : u.besidePages.mem.pz = s.besidePages.mem.pz := congrArg (fun v : State => v.mem.pz) h
  have hh : u.besidePages.host = s.besidePages.host := congrArg State.host h
  exact ⟨hm, hh⟩

/-- Settles O26: the scrubber and the rereads by the error state of their word; the page instructions by what each leaves (`pageInstr_keeps`) and
by the page's state where it is promoted, unpinned, evicted or granted a frame. -/
theorem pagesAndReadErrors : Obligations.PagesAndReadErrors := by
  unfold Obligations.PagesAndReadErrors
  refine ⟨⟨?_, ?_⟩, ?_, ?_, ?_, ?_, ?_, ?_⟩
  · intro s t word ht hw x k
    refine ⟨tileStoreScrub_claimed ht, fun hb => ⟨_, tileStoreScrub_free ht hw hb, ?_, ?_, Tile.checkWord_ecc _ _, Tile.checkWord_of_ok, ?_, ?_⟩⟩
    · intro a
      rw [Tile.checkWord_frame]
      rfl
    · intro r
      rw [Tile.checkWord_frame]
      exact ⟨rfl, rfl⟩
    · exact (Tile.checkWord_counts x word).1
    · exact (Tile.checkWord_counts x word).2
  · intro s word ok err tt
    refine ⟨fun h => basinReadRetry_held h word ok, fun h => ⟨_, basinReadRetry_next h word ok, (s.reread_frame word ok).1, (s.reread_frame word ok).2,
      ?_, ?_, ?_, ?_⟩⟩
    · intro he htt
      rw [State.reread_ue he htt]
      exact ⟨s.setErr_err word .ue1, rfl⟩
    · rintro rfl htt he
      rw [State.reread_path he htt]
      exact ⟨s.setErr_err word .path1, rfl⟩
    · intro he
      rw [State.reread_lost he]
      exact s.memUe_word word
    · rintro rfl h1 h2
      exact State.reread_good h1 h2
  · intro s n page part hw c hc
    obtain ⟨u, he, hr, hp⟩ := pageInstr_keeps hw n page part c hc
    obtain ⟨h1, h2, h3, h4, h5, h6, h7, h8, -⟩ := State.besideRead_iff.mp hr
    exact ⟨u, he, h1, h2, h3, h4, h5, h6, h7, h8, fun hc => State.besidePages_eq (hp hc)⟩
  · exact fun s n h => scheduleEntryApply_held h n
  · intro s ss done e rest hh hf
    have hx := scheduleEntryApply_one hh hf
    generalize e.first + done = p at hx ⊢
    intro q x part
    refine ⟨_, hx, rfl, ?_, ?_, ?_, ?_, ?_, ?_, ?_, ?_, ?_⟩
    · intro ha hm
      obtain ⟨h, -, -, -⟩ := State.page_applyEntry_promote (s := s.nextApply) (p := p) ha
      rw [h hm]
      exact ⟨rfl, rfl⟩
    · intro ha hu hst hq hm hl hw f hf
      obtain ⟨-, h, -, -⟩ := State.page_applyEntry_promote (s := s.nextApply) (p := p) ha
      rw [h hu hst hq hm hl hw f hf]
      exact ⟨State.page_pinned_startPromotion (s := s.nextApply) hq, State.cnt_migBump _ _ _⟩
    · intro ha hu hst hm hl
      obtain ⟨-, -, h, -⟩ := State.page_applyEntry_promote (s := s.nextApply) (p := p) ha
      rw [h hu hst hm hl]
      exact State.page_setPage _ _ _
    · intro ha hm hu
      obtain ⟨-, -, -, h⟩ := State.page_applyEntry_promote (s := s.nextApply) (p := p) ha
      rw [h hm hu]
      exact ⟨rfl, rfl, State.cnt_migBump _ _ _⟩
    · intro ha hp hst hk
      rw [State.applyEntry_unpin ha]
      exact (State.page_unpin_evicts (s := s.nextApply) hp hk).1 hst
    · intro ha hp hst hk
      rw [State.applyEntry_unpin ha]
      exact (State.page_unpin_evicts (s := s.nextApply) hp hk).2 hst
    · intro ha hp hst hk he
      rw [State.applyEntry_unpin ha]
      exact State.page_unpin_keeps (s := s.nextApply) hp hst hk he
    · intro ha hm
      rw [State.applyEntry_unpin ha, State.unpin_stranger (s := s.nextApply) hm]
      exact ⟨rfl, rfl⟩
    · intro ha hst
      rw [State.applyEntry_evict ha, State.evictReq_promoting (s := s.nextApply) hst]
      exact ⟨State.page_setPage _ _ _, State.cnt_migBump _ _ _⟩
  · intro s page hw hst
    exact ⟨_, promotionComplete_next hw hst, State.page_promoted_stays, State.page_promoted_leaves⟩
  · intro s page hw hst hq
    refine ⟨_, writeBackComplete_next hw hst, ?_⟩
    rw [State.page_writtenBackOn hq]
    exact ⟨rfl, rfl⟩
  · intro s part p f rest hw hf
    refine ⟨_, frameWaitGrant_next hw hf, Sparse.get_set_self [] s.mig.waits part rest, ?_⟩
    rw [State.page_startPromotion]
    exact ⟨rfl, rfl, rfl, rfl⟩

end Sys2Proof.Machine

/-!
PROOFS. Context images (O53): what a save writes and reads, what a restore changes.
-/
namespace Sys2Proof.Machine

/-! ### What a write of the device range leaves -/

section
variable (s : State)

/-- A page written is marked; nothing else changes. -/
theorem State.dirtyPage_frame (p : Nat) : (s.dirtyPage p).tiles = s.tiles ∧ (s.dirtyPage p).host.inside = s.host.inside := by
  unfold State.dirtyPage
  split_ifs <;> exact ⟨rfl, rfl⟩

theorem State.besideRead_memEdges (a n : Nat) : (s.memEdges a n).besideRead = s.besideRead := by
  unfold State.memEdges
  simp only
  split_ifs <;> simp

/-- A write keeps the tiles and the commands left inside Vent. -/
theorem State.memWrite_frame (a : Nat) (bs : List Byte) (pz : Nat → Bool) :
    (s.memWrite a bs pz).tiles = s.tiles ∧ (s.memWrite a bs pz).host.inside = s.host.inside := by
  have hr : (if bs.isEmpty then s else s.memEdges a bs.length).besideRead = s.besideRead := by
    split_ifs
    · rfl
    · exact s.besideRead_memEdges a bs.length
  obtain ⟨-, -, ht, -, -, -, -, -, -, hi⟩ := State.besideRead_iff.mp hr
  unfold State.memWrite
  simp only
  constructor
  · rw [foldl_keep State.tiles State.dirtyPage (fun u p => (u.dirtyPage_frame p).1)]
    exact ht
  · rw [foldl_keep (fun u : State => u.host.inside) State.dirtyPage (fun u p => (u.dirtyPage_frame p).2)]
    exact hi

end

/-! ### The save -/

section
variable {s : State} {r : List Byte}

theorem ctxSave_refused (h : s.Asks 0x0204 stRE (lenIs 8) r) {c : Nat} (ha : s.ctxAddr r = .error c) :
    exec .ctxSave s = .next (s.complete c []) := by
  show execCtxSave s = _
  unfold execCtxSave
  rw [mbox_run _ h]
  simp only [ha]

theorem ctxSave_busy (h : s.Asks 0x0204 stRE (lenIs 8) r) {a : Nat} (ha : s.ctxAddr r = .ok a)
    (hr : (s.tile (leAt r 0 2)).ctxReady = false) : exec .ctxSave s = .next (s.complete stNOT_QUIESCENT []) := by
  show execCtxSave s = _
  unfold execCtxSave
  rw [mbox_run _ h]
  simp only [ha, hr, Bool.not_false, if_true]

/-- The context of tile t written to address a. -/
def State.ctxSaved (s : State) (t a : Nat) : State :=
  (s.setTile t (s.tile t).ctxTouch).memWrite a ((s.tile t).ctxTouch.ctxBytes s.digest) fun _ => false

theorem ctxSave_saves (h : s.Asks 0x0204 stRE (lenIs 8) r) {a : Nat} (ha : s.ctxAddr r = .ok a)
    (hr : (s.tile (leAt r 0 2)).ctxReady = true) : exec .ctxSave s = .next ((s.ctxSaved (leAt r 0 2) a).complete stOK []) := by
  show execCtxSave s = _
  unfold execCtxSave State.ctxSaved
  rw [mbox_run _ h]
  simp [ha, hr]

theorem State.ctxSaved_frame (s : State) (t a : Nat) :
    (s.ctxSaved t a).mem.data = Sparse.setRun 0 s.mem.data a ((s.tile t).ctxTouch.ctxBytes s.digest) ∧
    (s.ctxSaved t a).host.inside = s.host.inside := by
  unfold State.ctxSaved
  generalize (s.tile t).ctxTouch.ctxBytes s.digest = bs
  exact ⟨State.memWrite_data .., (State.memWrite_frame ..).2⟩

/-- The tiles depend on the store of tiles alone. -/
theorem State.tile_of_tiles {u : State} {t k : Nat} {x : Tile} (h : u.tiles = (s.setTile t x).tiles) :
    u.tile k = if k = t then x else s.tile k := by
  rw [← State.tile_setTile]
  unfold State.tile
  rw [h]

theorem State.tile_ctxSaved (s : State) (t a k : Nat) : (s.ctxSaved t a).tile k = if k = t then (s.tile t).ctxTouch else s.tile k := by
  unfold State.ctxSaved
  generalize (s.tile t).ctxTouch.ctxBytes s.digest = bs
  exact State.tile_of_tiles (State.memWrite_frame ..).1

end

/-! ### The restore -/

section
variable {s u : State}

/-- What the tree's nodes hold depends on the tiles and the grid alone. -/
theorem State.heldVal_congr (ht : u.tiles = s.tiles) (hr : u.rows = s.rows) (n g : Nat) : u.heldVal n g = s.heldVal n g := by
  induction n generalizing g with
  | zero =>
    unfold State.heldVal State.tile
    rw [ht]
  | succ n ih =>
    unfold State.heldVal
    rw [hr, show u.heldVal n = s.heldVal n from funext ih]

theorem State.ctxMismatch_congr (ht : u.tiles = s.tiles) (hc : u.cal = s.cal) (hv : u.vent = s.vent) (t : Nat) (b : List Byte) :
    u.ctxMismatch t b = s.ctxMismatch t b := by
  unfold State.ctxMismatch State.tile State.digest State.parkXpn
  rw [ht, hc, hv]

/-- A tile that arrives again changes the barrier tree alone. -/
theorem State.arriveAgain_frame (s : State) (t : Nat) : s.arriveAgain t = { s with cal := (s.arriveAgain t).cal } := by
  unfold State.arriveAgain
  split
  next =>
    split
    next => rfl
    next => split <;> rfl
  next => rfl

theorem State.arriveAgain_disagrees {t : Nat} {p : NVal} {a : Arrival} (hp : s.cal.parked = some p) (ha : (s.tile t).arr = some a)
    (h : a.rop ≠ p.rop) : (s.arriveAgain t).cal.parked = none := by
  unfold State.arriveAgain
  rw [hp, ha]
  simp only
  rw [if_pos h]
  rfl

theorem State.arriveAgain_agrees {t : Nat} {p v : NVal} {a : Arrival} (hp : s.cal.parked = some p) (ha : (s.tile t).arr = some a)
    (h : a.rop = p.rop) (hv : s.heldVal 5 0x5000 = some v) : (s.arriveAgain t).cal.parked = some { v with at' := p.at' } := by
  unfold State.arriveAgain
  rw [hp, ha]
  simp only
  rw [if_neg (not_not.mpr h), hv]

/-- A hand intervention on tile t counted and journaled, where the restore has changed the tile. -/
def State.countHand (s : State) (t : Nat) (dig : List Byte) (same : Prop) [Decidable same] : State :=
  if same then s
  else State.journal { s with vent := { s.vent with run := { s.vent.run with interventions := s.vent.run.interventions + 1 } } } 0x34
    (leBytes 2 t ++ padTo 8 dig) .extendM3

theorem State.countHand_frame (s : State) (t : Nat) (dig : List Byte) (same : Prop) [Decidable same] :
    s.countHand t dig same = { s with vent := (s.countHand t dig same).vent } := by
  unfold State.countHand State.journal
  split_ifs <;> rfl

theorem State.countHand_cal (s : State) (t : Nat) (dig : List Byte) (same : Prop) [Decidable same] : (s.countHand t dig same).cal = s.cal := by
  rw [State.countHand_frame]

theorem State.countHand_interventions (s : State) (t : Nat) (dig : List Byte) (same : Prop) [Decidable same] :
    (s.countHand t dig same).vent.run.interventions = s.vent.run.interventions + (if same then 0 else 1) := by
  unfold State.countHand State.journal
  split_ifs <;> rfl

end

section
variable {s : State} {r : List Byte}

theorem ctxRestore_noWindow (h : s.Asks 0x0205 [.running] (lenIs 8) r) {c : Nat} (ha : s.ctxAddr r = .error c) :
    exec .ctxRestore s = .next (s.complete c []) := by
  show execCtxRestore s = _
  unfold execCtxRestore
  rw [mbox_run _ h]
  simp only [ha]

theorem Tile.ctxRestore_sleep (x : Tile) (b : List Byte) (cc : Nat) : (x.ctxRestore b cc).sleep = .barrier := rfl

/-- Where the bytes from a are read and tile t takes them as its context. -/
def State.ctxRestored (s : State) (t a : Nat) : State :=
  ((((s.memRead a ctxSize).setTile t ((s.tile t).ctxRestore (s.memBytes a ctxSize) s.cc)).arriveAgain t).countHand t s.digest
    ((s.tile t).ctxBytes s.digest = s.memBytes a ctxSize))

theorem State.memBytes_memRead (s : State) (a b n m : Nat) : (s.memRead a n).memBytes b m = s.memBytes b m := by
  unfold State.memBytes
  rw [State.memRead_data]

theorem State.ctxMismatch_memRead (s : State) (a n t : Nat) (b : List Byte) : (s.memRead a n).ctxMismatch t b = s.ctxMismatch t b := by
  obtain ⟨-, -, ht, -, hv, hc, -⟩ := State.besideRead_iff.mp (s.besideRead_memRead a n)
  exact State.ctxMismatch_congr ht hc hv t b

theorem ctxRestore_refused (h : s.Asks 0x0205 [.running] (lenIs 8) r) {a : Nat} (ha : s.ctxAddr r = .ok a)
    (hm : s.ctxMismatch (leAt r 0 2) (s.memBytes a ctxSize) = true ∨ (s.memRead a ctxSize).mem.rangePz a ctxSize = true) :
    exec .ctxRestore s = .next ((s.memRead a ctxSize).complete stCTX_MISMATCH []) := by
  show execCtxRestore s = _
  unfold execCtxRestore
  rw [mbox_run _ h]
  simp only [ha, State.memBytes_memRead, State.ctxMismatch_memRead]
  rw [if_pos hm]

theorem ctxRestore_restores (h : s.Asks 0x0205 [.running] (lenIs 8) r) {a : Nat} (ha : s.ctxAddr r = .ok a)
    (hm : s.ctxMismatch (leAt r 0 2) (s.memBytes a ctxSize) = false) (hp : (s.memRead a ctxSize).mem.rangePz a ctxSize = false) :
    exec .ctxRestore s = .next ((s.ctxRestored (leAt r 0 2) a).complete stOK []) := by
  show execCtxRestore s = _
  unfold execCtxRestore
  rw [mbox_run _ h]
  simp only [ha, State.memBytes_memRead, State.ctxMismatch_memRead]
  rw [if_neg (by simp [hm, hp])]
  unfold State.ctxRestored State.countHand
  split_ifs <;> rfl

/-- The frame of a restore: the tile is written, the barrier tree and Vent's run change, the rest is as the read of the window leaves it. -/
theorem State.ctxRestored_frame (s : State) (t a : Nat) :
    (s.ctxRestored t a).tiles = (s.setTile t ((s.tile t).ctxRestore (s.memBytes a ctxSize) s.cc)).tiles ∧
    (s.ctxRestored t a).mem.data = s.mem.data ∧ (s.ctxRestored t a).host.inside = s.host.inside ∧
    (s.ctxRestored t a).vent.run.interventions = s.vent.run.interventions +
      (if (s.tile t).ctxBytes s.digest = s.memBytes a ctxSize then 0 else 1) := by
  obtain ⟨hd, -, ht, -, hv, -, -, -, -, hi⟩ := State.besideRead_iff.mp (s.besideRead_memRead a ctxSize)
  unfold State.ctxRestored
  refine ⟨?_, ?_, ?_, ?_⟩
  · rw [State.countHand_frame, State.arriveAgain_frame]
    show Sparse.put (s.memRead a ctxSize).tiles t _ = Sparse.put s.tiles t _
    rw [ht]
  · rw [State.countHand_frame, State.arriveAgain_frame]
    exact hd
  · rw [State.countHand_frame, State.arriveAgain_frame]
    exact hi
  · rw [State.countHand_interventions, State.arriveAgain_frame]
    show (s.memRead a ctxSize).vent.run.interventions + _ = _
    rw [hv]

theorem State.tile_ctxRestored (s : State) (t a k : Nat) :
    (s.ctxRestored t a).tile k = if k = t then (s.tile t).ctxRestore (s.memBytes a ctxSize) s.cc else s.tile k := by
  obtain ⟨ht, -, -, -⟩ := s.ctxRestored_frame t a
  exact State.tile_of_tiles ht

/-- The parked barrier after a restore, while one is parked. -/
theorem State.parked_ctxRestored {t a : Nat} {p : NVal} (hp : s.cal.parked = some p) :
    ((ctxArr (s.memBytes a ctxSize) s.cc).rop ≠ p.rop → (s.ctxRestored t a).cal.parked = none) ∧
    (∀ v, (ctxArr (s.memBytes a ctxSize) s.cc).rop = p.rop →
      (s.setTile t ((s.tile t).ctxRestore (s.memBytes a ctxSize) s.cc)).heldVal 5 0x5000 = some v →
      (s.ctxRestored t a).cal.parked = some { v with at' := p.at' }) := by
  obtain ⟨-, -, ht, -, hv, hc, -⟩ := State.besideRead_iff.mp (s.besideRead_memRead a ctxSize)
  have harr : ((s.tile t).ctxRestore (s.memBytes a ctxSize) s.cc).arr = some (ctxArr (s.memBytes a ctxSize) s.cc) := rfl
  unfold State.ctxRestored
  rw [State.countHand_cal]
  generalize (s.tile t).ctxRestore (s.memBytes a ctxSize) s.cc = x at harr ⊢
  generalize ctxArr (s.memBytes a ctxSize) s.cc = arr at harr ⊢
  generalize s.memRead a ctxSize = u at ht hv hc ⊢
  have hpu : (u.setTile t x).cal.parked = some p := (congrArg Caldera.parked hc).trans hp
  have hau : ((u.setTile t x).tile t).arr = some arr := by rw [State.tile_setTile_self, harr]
  have htu : (u.setTile t x).tiles = (s.setTile t x).tiles := congrArg (Sparse.put · t x) ht
  have hru : (u.setTile t x).rows = (s.setTile t x).rows := by
    unfold State.rows
    rw [show (u.setTile t x).vent = (s.setTile t x).vent from hv]
  exact ⟨fun h => State.arriveAgain_disagrees hpu hau h,
    fun v h hq => State.arriveAgain_agrees hpu hau h ((State.heldVal_congr htu hru 5 0x5000).trans hq)⟩

end

/-- Settles O53: a save and a restore by the outcome of their checks; the tiles, the bytes, the parked barrier and the count of interventions
of a restore by `State.ctxRestored_frame` and `State.parked_ctxRestored`. -/
theorem contextImages : Obligations.ContextImages := by
  unfold Obligations.ContextImages
  refine ⟨?_, ?_, ?_⟩
  · intro s a r h ha
    refine ⟨ctxSave_busy h ha, fun hr => ⟨_, ctxSave_saves h ha hr, ?_⟩⟩
    obtain ⟨hd, hi⟩ := s.ctxSaved_frame (leAt r 0 2) a
    have ht := s.tile_ctxSaved (leAt r 0 2) a
    generalize s.ctxSaved (leAt r 0 2) a = v at hd hi ht ⊢
    exact ⟨State.answered_complete hi stOK [], hd, fun k hk => (ht k).trans (if_neg hk), (ht _).trans (if_pos rfl)⟩
  · intro s a r h ha b u
    refine ⟨ctxRestore_refused h ha, fun hm hp => ?_⟩
    obtain ⟨v, he, hv⟩ : ∃ v, exec .ctxRestore s = .next (v.complete stOK []) ∧ v = s.ctxRestored (leAt r 0 2) a :=
      ⟨_, ctxRestore_restores h ha hm hp, rfl⟩
    obtain ⟨-, hd, hi, hn⟩ := s.ctxRestored_frame (leAt r 0 2) a
    have ht := s.tile_ctxRestored (leAt r 0 2) a
    have hc (p : NVal) (hpk : s.cal.parked = some p) := State.parked_ctxRestored (t := leAt r 0 2) (a := a) hpk
    rw [← hv] at hd hi hn ht hc
    have hx : v.tile (leAt r 0 2) = (s.tile (leAt r 0 2)).ctxRestore b s.cc := (ht _).trans (if_pos rfl)
    exact ⟨_, he, State.answered_complete hi stOK [], hx, (congrArg Tile.sleep hx).trans (Tile.ctxRestore_sleep ..),
      fun k hk => (ht k).trans (if_neg hk), hd, hc, hn⟩
  · intro s c r ha
    exact ⟨fun h => ctxSave_refused h ha, fun h => ctxRestore_noWindow h ha⟩

end Sys2Proof.Machine

/-!
PROOFS. The integer product of the matrix engine (O19).
-/
namespace Sys2Proof.Machine

/-! ### Folds of writes and pieces of lists -/

/-- A fold of writes of which one sets what `π` reads, and none of the others changes it. -/
theorem foldl_sets {α β γ : Type} (π : α → γ) {g : α → β → α} {b : β} {v : γ} {l : List β} (hb : b ∈ l)
    (hset : ∀ u, π (g u b) = v) (hkeep : ∀ u, ∀ c ∈ l, c ≠ b → π (g u c) = π u) (a : α) : π (l.foldl g a) = v := by
  obtain ⟨l₁, l₂, rfl⟩ := List.append_of_mem hb
  rw [List.foldl_append, List.foldl_cons]
  refine List.foldlRecOn l₂ g (motive := fun u => π u = v) (hset _) fun u hu c hc => ?_
  by_cases h : c = b
  · rw [h, hset]
  · rw [hkeep u c (by simp [hc]) h, hu]

theorem chunks_length {α : Type} (p n : Nat) (l : List α) : (chunks p n l).length = n := by
  induction n generalizing l with
  | zero => rfl
  | succ n ih => simp [chunks, ih]

/-- The pieces one after the other are the list that they cover. -/
theorem chunks_flatten {α : Type} (p n : Nat) (l : List α) : (chunks p n l).flatten = l.take (p * n) := by
  induction n generalizing l with
  | zero => simp [chunks]
  | succ n ih => rw [chunks, List.flatten_cons, ih, ← List.take_add, Nat.mul_succ, Nat.add_comm]

/-! ### The accumulation of integers -/

/-- The exact sum of the products of pairs of elements. -/
def dotInt (l : List (El × El)) : Int := (l.map fun p => p.1.int * p.2.int).sum

theorem dotInt_flatten (l : List (List (El × El))) : dotInt l.flatten = (l.map dotInt).sum := by
  simp only [dotInt, List.map_flatten, List.sum_flatten, List.map_map]
  rfl

theorem stepI_fst (fresh : Bool) (c : Word) (l : List (El × El)) :
    (stepI fresh c l).1 = BitVec.ofInt 32 ((if fresh then 0 else c.toInt) + dotInt l) := by
  rw [Int.add_comm]
  rfl

/-- What wraps at one step wraps at the end alike (R93). -/
theorem ofInt_toInt_add (a b : Int) : BitVec.ofInt 32 ((BitVec.ofInt 32 a).toInt + b) = BitVec.ofInt 32 (a + b) := by
  rw [BitVec.ofInt_add, BitVec.ofInt_toInt, ← BitVec.ofInt_add]

/-- The steps add to both accumulators the sums of all their products; a first step that leaves the accumulators out has to exist. -/
theorem stepPair_stepI (l : List (List (El × El) × List (El × El))) (fresh : Bool) (r : Word × Word × Bool × Flg)
    (h : fresh = false ∨ l ≠ []) :
    (stepPair stepI fresh r l).1 =
      BitVec.ofInt 32 ((if fresh then 0 else r.1.toInt) + (l.map fun p => dotInt p.1).sum) ∧
    (stepPair stepI fresh r l).2.1 =
      BitVec.ofInt 32 ((if fresh then 0 else r.2.1.toInt) + (l.map fun p => dotInt p.2).sum) := by
  induction l generalizing fresh r with
  | nil =>
    obtain rfl : fresh = false := h.resolve_right (absurd rfl)
    simp [stepPair]
  | cons p l ih =>
    simp only [stepPair, ih false _ (.inl rfl), stepI_fst, List.map_cons, List.sum_cons, Bool.false_eq_true, if_false,
      ofInt_toInt_add, Int.add_assoc, and_self]

/-- The same for two lists cut alike into n pieces of p elements. -/
theorem stepPair_chunks {p n : Nat} (hn : n ≠ 0) {l₀ l₁ : List (El × El)} (h₀ : l₀.length ≤ p * n) (h₁ : l₁.length ≤ p * n) (fresh : Bool)
    (r : Word × Word × Bool × Flg) :
    (stepPair stepI fresh r ((chunks p n l₀).zip (chunks p n l₁))).1 =
      BitVec.ofInt 32 ((if fresh then 0 else r.1.toInt) + dotInt l₀) ∧
    (stepPair stepI fresh r ((chunks p n l₀).zip (chunks p n l₁))).2.1 =
      BitVec.ofInt 32 ((if fresh then 0 else r.2.1.toInt) + dotInt l₁) := by
  have hne : (chunks p n l₀).zip (chunks p n l₁) ≠ [] := by
    rw [← List.length_pos_iff, List.length_zip, chunks_length, chunks_length]
    omega
  have hlen : (chunks p n l₀).length = (chunks p n l₁).length := by rw [chunks_length, chunks_length]
  have hdot : ∀ {l : List (El × El)}, l.length ≤ p * n → ((chunks p n l).map dotInt).sum = dotInt l := fun {l} h => by
    rw [← dotInt_flatten, chunks_flatten, List.take_of_length_le h]
  have hfst : ((chunks p n l₀).zip (chunks p n l₁)).map (fun q => dotInt q.1) = (chunks p n l₀).map dotInt := by
    conv_rhs => rw [← List.map_fst_zip hlen.le, List.map_map]
    rfl
  have hsnd : ((chunks p n l₀).zip (chunks p n l₁)).map (fun q => dotInt q.2) = (chunks p n l₁).map dotInt := by
    conv_rhs => rw [← List.map_snd_zip hlen.ge, List.map_map]
    rfl
  obtain ⟨he₀, he₁⟩ := stepPair_stepI _ fresh r (.inr hne)
  exact ⟨by rw [he₀, hfst, hdot h₀], by rw [he₁, hsnd, hdot h₁]⟩

/-! ### The operands and the accumulators of an MMA -/

/-- The value of an element is no matter of its poison. -/
theorem slotEl_v (buf : Sparse Byte) (pz pz' : Sparse Bool) (slot f : Nat) (mir : Bool) (i j : Nat) :
    (slotEl buf pz slot f mir i j).v = (slotEl buf pz' slot f mir i j).v := by
  unfold slotEl
  dsimp only
  by_cases hint : fmtInt f = true
  · rw [if_pos hint, if_pos hint]
  by_cases hbs : fmtBS f = true
  · simp only [if_neg hint, if_pos hbs]
    generalize 1024 * slot + 128 * fmtBits f + (if mir then j else i) = sa
    by_cases hnan : (Sparse.get 0 buf sa).toNat = 0xFF
    · rw [if_pos hnan, if_pos hnan]
    · rw [if_neg hnan, if_neg hnan]
      split <;> rfl
  · simp only [if_neg hint, if_neg hbs]

section
variable (x : Tile) (w : Nat)

/-- Element (i, k) of the A operand of an MMA, k over all its K-blocks. -/
def Tile.mmaElA (i k : Nat) : El :=
  slotEl x.mx.abuf x.mx.apz (mmaAs w + k / 32 * slotsOf (mmaFa w)) (mmaFa w)
    (Sparse.get ⟨false, false, 0⟩ x.mx.atag (mmaAs w + k / 32 * slotsOf (mmaFa w))).mir i (k % 32)

/-- Element (k, j) of its B operand. -/
def Tile.mmaElB (k j : Nat) : El :=
  slotEl x.mx.bbuf x.mx.bpz (mmaBsl w + k / 32 * slotsOf (mmaFb w)) (mmaFb w)
    (Sparse.get ⟨false, false, 0⟩ x.mx.btag (mmaBsl w + k / 32 * slotsOf (mmaFb w))).mir (k % 32) j

/-- The MMA leaves the old accumulators out (R107). -/
def Tile.mmaFresh : Bool := mmaZero w || decide (x.cst (mmaCb w) = .empty)

/-- What a product of integers leaves in accumulator (i, j), `x` being the tile before the MMA (R107). -/
def Tile.intProduct (i j : Nat) : Word :=
  BitVec.ofInt 32 ((if mmaZero w = true ∨ x.cst (mmaCb w) = .empty then 0 else (Sparse.get 0 x.mx.acc (1024 * mmaCb w + 32 * i + j)).toInt) +
    ((List.range (32 * mmaKb w)).map fun k => (x.mmaElA w i k).int * (x.mmaElB w k j).int).sum)

/-- The pairs of elements that meet in accumulator (i, j), in the order of their reduction index. -/
def Tile.mmaPairs (i j : Nat) : List (El × El) :=
  ((List.range (mmaKb w * 32)).map (x.mmaElA w i)).zip
    (((List.range 32).map fun c => (List.range (mmaKb w * 32)).map (x.mmaElB w · c)).getD j [])

/-- Accumulator word m of row i after the MMA, two accumulators with their poison and flags. -/
def Tile.mmaWord (p i m : Nat) : Word × Word × Bool × Flg :=
  let n := mmaKb w * 32 / p
  let c (j : Nat) : Word := Sparse.get 0 x.mx.acc (1024 * mmaCb w + 32 * i + j)
  stepPair (if fmtInt (mmaFa w) then stepI else stepF (mmaFacet w) (mmaFa w) (mmaFb w) (mmaPscale w)) (x.mmaFresh w)
    (c (2 * m), c (2 * m + 1), Sparse.get false x.mx.accPz (512 * mmaCb w + 16 * i + m), 0)
    ((chunks p n (x.mmaPairs w i (2 * m))).zip (chunks p n (x.mmaPairs w i (2 * m + 1))))

/-- The write of one accumulator word, whose first accumulator is number a. -/
def Tile.putAccs (a : Nat) (r : Word × Word × Bool × Flg) : Tile :=
  { x with mx := { x.mx with acc := Sparse.set 0 (Sparse.set 0 x.mx.acc a r.1) (a + 1) r.2.1,
                             accPz := Sparse.set false x.mx.accPz (a / 2) r.2.2.1, flags := x.mx.flags ||| r.2.2.2 } }

theorem Tile.mmaValues_eq (p : Nat) :
    x.mmaValues w p = (List.range 32).foldl (fun y i => (List.range 16).foldl (fun z m =>
      z.putAccs (1024 * mmaCb w + 32 * i + 2 * m) (x.mmaWord w p i m)) y) x := rfl

end

theorem Tile.acc_putAccs (x : Tile) (a : Nat) (r : Word × Word × Bool × Flg) (k : Nat) :
    Sparse.get 0 (x.putAccs a r).mx.acc k = if k = a + 1 then r.2.1 else if k = a then r.1 else Sparse.get 0 x.mx.acc k := by
  unfold Tile.putAccs
  rw [Sparse.get_set, Sparse.get_set]

/-- Each accumulator word takes its own result: the words of a C-block are apart. -/
theorem Tile.acc_mmaValues (x : Tile) (w p : Nat) {i m : Nat} (hi : i < 32) (hm : m < 16) {b : Nat} (hb : b < 2) :
    Sparse.get 0 (x.mmaValues w p).mx.acc (1024 * mmaCb w + 32 * i + (2 * m + b)) =
      if b = 0 then (x.mmaWord w p i m).1 else (x.mmaWord w p i m).2.1 := by
  rw [Tile.mmaValues_eq]
  generalize hk : 1024 * mmaCb w + 32 * i + (2 * m + b) = k
  refine foldl_sets (fun z : Tile => Sparse.get 0 z.mx.acc k) (List.mem_range.2 hi) (fun y => ?row) (fun y i' _ hne => ?otherRow) x
  case row =>
    refine foldl_sets (fun z : Tile => Sparse.get 0 z.mx.acc k) (List.mem_range.2 hm) (fun z => ?word) (fun z m' _ hne => ?otherWord) y
    case word =>
      rw [Tile.acc_putAccs]
      obtain rfl | rfl : b = 0 ∨ b = 1 := by omega
      · rw [if_neg (by omega), if_pos (by omega), if_pos rfl]
      · rw [if_pos (by omega), if_neg (by decide)]
    case otherWord => rw [Tile.acc_putAccs, if_neg (by omega), if_neg (by omega)]
  case otherRow =>
    refine List.foldlRecOn (List.range 16) _ (motive := fun z : Tile => Sparse.get 0 z.mx.acc k = Sparse.get 0 y.mx.acc k) rfl
      fun z hz m' hm' => ?_
    have hm16 := List.mem_range.1 hm'
    rw [Tile.acc_putAccs, if_neg (by omega), if_neg (by omega), hz]

/-- The reduction indices of a cycle divide a K-block (Table 4-8). -/
theorem pairClass_dvd {fa fb facet p per : Nat} (h : pairClass fa fb facet = some (p, per)) : p ∣ 32 := by
  unfold pairClass at h
  dsimp only at h
  split_ifs at h <;> cases h <;> decide

theorem mmaKb_pos (w : Nat) : 0 < mmaKb w := Nat.succ_pos _

/-- The pairs of an accumulator are those of row i and column j. -/
theorem Tile.mmaPairs_eq (x : Tile) (w i : Nat) {j : Nat} (hj : j < 32) :
    x.mmaPairs w i j = (List.range (mmaKb w * 32)).map fun k => (x.mmaElA w i k, x.mmaElB w k j) := by
  have hcol : ((List.range 32).map fun c => (List.range (mmaKb w * 32)).map (x.mmaElB w · c)).getD j [] =
      (List.range (mmaKb w * 32)).map (x.mmaElB w · j) := by
    simp [List.getD_eq_getElem?_getD, hj]
  unfold Tile.mmaPairs
  rw [hcol, List.zip_map']

/-- An accumulator word of a product of integers holds the two exact products. -/
theorem Tile.mmaWord_int (x : Tile) {w p : Nat} (hint : fmtInt (mmaFa w) = true) (hp : p ∣ 32) (i : Nat) {m : Nat} (hm : m < 16) :
    (x.mmaWord w p i m).1 = x.intProduct w i (2 * m) ∧ (x.mmaWord w p i m).2.1 = x.intProduct w i (2 * m + 1) := by
  have hdiv : p * (mmaKb w * 32 / p) = mmaKb w * 32 := Nat.mul_div_cancel' (Dvd.dvd.mul_left hp _)
  have hn : mmaKb w * 32 / p ≠ 0 := fun h => by
    have := mmaKb_pos w
    rw [h] at hdiv
    omega
  have hlen : ∀ {j}, j < 32 → (x.mmaPairs w i j).length ≤ p * (mmaKb w * 32 / p) := fun hj => by
    rw [hdiv, Tile.mmaPairs_eq x w i hj, List.length_map, List.length_range]
  have hdot : ∀ {j}, j < 32 → BitVec.ofInt 32 ((if x.mmaFresh w then 0 else (Sparse.get 0 x.mx.acc (1024 * mmaCb w + 32 * i + j)).toInt) +
      dotInt (x.mmaPairs w i j)) = x.intProduct w i j := fun hj => by
    rw [Tile.mmaPairs_eq x w i hj, dotInt, List.map_map, Nat.mul_comm (mmaKb w)]
    simp only [Tile.mmaFresh, Bool.or_eq_true, decide_eq_true_eq]
    rfl
  unfold Tile.mmaWord
  rw [if_pos hint]
  obtain ⟨h₀, h₁⟩ := stepPair_chunks hn (hlen (j := 2 * m) (by omega)) (hlen (j := 2 * m + 1) (by omega)) (x.mmaFresh w) _
  exact ⟨h₀.trans (hdot (by omega)), h₁.trans (hdot (by omega))⟩

/-- The product of integers leaves in every accumulator of the C-block its exact product. -/
theorem Tile.acc_mmaValues_int (x : Tile) {w p : Nat} (hint : fmtInt (mmaFa w) = true) (hp : p ∣ 32) {i j : Nat} (hi : i < 32) (hj : j < 32) :
    Sparse.get 0 (x.mmaValues w p).mx.acc (1024 * mmaCb w + 32 * i + j) = x.intProduct w i j := by
  obtain ⟨h₀, h₁⟩ := x.mmaWord_int hint hp i (m := j / 2) (by omega)
  have hacc := x.acc_mmaValues w p hi (m := j / 2) (by omega) (b := j % 2) (by omega)
  rw [Nat.div_add_mod j 2] at hacc
  rw [hacc]
  obtain hb | hb := Nat.mod_two_eq_zero_or_one j
  · rw [if_pos hb, h₀, show 2 * (j / 2) = j by omega]
  · rw [if_neg (by omega), h₁, show 2 * (j / 2) + 1 = j by omega]

/-! ### The reads before the product -/

/-- `z` is `x` but for check bits, poison in the matrix engine's stores, counts and reports. -/
def Tile.SameButChecks (x z : Tile) : Prop :=
  z = { x with ecc := z.ecc, cnt := z.cnt, reports := z.reports,
               mx := { x.mx with apz := z.mx.apz, bpz := z.mx.bpz, accPz := z.mx.accPz } }

theorem Tile.SameButChecks.bumpIf {x z : Tile} (h : x.SameButChecks z) (b : Bool) (off : Nat) : x.SameButChecks (z.bumpIf b off) := by
  cases b
  · exact h
  · show z.bump off 1 = _
    rw [h]
    rfl

/-- A read of a word of a matrix store leaves the values. -/
theorem Tile.sameButChecks_mxTouch (region : Nat) (x : Tile) (n : Nat) : x.SameButChecks (x.mxTouch region n) := by
  refine Tile.SameButChecks.bumpIf ?_ _ 0x818
  unfold Tile.check
  split
  · rfl
  · rfl
  · split <;> rfl

/-- What the values of a product of integers depend on, and the tile's state. -/
def Tile.mmaInputs (x : Tile) : TileSt × Sparse Byte × Sparse Byte × Sparse Tag × Sparse Tag × Sparse Word × Sparse CSt :=
  (x.st, x.mx.abuf, x.mx.bbuf, x.mx.atag, x.mx.btag, x.mx.acc, x.mx.cst)

theorem Tile.mmaInputs_mxTouch (region : Nat) (x : Tile) (n : Nat) : (x.mxTouch region n).mmaInputs = x.mmaInputs := by
  rw [Tile.sameButChecks_mxTouch region x n]
  rfl

theorem Tile.intProduct_congr {x y : Tile} (h : y.mmaInputs = x.mmaInputs) (w i j : Nat) : y.intProduct w i j = x.intProduct w i j := by
  simp only [Tile.mmaInputs, Prod.mk.injEq] at h
  obtain ⟨-, ha, hb, hta, htb, hacc, hcst⟩ := h
  have hA : ∀ k, (y.mmaElA w i k).int = (x.mmaElA w i k).int := fun k => by
    unfold Tile.mmaElA El.int
    rw [ha, hta, slotEl_v _ _ x.mx.apz]
  have hB : ∀ k, (y.mmaElB w k j).int = (x.mmaElB w k j).int := fun k => by
    unfold Tile.mmaElB El.int
    rw [hb, htb, slotEl_v _ _ x.mx.bpz]
  unfold Tile.intProduct Tile.cst
  simp only [hA, hB, hacc, hcst]

/-- The tile once an MMA has read, and checked, its operands and the accumulators that it adds to. -/
def Tile.mmaRead (x : Tile) (w : Nat) : Tile :=
  let y := (slotWords (mmaBsl w) (mmaBEnd w)).foldl (Tile.mxTouch 2) ((slotWords (mmaAs w) (mmaAEnd w)).foldl (Tile.mxTouch 1) x)
  if x.mmaFresh w then
    { y with ecc := (List.range 512).foldl (fun m i => Sparse.set Ecc.ok m (eccKey 3 (512 * mmaCb w + i)) .ok) y.ecc }
  else ((List.range 512).map (512 * mmaCb w + ·)).foldl (Tile.mxTouch 3) y

theorem Tile.mmaInputs_mmaRead (x : Tile) (w : Nat) : (x.mmaRead w).mmaInputs = x.mmaInputs := by
  have hfold : ∀ (region : Nat) (l : List Nat) (y : Tile), (l.foldl (Tile.mxTouch region) y).mmaInputs = y.mmaInputs :=
    fun region l y => foldl_keep Tile.mmaInputs _ (Tile.mmaInputs_mxTouch region) l y
  have hecc : ∀ (y : Tile) (m : Sparse Ecc), ({ y with ecc := m } : Tile).mmaInputs = y.mmaInputs := fun _ _ => rfl
  unfold Tile.mmaRead
  dsimp only
  split
  · rw [hecc]
    exact (hfold 2 _ _).trans (hfold 1 _ x)
  · exact (hfold 3 _ _).trans ((hfold 2 _ _).trans (hfold 1 _ x))

/-! ### The instruction -/

/-- An MMA reads, multiplies, leaves its queue and occupies the array. -/
theorem Tile.mma_of_pair {w p per : Nat} (h : pairClass (mmaFa w) (mmaFb w) (mmaFacet w) = some (p, per)) (cc : Nat) (q : MQueue) (x : Tile) :
    x.mma cc q w =
      let z := ((x.mmaRead w).mmaValues w p).mxLeave cc q w
      { z with mx := { z.mx with
          cst := Sparse.set CSt.empty z.mx.cst (mmaCb w) (if fmtInt (mmaFa w) then .int32 else .fp32)
          mmas := z.mx.mmas ++ [⟨cc + per * mmaKb w, cc + per * mmaKb w + 6, mmaCb w, mmaAs w, mmaAEnd w, mmaBsl w, mmaBEnd w, eSflag w⟩] } } := by
  unfold Tile.mma
  rw [h]
  rfl

theorem Tile.putAccs_st (x : Tile) (a : Nat) (r : Word × Word × Bool × Flg) : (x.putAccs a r).st = x.st := rfl

theorem Tile.mmaValues_st (x : Tile) (w p : Nat) : (x.mmaValues w p).st = x.st := by
  rw [Tile.mmaValues_eq]
  refine foldl_keep Tile.st _ (fun y i => ?_) _ x
  exact foldl_keep Tile.st _ (fun z m => Tile.putAccs_st z _ _) _ y

/-- The issue of a matrix instruction leaves the matrix engine's stores and the state of running. -/
theorem Tile.mxLeave_keeps (x : Tile) (cc : Nat) (q : MQueue) (w : Nat) :
    (x.mxLeave cc q w).st = x.st ∧ (x.mxLeave cc q w).mx.acc = x.mx.acc := by
  unfold Tile.mxLeave
  rw [Tile.setQueue_frame]
  exact ⟨rfl, rfl⟩

section
variable {x : Tile} {w : Nat} {q : MQueue} (h : x.mmaCheck q w = true)
include h

/-- The formats of an MMA that passes its checks are a permitted pair. -/
theorem Tile.pairClass_of_mmaCheck : ∃ p per, pairClass (mmaFa w) (mmaFb w) (mmaFacet w) = some (p, per) := by
  simp only [Tile.mmaCheck, Bool.and_eq_true, and_assoc] at h
  obtain ⟨r, hr⟩ := Option.isSome_iff_exists.1 h.1
  exact ⟨r.1, r.2, hr⟩

theorem Tile.mma_st (cc : Nat) : (x.mma cc q w).st = x.st := by
  obtain ⟨p, per, hpair⟩ := Tile.pairClass_of_mmaCheck h
  have hread : (x.mmaRead w).st = x.st := congrArg Prod.fst (x.mmaInputs_mmaRead w)
  rw [Tile.mma_of_pair hpair]
  exact (Tile.mxLeave_keeps _ cc q w).1.trans ((Tile.mmaValues_st _ w p).trans hread)

/-- After an MMA of integers every accumulator of its C-block holds its exact product. -/
theorem Tile.acc_mma_int (hint : fmtInt (mmaFa w) = true) (cc : Nat) {i j : Nat} (hi : i < 32) (hj : j < 32) :
    Sparse.get 0 (x.mma cc q w).mx.acc (1024 * mmaCb w + 32 * i + j) = x.intProduct w i j := by
  obtain ⟨p, per, hpair⟩ := Tile.pairClass_of_mmaCheck h
  have hacc : (x.mma cc q w).mx.acc = ((x.mmaRead w).mmaValues w p).mx.acc := by
    rw [Tile.mma_of_pair hpair]
    exact (Tile.mxLeave_keeps _ cc q w).2
  rw [hacc, Tile.acc_mmaValues_int _ hint (pairClass_dvd hpair) hi hj, Tile.intProduct_congr (x.mmaInputs_mmaRead w)]

theorem Tile.mxCheck_mma (ho : eOpc w = 0x20) : x.mxCheck q w = none := by
  unfold Tile.mxCheck
  rw [ho]
  exact if_pos h

end

/-- Where the engine issues from queue q, the row of the head's OPC runs once its checks pass. -/
theorem State.MxIssues.mxRow_runs {s : State} {t : Nat} {q : MQueue} {opc : Nat} {e : QEnt} {l : List QEnt} (h : s.MxIssues t q opc e l)
    (hc : (s.tile t).mxCheck q e.word.toNat = none) (body : Tile → Nat → Tile) :
    (s.tile t).mxRow s.cc q opc body = body (s.tile t) e.word.toNat := by
  obtain ⟨-, hq, hopc, hw, hs, hch, hgo⟩ := h
  unfold Tile.mxRow
  simp only [hq]
  rw [if_neg (by simp [hw, hs]), if_neg (by simp [hopc, hch]), hc]
  exact if_pos hgo

/-- An MMA that issues and passes its checks does on its tile what `Tile.mma` says. -/
theorem State.MxIssues.mma_next {s : State} {t : Nat} {q : MQueue} {e : QEnt} {l : List QEnt} (h : s.MxIssues t q 0x20 e l)
    (hc : (s.tile t).mmaCheck q e.word.toNat = true) :
    exec (.mma t q) s = .next (s.setTile t ((s.tile t).mma s.cc q e.word.toNat)) := by
  have ⟨ht, _, ho, _⟩ := h
  rw [exec_mma, onTile_to ht (h.mxRow_runs (Tile.mxCheck_mma hc ho) _), State.afterTile_same _ _ _ (Tile.mma_st hc s.cc)]

/-- Settles O19: the steps of the accumulation add up to one exact sum (`stepPair_stepI`), which the reads before it do not change. -/
theorem integerMatrixProduct : Obligations.IntegerMatrixProduct := by
  unfold Obligations.IntegerMatrixProduct
  intro s t q e l h x w hint hcheck a b
  exact ⟨_, h.mma_next hcheck, fun i j hi hj => Tile.acc_mma_int hcheck hint s.cc hi hj⟩

end Sys2Proof.Machine

/-!
PROOFS. MNOP and the loads of the matrix engine (O17).
-/
namespace Sys2Proof

/-- Writes of one value at several indices. -/
theorem Sparse.get_foldl_set {α : Type} [DecidableEq α] (d v : α) (f : Nat → Nat) (l : List Nat) (m : Sparse α) (k : Nat) :
    Sparse.get d (l.foldl (fun m i => Sparse.set d m (f i) v) m) k = if k ∈ l.map f then v else Sparse.get d m k := by
  induction l generalizing m with
  | nil => simp
  | cons i l ih =>
    rw [List.foldl_cons, ih, Sparse.get_set]
    by_cases h1 : k ∈ l.map f <;> by_cases h2 : k = f i <;> simp [h1, h2]

namespace Machine

/-! ### Commands that keep the tile's state of running -/

/-- A command on a tile that keeps its state of running writes the tile. -/
theorem onTile_set {t : Nat} (ht : t < 1536) {s : State} {f : Tile → Tile} {z : Tile} (h : f (s.tile t) = z) (hst : z.st = (s.tile t).st) :
    onTile t s f = .next (s.setTile t z) := by
  rw [onTile_to ht h, State.afterTile_same _ _ _ hst]

@[simp] theorem Tile.signal_st (x : Tile) (n : Nat) : (x.signal n).st = x.st := by
  obtain hn | hn | hn : n < 44 ∨ (44 ≤ n ∧ n < 48) ∨ 48 ≤ n := by omega
  · rw [Tile.signal_low x hn]
    rfl
  · rw [Tile.signal_reserved x hn.1 hn.2]
    rfl
  · rw [Tile.signal, if_pos hn]

/-! ### The issue of a matrix instruction -/

/-- What `Tile.MxLeft` speaks of, and the sync flags. -/
def Tile.issuePart (x : Tile) :=
  (x.core, x.mx.next, x.mx.turn, x.mx.mqmode, x.vx.slots, x.hnd, x.sf)

section
variable (x y : Tile) (cc : Nat) (q : MQueue) (w : Nat)

/-- The issue changes the queues, the next issue and the turn. -/
theorem Tile.mxLeave_frame : let z := x.mxLeave cc q w
    z = { x with qf := z.qf, qb := z.qb, qv := z.qv, qd := z.qd,
                 mx := { x.mx with next := z.mx.next, lastB := z.mx.lastB, turn := z.mx.turn } } := by
  cases q <;> rfl

variable {x y}

/-- What the issue leaves depends on what it speaks of alone. -/
theorem Tile.issuePart_mxLeave (h : y.issuePart = x.issuePart) : (y.mxLeave cc q w).issuePart = (x.mxLeave cc q w).issuePart := by
  simp only [Tile.issuePart, Tile.core, Prod.mk.injEq] at h
  obtain ⟨⟨hregs, hrpz, hpc, ⟨hf, hb, hv, hd⟩, hst⟩, -, hturn, hmode, hslots, hhnd, hsf⟩ := h
  cases q
  · simp [Tile.mxLeave, Tile.issuePart, Tile.core, mqOf, Tile.setQueue, Tile.queue, *]
  · simp [Tile.mxLeave, Tile.issuePart, Tile.core, mqOf, Tile.setQueue, Tile.queue, *]

/-- A tile that is, in what `Tile.MxLeft` speaks of, as the issue leaves it. -/
theorem Tile.mxLeft_of_issuePart {z : Tile} {e : QEnt} {l : List QEnt} (hq : x.queue (mqOf q) = e :: l)
    (h : z.issuePart = (x.mxLeave cc q w).issuePart) : x.MxLeft z cc q w l ∧ z.sf = x.sf := by
  have hframe := x.mxLeave_frame cc q w
  simp only [Tile.issuePart, Prod.mk.injEq] at h
  obtain ⟨hcore, hnext, hturn, hmode, hslots, hhnd, hsf⟩ := h
  obtain ⟨hregs, hpc, hqueue, hst⟩ := Tile.same_of_core hcore
  have hqueues : (x.mxLeave cc q w).queue = (x.setQueue (mqOf q) l).queue := by
    unfold Tile.mxLeave
    rw [hq]
    rfl
  refine ⟨⟨?_, fun r hr => ?_, hnext, ?_, ?_, fun n => ?_, ?_, ?_, ?_, ?_⟩, ?_⟩
  · rw [hqueue, hqueues, Tile.queue_setQueue_self]
  · rw [hqueue, hqueues, Tile.queue_setQueue_ne x l hr]
  · rw [hturn]
    cases q <;> rfl
  · exact hmode.trans (congrArg (·.mx.mqmode) hframe)
  · obtain ⟨hreg, hpz⟩ := hregs n
    exact ⟨(congrArg (·.reg n) hframe).symm.trans hreg, (congrArg (·.regPz n) hframe).symm.trans hpz⟩
  · exact hpc.trans (congrArg (·.pc) hframe)
  · exact hst.trans (congrArg (·.st) hframe)
  · exact hslots.trans (congrArg (·.vx.slots) hframe)
  · exact hhnd.trans (congrArg (·.hnd) hframe)
  · exact hsf.trans (congrArg (·.sf) hframe)

end

/-! ### MNOP -/

theorem Tile.mxCheck_mnop (x : Tile) (q : MQueue) {w : Nat} (ho : eOpc w = 0x01) (hz : fld w 42 0 = 0) : x.mxCheck q w = none := by
  unfold Tile.mxCheck
  rw [ho]
  exact if_neg (not_not_intro hz)

theorem State.MxIssues.mnop_next {s : State} {t : Nat} {q : MQueue} {e : QEnt} {l : List QEnt} (h : s.MxIssues t q 0x01 e l)
    (hz : fld e.word.toNat 42 0 = 0) :
    exec (.mnop t q) s = .next (s.setTile t (((s.tile t).mxLeave s.cc q e.word.toNat).signal (eSflag e.word.toNat))) := by
  have ⟨ht, _, ho, _⟩ := h
  refine (exec_mnop t q s).trans (onTile_set ht (h.mxRow_runs (Tile.mxCheck_mnop _ q ho hz) _) ?_)
  rw [Tile.signal_st, (Tile.mxLeave_keeps _ _ _ _).1]

/-! ### MLD -/

section
variable (x : Tile) (w : Nat)

/-- The tile once an MLD has read its block, and the scale bytes of one that has them. -/
def Tile.mldRead : Tile :=
  let y := x.touch (64 * hBase (x.hndOf (mldH w)) + mldBlk w * (128 * fmtBits (mldFmt w))) (128 * fmtBits (mldFmt w))
  if fmtBS (mldFmt w) then y.touch (hByteAddr (x.hndOf (mldH w + 1)) (32 * mldBlk w)) 32 else y

theorem Tile.mldRead_frame : let z := x.mldRead w
    z = { x with ecc := z.ecc, spz := z.spz, cnt := z.cnt, reports := z.reports } := by
  unfold Tile.mldRead
  split
  · rw [Tile.touch_frame, Tile.touch_frame]
  · exact Tile.touch_frame ..

/-- The bytes of a block are no matter of poison and check bits. -/
theorem Tile.mldData_mldRead : ((x.mldRead w).mldData w).1 = (x.mldData w).1 := by
  have hframe := x.mldRead_frame w
  generalize x.mldRead w = y at hframe
  have hseen : y.seenByte = x.seenByte := congrArg (·.seenByte) hframe
  have helem : y.elemBits = x.elemBits := congrArg (·.elemBits) hframe
  have hhnd : y.hndOf = x.hndOf := congrArg (·.hndOf) hframe
  unfold Tile.mldData
  dsimp only
  split <;> simp only [List.map_map, Function.comp_def, hseen, helem, hhnd]

/-- What an MLD leaves: it has read, left its queue and asked for its banks, and carries the block. -/
theorem Tile.mld_eq (cc : Nat) (q : MQueue) : x.mld cc q w =
    let z := ((x.mldRead w).mxLeave cc q w).ask .feeder (x.mldNeeds w) []
    { z with mx := { z.mx with mld := some ⟨cc + mldCycles (mldFmt w), mldBuf w, mldSlot w, slotsOf (mldFmt w), ⟨true, mldMir w, mldFmt w⟩,
                                            (x.mldData w).1, ((x.mldRead w).mldData w).2, eSflag w⟩ } } := by
  rw [← Tile.mldData_mldRead]
  rfl

theorem Tile.mld_frame (cc : Nat) (q : MQueue) : let z := x.mld cc q w
    z = { x with qf := z.qf, qb := z.qb, qv := z.qv, qd := z.qd, ecc := z.ecc, spz := z.spz, cnt := z.cnt, reports := z.reports,
                 banks := z.banks, mx := { x.mx with mld := z.mx.mld, next := z.mx.next, lastB := z.mx.lastB, turn := z.mx.turn } } := by
  dsimp only
  rw [Tile.mld_eq]
  dsimp only
  rw [Tile.ask_frame, Tile.mxLeave_frame, Tile.mldRead_frame]

theorem Tile.issuePart_mld (cc : Nat) (q : MQueue) : (x.mld cc q w).issuePart = (x.mxLeave cc q w).issuePart := by
  rw [Tile.mld_eq]
  dsimp only
  rw [Tile.ask_frame]
  exact Tile.issuePart_mxLeave cc q w (congrArg (·.issuePart) (x.mldRead_frame w))

variable {x w}

theorem Tile.mxCheck_mld (ho : eOpc w = 0x10) (q : MQueue) : x.mxCheck q w = x.mldCheck q w := by
  unfold Tile.mxCheck
  rw [ho]
  rfl

end

theorem State.MxIssues.mld_next {s : State} {t : Nat} {q : MQueue} {e : QEnt} {l : List QEnt} (h : s.MxIssues t q 0x10 e l)
    (hc : (s.tile t).mldCheck q e.word.toNat = none) :
    exec (.mld t q) s = .next (s.setTile t ((s.tile t).mld s.cc q e.word.toNat)) := by
  have ⟨ht, _, ho, _⟩ := h
  exact (exec_mld t q s).trans (onTile_set ht (h.mxRow_runs ((Tile.mxCheck_mld ho q).trans hc) _)
    (congrArg (·.st) ((s.tile t).mld_frame e.word.toNat s.cc q)))

/-- The tile once the slots have the block that an MLD carried, with its tag and clean check bits, before its signal. -/
def Tile.mldLanded (x : Tile) (f : MldFly) : Tile :=
  let tags (m : Sparse Tag) : Sparse Tag := (List.range f.nslots).foldl (fun m i => Sparse.set ⟨false, false, 0⟩ m (f.slot + i) f.tag) m
  let region := if f.buf then 2 else 1
  { x with
    ecc := (List.range f.pz.length).foldl (fun m i => Sparse.set Ecc.ok m (eccKey region (128 * f.slot + i)) .ok) x.ecc
    mx := if f.buf then
        { x.mx with mld := none, bbuf := Sparse.setRun 0 x.mx.bbuf (1024 * f.slot) f.data,
                    bpz := Sparse.setRun false x.mx.bpz (128 * f.slot) f.pz, btag := tags x.mx.btag }
      else
        { x.mx with mld := none, abuf := Sparse.setRun 0 x.mx.abuf (1024 * f.slot) f.data,
                    apz := Sparse.setRun false x.mx.apz (128 * f.slot) f.pz, atag := tags x.mx.atag } }

theorem Tile.mldLand_eq (x : Tile) (f : MldFly) : x.mldLand f = (x.mldLanded f).signal f.sflag := rfl

/-- The slots of a block, and no others, take its tag. -/
theorem get_tags (m : Sparse Tag) (slot n : Nat) (tag : Tag) (i : Nat) :
    Sparse.get ⟨false, false, 0⟩ ((List.range n).foldl (fun m i => Sparse.set ⟨false, false, 0⟩ m (slot + i) tag) m) i =
      if slot ≤ i ∧ i < slot + n then tag else Sparse.get ⟨false, false, 0⟩ m i := by
  rw [Sparse.get_foldl_set]
  refine if_congr ?_ rfl rfl
  simp only [List.mem_map, List.mem_range]
  exact ⟨fun ⟨j, hj, he⟩ => by omega, fun h => ⟨i - slot, by omega, by omega⟩⟩

section
variable {s : State} {t : Nat} (ht : t < 1536)
include ht

theorem mldComplete_idle (hm : (s.tile t).mx.mld = none) : exec (.mldComplete t) s = .next (s.setTile t (s.tile t)) := by
  show execMldComplete t s = _
  unfold execMldComplete
  exact onTile_set ht (by rw [hm]) rfl

theorem mldComplete_early {f : MldFly} (hm : (s.tile t).mx.mld = some f) (hd : s.cc < f.due) :
    exec (.mldComplete t) s = .next (s.setTile t (s.tile t)) := by
  show execMldComplete t s = _
  unfold execMldComplete
  refine onTile_set ht ?_ rfl
  simp only [hm]
  exact if_neg (Nat.not_le.2 hd)

theorem mldComplete_due {f : MldFly} (hm : (s.tile t).mx.mld = some f) (hd : f.due ≤ s.cc) :
    exec (.mldComplete t) s = .next (s.setTile t (((s.tile t).mldLanded f).signal f.sflag)) := by
  show execMldComplete t s = _
  unfold execMldComplete
  refine onTile_set ht ?_ (Tile.signal_st _ _)
  simp only [hm]
  exact if_pos hd

end

/-- Settles O17. -/
theorem matrixLoads : Obligations.MatrixLoads := by
  unfold Obligations.MatrixLoads
  refine ⟨?mnop, ?mld, ?complete, fun s t ht hm => mldComplete_idle ht hm⟩
  case mnop =>
    intro s t q e l h hz
    have ⟨_, hq, _⟩ := h
    obtain ⟨hleft, hsf⟩ := Tile.mxLeft_of_issuePart s.cc q e.word.toNat hq rfl
    have hframe := (s.tile t).mxLeave_frame s.cc q e.word.toNat
    exact ⟨_, h.mnop_next hz, hleft, Tile.sameStore_of_store (congrArg (·.store) hframe).symm, hsf⟩
  case mld =>
    intro s t q e l h x w _ _ _ hc
    have ⟨_, hq, _⟩ := h
    obtain ⟨hleft, hsf⟩ := Tile.mxLeft_of_issuePart s.cc q w hq (x.issuePart_mld w s.cc q)
    have hframe := x.mld_frame w s.cc q
    refine ⟨_, h.mld_next hc, hleft, Tile.sameStore_of_store (congrArg (·.store) hframe).symm, hsf, congrArg (·.mx.abuf) hframe,
      congrArg (·.mx.bbuf) hframe, congrArg (·.mx.acc) hframe, ?_⟩
    show (x.mld s.cc q w).mx.mld = _
    rw [Tile.mld_eq]
    rfl
  case complete =>
    intro s t f ht hm x
    refine ⟨mldComplete_early ht hm, fun hd => ⟨_, mldComplete_due ht hm hd, ?_⟩⟩
    unfold Tile.mldLanded
    cases f.buf <;>
      exact ⟨rfl, fun _ => rfl, fun _ => ⟨rfl, rfl⟩, rfl, rfl, rfl, fun k => Sparse.get_setRun .., fun k => Sparse.get_setRun ..,
        fun i => get_tags .., rfl, rfl, rfl⟩

end Machine
end Sys2Proof

/-!
PROOFS. The products and the slice handoff of the matrix engine (O18).
-/
namespace Sys2Proof

/-- A store without the entries whose index fails P reads the same at the indices that pass it. -/
theorem Sparse.get_filter_index {α : Type} (d : α) (P : Nat → Bool) (m : Sparse α) {k : Nat} (hk : P k = true) :
    Sparse.get d (m.filter fun e => P e.1) k = Sparse.get d m k := by
  induction m with
  | nil => rfl
  | cons e m ih =>
    obtain ⟨i, v⟩ := e
    by_cases hi : P i = true
    · rw [List.filter_cons_of_pos (by exact hi)]
      simp only [Sparse.get, ih]
    · rw [List.filter_cons_of_neg (by exact hi), ih, Sparse.get, if_neg (by rintro rfl; exact hi hk)]

namespace Machine

/-! ### MMA -/

theorem Tile.SameButChecks.trans {x y z : Tile} (h : x.SameButChecks y) (h' : y.SameButChecks z) : x.SameButChecks z := by
  unfold Tile.SameButChecks at h h' ⊢
  rw [h', h]

theorem Tile.sameButChecks_foldl_mxTouch (region : Nat) (l : List Nat) (x : Tile) : x.SameButChecks (l.foldl (Tile.mxTouch region) x) :=
  List.foldlRecOn l _ (motive := fun u => x.SameButChecks u) rfl fun u hu n _ => hu.trans (Tile.sameButChecks_mxTouch region u n)

theorem Tile.sameButChecks_ecc (x : Tile) (m : Sparse Ecc) : x.SameButChecks { x with ecc := m } := rfl

theorem Tile.sameButChecks_mmaRead (x : Tile) (w : Nat) : x.SameButChecks (x.mmaRead w) := by
  have hAB := (Tile.sameButChecks_foldl_mxTouch 1 (slotWords (mmaAs w) (mmaAEnd w)) x).trans
    (Tile.sameButChecks_foldl_mxTouch 2 (slotWords (mmaBsl w) (mmaBEnd w)) _)
  unfold Tile.mmaRead
  dsimp only
  split
  · exact hAB.trans (Tile.sameButChecks_ecc _ _)
  · exact hAB.trans (Tile.sameButChecks_foldl_mxTouch 3 _ _)

/-- `z` is `x` but for accumulators, their poison and the matrix engine's sticky flags. -/
def Tile.SameButAccs (x z : Tile) : Prop :=
  z = { x with mx := { x.mx with acc := z.mx.acc, accPz := z.mx.accPz, flags := z.mx.flags } }

theorem Tile.SameButAccs.putAccs {x z : Tile} (h : x.SameButAccs z) (a : Nat) (r : Word × Word × Bool × Flg) : x.SameButAccs (z.putAccs a r) := by
  unfold Tile.SameButAccs at h ⊢
  rw [h]
  rfl

/-- A product writes accumulators of its C-block, and the sticky flags. -/
theorem Tile.mmaValues_frame (x : Tile) (w p : Nat) : x.SameButAccs (x.mmaValues w p) ∧
    ∀ k, k / 1024 ≠ mmaCb w → Sparse.get 0 (x.mmaValues w p).mx.acc k = Sparse.get 0 x.mx.acc k := by
  rw [Tile.mmaValues_eq]
  refine List.foldlRecOn (List.range 32) _ (motive := fun y : Tile => x.SameButAccs y ∧
    ∀ k, k / 1024 ≠ mmaCb w → Sparse.get 0 y.mx.acc k = Sparse.get 0 x.mx.acc k) ⟨rfl, fun _ _ => rfl⟩ fun y hy i hi => ?_
  refine List.foldlRecOn (List.range 16) _ (motive := fun y : Tile => x.SameButAccs y ∧
    ∀ k, k / 1024 ≠ mmaCb w → Sparse.get 0 y.mx.acc k = Sparse.get 0 x.mx.acc k) hy fun z hz m hm => ?_
  obtain ⟨hframe, hacc⟩ := hz
  have hi32 := List.mem_range.1 hi
  have hm16 := List.mem_range.1 hm
  refine ⟨hframe.putAccs _ _, fun k hk => ?_⟩
  rw [Tile.acc_putAccs, if_neg (by omega), if_neg (by omega), hacc k hk]

/-- `z` is `x` but for what an MMA writes before it leaves its queue. -/
def Tile.SameButProduct (x z : Tile) : Prop :=
  z = { x with ecc := z.ecc, cnt := z.cnt, reports := z.reports,
               mx := { x.mx with acc := z.mx.acc, accPz := z.mx.accPz, apz := z.mx.apz, bpz := z.mx.bpz, flags := z.mx.flags } }

theorem Tile.SameButChecks.product {x y z : Tile} (h : x.SameButChecks y) (h' : y.SameButAccs z) : x.SameButProduct z := by
  unfold Tile.SameButChecks Tile.SameButAccs at *
  unfold Tile.SameButProduct
  rw [h', h]

theorem Tile.SameButChecks.acc {x y : Tile} (h : x.SameButChecks y) : y.mx.acc = x.mx.acc := congrArg (·.mx.acc) h

/-- The tile once an MMA has read its operands and multiplied. -/
theorem Tile.mmaProduct_frame (x : Tile) (w p : Nat) : x.SameButProduct ((x.mmaRead w).mmaValues w p) ∧
    ∀ k, k / 1024 ≠ mmaCb w → Sparse.get 0 ((x.mmaRead w).mmaValues w p).mx.acc k = Sparse.get 0 x.mx.acc k := by
  have hread := x.sameButChecks_mmaRead w
  obtain ⟨hval, hacc⟩ := (x.mmaRead w).mmaValues_frame w p
  exact ⟨hread.product hval, fun k hk => by rw [hacc k hk, hread.acc]⟩

/-- An MMA that has multiplied leaves its queue, gives its C-block the state of its formats and occupies the array (R101, R108). -/
def Tile.mmaIssued (cc : Nat) (q : MQueue) (y : Tile) (w per : Nat) : Tile :=
  let z := y.mxLeave cc q w
  { z with mx := { z.mx with
      cst := Sparse.set CSt.empty z.mx.cst (mmaCb w) (if fmtInt (mmaFa w) then .int32 else .fp32)
      mmas := z.mx.mmas ++ [⟨cc + per * mmaKb w, cc + per * mmaKb w + 6, mmaCb w, mmaAs w, mmaAEnd w, mmaBsl w, mmaBEnd w, eSflag w⟩] } }

section
variable {x y : Tile} (h : x.SameButProduct y) (cc : Nat) (q : MQueue) (w per : Nat)
include h

theorem Tile.issuePart_mmaIssued : (Tile.mmaIssued cc q y w per).issuePart = (x.mxLeave cc q w).issuePart :=
  Tile.issuePart_mxLeave cc q w (congrArg (·.issuePart) h)

theorem Tile.mmaIssued_frame : let z := Tile.mmaIssued cc q y w per
    z = { x with qf := z.qf, qb := z.qb, qv := z.qv, qd := z.qd, ecc := z.ecc, cnt := z.cnt, reports := z.reports,
                 mx := { x.mx with
                   acc := y.mx.acc, accPz := y.mx.accPz, apz := y.mx.apz, bpz := y.mx.bpz, flags := y.mx.flags
                   cst := Sparse.set CSt.empty x.mx.cst (mmaCb w) (if fmtInt (mmaFa w) then .int32 else .fp32)
                   mmas := x.mx.mmas ++
                     [⟨cc + per * mmaKb w, cc + per * mmaKb w + 6, mmaCb w, mmaAs w, mmaAEnd w, mmaBsl w, mmaBEnd w, eSflag w⟩]
                   next := z.mx.next, lastB := z.mx.lastB, turn := z.mx.turn } } := by
  unfold Tile.SameButProduct at h
  unfold Tile.mmaIssued
  dsimp only
  rw [Tile.mxLeave_frame, h]

end

/-- What an MMA leaves (R101, R107, R108): its issue, its operands, every other C-block, and its occupation of the array. -/
theorem Tile.mma_keeps (x : Tile) {w p per : Nat} (hpair : pairClass (mmaFa w) (mmaFb w) (mmaFacet w) = some (p, per)) (cc : Nat) (q : MQueue) :
    let z := x.mma cc q w
    z.issuePart = (x.mxLeave cc q w).issuePart ∧ z.store = x.store ∧
    z.mx.abuf = x.mx.abuf ∧ z.mx.bbuf = x.mx.bbuf ∧ z.mx.atag = x.mx.atag ∧ z.mx.btag = x.mx.btag ∧
    (∀ k, k / 1024 ≠ mmaCb w → Sparse.get 0 z.mx.acc k = Sparse.get 0 x.mx.acc k) ∧
    (∀ c, z.cst c = if c = mmaCb w then (if fmtInt (mmaFa w) then .int32 else .fp32) else x.cst c) ∧
    z.mx.mmas = x.mx.mmas ++
      [⟨cc + per * mmaKb w, cc + per * mmaKb w + 6, mmaCb w, mmaAs w, mmaAEnd w, mmaBsl w, mmaBEnd w, eSflag w⟩] := by
  obtain ⟨hprod, hacc⟩ := x.mmaProduct_frame w p
  dsimp only
  rw [show x.mma cc q w = Tile.mmaIssued cc q ((x.mmaRead w).mmaValues w p) w per from Tile.mma_of_pair hpair cc q x]
  generalize (x.mmaRead w).mmaValues w p = y at hprod hacc ⊢
  have hframe := Tile.mmaIssued_frame hprod cc q w per
  refine ⟨Tile.issuePart_mmaIssued hprod cc q w per, congrArg (·.store) hframe, congrArg (·.mx.abuf) hframe, congrArg (·.mx.bbuf) hframe,
    congrArg (·.mx.atag) hframe, congrArg (·.mx.btag) hframe, fun k hk => ?_, fun c => ?_, congrArg (·.mx.mmas) hframe⟩
  · rw [congrArg (·.mx.acc) hframe]
    exact hacc k hk
  · unfold Tile.cst
    rw [congrArg (·.mx.cst) hframe]
    exact Sparse.get_set ..

section
variable {s : State} {t : Nat} {f : MmaFly} {rest : List MmaFly} (ht : t < 1536) (hm : (s.tile t).mx.mmas = f :: rest)
include ht hm

theorem mmaComplete_due (hd : f.due ≤ s.cc) : exec (.mmaComplete t) s =
    .next (s.setTile t (Tile.signal { s.tile t with mx := { (s.tile t).mx with mmas := rest } } f.sflag)) := by
  show execMmaComplete t s = _
  unfold execMmaComplete
  refine onTile_set ht ?_ (Tile.signal_st _ _)
  simp only [hm]
  exact if_pos hd

theorem mmaComplete_early (hd : s.cc < f.due) : exec (.mmaComplete t) s = .next (s.setTile t (s.tile t)) := by
  show execMmaComplete t s = _
  unfold execMmaComplete
  refine onTile_set ht ?_ rfl
  simp only [hm]
  exact if_neg (Nat.not_le.2 hd)

end

/-- A stall at the program counter counts for a full queue (R54) or in TILE.CNT_MSGOUTW, and nowhere else. -/
theorem Tile.count_countStall_ne (x : Tile) (c : Nat) {off : Nat} (h1 : off ≠ 0x820) (h2 : off ≠ 0x730) :
    (x.countStall c).count off = x.count off := by
  unfold Tile.countStall
  split
  next k hk =>
    obtain ⟨w, -, hw⟩ := Option.bind_eq_some_iff.1 hk
    refine Tile.count_bump_ne x 1 ?_
    rintro rfl
    unfold Tile.stallCounter at hw
    dsimp only at hw
    split_ifs at hw <;> simp_all
  next => rfl

theorem Tile.arrayBusy_iff (x : Tile) (c : Nat) : x.arrayBusy c = true ↔ ∃ m ∈ x.mx.mmas, c < m.busyEnd := by
  simp [Tile.arrayBusy]

/-- TILE.CNT_MXBUSY counts a cycle in which the array computes (R121). -/
theorem Tile.cycle_count_mxBusy (x : Tile) (c : Nat) : (x.cycle c).count 0x510 =
    if ∃ m ∈ x.mx.mmas, c < m.busyEnd then sat32 (x.count 0x510) 1 else x.count 0x510 := by
  rw [Tile.cycle_count_ne x c (by decide) (by decide), Tile.countCycle_eq, Tile.count_bumpIf_ne _ _ (by decide),
    Tile.count_bumpIf_ne _ _ (by decide), Tile.count_bumpIf_ne _ _ (by decide), Tile.count_bumpIf_ne _ _ (by decide)]
  have hstall := x.count_countStall_ne c (off := 0x510) (by decide) (by decide)
  by_cases hb : x.arrayBusy c = true
  · rw [Tile.count_bumpIf _ _ hb, hstall, if_pos ((x.arrayBusy_iff c).1 hb)]
  · rw [Bool.eq_false_of_not_eq_true hb, if_neg fun h => hb ((x.arrayBusy_iff c).2 h)]
    exact hstall


/-! ### The words of a SLICE -/

section
variable (x : Tile) (w n : Nat)

/-- The tile-store address of word n of the rows that a SLICE moves. -/
def Tile.slAddr : Nat :=
  hElemAddr (x.hndOf (slH w)) 8 (1024 * slBlk w + 32 * (2 * slR0 w + n / 16) + 2 * (n % 16))

/-- The bytes of that word, two accumulators. -/
def Tile.slBytes : List Byte :=
  leBytes 4 (x.accOf (slCb w) (2 * slR0 w + n / 16) (2 * (n % 16))).1.toNat ++
    leBytes 4 (x.accOf (slCb w) (2 * slR0 w + n / 16) (2 * (n % 16) + 1)).1.toNat

/-- Its poison in the tile store: its own, or every word's in a tainted tile (R52). -/
def Tile.slPz : Bool := (x.accOf (slCb w) (2 * slR0 w + n / 16) (2 * (n % 16))).2 || x.taint

theorem Tile.sliceStore_eq :
    x.sliceStore w = (List.range (32 * slNr w)).foldl (fun y n => y.write (x.slAddr w n) (x.slBytes w n) (x.slPz w n)) x := rfl

theorem Tile.slBytes_length : (x.slBytes w n).length = 8 := by simp [Tile.slBytes]

end

/-- Words of one block lie at different multiples of eight (R67): the granule gives row and column group back, its half the column pair. -/
theorem blockByte_word {r c r' c' : Nat} (hc : c % 2 = 0) (hc32 : c < 32) (hc' : c' % 2 = 0) (hc32' : c' < 32) :
    8 ∣ blockByte 8 r c ∧ (blockByte 8 r c = blockByte 8 r' c' → r = r' ∧ c = c') := by
  simp only [blockByte, show 32 / 8 = 4 from rfl]
  omega

section
variable {x : Tile} {w : Nat} (hlay : hLayout (x.hndOf (slH w)) ≠ 0)
include hlay

/-- The words of a SLICE that lie in its C-block are words of block BLK. -/
theorem Tile.slAddr_eq {n : Nat} (hn : 32 * slR0 w + n < 512) : x.slAddr w n =
    64 * hBase (x.hndOf (slH w)) + slBlk w * 4096 + blockByte 8 (2 * slR0 w + n / 16) (2 * (n % 16)) := by
  unfold Tile.slAddr hElemAddr
  rw [if_neg hlay, show (1024 * slBlk w + 32 * (2 * slR0 w + n / 16) + 2 * (n % 16)) / 1024 = slBlk w by omega,
    show (1024 * slBlk w + 32 * (2 * slR0 w + n / 16) + 2 * (n % 16)) % 1024 / 32 = 2 * slR0 w + n / 16 by omega,
    show (1024 * slBlk w + 32 * (2 * slR0 w + n / 16) + 2 * (n % 16)) % 32 = 2 * (n % 16) by omega]

/-- The words of a SLICE are words of the tile store, each at its own address. -/
theorem Tile.slAddr_word {n : Nat} (hn : 32 * slR0 w + n < 512) : 8 ∣ x.slAddr w n ∧
    ∀ m, 32 * slR0 w + m < 512 → m ≠ n → x.slAddr w m ≠ x.slAddr w n := by
  rw [Tile.slAddr_eq hlay hn]
  refine ⟨?_, fun m hm hne => ?_⟩
  · have := (blockByte_word (r := 2 * slR0 w + n / 16) (c := 2 * (n % 16)) (r' := 0) (c' := 0) (by omega) (by omega) rfl (by decide)).1
    omega
  · rw [Tile.slAddr_eq hlay hm]
    have := (blockByte_word (r := 2 * slR0 w + m / 16) (c := 2 * (m % 16)) (r' := 2 * slR0 w + n / 16) (c' := 2 * (n % 16))
      (by omega) (by omega) (by omega) (by omega)).2
    omega

end

/-! ### Whole words into the tile store -/

theorem wordsOf_word {a : Nat} (h : 8 ∣ a) : wordsOf a 8 = [a / 8] := by
  unfold wordsOf
  rw [if_neg (by decide), show (a + 8 - 1) / 8 - a / 8 + 1 = 1 by omega]
  rfl

/-- Bytes that are written read back. -/
theorem Tile.bytes_write_self (x : Tile) (a : Nat) (bs : List Byte) (pz : Bool) : (x.write a bs pz).bytes a bs.length = bs :=
  Sparse.getRun_setRun ..

section
variable (x : Tile) {a : Nat} {bs : List Byte} (pz : Bool) (h : 8 ∣ a) (hl : bs.length = 8)
include h hl

/-- A word that is written takes the poison of the value, every other keeps its own (R60). -/
theorem Tile.wordPz_write_word (k : Nat) : (x.write a bs pz).wordPz k = if k = a / 8 then pz else x.wordPz k := by
  rw [Tile.write_wordPz, hl, wordsOf_word h]
  by_cases hk : k = a / 8
  · rw [if_pos (by simp [hk]), if_pos hk, Tile.writtenPz, if_pos (by omega)]
  · rw [if_neg (by simpa using hk), if_neg hk]

theorem Tile.bytes_write_otherWord {b : Nat} (hb : 8 ∣ b) (hne : a ≠ b) : (x.write a bs pz).bytes b 8 = x.bytes b 8 := by
  unfold Tile.bytes Sparse.getRun
  refine List.map_congr_left fun i hi => ?_
  have hi8 := List.mem_range.1 hi
  refine (x.write_byteAt a bs pz (b + i)).trans (if_neg ?_)
  omega

end

/-- `z` is `x` but for the tile store with its poison, and check bits, counts and reports. -/
def Tile.SameButStore (x z : Tile) : Prop :=
  z = { x with store := z.store, spz := z.spz, ecc := z.ecc, cnt := z.cnt, reports := z.reports }

theorem Tile.SameButStore.write {x z : Tile} (h : x.SameButStore z) (a : Nat) (bs : List Byte) (pz : Bool) :
    x.SameButStore (z.write a bs pz) := by
  have hw := z.write_frame a bs pz
  unfold Tile.SameButStore at h ⊢
  dsimp only at hw
  rw [hw, h]

theorem Tile.sameButStore_sliceStore (x : Tile) (w : Nat) : x.SameButStore (x.sliceStore w) := by
  rw [Tile.sliceStore_eq]
  exact List.foldlRecOn _ _ (motive := fun u => x.SameButStore u) rfl fun u hu n _ => hu.write _ _ _

/-- A SLICE writes each word of its rows whole, and no byte besides (R110). -/
theorem Tile.sliceStore_words {x : Tile} {w : Nat} (hlay : hLayout (x.hndOf (slH w)) ≠ 0) (hr : slR0 w + slNr w ≤ 16) :
    (∀ n < 32 * slNr w, (x.sliceStore w).bytes (x.slAddr w n) 8 = x.slBytes w n ∧
      (x.sliceStore w).wordPz (x.slAddr w n / 8) = x.slPz w n) ∧
    ∀ b, (∀ n < 32 * slNr w, b < x.slAddr w n ∨ x.slAddr w n + 8 ≤ b) → (x.sliceStore w).byteAt b = x.byteAt b := by
  rw [Tile.sliceStore_eq]
  constructor
  · intro n hn
    obtain ⟨hdvd, hinj⟩ := Tile.slAddr_word hlay (n := n) (by omega)
    rw [← Prod.mk.injEq]
    refine foldl_sets (fun u : Tile => (u.bytes (x.slAddr w n) 8, u.wordPz (x.slAddr w n / 8))) (List.mem_range.2 hn) (fun u => ?set)
      (fun u m hm hne => ?keep) x
    case set =>
      have hbytes := u.bytes_write_self (x.slAddr w n) (x.slBytes w n) (x.slPz w n)
      rw [x.slBytes_length w n] at hbytes
      rw [hbytes, Tile.wordPz_write_word u _ hdvd (x.slBytes_length w n), if_pos rfl]
    case keep =>
      have hm := List.mem_range.1 hm
      have hdvd' := (Tile.slAddr_word hlay (n := m) (by omega)).1
      have hdiff := hinj m (by omega) hne
      rw [Tile.bytes_write_otherWord u _ hdvd' (x.slBytes_length w m) hdvd hdiff,
        Tile.wordPz_write_word u _ hdvd' (x.slBytes_length w m), if_neg (by omega)]
  · intro b hb
    refine List.foldlRecOn _ _ (motive := fun u : Tile => u.byteAt b = x.byteAt b) rfl fun u hu n hn => ?_
    have hout := hb n (List.mem_range.1 hn)
    rw [Tile.write_byteAt, x.slBytes_length w n, if_neg (by omega), hu]

/-! ### Rows into vector registers -/

/-- `z` is `x` but for values and poison of vector registers, and check bits. -/
def Tile.SameButVregs (x z : Tile) : Prop :=
  z = { x with ecc := z.ecc, vx := { x.vx with vreg := z.vx.vreg, vpz := z.vx.vpz } }

theorem Tile.SameButVregs.setV {x z : Tile} (h : x.SameButVregs z) (r e : Nat) (v : Word) (pz : Bool) : x.SameButVregs (z.setV r e v pz) := by
  unfold Tile.SameButVregs at h ⊢
  rw [h]
  rfl

theorem Tile.sameButVregs_sliceRegs (x : Tile) (w : Nat) : x.SameButVregs (x.sliceRegs w) :=
  List.foldlRecOn _ _ (motive := fun u => x.SameButVregs u) rfl fun _ hu _ _ => hu.setV _ _ _ _

/-- Element k of the register file with its poison. -/
def Tile.vregAt (x : Tile) (k : Nat) : Word × Bool := (Sparse.get 0 x.vx.vreg k, Sparse.get false x.vx.vpz k)

theorem Tile.vregAt_setV (x : Tile) (r e : Nat) (v : Word) (pz : Bool) (k : Nat) :
    (x.setV r e v pz).vregAt k = if k = 64 * r + e then (v, pz) else x.vregAt k := by
  unfold Tile.vregAt Tile.setV
  dsimp only
  rw [Sparse.get_set, Sparse.get_set]
  split <;> rfl

/-- The accumulator that a SLICE moves into element k of the register file, with its poison. -/
def Tile.slAcc (x : Tile) (w k : Nat) : Word × Bool :=
  x.accOf (slCb w) (2 * slR0 w + (k - 64 * slVd w) / 32) ((k - 64 * slVd w) % 32)

/-- A SLICE into registers gives each of their elements its accumulator, and writes no other (R110). -/
theorem Tile.vregAt_sliceRegs (x : Tile) (w k : Nat) : (x.sliceRegs w).vregAt k =
    if 64 * slVd w ≤ k ∧ k < 64 * (slVd w + slNr w) then x.slAcc w k else x.vregAt k := by
  unfold Tile.sliceRegs Tile.slAcc
  split
  next hk =>
    refine foldl_sets (fun u : Tile => u.vregAt k) (List.mem_range.2 (show k - 64 * slVd w < 64 * slNr w by omega)) (fun u => ?set)
      (fun u n hn hne => ?keep) x
    case set => exact (Tile.vregAt_setV ..).trans (if_pos (by omega))
    case keep => rw [Tile.vregAt_setV, if_neg (by omega)]
  next hk =>
    refine List.foldlRecOn _ _ (motive := fun u : Tile => u.vregAt k = x.vregAt k) rfl fun u hu n hn => ?_
    have hn := List.mem_range.1 hn
    rw [Tile.vregAt_setV, if_neg (by omega), hu]

/-! ### Elements that a SLICE leaves undefined -/

/-- `z` is `x` but for the elements that are undefined, and the tile store. -/
def Tile.SameButUndefined (x z : Tile) : Prop :=
  z = { x with store := z.store, vx := { x.vx with und := z.vx.und } }

theorem Tile.SameButUndefined.trans {x y z : Tile} (h : x.SameButUndefined y) (h' : y.SameButUndefined z) : x.SameButUndefined z := by
  unfold Tile.SameButUndefined at h h' ⊢
  rw [h', h]

theorem Tile.sameButUndefined_undefine (lvl : Nat) (x : Tile) (ks : List Nat) : x.SameButUndefined (x.undefine lvl ks) := rfl

theorem Tile.und_undefine (lvl : Nat) (x : Tile) (ks : List Nat) (k : Nat) :
    Sparse.get 0 (x.undefine lvl ks).vx.und k = if k ∈ ks then lvl else Sparse.get 0 x.vx.und k := by
  have h := Sparse.get_foldl_set 0 lvl id ks x.vx.und k
  rwa [List.map_id] at h

/-- A run that takes free values is in the tile store. -/
theorem Tile.freeRun_frame (fr : Nat) (x : Tile) (r : Nat × Nat × Nat × Nat) :
    x.freeRun fr r = { x with store := (x.freeRun fr r).store } :=
  List.foldlRecOn _ _ (motive := fun u : Tile => u = { x with store := u.store }) rfl fun u hu n _ => by
    rw [hu]

theorem Tile.foldl_freeRun_frame (fr : Nat) (x : Tile) (rs : List (Nat × Nat × Nat × Nat)) :
    rs.foldl (Tile.freeRun fr) x = { x with store := (rs.foldl (Tile.freeRun fr) x).store } :=
  List.foldlRecOn rs _ (motive := fun u : Tile => u = { x with store := u.store }) rfl fun u hu r _ => by
    rw [Tile.freeRun_frame, hu]

section
variable (fr : Nat) (regs : List Nat) (x : Tile)

theorem Tile.sliceMeets_frame (f : VFly) : x.SameButUndefined (x.sliceMeets fr regs f) ∧
    ∀ k, Sparse.get 0 x.vx.und k ≠ 0 → Sparse.get 0 (x.sliceMeets fr regs f).vx.und k ≠ 0 := by
  have hund : ∀ ks k, Sparse.get 0 x.vx.und k ≠ 0 → Sparse.get 0 (x.undefine 2 ks).vx.und k ≠ 0 := fun ks k hk => by
    rw [Tile.und_undefine]
    split
    · decide
    · exact hk
  unfold Tile.sliceMeets
  split
  · rw [Tile.foldl_freeRun_frame]
    exact ⟨rfl, hund _⟩
  · exact ⟨rfl, hund _⟩

/-- Where no vector instruction in flight reads a register of the SLICE, no byte takes a free value. -/
theorem Tile.sliceMeets_store {f : VFly} (h : ∀ r ∈ f.use.rregs, r ∉ regs) : (x.sliceMeets fr regs f).store = x.store := by
  unfold Tile.sliceMeets
  rw [if_neg (by simpa using h)]
  rfl

theorem Tile.foldl_sliceMeets_frame (fs : List VFly) : x.SameButUndefined (fs.foldl (Tile.sliceMeets fr regs) x) ∧
    ∀ k, Sparse.get 0 x.vx.und k ≠ 0 → Sparse.get 0 (fs.foldl (Tile.sliceMeets fr regs) x).vx.und k ≠ 0 :=
  List.foldlRecOn fs _ (motive := fun u : Tile => x.SameButUndefined u ∧ ∀ k, Sparse.get 0 x.vx.und k ≠ 0 → Sparse.get 0 u.vx.und k ≠ 0)
    ⟨rfl, fun _ h => h⟩ fun u ⟨hframe, hund⟩ f _ =>
      have ⟨hframe', hund'⟩ := u.sliceMeets_frame fr regs f
      ⟨hframe.trans hframe', fun k hk => hund' k (hund k hk)⟩

theorem Tile.foldl_sliceMeets_store {fs : List VFly} (h : ∀ f ∈ fs, ∀ r ∈ f.use.rregs, r ∉ regs) :
    (fs.foldl (Tile.sliceMeets fr regs) x).store = x.store :=
  List.foldlRecOn fs _ (motive := fun u : Tile => u.store = x.store) rfl fun u hu f hf => (u.sliceMeets_store fr regs (h f hf)).trans hu

end

/-! ### SLICE -/

/-- What the checks of a SLICE give: its rows lie in the C-block, its handle is blocked (R109). -/
theorem Tile.rows_of_sliceCheck {x : Tile} {q : MQueue} {w : Nat} (h : x.sliceCheck q w = none) :
    slR0 w + slNr w ≤ 16 ∧ (slDst w = true → hLayout (x.hndOf (slH w)) ≠ 0) := by
  unfold Tile.sliceCheck at h
  dsimp only at h
  split_ifs at h <;> simp_all

theorem Tile.mxCheck_slice (x : Tile) (q : MQueue) {w : Nat} (ho : eOpc w = 0x30) : x.mxCheck q w = x.sliceCheck q w := by
  unfold Tile.mxCheck
  rw [ho]
  rfl

section
variable (x : Tile) (w : Nat)

/-- The tile once a SLICE has read, and checked, its accumulators. -/
def Tile.sliceRead : Tile :=
  if x.cst (slCb w) = .empty then x
  else ((List.range (32 * slNr w)).map (512 * slCb w + 32 * slR0 w + ·)).foldl (Tile.mxTouch 3) x

/-- The tile once the rows have been moved. -/
def Tile.sliceMoved : Tile :=
  if slDst w then (x.sliceRead w).sliceStore w else (x.sliceRead w).sliceRegs w

/-- The tile once CLR has emptied the C-block. -/
def Tile.sliceCleared : Tile :=
  if slClr w then (x.sliceMoved w).clearC (slCb w) else x.sliceMoved w

/-- The tile once the registers of the SLICE, and what vector instructions in flight make of them, are undefined (R112). -/
def Tile.sliceUndefined (fr cc : Nat) : Tile :=
  (x.vx.fly.filter fun f => decide (cc < f.due)).foldl (Tile.sliceMeets fr (slRegs w))
    ((x.sliceCleared w).undefine 1 ((List.range (64 * (slRegs w).length)).map (64 * slVd w + ·)))

/-- A SLICE that has moved its rows leaves its queue, asks for its banks and occupies the handoff unit (R111). -/
def Tile.sliceIssued (cc : Nat) (q : MQueue) (y : Tile) (w : Nat) (need : List BankNeed) : Tile :=
  let z := (y.mxLeave cc q w).ask .handoff need []
  let len := if slDst w then 4 * slNr w else slNr w
  { z with mx := { z.mx with slices := z.mx.slices ++ [⟨cc + len, cc + len + 1, slCb w, slRegs w, eSflag w⟩] } }

theorem Tile.slice_eq (fr cc : Nat) (q : MQueue) :
    x.slice fr cc q w = Tile.sliceIssued cc q (x.sliceUndefined w fr cc) w (x.sliceNeeds w) := rfl

theorem Tile.sliceIssued_frame (cc : Nat) (q : MQueue) (y : Tile) (need : List BankNeed) : let z := Tile.sliceIssued cc q y w need
    z = { y with qf := z.qf, qb := z.qb, qv := z.qv, qd := z.qd, banks := z.banks,
                 mx := { y.mx with
                   slices := y.mx.slices ++ [⟨cc + (if slDst w then 4 * slNr w else slNr w),
                     cc + (if slDst w then 4 * slNr w else slNr w) + 1, slCb w, slRegs w, eSflag w⟩]
                   next := z.mx.next, lastB := z.mx.lastB, turn := z.mx.turn } } := by
  unfold Tile.sliceIssued
  dsimp only
  rw [Tile.ask_frame, Tile.mxLeave_frame]

theorem Tile.issuePart_sliceIssued (cc : Nat) (q : MQueue) {y : Tile} (need : List BankNeed) (h : y.issuePart = x.issuePart) :
    (Tile.sliceIssued cc q y w need).issuePart = (x.mxLeave cc q w).issuePart := by
  unfold Tile.sliceIssued
  dsimp only
  rw [Tile.ask_frame]
  exact Tile.issuePart_mxLeave cc q w h

theorem Tile.sameButChecks_sliceRead : x.SameButChecks (x.sliceRead w) := by
  unfold Tile.sliceRead
  split
  · rfl
  · exact Tile.sameButChecks_foldl_mxTouch 3 _ x

/-- What the moving of rows keeps, whatever their destination. -/
def Tile.besideRows (x : Tile) := (x.issuePart, x.mx.slices, x.mx.acc, x.mx.cst, x.taint)

theorem Tile.besideRows_sliceMoved : (x.sliceMoved w).besideRows = x.besideRows := by
  have hread := x.sameButChecks_sliceRead w
  unfold Tile.sliceMoved
  generalize x.sliceRead w = y at hread
  have hy : y.besideRows = x.besideRows := congrArg (·.besideRows) hread
  split
  · exact (congrArg (·.besideRows) (y.sameButStore_sliceStore w)).trans hy
  · exact (congrArg (·.besideRows) (y.sameButVregs_sliceRegs w)).trans hy

theorem Tile.sliceCleared_frame : let z := x.sliceCleared w
    z = { x.sliceMoved w with mx := { (x.sliceMoved w).mx with acc := z.mx.acc, accPz := z.mx.accPz, cst := z.mx.cst } } := by
  unfold Tile.sliceCleared
  split <;> rfl

/-- CLR empties the C-block, and no other; without it no C-block changes (R101). -/
theorem Tile.sliceCleared_mx :
    (∀ c, (x.sliceCleared w).cst c = if c = slCb w ∧ slClr w = true then .empty else x.cst c) ∧
    ∀ k, slClr w = false ∨ k / 1024 ≠ slCb w → Sparse.get 0 (x.sliceCleared w).mx.acc k = Sparse.get 0 x.mx.acc k := by
  have hmoved := x.besideRows_sliceMoved w
  simp only [Tile.besideRows, Prod.mk.injEq] at hmoved
  obtain ⟨-, -, hacc, hcst, -⟩ := hmoved
  unfold Tile.sliceCleared Tile.cst
  split
  next hclr =>
    refine ⟨fun c => ?_, fun k hk => ?_⟩
    · rw [← hcst]
      refine (Sparse.get_set CSt.empty (x.sliceMoved w).mx.cst (slCb w) c .empty).trans ?_
      simp [hclr]
    · rw [← hacc]
      have hk : k / 1024 ≠ slCb w := hk.resolve_left (by simp [hclr])
      exact Sparse.get_filter_index 0 (fun i => decide (i / 1024 ≠ slCb w)) _ (by simpa using hk)
  next hclr =>
    refine ⟨fun c => ?_, fun k _ => ?_⟩
    · rw [hcst, if_neg fun h => hclr h.2]
    · rw [hacc]

theorem Tile.sliceUndefined_frame (fr cc : Nat) : (x.sliceCleared w).SameButUndefined (x.sliceUndefined w fr cc) ∧
    ∀ k, 64 * slVd w ≤ k → k < 64 * (slVd w + (slRegs w).length) → Sparse.get 0 (x.sliceUndefined w fr cc).vx.und k ≠ 0 := by
  unfold Tile.sliceUndefined
  obtain ⟨hframe, hund⟩ := Tile.foldl_sliceMeets_frame fr (slRegs w)
    ((x.sliceCleared w).undefine 1 ((List.range (64 * (slRegs w).length)).map (64 * slVd w + ·))) (x.vx.fly.filter fun f => decide (cc < f.due))
  refine ⟨(Tile.sameButUndefined_undefine 1 _ _).trans hframe, fun k h1 h2 => hund k ?_⟩
  rw [Tile.und_undefine, if_pos ?_]
  · decide
  · exact List.mem_map.2 ⟨k - 64 * slVd w, List.mem_range.2 (by omega), by omega⟩

/-- Where no vector instruction in flight reads a register of the SLICE, the tile store is as the moving of rows left it. -/
theorem Tile.sliceUndefined_store (fr cc : Nat) (h : ∀ f ∈ x.vx.fly, f.due ≤ cc ∨ ∀ r ∈ f.use.rregs, r ∉ slRegs w) :
    (x.sliceUndefined w fr cc).store = (x.sliceMoved w).store := by
  unfold Tile.sliceUndefined
  rw [Tile.foldl_sliceMeets_store]
  · exact congrArg (·.store) (x.sliceCleared_frame w)
  · intro f hf
    obtain ⟨hmem, hdue⟩ := List.mem_filter.1 hf
    exact (h f hmem).resolve_left (Nat.not_le.2 (of_decide_eq_true hdue))

/-- What a SLICE leaves after it has moved its rows, beside bytes, C-blocks and what is undefined: what the moving left. -/
theorem Tile.sliceUndefined_keeps (fr cc : Nat) :
    (x.sliceUndefined w fr cc).issuePart = x.issuePart ∧ (x.sliceUndefined w fr cc).mx.slices = x.mx.slices ∧
    (x.sliceUndefined w fr cc).mx.acc = (x.sliceCleared w).mx.acc ∧ (x.sliceUndefined w fr cc).mx.cst = (x.sliceCleared w).mx.cst ∧
    (x.sliceUndefined w fr cc).vx.vreg = (x.sliceMoved w).vx.vreg ∧ (x.sliceUndefined w fr cc).vx.vpz = (x.sliceMoved w).vx.vpz ∧
    (x.sliceUndefined w fr cc).spz = (x.sliceMoved w).spz := by
  have hmoved := x.besideRows_sliceMoved w
  have hclear := x.sliceCleared_frame w
  have hundef := (x.sliceUndefined_frame w fr cc).1
  generalize x.sliceUndefined w fr cc = z at hundef ⊢
  generalize x.sliceCleared w = y at hclear hundef ⊢
  generalize x.sliceMoved w = v at hmoved hclear ⊢
  simp only [Tile.besideRows, Prod.mk.injEq] at hmoved
  obtain ⟨hissue, hslices, -⟩ := hmoved
  exact ⟨(congrArg (·.issuePart) hundef).trans ((congrArg (·.issuePart) hclear).trans hissue),
    (congrArg (·.mx.slices) hundef).trans ((congrArg (·.mx.slices) hclear).trans hslices),
    congrArg (·.mx.acc) hundef, congrArg (·.mx.cst) hundef,
    (congrArg (·.vx.vreg) hundef).trans (congrArg (·.vx.vreg) hclear),
    (congrArg (·.vx.vpz) hundef).trans (congrArg (·.vx.vpz) hclear),
    (congrArg (·.spz) hundef).trans (congrArg (·.spz) hclear)⟩

/-- What a SLICE leaves: its issue, its occupation of the handoff unit (R111), and what its moving, CLR and R112 left. -/
theorem Tile.slice_keeps (fr cc : Nat) (q : MQueue) : let z := x.slice fr cc q w
    z.issuePart = (x.mxLeave cc q w).issuePart ∧
    z.mx.slices = x.mx.slices ++ [⟨cc + (if slDst w then 4 * slNr w else slNr w),
      cc + (if slDst w then 4 * slNr w else slNr w) + 1, slCb w, slRegs w, eSflag w⟩] ∧
    z.mx.acc = (x.sliceCleared w).mx.acc ∧ z.cst = (x.sliceCleared w).cst ∧ z.vx.vreg = (x.sliceMoved w).vx.vreg ∧
    z.vx.vpz = (x.sliceMoved w).vx.vpz ∧ z.spz = (x.sliceMoved w).spz ∧ z.store = (x.sliceUndefined w fr cc).store ∧
    z.vx.und = (x.sliceUndefined w fr cc).vx.und := by
  dsimp only
  rw [Tile.slice_eq]
  have hkeeps := x.sliceUndefined_keeps w fr cc
  generalize x.sliceUndefined w fr cc = u at hkeeps ⊢
  obtain ⟨hissue, hslices, hacc, hcst, hvreg, hvpz, hspz⟩ := hkeeps
  have hframe := Tile.sliceIssued_frame w cc q u (x.sliceNeeds w)
  refine ⟨Tile.issuePart_sliceIssued x w cc q _ hissue, ?_, (congrArg (·.mx.acc) hframe).trans hacc, ?_,
    (congrArg (·.vx.vreg) hframe).trans hvreg, (congrArg (·.vx.vpz) hframe).trans hvpz, (congrArg (·.spz) hframe).trans hspz,
    congrArg (·.store) hframe, congrArg (·.vx.und) hframe⟩
  · exact (congrArg (·.mx.slices) hframe).trans (congrArg (· ++ _) hslices)
  · funext c
    exact (congrArg (·.cst c) hframe).trans (congrArg (Sparse.get CSt.empty · c) hcst)

/-- The accumulators that a SLICE reads have their values before and after the read. -/
theorem Tile.accOf_sliceRead (cb i j : Nat) : ((x.sliceRead w).accOf cb i j).1 = (x.accOf cb i j).1 := by
  have hread := x.sameButChecks_sliceRead w
  generalize x.sliceRead w = y at hread
  have hacc : y.mx.acc = x.mx.acc := congrArg (·.mx.acc) hread
  have hcst : y.cst = x.cst := congrArg (·.cst) hread
  unfold Tile.accOf
  rw [hacc, hcst]
  split <;> rfl

/-- The rows of a SLICE with DST = 0 after their moving (R110). -/
theorem Tile.sliceMoved_regs (hd : slDst w = false) : (x.sliceMoved w).store = x.store ∧
    ∀ k, (x.sliceMoved w).vregAt k =
      if 64 * slVd w ≤ k ∧ k < 64 * (slVd w + slNr w) then ((x.slAcc w k).1, ((x.sliceRead w).slAcc w k).2) else x.vregAt k := by
  have hread := x.sameButChecks_sliceRead w
  have hacc := x.accOf_sliceRead w
  unfold Tile.sliceMoved
  rw [if_neg (by simp [hd])]
  generalize x.sliceRead w = y at hread hacc ⊢
  refine ⟨(congrArg (·.store) (y.sameButVregs_sliceRegs w)).trans (congrArg (·.store) hread), fun k => ?_⟩
  have hval : (y.slAcc w k).1 = (x.slAcc w k).1 := hacc ..
  have hold : y.vregAt k = x.vregAt k := congrArg (·.vregAt k) hread
  rw [Tile.vregAt_sliceRegs, ← hval, hold]

/-- The rows of a SLICE with DST = 1 after their moving (R110). -/
theorem Tile.sliceMoved_store (hd : slDst w = true) (hlay : hLayout (x.hndOf (slH w)) ≠ 0) (hr : slR0 w + slNr w ≤ 16) :
    (x.sliceMoved w).vx.vreg = x.vx.vreg ∧
    (∀ n < 32 * slNr w, (x.sliceMoved w).bytes (x.slAddr w n) 8 = x.slBytes w n ∧ (x.sliceMoved w).wordPz (x.slAddr w n / 8) =
      (((x.sliceRead w).accOf (slCb w) (2 * slR0 w + n / 16) (2 * (n % 16))).2 || x.taint)) ∧
    ∀ b, (∀ n < 32 * slNr w, b < x.slAddr w n ∨ x.slAddr w n + 8 ≤ b) → (x.sliceMoved w).byteAt b = x.byteAt b := by
  have hread := x.sameButChecks_sliceRead w
  have hacc := x.accOf_sliceRead w
  unfold Tile.sliceMoved
  rw [if_pos hd]
  generalize x.sliceRead w = y at hread hacc ⊢
  have hhnd : y.hndOf = x.hndOf := congrArg (·.hndOf) hread
  have haddr : y.slAddr w = x.slAddr w := congrArg (·.slAddr w) hread
  have hbytes : y.slBytes w = x.slBytes w := by
    funext n
    unfold Tile.slBytes
    rw [hacc, hacc]
  have hbyte : y.byteAt = x.byteAt := congrArg (·.byteAt) hread
  have htaint : y.taint = x.taint := congrArg (·.taint) hread
  obtain ⟨hwords, hout⟩ := Tile.sliceStore_words (x := y) (w := w) (by rwa [hhnd]) hr
  simp only [haddr, hbytes, Tile.slPz, htaint] at hwords
  simp only [haddr, hbyte] at hout
  exact ⟨(congrArg (·.vx.vreg) (y.sameButStore_sliceStore w)).trans (congrArg (·.vx.vreg) hread), hwords, hout⟩

/-- What a SLICE with DST = 0 leaves in the tile store and the vector registers (R110, R112). -/
theorem Tile.slice_regs (hd : slDst w = false) (fr cc : Nat) (q : MQueue) : let z := x.slice fr cc q w
    ((∀ f ∈ x.vx.fly, f.due ≤ cc ∨ ∀ r ∈ f.use.rregs, r ∉ slRegs w) → z.store = x.store) ∧
    ∀ k, if 64 * slVd w ≤ k ∧ k < 64 * (slVd w + slNr w) then
        Sparse.get 0 z.vx.vreg k = (x.slAcc w k).1 ∧ Sparse.get false z.vx.vpz k = ((x.sliceRead w).slAcc w k).2 ∧ Sparse.get 0 z.vx.und k ≠ 0
      else Sparse.get 0 z.vx.vreg k = Sparse.get 0 x.vx.vreg k ∧ Sparse.get false z.vx.vpz k = Sparse.get false x.vx.vpz k := by
  obtain ⟨-, -, -, -, hzvreg, hzvpz, -, hzstore, hzund⟩ := x.slice_keeps w fr cc q
  obtain ⟨hstore, hmoved⟩ := x.sliceMoved_regs w hd
  have hund := (x.sliceUndefined_frame w fr cc).2
  have hlen : (slRegs w).length = slNr w := by simp [slRegs, hd]
  refine ⟨fun hf => ?_, fun k => ?_⟩
  · rw [hzstore, x.sliceUndefined_store w fr cc hf, hstore]
  · have hk := hmoved k
    rw [Tile.vregAt, ← hzvreg, ← hzvpz] at hk
    split
    next hin =>
      rw [if_pos hin, Prod.mk.injEq] at hk
      obtain ⟨hval, hpz⟩ := hk
      refine ⟨hval, hpz, ?_⟩
      rw [hzund]
      exact hund k hin.1 (by rw [hlen]; exact hin.2)
    next hout => rwa [if_neg hout, Tile.vregAt, Prod.mk.injEq] at hk

/-- What a SLICE with DST = 1 leaves in the vector registers and the tile store (R110). -/
theorem Tile.slice_words (hd : slDst w = true) (hlay : hLayout (x.hndOf (slH w)) ≠ 0) (hr : slR0 w + slNr w ≤ 16) (fr cc : Nat)
    (q : MQueue) : let z := x.slice fr cc q w
    z.vx.vreg = x.vx.vreg ∧
    (∀ n < 32 * slNr w, z.bytes (x.slAddr w n) 8 = x.slBytes w n ∧ z.wordPz (x.slAddr w n / 8) =
      (((x.sliceRead w).accOf (slCb w) (2 * slR0 w + n / 16) (2 * (n % 16))).2 || x.taint)) ∧
    ∀ b, (∀ n < 32 * slNr w, b < x.slAddr w n ∨ x.slAddr w n + 8 ≤ b) → z.byteAt b = x.byteAt b := by
  obtain ⟨-, -, -, -, hzvreg, -, hzspz, hzstore, -⟩ := x.slice_keeps w fr cc q
  obtain ⟨hvreg, hwords, hout⟩ := x.sliceMoved_store w hd hlay hr
  have hnone : slRegs w = [] := if_pos hd
  have hstore := hzstore.trans (x.sliceUndefined_store w fr cc (by simp [hnone]))
  refine ⟨hzvreg.trans hvreg, fun n hn => ?_, fun b hb => ?_⟩
  · obtain ⟨hbytes, hpz⟩ := hwords n hn
    exact ⟨(congrArg (Sparse.getRun 0 · (x.slAddr w n) 8) hstore).trans hbytes,
      (congrArg (Sparse.get false · (x.slAddr w n / 8)) hzspz).trans hpz⟩
  · exact (congrArg (Sparse.get 0 · b) hstore).trans (hout b hb)

end

theorem State.MxIssues.slice_next {s : State} {t : Nat} {q : MQueue} {e : QEnt} {l : List QEnt} (h : s.MxIssues t q 0x30 e l)
    (hc : (s.tile t).sliceCheck q e.word.toNat = none) :
    exec (.slice t q) s = .next (({ s with free := s.free + 1 } : State).setTile t ((s.tile t).slice s.free s.cc q e.word.toNat)) := by
  have ⟨ht, hq, ho, _⟩ := h
  obtain ⟨⟨-, -, -, -, -, -, -, hst, -⟩, -⟩ :=
    Tile.mxLeft_of_issuePart s.cc q e.word.toNat hq ((s.tile t).slice_keeps e.word.toNat s.free s.cc q).1
  exact (exec_slice t q s).trans (onTile_set ht (h.mxRow_runs ((Tile.mxCheck_slice _ q ho).trans hc) _) hst)

section
variable {s : State} {t : Nat} {f : SliceFly} {rest : List SliceFly} (ht : t < 1536) (hm : (s.tile t).mx.slices = f :: rest)
include ht hm

theorem sliceComplete_due (hd : f.due ≤ s.cc) : exec (.sliceComplete t) s =
    .next (s.setTile t (Tile.signal { s.tile t with mx := { (s.tile t).mx with
      slices := rest
      landed := if f.vregs = [] then (s.tile t).mx.landed else (s.tile t).mx.landed ++ [(f.vregs, f.sflag)] } } f.sflag)) := by
  show execSliceComplete t s = _
  unfold execSliceComplete
  refine onTile_set ht ?_ (Tile.signal_st _ _)
  simp only [hm, List.isEmpty_iff]
  exact if_pos hd

theorem sliceComplete_early (hd : s.cc < f.due) : exec (.sliceComplete t) s = .next (s.setTile t (s.tile t)) := by
  show execSliceComplete t s = _
  unfold execSliceComplete
  refine onTile_set ht ?_ rfl
  simp only [hm]
  exact if_neg (Nat.not_le.2 hd)

end

/-- Settles O18: each instruction is a chain of parts, and each part a frame of what it leaves. -/
theorem matrixMultiplyAndSlice : Obligations.MatrixMultiplyAndSlice := by
  unfold Obligations.MatrixMultiplyAndSlice
  refine ⟨⟨?mma, fun s t f rest ht hm => ⟨mmaComplete_due ht hm, mmaComplete_early ht hm⟩, Tile.cycle_count_mxBusy⟩,
    ?slice, fun s t f rest ht hm => ⟨sliceComplete_due ht hm, sliceComplete_early ht hm⟩⟩
  case mma =>
    intro s t q e l p per h x w hpair hcheck n
    have ⟨_, hq, _⟩ := h
    obtain ⟨hissue, hstore, hrest⟩ := x.mma_keeps hpair s.cc q
    obtain ⟨hleft, hsf⟩ := Tile.mxLeft_of_issuePart s.cc q w hq hissue
    exact ⟨_, h.mma_next hcheck, hleft, Tile.sameStore_of_store hstore.symm, hsf, hrest⟩
  case slice =>
    intro s t q e l h x w hc len regs y addr
    have ⟨_, hq, _⟩ := h
    obtain ⟨hrows, hlay⟩ := Tile.rows_of_sliceCheck hc
    obtain ⟨hissue, hslices, hzacc, hzcst, -⟩ := x.slice_keeps w s.free s.cc q
    obtain ⟨hleft, hsf⟩ := Tile.mxLeft_of_issuePart s.cc q w hq hissue
    obtain ⟨hcst, hacc⟩ := x.sliceCleared_mx w
    refine ⟨_, h.slice_next hc, hleft, hsf, fun c => (congrFun hzcst c).trans (hcst c),
      fun k hk => (congrArg (Sparse.get 0 · k) hzacc).trans (hacc k hk), hslices, fun hd => ?_,
      fun hd => x.slice_words w hd (hlay hd) hrows s.free s.cc q⟩
    obtain ⟨hstore, hregs⟩ := x.slice_regs w hd s.free s.cc q
    exact ⟨fun hf => Tile.sameStore_of_store (hstore hf).symm, hregs⟩

end Machine
end Sys2Proof

/-!
PROOFS. Element-wise instructions and conversions whose destination runs over the header of the lent record (O20, O23).
The ring shows the program the bytes of the lent record alone, and their number stands in the record's header (R199). A strip that writes the
header so changes which bytes later strips read, though none of these reads an element that an earlier strip has written.
-/
namespace Sys2Proof.Machine

/-! ### A tile whose stream destination runs over the header of its lent record -/

/-- The word of a valid striped INT32 handle of `len` lines from line `base` (Table 3-10). -/
def stripeWord (len base : Nat) : Dword := BitVec.ofNat 64 (at' 1 63 + at' 9 56 + at' len 13 + base)

/-- A tile at whose V-queue head stands `w`. The ring lies in bytes 256 to 511; the record lent is the one at its start, and its header,
zero, shows the program bytes 256 to 271. Both streams are of one handle at byte 0: slot 0 begins at byte 16, slot 1 at byte 4. So element
63 of slot 1 is the header, element 63 of slot 0 the last word that the ring shows, and element 64 of slot 0 the first that it hides, which
begins with byte c. -/
def lentTile (w : Nat) (c : Byte) : Tile :=
  { Tile.reset with
    st := .run
    qv := [⟨BitVec.ofNat 64 w, 0, false⟩]
    hnd := [(1, stripeWord 8 0), (2, stripeWord 4 4)]
    store := [(269, 0x70), (272, c)]
    ring := ⟨true, true, 0, 0, 2, 128, 0, true, [], 0, 0⟩
    vx := { VxEng.reset with slots := [(0, ⟨true, 1, 4⟩), (1, ⟨true, 1, 1⟩)] } }

/-- The state that holds this tile as tile 0, and nothing else beyond reset. -/
def lentState (w : Nat) (c : Byte) : State := { State.reset with tiles := [(0, lentTile w c)] }

/-- Slot 0 and slot 1 as operands. -/
def lentSource : VOp := .strm 0 1 (stripeWord 8 0).toNat 8 4
def lentDest : VOp := .strm 1 1 (stripeWord 8 0).toNat 8 1

/-- VOPI MOV of 65 elements, and CVT of as many from INT32 to INT32, from slot 0 to slot 1. -/
def lentMov : Nat := at' 0x21 56 + at' 63 50 + at' 63 44 + at' 64 32 + at' 33 26 + at' 32 20 + at' 63 14 + at' 63 8
def lentCvt : Nat := at' 0x30 56 + at' 63 50 + at' 63 44 + at' 64 32 + at' 33 26 + at' 32 20 + at' 9 16 + at' 9 12

/-- What the program reads in bytes 272 to 275 while the ring hides them, whatever stands there. -/
def hiddenWord : Nat := leNat ((List.range 4).map fun i => Config.freeRing 0 (272 + i))

theorem lentTile_vop (w : Nat) (c : Byte) : (lentTile w c).vop 32 65 = some lentSource ∧
    (lentTile w c).vop 33 65 = some lentDest ∧ (lentTile w c).vop 63 65 = some .absent := by
  have hwidth : fmtBits (hFmt (stripeWord 8 0).toNat) / 4 = 8 := by decide
  rw [lentSource, lentDest, ← hwidth]
  exact ⟨rfl, rfl, rfl⟩

/-- Both runs lie in their handle, which is no ring and not write-protected. -/
theorem lentTile_vopCheck (w : Nat) (c : Byte) : (lentTile w c).vopCheck 65 [lentDest, lentSource] [lentDest] true = none ∧
    (lentTile w c).vopCheck 65 [lentSource, lentDest] [lentDest] true = none := by
  have hhnd : (lentTile w c).hndOf 1 = (stripeWord 8 0).toNat := rfl
  have hvalid : hValid (stripeWord 8 0).toNat = true := by decide
  have hlayout : hLayout (stripeWord 8 0).toNat = 0 := by decide
  have hfmt : fmtBS (hFmt (stripeWord 8 0).toNat) = false := by decide
  have hlen : hLen (stripeWord 8 0).toNat = 8 := by decide
  have hwp : hWp (stripeWord 8 0).toNat = false := by decide
  simp [Tile.vopCheck, lentDest, lentSource, VOp.hnd, VOp.inBounds, VOp.hnds, hhnd, hvalid, hlayout, hfmt, hlen, hwp]

/-- Strip 1 reads from byte 272 on; strip 0 writes bytes 4 to 259. -/
theorem lentTile_apart (w : Nat) (c : Byte) : (lentTile w c).Apart 65 lentSource lentDest := by
  have haddr (off e : Nat) : strmAddr (stripeWord 8 0).toNat 8 off e = 4 * (off + e) := by
    show 64 * 0 + (off + e) * 8 / 2 = _
    omega
  have hplace (slot off e : Nat) : (lentTile w c).elPlace (.strm slot 1 (stripeWord 8 0).toNat 8 off) e =
      (List.range 4).map (4 * (off + e) + ·) := by
    rw [← haddr]
    exact List.append_nil _
  intro i hi j hj hij
  refine ⟨fun b hb hb' => ?_, by rintro r v ⟨⟩⟩
  simp only [lentSource, lentDest, hplace, List.mem_map, List.mem_range] at hb hb'
  omega

theorem lentTile_hides (w : Nat) (c : Byte) {i : Nat} (hi : i < 4) : (lentTile w c).ringHides (272 + i) = true := by
  have hbase : hBase (stripeWord 4 4).toNat = 4 := by decide
  have hstart : (lentTile w c).ringAddr 0 = 256 := congrArg (64 * · + 0) hbase
  have hend : (lentTile w c).ringAddr (lentTile w c).ring.bytes = 512 := congrArg (64 * · + 256) hbase
  have hrecord : (lentTile w c).ringAddr (lentTile w c).ring.rd = 256 := congrArg (64 * · + 0) hbase
  have hhead : (lentTile w c).ringHead = 0 := by
    unfold Tile.ringHead
    rw [hrecord]
    rfl
  have hpresent : (lentTile w c).ring.present = true := rfl
  have hlen : recordBytes (fld 0 14 12 + 1) = 16 := by decide
  simp only [Tile.ringHides, hstart, hend, hrecord, hhead, hpresent, hlen, Bool.and_eq_true, Bool.not_eq_true', Bool.and_eq_false_iff,
    decide_eq_true_eq, decide_eq_false_iff_not]
  exact ⟨⟨⟨trivial, by omega⟩, by omega⟩, .inr (by omega)⟩

/-- As the tile stands before the instruction, element 64 of the source is hidden. -/
theorem lentTile_vread (w : Nat) (c : Byte) (fr : Nat) : ((lentTile w c).vread fr lentSource 64).1 = hiddenWord := by
  have hseen : (lentTile w c).seen 272 4 = (List.range 4).map fun i => Config.freeRing 0 (272 + i) :=
    List.map_congr_left fun i hi => if_pos (lentTile_hides w c (List.mem_range.1 hi))
  exact congrArg leNat hseen

/-! ### What the instructions leave in element 64 of the destination -/

/-- The bytes of element 64 of slot 1 after a command. -/
def lentResult (i : Instr) (s : State) : List Byte :=
  match exec i s with
  | .next u => (u.tile 0).bytes 260 4
  | _ => []

theorem lentResult_next {i : Instr} {s u : State} {z : Tile} (h : exec i s = .next (u.setTile 0 z)) : lentResult i s = z.bytes 260 4 := by
  unfold lentResult
  rw [h]
  exact congrArg (·.bytes 260 4) (State.tile_setTile_self u 0 z)

/-- The model's run: element 63 has made the header 0x7000, which shows eight words, so strip 1 reads the byte that stands there. -/
theorem lentResult_runs : ∀ c ∈ [(1 : Byte), 2],
    lentResult (.vopiMov 0) (lentState lentMov c) = leBytes 4 c.toNat ∧ lentResult (.cvt 0) (lentState lentCvt c) = leBytes 4 c.toNat := by
  decide +kernel

/-- The result differs where the byte does, so it is no function of the hidden word. -/
theorem lentResult_ne {f : Byte → List Byte} (hrun : ∀ c ∈ [(1 : Byte), 2], f c = leBytes 4 c.toNat) (bs : List Byte) : ¬ ∀ c, f c = bs := by
  intro h
  have h12 : leBytes 4 (1 : Byte).toNat = leBytes 4 (2 : Byte).toNat := by
    rw [← hrun 1 (by simp), ← hrun 2 (by simp), h, h]
  exact absurd h12 (by decide)

/-- Refutes O20: VOPI MOV over the header of the lent record, whose strip 1 reads what strip 0 has uncovered. -/
theorem not_vectorElementwiseInstructions : ¬ Obligations.VectorElementwiseInstructions := by
  unfold Obligations.VectorElementwiseInstructions
  intro h
  refine lentResult_ne (fun c hc => (lentResult_runs c hc).1) (leBytes 4 (BitVec.ofNat 32 hiddenWord).toNat) fun c => ?_
  obtain ⟨hsource, hdest, habsent⟩ := lentTile_vop lentMov c
  have hrow : (⟨.vopiMov, 0x21, 0x00, 1, 1, fun a _ _ => (a, 0)⟩ : VRow) ∈ vecRows := by simp [vecRows]
  have hops : (lentTile lentMov c).vDABC lentMov = some (lentDest, lentSource, .absent, .absent) := by
    have hn : vN lentMov = 65 := by decide
    have hd : vD lentMov = 33 := by decide
    have ha : vA lentMov = 32 := by decide
    have hb : vB lentMov = 63 := by decide
    have hc : vC lentMov = 63 := by decide
    simp only [Tile.vDABC, hn, hd, ha, hb, hc, hsource, hdest, habsent]
  have hplan : ∃ p, (lentTile lentMov c).elemPlan 1 1 lentMov = .ok p := by
    have hn : vN lentMov = 65 := by decide
    have hfmt : (lentDest :: [lentSource, .absent, .absent].take 1).all VOp.fmt32 = true := by decide
    have hcheck := (lentTile_vopCheck lentMov c).1
    unfold Tile.elemPlan
    rw [hops]
    dsimp only
    rw [hfmt, hn, List.take_succ_cons, List.take_zero, hcheck, if_neg (by decide)]
    exact ⟨_, rfl⟩
  obtain ⟨p, hp⟩ := hplan
  obtain ⟨z, hexec, -, -, hstrm⟩ := h _ hrow (lentState lentMov c) 0 ⟨BitVec.ofNat 64 lentMov, 0, false⟩ [] _ _ _ _ p
    ⟨by decide, rfl, by decide, by decide, .inl (by decide), rfl, by decide⟩ (by decide) (by decide) hops hp rfl
  obtain ⟨-, -, hval⟩ := hstrm 1 1 _ 8 1 rfl
  have hbytes : z.bytes 260 4 = leBytes 4 (BitVec.ofNat 32 ((lentTile lentMov c).vread 0 lentSource 64).1).toNat :=
    hval (List.forall_mem_singleton.2 (lentTile_apart lentMov c)) 64 (by decide)
  rw [lentResult_next hexec, hbytes, lentTile_vread]

/-- Refutes O23: CVT over the header of the lent record, from INT32 to INT32. -/
theorem not_conversionsDrawsAndPrism : ¬ Obligations.ConversionsDrawsAndPrism := by
  unfold Obligations.ConversionsDrawsAndPrism
  rintro ⟨h, -⟩
  refine lentResult_ne (fun c hc => (lentResult_runs c hc).2)
    (leBytes 4 (cvtElem 9 .rne 0 false (elemVal 9 hiddenWord 0).1 (elemVal 9 hiddenWord 0).2).1) fun c => ?_
  obtain ⟨hsource, hdest, -⟩ := lentTile_vop lentCvt c
  have hn : vN lentCvt = 65 := by decide
  have hops : (lentTile lentCvt c).cvtAD lentCvt = some (lentSource, lentDest) := by
    have hd : vD lentCvt = 33 := by decide
    have ha : vA lentCvt = 32 := by decide
    simp only [Tile.cvtAD, hn, hd, ha, hsource, hdest]
  have hplan : ∃ p, cvtPlan (lentTile lentCvt c) lentCvt = .ok p := by
    have hok : cvtOk lentCvt lentSource lentDest = true := by decide
    have hfmts : cvtFmts lentCvt lentSource lentDest = true := by decide
    unfold cvtPlan
    rw [hops]
    dsimp only
    rw [hok, hfmts, hn, (lentTile_vopCheck lentCvt c).2, if_neg (by decide)]
    exact ⟨_, rfl⟩
  obtain ⟨p, hp⟩ := hplan
  obtain ⟨z, hexec, -, -, hstrm⟩ := h (lentState lentCvt c) 0 ⟨BitVec.ofNat 64 lentCvt, 0, false⟩ [] _ _ p
    ⟨by decide, rfl, by decide, by decide, .inl (by decide), rfl, by decide⟩ (by decide) hops hp rfl
  obtain ⟨-, -, hval⟩ := hstrm 1 1 _ 8 1 rfl
  have hread : ((lentTile lentCvt c).cvtSrc 0 9 lentSource 64).1 = (elemVal 9 hiddenWord 0).1 ∧
      ((lentTile lentCvt c).cvtSrc 0 9 lentSource 64).2.1 = (elemVal 9 hiddenWord 0).2 := by
    rw [← lentTile_vread lentCvt c 0]
    exact ⟨rfl, rfl⟩
  have hbytes : z.bytes 260 4 = leBytes 4 (cvtElem 9 .rne 0 false ((lentTile lentCvt c).cvtSrc 0 9 lentSource 64).1
      ((lentTile lentCvt c).cvtSrc 0 9 lentSource 64).2.1).1 :=
    hval (lentTile_apart lentCvt c) (by decide) 64 (by decide)
  rw [lentResult_next hexec, hbytes, hread.1, hread.2]

end Sys2Proof.Machine

/-!
PROOFS. The issue of a vector instruction, the control instructions of the vector engine and its completions (O21).
-/
namespace Sys2Proof.Machine

/-! ### The issue of a vector instruction -/

/-- The tile with this V-queue. -/
def Tile.withQv (x : Tile) (l : List QEnt) : Tile := { x with qv := l }

/-- A row that has run asks for its banks and occupies the engine (R132). -/
def Tile.vIssued (cc w : Nat) (p : VPlan) (y : Tile) : Tile :=
  let z := y.ask .vector p.need []
  { z with vx := { z.vx with fly := z.vx.fly ++ [⟨cc + p.need.length, cc + p.need.length + p.tail, eSflag w, p.use⟩] } }

theorem Tile.vIssued_frame (cc w : Nat) (p : VPlan) (y : Tile) : y.vIssued cc w p =
    { y with banks := (y.vIssued cc w p).banks
             vx := { y.vx with fly := y.vx.fly ++ [⟨cc + p.need.length, cc + p.need.length + p.tail, eSflag w, p.use⟩] } } := by
  unfold Tile.vIssued
  dsimp only
  rw [Tile.ask_frame]

@[simp] theorem Tile.vIssued_store (cc w : Nat) (p : VPlan) (y : Tile) : (y.vIssued cc w p).store = y.store := by rw [Tile.vIssued_frame]
@[simp] theorem Tile.vIssued_vreg (cc w : Nat) (p : VPlan) (y : Tile) : (y.vIssued cc w p).vx.vreg = y.vx.vreg := by rw [Tile.vIssued_frame]
@[simp] theorem Tile.vIssued_slots (cc w : Nat) (p : VPlan) (y : Tile) : (y.vIssued cc w p).vx.slots = y.vx.slots := by rw [Tile.vIssued_frame]
@[simp] theorem Tile.vIssued_ctx (cc w : Nat) (p : VPlan) (y : Tile) : (y.vIssued cc w p).vx.ctx = y.vx.ctx := by rw [Tile.vIssued_frame]
@[simp] theorem Tile.vIssued_kc (cc w : Nat) (p : VPlan) (y : Tile) : (y.vIssued cc w p).vx.kc = y.vx.kc := by rw [Tile.vIssued_frame]
@[simp] theorem Tile.vIssued_kpz (cc w : Nat) (p : VPlan) (y : Tile) : (y.vIssued cc w p).vx.kpz = y.vx.kpz := by rw [Tile.vIssued_frame]

/-- What `Tile.VxLeft` speaks of. -/
def Tile.vxPart (x : Tile) := (x.core, x.sf, x.mx, x.hnd, x.ring, x.vx.fly)

/-- A row that keeps what `Tile.VxLeft` speaks of leaves the issue. -/
theorem Tile.vxLeft_vIssued {x y : Tile} {l : List QEnt} (h : y.vxPart = (x.withQv l).vxPart) (cc w : Nat) (p : VPlan) :
    x.VxLeft (y.vIssued cc w p) cc w p.need.length p.tail p.use l := by
  simp only [Tile.vxPart, Prod.mk.injEq] at h
  obtain ⟨hcore, hsf, hmx, hhnd, hring, hfly⟩ := h
  obtain ⟨hregs, hpc, hqueue, hst⟩ := Tile.same_of_core hcore
  rw [Tile.vIssued_frame]
  exact ⟨congrFun hqueue .v, congrFun hqueue .f, congrFun hqueue .b, congrFun hqueue .d, congrArg (· ++ _) hfly, hregs, hpc, hst, hsf, hmx,
    hhnd, hring⟩

section
variable {s : State} {t : Nat} {e : QEnt} {l : List QEnt} {mine : Nat → Bool} {plan : Tile → Nat → Except Byte VPlan} {body : Tile → Nat → Tile}
  {p : VPlan} (h : s.VxIssues t e l) (hm : mine e.word.toNat = true) (hp : plan (s.tile t) e.word.toNat = .ok p)
  (hc : (s.tile t).vconflict p.use = false)
include h hm hp hc

/-- A vector instruction that passes its checks and conflicts with none leaves its queue, runs and issues. -/
theorem State.VxIssues.vRow_runs :
    (s.tile t).vRow s.cc mine plan body = (body ((s.tile t).withQv l) e.word.toNat).vIssued s.cc e.word.toNat p := by
  obtain ⟨-, hq, hw, hs, hg, hv, hd⟩ := h
  unfold Tile.vRow
  simp only [hq]
  rw [if_neg (by simp [hw, hs]), if_neg (by simp [hv, Tile.waitOk_of_granted hg]), if_neg (by simp [hd]), if_neg (by simp [hm]), hp]
  dsimp only
  rw [if_neg (by obtain hg | hg := hg <;> simp [hg, hc])]
  rfl

variable (hb : (body ((s.tile t).withQv l) e.word.toNat).vxPart = ((s.tile t).withQv l).vxPart)
include hb

/-- What its command does, `free` being the next free value. -/
theorem State.VxIssues.row_next (free : Nat) :
    let z := (body ((s.tile t).withQv l) e.word.toNat).vIssued s.cc e.word.toNat p
    onTile t { s with free := free } (fun x => x.vRow s.cc mine plan body) = .next (({ s with free := free } : State).setTile t z) ∧
      (s.tile t).VxLeft z s.cc e.word.toNat p.need.length p.tail p.use l := by
  have hleft := Tile.vxLeft_vIssued hb s.cc e.word.toNat p
  have ⟨_, _, _, _, _, _, _, hst, _⟩ := hleft
  exact ⟨onTile_set h.1 (h.vRow_runs hm hp hc) hst, hleft⟩

end

/-! ### The reads of a tile whose V-queue has moved on -/

theorem Tile.check_withQv (x : Tile) (region w : Nat) {mark : Tile → Tile} (hmark : ∀ (y : Tile) l, mark (y.withQv l) = (mark y).withQv l)
    (l : List QEnt) : (x.withQv l).check region w mark = (x.check region w mark).withQv l := by
  unfold Tile.check
  rw [show (x.withQv l).ecc = x.ecc from rfl]
  split
  · rfl
  · rfl
  · exact congrArg (fun y : Tile => (y.bump 0x814 1).report 0x0102)
      (hmark { x with ecc := Sparse.set Ecc.ok x.ecc (eccKey region w) .ok } l)

theorem Tile.touchWord_withQv (x : Tile) (w : Nat) (l : List QEnt) : (x.withQv l).touchWord w = (x.touchWord w).withQv l := by
  have hcheck : (x.withQv l).checkWord w = (x.checkWord w).withQv l := x.check_withQv 0 w (fun _ _ => rfl) l
  unfold Tile.touchWord
  rw [hcheck]
  dsimp only
  rw [show ((x.checkWord w).withQv l).wordPz w = (x.checkWord w).wordPz w from rfl]
  split <;> rfl

theorem Tile.hndOf_withQv (x : Tile) (l : List QEnt) : (x.withQv l).hndOf = x.hndOf := rfl
theorem Tile.seen_withQv (x : Tile) (l : List QEnt) : (x.withQv l).seen = x.seen := rfl
theorem Tile.wordPz_withQv (x : Tile) (l : List QEnt) : (x.withQv l).wordPz = x.wordPz := rfl

theorem Tile.touch_withQv (x : Tile) (a n : Nat) (l : List QEnt) : (x.withQv l).touch a n = (x.touch a n).withQv l :=
  List.foldl_hom (Tile.withQv · l) fun y w => y.touchWord_withQv w l

/-! ### The control instructions -/

theorem Tile.vconflict_none (x : Tile) : x.vconflict VUse.none = false := by simp [Tile.vconflict, VUse.none]

theorem planOne_ok {bad : Nat → Bool} {w : Nat} (h : bad w = false) (x : Tile) : planOne bad x w = .ok (VPlan.one VUse.none []) := by
  unfold planOne
  rw [h]
  rfl

/-- The slots where VSD has set one. -/
theorem Tile.vslot_of_set {x z : Tile} {n : Nat} {v : StreamSlot} (h : z.vx.slots = Sparse.set ⟨false, 0, 0⟩ x.vx.slots n v) (k : Nat) :
    z.vslot k = if k = n then v else x.vslot k := by
  unfold Tile.vslot
  rw [h, Sparse.get_set]

/-- The random contexts where one has been set. -/
theorem Tile.rngCtx_of_set {x z : Tile} {n : Nat} {v : RngCtx} (h : z.vx.ctx = Sparse.set ⟨0, 0⟩ x.vx.ctx n v) (k : Nat) :
    z.rngCtx k = if k = n then v else x.rngCtx k := by
  unfold Tile.rngCtx
  rw [h, Sparse.get_set]

/-- The vector engine once VSD has set a slot, and once RNGSET.S and RNGSET.B have set a context. -/
def VxEng.setSlot (v : VxEng) (w : Nat) : VxEng :=
  { v with slots := Sparse.set ⟨false, 0, 0⟩ v.slots (fld w 43 42) ⟨true, fld w 41 36, fld w 35 16⟩ }
def VxEng.setStream (v : VxEng) (w : Nat) : VxEng :=
  { v with ctx := Sparse.set ⟨0, 0⟩ v.ctx (fld w 43 43) ⟨fld w 42 19, fld w 18 11 * 2 ^ 32⟩ }
def VxEng.setBase (v : VxEng) (w : Nat) : VxEng :=
  let c := Sparse.get ⟨0, 0⟩ v.ctx (fld w 43 43)
  { v with ctx := Sparse.set ⟨0, 0⟩ v.ctx (fld w 43 43) ⟨c.stream, c.base / 2 ^ 32 * 2 ^ 32 + fld w 31 0⟩ }

theorem exec_vnop (t : Nat) (s : State) : exec (.vnop t) s =
    onTile t s fun x => x.vRow s.cc (fun w => eOpc w == 0x01) (planOne fun w => fld w 43 0 != 0) fun y _ => { y with vx := y.vx } := rfl
theorem exec_vsd (t : Nat) (s : State) : exec (.vsd t) s =
    onTile t s fun x => x.vRow s.cc (fun w => eOpc w == 0x10) (planOne fun w => fld w 15 0 != 0) fun y w => { y with vx := y.vx.setSlot w } := rfl
theorem exec_rngsetS (t : Nat) (s : State) : exec (.rngsetS t) s =
    onTile t s fun x => x.vRow s.cc (fun w => eOpc w == 0x12) (planOne fun w => fld w 10 0 != 0) fun y w => { y with vx := y.vx.setStream w } := rfl
theorem exec_rngsetB (t : Nat) (s : State) : exec (.rngsetB t) s =
    onTile t s fun x => x.vRow s.cc (fun w => eOpc w == 0x13) (planOne fun w => fld w 42 32 != 0) fun y w => { y with vx := y.vx.setBase w } := rfl
theorem exec_pkld (t : Nat) (s : State) : exec (.pkld t) s =
    onTile t s fun x => x.vRow s.cc (fun w => eOpc w == 0x11) pkldPlan fun y w => y.loadK (y.hndOf (pkH w)) (pkOff w) := rfl

/-- One of the eight constants set, with its poison (R138). -/
def Tile.setK (x : Tile) (i : Nat) (v : Word) (pz : Bool) : Tile :=
  { x with vx := { x.vx with kc := Sparse.set 0 x.vx.kc i v, kpz := Sparse.set false x.vx.kpz i pz } }

/-- Two folds whose steps agree on every value that meets an invariant. -/
theorem foldl_congr_within {α β : Type} (I : α → Prop) {g g' : α → β → α} (hinv : ∀ u b, I u → I (g' u b)) (hstep : ∀ u b, I u → g u b = g' u b)
    (l : List β) {a : α} (ha : I a) : l.foldl g a = l.foldl g' a := by
  induction l generalizing a with
  | nil => rfl
  | cons b l ih => rw [List.foldl_cons, List.foldl_cons, hstep a b ha, ih (hinv a b ha)]

/-- A constant set changes no read of the tile store. -/
theorem Tile.reads_setK (x : Tile) (i : Nat) (v : Word) (pz : Bool) :
    (x.setK i v pz).seen = x.seen ∧ (x.setK i v pz).wordPz = x.wordPz := ⟨rfl, rfl⟩

/-- PKLD reads once, and sets each constant to what its read has found. -/
theorem Tile.loadK_eq (h off : Nat) (x : Tile) : x.loadK h off =
    let a := 64 * hBase h + 4 * off
    let y := x.touch a 32
    (List.range 8).foldl (fun u i => u.setK i (w32 (leNat (y.seen (a + 4 * i) 4))) (y.wordPz ((a + 4 * i) / 8))) y := by
  unfold Tile.loadK
  dsimp only
  generalize 64 * hBase h + 4 * off = a
  generalize x.touch a 32 = y
  refine foldl_congr_within (fun u : Tile => u.seen = y.seen ∧ u.wordPz = y.wordPz) (fun u i hu => ?_) (fun u i hu => ?_) _ ⟨rfl, rfl⟩
  · obtain ⟨hseen, hpz⟩ := u.reads_setK i (w32 (leNat (y.seen (a + 4 * i) 4))) (y.wordPz ((a + 4 * i) / 8))
    exact ⟨hseen.trans hu.1, hpz.trans hu.2⟩
  · rw [← hu.1, ← hu.2]
    rfl

/-- PKLD changes the constants, and what a read changes. -/
theorem Tile.loadK_frame (h off : Nat) (x : Tile) : let z := x.loadK h off
    z = { x with ecc := z.ecc, spz := z.spz, cnt := z.cnt, reports := z.reports, vx := { x.vx with kc := z.vx.kc, kpz := z.vx.kpz } } := by
  dsimp only
  rw [Tile.loadK_eq]
  refine List.foldlRecOn (motive := fun z : Tile =>
    z = { x with ecc := z.ecc, spz := z.spz, cnt := z.cnt, reports := z.reports, vx := { x.vx with kc := z.vx.kc, kpz := z.vx.kpz } }) _ _
    ?read fun u hu i _ => ?set
  case read => rw [Tile.touch_frame]
  case set =>
    rw [hu]
    rfl

theorem Tile.loadK_vxPart (h off : Nat) (x : Tile) : (x.loadK h off).vxPart = x.vxPart := by rw [Tile.loadK_frame]; rfl
theorem Tile.loadK_store (h off : Nat) (x : Tile) : (x.loadK h off).store = x.store := by rw [Tile.loadK_frame]
theorem Tile.loadK_vreg (h off : Nat) (x : Tile) : (x.loadK h off).vx.vreg = x.vx.vreg := by rw [Tile.loadK_frame]

theorem Tile.k_setK (x : Tile) (i : Nat) (v : Word) (pz : Bool) (k : Nat) :
    (Sparse.get 0 (x.setK i v pz).vx.kc k, Sparse.get false (x.setK i v pz).vx.kpz k) =
      if k = i then (v, pz) else (Sparse.get 0 x.vx.kc k, Sparse.get false x.vx.kpz k) := by
  unfold Tile.setK
  dsimp only
  rw [Sparse.get_set, Sparse.get_set]
  split <;> rfl

theorem Tile.touch_seen (x : Tile) (a n : Nat) : (x.touch a n).seen = x.seen := congrArg (·.seen) (x.touch_frame a n)

/-- Each of the eight constants after a PKLD, with its poison (R138). -/
theorem Tile.k_loadK (h off : Nat) (x : Tile) {i : Nat} (hi : i < 8) :
    let a := 64 * hBase h + 4 * off
    Sparse.get 0 (x.loadK h off).vx.kc i = w32 (leNat (x.seen (a + 4 * i) 4)) ∧
      Sparse.get false (x.loadK h off).vx.kpz i = (x.touch a 32).wordPz ((a + 4 * i) / 8) := by
  dsimp only
  rw [← Prod.mk.injEq, Tile.loadK_eq]
  dsimp only
  rw [Tile.touch_seen]
  refine foldl_sets (fun u : Tile => (Sparse.get 0 u.vx.kc i, Sparse.get false u.vx.kpz i)) (List.mem_range.2 hi) (fun u => ?set)
    (fun u k _ hne => ?keep) _
  case set => exact (u.k_setK ..).trans (if_pos rfl)
  case keep => exact (u.k_setK ..).trans (if_neg (Ne.symm hne))

theorem pkldPlan_ok {x : Tile} {w : Nat} (hz : fld w 17 0 = 0) (hv : hValid (x.hndOf (pkH w)) = true) (hl : hLayout (x.hndOf (pkH w)) = 0)
    (hf : hFmt (x.hndOf (pkH w)) = 0 ∨ hFmt (x.hndOf (pkH w)) = 9) (hb : 4 * pkOff w + 32 ≤ 64 * hLen (x.hndOf (pkH w))) :
    pkldPlan x w = .ok (VPlan.one { VUse.none with rhnd := [pkH w] } (banksOf (64 * hBase (x.hndOf (pkH w)) + 4 * pkOff w) 32)) := by
  unfold pkldPlan
  dsimp only
  rw [if_neg (not_not_intro hz), if_neg (by simp [hv]), if_neg (by rintro (h | ⟨h, h'⟩); exacts [h hl, hf.elim h h']),
    if_neg (by simpa [hInBounds] using hb)]

theorem Tile.vconflict_rhnd {x : Tile} {k : Nat} (h : ∀ f ∈ x.vx.fly, k ∉ f.use.whnd) :
    x.vconflict { VUse.none with rhnd := [k] } = false := by
  simp only [Tile.vconflict, VUse.none, List.any_eq_false]
  intro f hf
  simp [h f hf]

section
variable {s : State} {t : Nat} {e : QEnt} {l : List QEnt} (h : s.VxIssues t e l)
include h

/-- A control instruction without operands: its reserved bits are zero, and it changes the vector engine alone. -/
theorem State.VxIssues.control_next {i : Instr} {opc : Nat} {bad : Nat → Bool} {f : VxEng → Nat → VxEng}
    (hi : exec i s = onTile t s fun x => x.vRow s.cc (fun w => eOpc w == opc) (planOne bad) fun y w => { y with vx := f y.vx w })
    (ho : eOpc e.word.toNat = opc) (hbad : bad e.word.toNat = false) (hf : ∀ v w, (f v w).fly = v.fly) :
    let x := s.tile t
    ∃ z : Tile, exec i s = .next (s.setTile t z) ∧ x.VxLeft z s.cc e.word.toNat 1 0 VUse.none l ∧ z.SameStore x ∧
      z.vx.vreg = (f x.vx e.word.toNat).vreg ∧ z.vx.slots = (f x.vx e.word.toNat).slots ∧ z.vx.ctx = (f x.vx e.word.toNat).ctx ∧
      z.vx.kc = (f x.vx e.word.toNat).kc := by
  have hpart (y : Tile) (w : Nat) : ({ y with vx := f y.vx w } : Tile).vxPart = y.vxPart :=
    congrArg (fun fly => (y.core, y.sf, y.mx, y.hnd, y.ring, fly)) (hf y.vx w)
  obtain ⟨hnext, hleft⟩ := h.row_next (mine := fun w => eOpc w == opc) (body := fun y w => { y with vx := f y.vx w }) (by simp [ho])
    (planOne_ok hbad _) (Tile.vconflict_none _) (hpart _ _) s.free
  refine ⟨_, hi.trans hnext, hleft, Tile.sameStore_of_store ?_, ?_, ?_, ?_, ?_⟩
  · rw [Tile.vIssued_store]
    rfl
  · exact Tile.vIssued_vreg ..
  · exact Tile.vIssued_slots ..
  · exact Tile.vIssued_ctx ..
  · exact Tile.vIssued_kc ..

/-- A PKLD that passes its checks loads its eight constants. -/
theorem State.VxIssues.pkld_next (ho : eOpc e.word.toNat = 0x11) {u : VUse} {banks : List Nat}
    (hp : pkldPlan (s.tile t) e.word.toNat = .ok (VPlan.one u banks)) (hc : (s.tile t).vconflict u = false) :
    let x := s.tile t
    let w := e.word.toNat
    let a := 64 * hBase (x.hndOf (pkH w)) + 4 * pkOff w
    ∃ z : Tile, exec (.pkld t) s = .next (s.setTile t z) ∧ x.VxLeft z s.cc w 1 0 u l ∧ z.SameStore x ∧ z.vx.vreg = x.vx.vreg ∧
      ∀ i < 8, Sparse.get 0 z.vx.kc i = w32 (leNat (x.seen (a + 4 * i) 4)) ∧ Sparse.get false z.vx.kpz i = (x.touch a 32).wordPz ((a + 4 * i) / 8) := by
  dsimp only
  obtain ⟨hnext, hleft⟩ := h.row_next (mine := fun w => eOpc w == 0x11) (body := fun y w => y.loadK (y.hndOf (pkH w)) (pkOff w))
    (by simp [ho]) hp hc (Tile.loadK_vxPart _ _ _) s.free
  rw [Tile.hndOf_withQv] at hnext hleft
  refine ⟨_, (exec_pkld t s).trans hnext, hleft, Tile.sameStore_of_store ?_, ?_, fun i hi => ?_⟩
  · rw [Tile.vIssued_store, Tile.loadK_store]
    rfl
  · rw [Tile.vIssued_vreg, Tile.loadK_vreg]
    rfl
  · obtain ⟨hv, hz⟩ := Tile.k_loadK ((s.tile t).hndOf (pkH e.word.toNat)) (pkOff e.word.toNat) ((s.tile t).withQv l) hi
    rw [Tile.seen_withQv] at hv
    rw [Tile.touch_withQv, Tile.wordPz_withQv] at hz
    rw [Tile.vIssued_kc, Tile.vIssued_kpz]
    exact ⟨hv, hz⟩

end

/-! ### Completions -/

section
variable {s : State} {t : Nat} (ht : t < 1536)
include ht

theorem vectorComplete_due {f : VFly} (hf : (s.tile t).vx.fly.find? (fun f => decide (f.due ≤ s.cc)) = some f) : exec (.vectorComplete t) s =
    .next (s.setTile t (Tile.signal { s.tile t with vx := { (s.tile t).vx with fly := (s.tile t).vx.fly.erase f } } f.sflag)) := by
  show execVectorComplete t s = _
  unfold execVectorComplete
  refine onTile_set ht ?_ (Tile.signal_st _ _)
  rw [hf]

theorem vectorComplete_early (h : ∀ f ∈ (s.tile t).vx.fly, s.cc < f.due) : exec (.vectorComplete t) s = .next (s.setTile t (s.tile t)) := by
  have hnone : (s.tile t).vx.fly.find? (fun f => decide (f.due ≤ s.cc)) = none :=
    List.find?_eq_none.2 fun f hf => by simpa using h f hf
  show execVectorComplete t s = _
  unfold execVectorComplete
  refine onTile_set ht ?_ rfl
  rw [hnone]

end

/-- Settles O21. -/
theorem vectorControlAndCompletion : Obligations.VectorControlAndCompletion := by
  unfold Obligations.VectorControlAndCompletion
  refine ⟨fun s t e l h => ⟨?vnop, ?vsd, ?pkld, ?rngsetS, ?rngsetB⟩, fun s t ht => ⟨fun f hf => vectorComplete_due ht hf, vectorComplete_early ht⟩⟩
  case vnop =>
    intro ho hz
    exact h.control_next (f := fun v _ => v) (exec_vnop t s) ho (by simp [hz]) fun _ _ => rfl
  case vsd =>
    intro ho hz
    obtain ⟨z, hnext, hleft, hstore, hvreg, hslots, -⟩ := h.control_next (exec_vsd t s) ho (by simp [hz]) fun _ _ => rfl
    exact ⟨z, hnext, hleft, hstore, hvreg, Tile.vslot_of_set hslots⟩
  case pkld =>
    intro hd a ho hz hv hl hf hb hc
    have hconf : (s.tile t).vconflict { VUse.none with rhnd := [pkH e.word.toNat] } = false := Tile.vconflict_rhnd hc
    exact h.pkld_next ho (pkldPlan_ok hz hv hl hf hb) hconf
  case rngsetS =>
    intro ho hz
    obtain ⟨z, hnext, hleft, hstore, hvreg, -, hctx, -⟩ := h.control_next (exec_rngsetS t s) ho (by simp [hz]) fun _ _ => rfl
    exact ⟨z, hnext, hleft, hstore, hvreg, Tile.rngCtx_of_set hctx⟩
  case rngsetB =>
    intro ho hz
    obtain ⟨z, hnext, hleft, hstore, hvreg, -, hctx, -⟩ := h.control_next (exec_rngsetB t s) ho (by simp [hz]) fun _ _ => rfl
    refine ⟨z, hnext, hleft, hstore, hvreg, fun k => (Tile.rngCtx_of_set hctx k).trans ?_⟩
    split
    next hk =>
      rw [hk]
      rfl
    next => rfl

end Sys2Proof.Machine

/-!
PROOFS. The reductions of the vector engine (O22).
-/
namespace Sys2Proof.Machine

/-! ### The reads of a strip -/

/-- `z` is `x` but for check bits, poison of what can be read, counts and reports. -/
def Tile.SameButReads (x z : Tile) : Prop :=
  z = { x with ecc := z.ecc, spz := z.spz, cnt := z.cnt, reports := z.reports, vx := { x.vx with vpz := z.vx.vpz } }

theorem Tile.SameButReads.trans {x y z : Tile} (h : x.SameButReads y) (h' : y.SameButReads z) : x.SameButReads z := by
  unfold Tile.SameButReads at h h' ⊢
  rw [h', h]

/-- The read of a register element: its check, which poisons it where it fails (R123). -/
def Tile.touchElem (x : Tile) (k : Nat) : Tile :=
  x.check 4 k fun z => { z with vx := { z.vx with vpz := Sparse.set false z.vx.vpz k true } }

theorem Tile.sameButReads_touchElem (x : Tile) (k : Nat) : x.SameButReads (x.touchElem k) := by
  unfold Tile.touchElem Tile.check
  split <;> rfl

theorem Tile.sameButReads_touchWord (x : Tile) (w : Nat) : x.SameButReads (x.touchWord w) := by
  unfold Tile.SameButReads
  rw [Tile.touchWord_frame]

theorem Tile.vtouch_reg (x : Tile) (r : Nat) (es : List Nat) : x.vtouch (.reg r) es = es.foldl (fun y e => y.touchElem (64 * r + e)) x := rfl
theorem Tile.vtouch_strm (x : Tile) (slot hn h w2 off : Nat) (es : List Nat) :
    x.vtouch (.strm slot hn h w2 off) es = (x.vwords (.strm slot hn h w2 off) es).foldl Tile.touchWord x := rfl

theorem Tile.sameButReads_vtouch (x : Tile) (o : VOp) (es : List Nat) : x.SameButReads (x.vtouch o es) := by
  cases o with
  | reg r =>
    rw [Tile.vtouch_reg]
    exact List.foldlRecOn _ _ (motive := fun u => x.SameButReads u) rfl fun u hu e _ => hu.trans (u.sameButReads_touchElem _)
  | strm slot hn h w2 off =>
    rw [Tile.vtouch_strm]
    exact List.foldlRecOn _ _ (motive := fun u => x.SameButReads u) rfl fun u hu w _ => hu.trans (u.sameButReads_touchWord w)
  | absent => rfl

theorem Tile.vtouch_withQv (x : Tile) (o : VOp) (es : List Nat) (l : List QEnt) : (x.withQv l).vtouch o es = (x.vtouch o es).withQv l := by
  cases o with
  | reg r => exact List.foldl_hom (Tile.withQv · l) fun y e => y.check_withQv 4 (64 * r + e) (fun _ _ => rfl) l
  | strm slot hn h w2 off => exact List.foldl_hom (Tile.withQv · l) fun y w => y.touchWord_withQv w l
  | absent => rfl

theorem Tile.vread_withQv (x : Tile) (fr : Nat) (o : VOp) (i : Nat) (l : List QEnt) : (x.withQv l).vread fr o i = x.vread fr o i := by
  cases o <;> rfl

/-- The tile once every strip of an operand of n elements has been read. -/
def Tile.stripsRead (x : Tile) (n : Nat) (o : VOp) : Tile := (List.range (ceilDiv n 64)).foldl (fun y j => y.vtouch o (stripEls n j)) x

theorem Tile.sameButReads_stripsRead (x : Tile) (n : Nat) (o : VOp) : x.SameButReads (x.stripsRead n o) :=
  List.foldlRecOn _ _ (motive := fun u => x.SameButReads u) rfl fun u hu _ _ => hu.trans (u.sameButReads_vtouch o _)

theorem Tile.stripsRead_withQv (x : Tile) (n : Nat) (o : VOp) (l : List QEnt) : (x.withQv l).stripsRead n o = (x.stripsRead n o).withQv l :=
  List.foldl_hom (Tile.withQv · l) fun y _ => y.vtouch_withQv o _ l

/-! ### The writes of register elements -/

/-- `z` is `x` but for values, poison and definedness of vector registers, and check bits. -/
def Tile.SameButElems (x z : Tile) : Prop :=
  z = { x with ecc := z.ecc, vx := { x.vx with vreg := z.vx.vreg, vpz := z.vx.vpz, und := z.vx.und } }

theorem Tile.SameButElems.vwrite {x z : Tile} (h : x.SameButElems z) (r e v : Nat) (pz : Bool) : x.SameButElems (z.vwrite (.reg r) e v pz) := by
  unfold Tile.SameButElems at h ⊢
  rw [h]
  rfl

/-- The write of a register element gives it its bits, and no other. -/
theorem Tile.vreg_vwrite (x : Tile) (r e v : Nat) (pz : Bool) (k : Nat) :
    Sparse.get 0 (x.vwrite (.reg r) e v pz).vx.vreg k = if k = 64 * r + e then w32 v else Sparse.get 0 x.vx.vreg k := by
  rw [← Nat.div_add_mod (64 * r + e) 64]
  exact Sparse.get_set (0 : Word) ..

theorem Tile.und_vwrite (x : Tile) (r e v : Nat) (pz : Bool) (k : Nat) : Sparse.get 0 (x.vwrite (.reg r) e v pz).vx.und k =
    if k = 64 * r + e then x.undAfter ((64 * r + e) / 64) else Sparse.get 0 x.vx.und k := Sparse.get_set (0 : Nat) ..

theorem Tile.undAfter_vwrite (x : Tile) (r e v : Nat) (pz : Bool) : (x.vwrite (.reg r) e v pz).undAfter = x.undAfter := rfl

/-- Where R112 does not leave its register undefined, an element that is written is what was written. -/
theorem Tile.vget_vwrite (x : Tile) (r e v : Nat) (pz : Bool) (h : x.undAfter ((64 * r + e) / 64) = 0) (fr k : Nat) :
    (x.vwrite (.reg r) e v pz).vget fr k = if k = 64 * r + e then (w32 v, pz) else x.vget fr k := by
  have hund : Sparse.get 0 (x.vwrite (.reg r) e v pz).vx.und k = if k = 64 * r + e then 0 else Sparse.get 0 x.vx.und k := by
    rw [Tile.und_vwrite, h]
  have hpz : Sparse.get false (x.vwrite (.reg r) e v pz).vx.vpz k = if k = 64 * r + e then pz else Sparse.get false x.vx.vpz k := by
    rw [← Nat.div_add_mod (64 * r + e) 64]
    exact Sparse.get_set false ..
  unfold Tile.vget
  rw [hund, hpz, Tile.vreg_vwrite]
  by_cases hk : k = 64 * r + e
  · simp [hk]
  · simp [hk]

/-! ### The result of a reduction -/

/-- What a reduction of result `v` writes into element i of its register (R139). -/
def redElem (v : RedVal × Bool × Flg) : Nat → Nat × Bool
  | 0 => (v.1.1.toNat, v.2.1)
  | 1 => (v.1.2, v.2.1)
  | _ => (0, false)

/-- The register of a reduction written, element by element. -/
def Tile.putReduced (x : Tile) (r : Nat) (v : RedVal × Bool × Flg) : Tile :=
  (List.range 64).foldl (fun z i => z.vwrite (.reg r) i (redElem v i).1 (redElem v i).2) x

theorem Tile.putReduced_eq (x : Tile) (r : Nat) (v : RedVal × Bool × Flg) : x.putReduced r v =
    (List.range 62).foldl (fun z i => z.vwrite (.reg r) (i + 2) 0 false)
      ((x.vwrite (.reg r) 0 v.1.1.toNat v.2.1).vwrite (.reg r) 1 v.1.2 v.2.1) := by
  unfold Tile.putReduced
  rw [show List.range 64 = 0 :: 1 :: (List.range 62).map (· + 2) by decide, List.foldl_cons, List.foldl_cons, List.foldl_map]
  rfl

theorem Tile.sameButElems_putReduced (x : Tile) (r : Nat) (v : RedVal × Bool × Flg) : x.SameButElems (x.putReduced r v) :=
  List.foldlRecOn _ _ (motive := fun u => x.SameButElems u) rfl fun _ hu _ _ => hu.vwrite _ _ _ _

theorem Tile.vreg_putReduced (x : Tile) (r : Nat) (v : RedVal × Bool × Flg) : x.SameVregsBut (x.putReduced r v) r 64 := by
  intro k hk
  refine List.foldlRecOn _ _ (motive := fun u : Tile => Sparse.get 0 u.vx.vreg k = Sparse.get 0 x.vx.vreg k) rfl fun u hu i hi => ?_
  have hi := List.mem_range.1 hi
  rw [Tile.vreg_vwrite, if_neg (by omega), hu]

/-- A fold of writes that keeps an invariant: one of them sets what `π` reads, and none of the others changes it. -/
theorem foldl_sets_within {α β γ : Type} (I : α → Prop) (π : α → γ) {g : α → β → α} {b : β} {v : γ} {l : List β} (hb : b ∈ l)
    (hinv : ∀ u c, I u → I (g u c)) (hset : ∀ u, I u → π (g u b) = v) (hkeep : ∀ u, I u → ∀ c ∈ l, c ≠ b → π (g u c) = π u) {a : α}
    (ha : I a) : π (l.foldl g a) = v := by
  obtain ⟨l₁, l₂, rfl⟩ := List.append_of_mem hb
  rw [List.foldl_append, List.foldl_cons]
  have hI : I (l₁.foldl g a) := List.foldlRecOn l₁ g (motive := I) ha fun u hu c _ => hinv u c hu
  refine (List.foldlRecOn l₂ g (motive := fun u => I u ∧ π u = v) ⟨hinv _ _ hI, hset _ hI⟩ fun u hu c hc => ⟨hinv u c hu.1, ?_⟩).2
  by_cases h : c = b
  · rw [h, hset u hu.1]
  · rw [hkeep u hu.1 c (by simp [hc]) h, hu.2]

/-- Where R112 does not leave the register undefined, its elements after the reduction are those of the result. -/
theorem Tile.vget_putReduced (x : Tile) (r : Nat) (v : RedVal × Bool × Flg) (h : x.undAfter r = 0) (fr : Nat) {i : Nat} (hi : i < 64) :
    (x.putReduced r v).vget fr (64 * r + i) = (w32 (redElem v i).1, (redElem v i).2) := by
  have hdiv {j : Nat} (hj : j < 64) : (64 * r + j) / 64 = r := by omega
  unfold Tile.putReduced
  refine foldl_sets_within (fun u : Tile => u.undAfter r = 0) (fun u : Tile => u.vget fr (64 * r + i)) (List.mem_range.2 hi)
    (fun u j hu => ?within) (fun u hu => ?set) (fun u hu j hj hne => ?keep) h
  case within => rwa [Tile.undAfter_vwrite]
  case set => rw [Tile.vget_vwrite _ _ _ _ _ (by rw [hdiv hi, hu]), if_pos rfl]
  case keep => rw [Tile.vget_vwrite _ _ _ _ _ (by rw [hdiv (List.mem_range.1 hj), hu]), if_neg (by omega)]

/-- The elements that a reduction takes, with their poison. -/
def Tile.redEls (x : Tile) (fr n : Nat) (a : VOp) : List (Word × Bool) :=
  (List.range n).map fun i => (w32 (x.vread fr a i).1, (x.vread fr a i).2)

/-- A reduction reads every strip, and writes its register (R139). -/
theorem Tile.vredRun_eq {x : Tile} {w : Nat} {a : VOp} (ha : x.vop (vA w) (vN w) = some a) (fr op : Nat) : x.vredRun fr op w =
    let y := x.stripsRead (vN w) a
    let v := reduceAll op (y.redEls fr (vN w) a)
    ((y.putReduced (vD w) v).addVx v.2.2).vadvance (vN w) [a] := by
  dsimp only
  rw [Tile.putReduced_eq]
  unfold Tile.vredRun
  dsimp only
  rw [ha]
  rfl

/-- The advance of the slots writes the slots (R126). -/
theorem Tile.vadvance_frame (x : Tile) (n : Nat) (ops : List VOp) :
    x.vadvance n ops = { x with vx := { x.vx with slots := (x.vadvance n ops).vx.slots } } :=
  List.foldlRecOn _ _ (motive := fun u : Tile => u = { x with vx := { x.vx with slots := u.vx.slots } }) rfl fun u hu _ _ => by rw [hu]

theorem Tile.vNeeds_length (x : Tile) (n cost : Nat) (ops : List VOp) (wreg : Nat → Bool) :
    (x.vNeeds n cost ops wreg).length = x.vcycles n cost ops := by
  simp [Tile.vNeeds, Tile.vcycles, List.length_flatten, Function.comp_def]

theorem vredPlan_ok {x : Tile} {w : Nat} {a : VOp} {p : VPlan} (ha : x.vop (vA w) (vN w) = some a) (hp : vredPlan x w = .ok p) :
    p.need.length = x.vcycles (vN w) 1 [a] ∧ p.tail = 12 := by
  unfold vredPlan at hp
  dsimp only at hp
  rw [ha] at hp
  dsimp only at hp
  split_ifs at hp
  split at hp
  · cases hp
  · cases hp
    exact ⟨x.vNeeds_length .., rfl⟩

/-! ### The tree of ISUM -/

/-- The value of a lane or node, zero where it is absent. -/
def RedAcc.value (a : RedAcc) : Word := (a.map (·.1.1)).getD 0

theorem redFlags_isum (pz : Bool) (fl : Flg) : redFlags 6 pz fl = fl := by simp [redFlags]

theorem redLane_isum (l : List (RedVal × Bool)) (r : RedAcc × Flg) :
    RedAcc.value (redLane 6 r l).1 = RedAcc.value r.1 + (l.map (·.1.1)).sum ∧ (redLane 6 r l).2 = r.2 := by
  induction l generalizing r with
  | nil => simp [redLane]
  | cons e l ih =>
    obtain ⟨acc, fl⟩ := r
    obtain ⟨v, pz⟩ := e
    obtain ⟨hval, hfl⟩ := ih (some ((redTake 6 (acc.map (·.1)) v).1, pz || (acc.map (·.2)).getD false),
      fl ||| redFlags 6 (pz || (acc.map (·.2)).getD false) (redTake 6 (acc.map (·.1)) v).2)
    rw [redLane]
    cases acc with
    | none => exact ⟨hval.trans (by simp [RedAcc.value, redTake]), hfl.trans (by simp [redTake, redFlags_isum])⟩
    | some a =>
      exact ⟨hval.trans (by simp [RedAcc.value, redTake, redCombine, add_assoc]), hfl.trans (by simp [redTake, redCombine, redFlags_isum])⟩

theorem redNode_isum (a b : RedAcc) : RedAcc.value (redNode 6 a b).1 = RedAcc.value a + RedAcc.value b ∧ (redNode 6 a b).2 = 0 := by
  cases a <;> cases b <;> simp [redNode, RedAcc.value, redCombine, redFlags_isum]

theorem redLevel_isum : ∀ l : List RedAcc, ((redLevel 6 l).1.map RedAcc.value).sum = (l.map RedAcc.value).sum ∧ (redLevel 6 l).2 = 0 ∧
    (redLevel 6 l).1.length = (l.length + 1) / 2
  | [] => by simp [redLevel]
  | [a] => by simp [redLevel]
  | a :: b :: l => by
    obtain ⟨hsum, hfl, hlen⟩ := redLevel_isum l
    obtain ⟨hval, hfl'⟩ := redNode_isum a b
    simp only [redLevel, List.map_cons, List.sum_cons, List.length_cons]
    refine ⟨?_, ?_, ?_⟩
    · rw [hsum, hval, add_assoc]
    · rw [hfl, hfl']
      rfl
    · rw [hlen]
      omega

/-- k levels over at most 2^k nodes leave at most one, which holds the sum. -/
theorem redTree_isum (k : Nat) (r : List RedAcc × Flg) (h : r.1.length ≤ 2 ^ k) :
    RedAcc.value ((redTree 6 k r).1.getD 0 none) = (r.1.map RedAcc.value).sum ∧ (redTree 6 k r).2 = r.2 := by
  induction k generalizing r with
  | zero =>
    obtain ⟨l, fl⟩ := r
    match l, h with
    | [], _ => exact ⟨rfl, rfl⟩
    | [a], _ => exact ⟨by simp [redTree], rfl⟩
  | succ k ih =>
    obtain ⟨hsum, hfl, hlen⟩ := redLevel_isum r.1
    obtain ⟨hval, hfl'⟩ := ih ((redLevel 6 r.1).1, r.2 ||| (redLevel 6 r.1).2) (by
      rw [pow_succ] at h
      dsimp only
      omega)
    exact ⟨hval.trans hsum, hfl'.trans (by rw [hfl]; exact BitVec.or_zero)⟩

/-- The elements of n lanes, lane by lane, are all the elements. -/
theorem sum_lanes {α : Type} (f : α → Word) (lane : α → Nat) (n : Nat) (l : List α) (h : ∀ a ∈ l, lane a < n) :
    ((List.range n).map fun j => ((l.filter fun a => lane a == j).map f).sum).sum = (l.map f).sum := by
  induction l with
  | nil => simp
  | cons a l ih =>
    have hcons (j : Nat) : (((a :: l).filter fun b => lane b == j).map f).sum =
        (if lane a = j then f a else 0) + ((l.filter fun b => lane b == j).map f).sum := by
      by_cases hj : lane a = j <;> simp [hj]
    have hown : ((List.range n).map fun j => if lane a = j then f a else 0).sum = f a := by
      have hsum : (∑ j ∈ Finset.range n, if lane a = j then f a else 0) = f a := by
        rw [Finset.sum_ite_eq, if_pos (Finset.mem_range.2 (h a List.mem_cons_self))]
      exact hsum
    simp only [hcons, List.sum_map_add, hown, ih fun b hb => h b (List.mem_cons_of_mem a hb), List.map_cons, List.sum_cons]

/-- The elements with their numbers (R140). -/
def redNum (els : List (Word × Bool)) : List (RedVal × Bool) := (els.zip (List.range els.length)).map fun p => ((p.1.1, p.2), p.1.2)

/-- The 64 lanes once each has taken its elements. -/
def redLanes (op : Nat) (els : List (Word × Bool)) : List (RedAcc × Flg) :=
  (List.range 64).map fun l => redLane op (none, 0) ((redNum els).filter fun p => p.1.2 % 64 == l)

/-- The root of the tree over the lanes, with the flags of all combinations. -/
def redRoot (op : Nat) (els : List (Word × Bool)) : List RedAcc × Flg :=
  redTree op 6 ((redLanes op els).map (·.1), (redLanes op els).foldl (fun a l => a ||| l.2) 0)

theorem reduceAll_isum_eq (els : List (Word × Bool)) : reduceAll 6 els =
    ((RedAcc.value ((redRoot 6 els).1.getD 0 none), 0), els.any (·.2), (redRoot 6 els).2 ||| (if els.any (·.2) then fPZ else 0)) := by
  have hvalue (a : RedAcc) : (a.getD ((0, 0), false)).1.1 = RedAcc.value a := by cases a <;> rfl
  rw [← hvalue]
  rfl

theorem redNum_sum (els : List (Word × Bool)) : ((redNum els).map (·.1.1)).sum = (els.map (·.1)).sum := by
  have hfst : (els.zip (List.range els.length)).map (·.1) = els := List.map_fst_zip (by simp)
  conv_rhs => rw [← hfst]
  simp only [redNum, List.map_map]
  rfl

theorem redLanes_isum (els : List (Word × Bool)) : (((redLanes 6 els).map (·.1)).map RedAcc.value).sum = (els.map (·.1)).sum ∧
    (redLanes 6 els).foldl (fun a l => a ||| l.2) 0 = 0 := by
  constructor
  · have hlane (l : Nat) := (redLane_isum ((redNum els).filter fun p => p.1.2 % 64 == l) (none, 0)).1
    have hsum := sum_lanes (fun p : RedVal × Bool => p.1.1) (fun p => p.1.2 % 64) 64 (redNum els) fun p _ => Nat.mod_lt _ (by decide)
    rw [← redNum_sum, ← hsum]
    simp only [redLanes, List.map_map, Function.comp_def, hlane]
    simp [RedAcc.value]
  · refine List.foldlRecOn _ _ (motive := fun f : Flg => f = 0) rfl fun f hf l hl => ?_
    obtain ⟨j, -, rfl⟩ := List.mem_map.1 hl
    rw [hf, (redLane_isum _ _).2]
    rfl

/-- ISUM gives the sum of all elements, without a flag where none is poisoned. -/
theorem reduceAll_isum (els : List (Word × Bool)) : (reduceAll 6 els).1.1 = (els.map (·.1)).sum ∧ (reduceAll 6 els).1.2 = 0 ∧
    (reduceAll 6 els).2.1 = els.any (·.2) ∧ (els.any (·.2) = false → (reduceAll 6 els).2.2 = 0) := by
  obtain ⟨hsum, hfl⟩ := redLanes_isum els
  obtain ⟨hval, hfl'⟩ := redTree_isum 6 ((redLanes 6 els).map (·.1), (redLanes 6 els).foldl (fun a l => a ||| l.2) 0) (by simp [redLanes])
  rw [reduceAll_isum_eq]
  refine ⟨hval.trans hsum, rfl, rfl, fun hpz => ?_⟩
  dsimp only
  rw [redRoot, hfl', hfl, hpz, if_neg Bool.false_ne_true]
  exact BitVec.or_zero

/-! ### The instruction -/

/-- The seven reductions run the row of their operation (Table 6-8). -/
theorem exec_vredRow : ∀ r ∈ [(Instr.vredSum, 0), (Instr.vredSumsq, 1), (Instr.vredMax, 2), (Instr.vredMin, 3), (Instr.vredArgmax, 4),
    (Instr.vredArgmin, 5), (Instr.vredIsum, 6)], ∀ (t : Nat) (s : State), exec (r.1 t) s =
      onTile t { s with free := s.free + 1 } fun x =>
        x.vRow s.cc (fun w => eOpc w == 0x50 && fld w 2 0 == r.2) vredPlan (Tile.vredRun s.free r.2) := by
  simp only [List.forall_mem_cons]
  exact ⟨fun _ _ => rfl, fun _ _ => rfl, fun _ _ => rfl, fun _ _ => rfl, fun _ _ => rfl, fun _ _ => rfl, fun _ _ => rfl,
    List.forall_mem_nil _⟩

/-- `z` is `x` but for what a reduction can change. -/
def Tile.SameButReduction (x z : Tile) : Prop :=
  z = { x with
    ecc := z.ecc, spz := z.spz, cnt := z.cnt, reports := z.reports
    vx := { x.vx with vreg := z.vx.vreg, vpz := z.vx.vpz, und := z.vx.und, flags := z.vx.flags, slots := z.vx.slots } }

theorem Tile.SameButReduction.vxPart_eq {x z : Tile} (h : x.SameButReduction z) : z.vxPart = x.vxPart := by
  rw [h]
  rfl
theorem Tile.SameButReduction.store_eq {x z : Tile} (h : x.SameButReduction z) : z.store = x.store := by rw [h]

/-- What a reduction leaves of a tile: its register, and no byte or other register element. -/
theorem Tile.vredRun_keeps {x : Tile} {w : Nat} {a : VOp} (ha : x.vop (vA w) (vN w) = some a) (fr op : Nat) : let z := x.vredRun fr op w
    x.SameButReduction z ∧ x.SameVregsBut z (vD w) 64 ∧
      (x.undAfter (vD w) = 0 → ∀ fr' i, i < 64 → z.vget fr' (64 * vD w + i) =
        (w32 (redElem (reduceAll op ((x.stripsRead (vN w) a).redEls fr (vN w) a)) i).1,
          (redElem (reduceAll op ((x.stripsRead (vN w) a).redEls fr (vN w) a)) i).2)) := by
  dsimp only
  rw [Tile.vredRun_eq ha]
  dsimp only
  have hread := x.sameButReads_stripsRead (vN w) a
  generalize x.stripsRead (vN w) a = y at hread ⊢
  generalize reduceAll op (y.redEls fr (vN w) a) = v
  have hput := y.sameButElems_putReduced (vD w) v
  have hvreg := y.vreg_putReduced (vD w) v
  have hvget := y.vget_putReduced (vD w) v
  generalize y.putReduced (vD w) v = u at hput hvreg hvget ⊢
  rw [Tile.vadvance_frame]
  refine ⟨?_, fun k hk => ?_, fun hund fr' i hi => ?_⟩
  · unfold Tile.SameButReduction
    rw [hput, hread]
    rfl
  · have hy : y.vx.vreg = x.vx.vreg := congrArg (·.vx.vreg) hread
    exact (hvreg k hk).trans (by rw [hy])
  · have hund' : y.undAfter (vD w) = 0 := (congrArg (·.undAfter (vD w)) hread).trans hund
    exact hvget hund' fr' hi

/-- The engine's issue changes no register element. -/
theorem Tile.vIssued_vget (cc w : Nat) (p : VPlan) (y : Tile) (fr k : Nat) : (y.vIssued cc w p).vget fr k = y.vget fr k := by
  rw [Tile.vIssued_frame]
  rfl

theorem Tile.redEls_withQv (x : Tile) (fr n : Nat) (a : VOp) (l : List QEnt) : (x.withQv l).redEls fr n a = x.redEls fr n a := by
  unfold Tile.redEls
  simp only [Tile.vread_withQv]

theorem w32_toNat (v : Word) : w32 v.toNat = v := by simp [w32]

/-- Only ARGMAX and ARGMIN give an element number (R139). -/
theorem reduceAll_number {op : Nat} (hmax : op ≠ 4) (hmin : op ≠ 5) (els : List (Word × Bool)) : (reduceAll op els).1.2 = 0 :=
  if_neg (by simp [hmax, hmin])

/-- A reduction that issues (R139). -/
theorem State.VxIssues.reduction_next {s : State} {t : Nat} {e : QEnt} {l : List QEnt} (h : s.VxIssues t e l) {i : Instr} {op : Nat} {a : VOp}
    {p : VPlan} (hi : exec i s = onTile t { s with free := s.free + 1 } fun x =>
      x.vRow s.cc (fun w => eOpc w == 0x50 && fld w 2 0 == op) vredPlan (Tile.vredRun s.free op)) :
    let x := s.tile t
    let w := e.word.toNat
    let n := vN w
    eOpc w = 0x50 → fld w 2 0 = op → x.vop (vA w) n = some a → vredPlan x w = .ok p → x.vconflict p.use = false →
    let v := reduceAll op ((x.stripsRead n a).redEls s.free n a)
    ∃ z : Tile, exec i s = .next (({ s with free := s.free + 1 } : State).setTile t z) ∧ x.VxLeft z s.cc w (x.vcycles n 1 [a]) 12 p.use l ∧
      z.SameStore x ∧ x.SameVregsBut z (vD w) 64 ∧
      (x.undAfter (vD w) = 0 → ∀ fr k, k < 64 → z.vget fr (64 * vD w + k) = (w32 (redElem v k).1, (redElem v k).2)) := by
  intro x w n ho hop ha hp hc v
  obtain ⟨hlen, htail⟩ := vredPlan_ok ha hp
  obtain ⟨hframe, hvreg, hvget⟩ := Tile.vredRun_keeps (x := x.withQv l) (w := w) ha s.free op
  obtain ⟨hnext, hleft⟩ := h.row_next (mine := fun w => eOpc w == 0x50 && fld w 2 0 == op) (body := Tile.vredRun s.free op)
    (by rw [Bool.and_eq_true, beq_iff_eq, beq_iff_eq]; exact ⟨ho, hop⟩) hp hc hframe.vxPart_eq (s.free + 1)
  rw [hlen, htail] at hleft
  refine ⟨_, hi.trans hnext, hleft, Tile.sameStore_of_store ?store, fun k hk => ?vreg, fun hund fr k hk => ?vget⟩
  case store =>
    rw [Tile.vIssued_store]
    exact hframe.store_eq.symm
  case vreg =>
    rw [Tile.vIssued_vreg]
    exact hvreg k hk
  case vget =>
    rw [Tile.vIssued_vget, hvget hund fr k hk, Tile.stripsRead_withQv, Tile.redEls_withQv]

/-- Settles O22: the strips are read, then the register is written, element by element, with what the tree leaves. -/
theorem vectorReductions : Obligations.VectorReductions := by
  unfold Obligations.VectorReductions
  refine ⟨fun r hr s t e l a p h => ?_, reduceAll_isum⟩
  intro x w n ho hop ha hp hc hund y els
  obtain ⟨z, hnext, hleft, hstore, hvreg, hvget⟩ := h.reduction_next (exec_vredRow r hr t s) ho hop ha hp hc
  have hels : (x.stripsRead n a).redEls s.free n a = els := rfl
  rw [hels] at hvget
  have helem := hvget hund
  refine ⟨z, hnext, hleft, hstore, hvreg, fun fr => ⟨?first, ?second, fun i h2 hi => ?rest⟩, fun hmax hmin => reduceAll_number hmax hmin els⟩
  case first => exact (helem fr 0 (by decide)).trans (by rw [redElem, w32_toNat])
  case second => exact helem fr 1 (by decide)
  case rest =>
    obtain ⟨i, rfl⟩ := Nat.exists_eq_add_of_le' h2
    exact helem fr (i + 2) hi

end Sys2Proof.Machine

/-!
PROOFS. The packets of an exchange phase: the send read, the injection, the routers, the landing (O27).
-/
namespace Sys2Proof.Machine

/-! ### Packets by number -/

theorem Mesh.pkt_id {m : Mesh} {id : Nat} {p : Packet} (h : m.pkt id = some p) : p.id = id := by
  simpa using List.find?_some h

/-- Where packet `id` is in flight, it is what has replaced it. -/
theorem Mesh.pkt_setPkt {m : Mesh} {id : Nat} {p q : Packet} (h : m.pkt id = some p) (hq : q.id = id) : (m.setPkt q).pkt id = some q := by
  have hid : ∀ r : Packet, ((if r.id = q.id then q else r).id == id) = (r.id == id) := by
    intro r
    split
    next hr => rw [hr]
    next => rfl
  unfold Mesh.pkt at h
  simp only [Mesh.pkt, Mesh.setPkt, List.find?_map, Function.comp_def, hid, h, Option.map_some]
  rw [if_pos ((Mesh.pkt_id h).trans hq.symm)]

/-- A replacement brings no packet into flight. -/
theorem Mesh.pkt_setPkt_none {m : Mesh} {i : Nat} (h : m.pkt i = none) (q : Packet) : (m.setPkt q).pkt i = none := by
  simp only [Mesh.pkt, Mesh.setPkt, List.find?_eq_none, List.mem_map, forall_exists_index, and_imp, forall_apply_eq_imp_iff₂] at h ⊢
  intro r hr
  have hri := h r hr
  split
  next hq => rwa [← hq]
  next => exact hri

@[simp] theorem Mesh.pkt_drop (m : Mesh) (id : Nat) : (m.drop id).pkt id = none := by
  simp [Mesh.pkt, Mesh.drop]

/-! ### The send read -/

/-- A read of 16 bytes at bank rank 1 (R59, R156). -/
def Tile.readGranule (x : Tile) (a : Nat) : Tile := (x.touch a 16).ask .arrival [⟨banksOf a 16, false⟩] []

theorem Tile.readGranule_frame (x : Tile) (a : Nat) : let u := x.readGranule a
    u = { x with ecc := u.ecc, spz := u.spz, cnt := u.cnt, reports := u.reports, banks := u.banks } := by
  unfold Tile.readGranule
  dsimp only
  rw [Tile.ask_frame, Tile.touch_frame]

/-- The source address of packet j of a send entry. -/
def Tile.sendAddr (x : Tile) (e j : Nat) : Nat := 64 * hBase (x.hndOf (seSh e)) + 16 * (seSoff e + j)

theorem State.mem_unsent {s : State} {p : Phase} {t k j : Nat} : let d := (s.tile t).dirEnt p.xpn
    (k, j) ∈ s.unsent p t ↔
      (dirFirst d ≤ k ∧ k < dirFirst d + dirCount d) ∧ j < seN (Sparse.get 0 (s.tile t).xent k) ∧ (t, k, j) ∉ p.sent := by
  simp only [State.unsent, List.mem_flatten, List.mem_map, List.mem_range, exists_exists_and_eq_and, List.mem_filter, Prod.mk.injEq,
    Bool.not_eq_true', List.contains_eq_mem, decide_eq_false_iff_not]
  constructor
  · rintro ⟨i, hi, j', ⟨hj, hsent⟩, rfl, rfl⟩
    exact ⟨⟨by omega, by omega⟩, hj, hsent⟩
  · rintro ⟨⟨hlo, hhi⟩, hj, hsent⟩
    obtain ⟨i, rfl⟩ := Nat.exists_eq_add_of_le hlo
    exact ⟨i, by omega, j, ⟨hj, hsent⟩, rfl, rfl⟩

section
variable {s : State} {t k j : Nat} {p : Phase} (ht : t < 1536) (hp : s.phaseOf t = some p)
include ht hp

theorem exec_packetSendRead : exec (.packetSendRead t k j) s =
    .next (if (s.unsent p t).contains (k, j) ∧ s.sendDue p t (k, j) then s.sendRead p t (k, j) else s) := by
  show execPacketSendRead t k j s = _
  unfold execPacketSendRead
  rw [if_neg (Nat.not_le.2 ht), hp]

theorem packetSendRead_early (h : s.cc < p.start + seT (Sparse.get 0 (s.tile t).xent k) + j) : exec (.packetSendRead t k j) s = .next s := by
  rw [exec_packetSendRead ht hp, if_neg]
  rintro ⟨-, hdue⟩
  exact Nat.not_le.2 h (of_decide_eq_true hdue)

theorem packetSendRead_reads (h : (k, j) ∈ s.unsent p t) (hdue : p.start + seT (Sparse.get 0 (s.tile t).xent k) + j ≤ s.cc) :
    exec (.packetSendRead t k j) s = .next (s.sendRead p t (k, j)) := by
  rw [exec_packetSendRead ht hp, if_pos ⟨List.contains_iff_mem.2 h, decide_eq_true hdue⟩]

end

/-- What a packet holds besides its poison does not depend on the read of its words. -/
theorem State.makePacket_readGranule (s : State) (t e j : Nat) (p : Phase) (dst : Nat) : let x := s.tile t
    let a := x.sendAddr e j
    let u := x.readGranule a
    (s.setTile t u).makePacket t e j p dst =
      { s.makePacket t e j p dst with pz0 := u.wordPz (a / 8) || x.taint, pz1 := u.wordPz (a / 8 + 1) || x.taint } := by
  intro x a u
  have hu : u = { x with ecc := u.ecc, spz := u.spz, cnt := u.cnt, reports := u.reports, banks := u.banks } := x.readGranule_frame a
  have hhnd : ∀ d, ((s.setTile t u).tile d).hndOf = (s.tile d).hndOf := by
    intro d
    rw [State.tile_setTile]
    split
    next hd => rw [hd, hu]; rfl
    next => rfl
  unfold State.makePacket
  dsimp only
  rw [hhnd, State.tile_setTile_self, show u.hndOf = x.hndOf by rw [hu]; rfl, show u.spare = x.spare by rw [hu]; rfl,
    show u.bytes = x.bytes by rw [hu]; rfl, show u.taint = x.taint by rw [hu]]
  rfl

/-- What the read of a packet changes. -/
theorem State.sendRead_some {s : State} {p : Phase} {t k j dst : Nat} (hdst : seDst s.skipRow s.rows (Sparse.get 0 (s.tile t).xent k) = some dst) :
    let x := s.tile t
    let e := Sparse.get 0 x.xent k
    let v := State.sendRead p t s (k, j)
    v.tiles = (s.setTile t (x.readGranule (x.sendAddr e j))).tiles ∧
      v.cal.phases = s.cal.phases.map (fun o => if o.gid = p.gid ∧ o.start = p.start then { o with sent := o.sent ++ [(t, k, j)] } else o) ∧
      v.mesh.pkts = s.mesh.pkts ++ [(s.setTile t (x.readGranule (x.sendAddr e j))).makePacket t e j p dst] := by
  unfold State.sendRead
  dsimp only
  rw [hdst]
  exact ⟨rfl, rfl, rfl⟩

/-! ### The routers of a path -/

theorem hopsFrom_ne_nil {c x inp : Nat} {a : Nat × Nat} {l : List (Bool × Nat × Nat)} : hopsFrom c x a inp l ≠ [] := by
  cases l <;> exact List.cons_ne_nil _ _

theorem hopsFrom_routers (l : List (Bool × Nat × Nat)) (c x inp : Nat) (a : Nat × Nat) :
    (hopsFrom c x a inp l).map (fun h => (h.qx, h.qy)) = a :: l.map (·.2) := by
  induction l generalizing c x inp a with
  | nil => rfl
  | cons h l ih => rw [hopsFrom, List.map_cons, ih, List.map_cons]

theorem hopsFrom_first (l : List (Bool × Nat × Nat)) (c x inp : Nat) (a : Nat × Nat) : (hopsFrom c x a inp l).head?.map (·.cyc) = some c := by
  cases l <;> rfl

/-- The last router passes after two cycles for each hop, one more for each express hop and the retiming before the first of them. -/
theorem hopsFrom_last (l : List (Bool × Nat × Nat)) (c x inp : Nat) (a : Nat × Nat) : (hopsFrom c x a inp l).getLast?.map (·.cyc) =
    some (c + 2 * l.length + (l.filter (·.1)).length + if l.any (·.1) = true then x else 0) := by
  induction l generalizing c x inp a with
  | nil => rfl
  | cons h l ih =>
    obtain ⟨ex, b⟩ := h
    rw [hopsFrom, List.getLast?_cons_of_ne_nil hopsFrom_ne_nil, ih]
    cases ex
    · simp only [Bool.false_eq_true, if_false, List.length_cons, List.filter_cons, List.any_cons, Bool.false_or, Option.some.injEq]
      omega
    · simp only [if_true, List.length_cons, List.filter_cons, List.any_cons, Bool.true_or, Option.some.injEq, ite_self]
      omega

/-! ### The injection -/

theorem packetInject_eq {s : State} {id : Nat} {p : Packet} (hp : s.mesh.pkt id = some p) (hst : p.st = .sendBuf) :
    exec (.packetInject id) s =
      .next (if p.r + 1 + p.spad ≤ s.cc then { s with mesh := s.mesh.setPkt { p with st := .onTrack } } else s) := by
  show execPacketInject id s = _
  unfold execPacketInject
  rw [hp]
  by_cases hcyc : p.r + 1 + p.spad ≤ s.cc
  · simp [Packet.inject, hst, hcyc]
  · simp [Packet.inject, hcyc]

/-! ### The pass of a router -/

theorem Packet.pass_due {p : Packet} {h : Hop} {rest : List Hop} {cc : Nat} (hst : p.st = .onTrack) (hpath : p.path = h :: rest)
    (hcyc : h.cyc ≤ cc) : p.pass cc = { p with path := rest, prev := some h } := by
  unfold Packet.pass
  rw [hpath]
  exact if_pos ⟨hst, hcyc⟩

/-- XCH.ERRLOC of an error that the router of `h` finds (Table 7-15). -/
def Hop.errLoc (h : Hop) : Nat := 2 ^ 20 * h.qx + 2 ^ 15 * h.qy + 2 ^ 11 * h.inp

theorem Hop.errLoc_eq (h : Hop) : at' h.qx 20 + at' h.qy 15 + at' h.inp 11 = h.errLoc := by
  unfold at' Hop.errLoc
  omega

theorem Mesh.error_errLoc {m : Mesh} (hov : m.errOvf = false) (hhd : m.errHdrUe = false) (hda : m.errDataUe = false) (k loc : Nat) :
    (m.error k loc).errLoc = loc := by
  simp [Mesh.error, hov, hhd, hda]

section
variable {s : State} {id : Nat} {p : Packet} {h : Hop} {rest : List Hop} (hp : s.mesh.pkt id = some p)
include hp

/-! What one error does (Table 7-10). -/

theorem State.routerError_dataCe (h : Hop) (w : Nat) :
    s.routerError h id (.dataCe w) = { s with mesh := { s.mesh with cntCe := sat32 s.mesh.cntCe 1 } } := by
  unfold State.routerError
  simp only [hp]

theorem State.routerError_hdrCe (h : Hop) :
    s.routerError h id .hdrCe = { s with mesh := { s.mesh with cntHdrCe := sat32 s.mesh.cntHdrCe 1 } } := by
  unfold State.routerError
  simp only [hp]

theorem State.routerError_dataUe : let u := s.routerError h id (.dataUe 0)
    u.mesh = Mesh.error { s.mesh.setPkt { p with pz0 := true } with cntUe := sat32 s.mesh.cntUe 1 } 0 h.errLoc ∧ u.tiles = s.tiles := by
  unfold State.routerError
  simp only [hp, State.reportAt_mesh, State.reportAt_tiles, Hop.errLoc_eq]
  exact ⟨rfl, trivial⟩

theorem State.routerError_hdrUe : let u := s.routerError h id .hdrUe
    u.mesh = Mesh.error { s.mesh.drop id with cntHdrUe := sat32 s.mesh.cntHdrUe 1 } 1 h.errLoc ∧ u.tiles = s.tiles := by
  unfold State.routerError
  simp only [hp, State.reportAt_mesh, State.reportAt_tiles, Hop.errLoc_eq]
  exact ⟨trivial, trivial⟩

theorem State.routerError_overflow : let u := s.routerError h id .overflow
    let q := s.mesh.lastAt h p
    u.mesh = Mesh.error { s.mesh.drop q.1.id with cntHdrUe := sat32 s.mesh.cntHdrUe 1 } 2 q.2.errLoc ∧ u.tiles = s.tiles := by
  unfold State.routerError
  simp only [hp, State.reportAt_mesh, State.reportAt_tiles, Hop.errLoc_eq]
  exact ⟨trivial, trivial⟩

/-! The pass, after the errors. -/

theorem packetRouterPass_waits (hpath : p.path = h :: rest) {link : Nat} (hw : s.cc < h.cyc ∨ link ≠ h.inp)
    (errs : List PktErr) : exec (.packetRouterPass id link errs) s = .next s := by
  show execPacketRouterPass id link errs s = _
  unfold execPacketRouterPass
  simp only [hp, hpath]
  rw [if_pos (.inr hw)]

variable (hst : p.st = .onTrack) (hpath : p.path = h :: rest) (hcyc : h.cyc ≤ s.cc)
include hst hpath hcyc

/-- The errors come first; then the packet passes, if they have left it. -/
theorem packetRouterPass_eq (errs : List PktErr) : let s1 := errs.foldl (State.routerError h id) s
    exec (.packetRouterPass id h.inp errs) s =
      .next ((s1.mesh.pkt id).elim s1 fun q => { s1 with mesh := s1.mesh.setPkt (q.pass s.cc) }) := by
  show execPacketRouterPass id h.inp errs s = _
  unfold execPacketRouterPass
  simp only [hp, hpath]
  rw [if_neg (by simp [hst, hcyc])]
  cases (errs.foldl (State.routerError h id) s).mesh.pkt id <;> rfl

theorem packetRouterPass_some {errs : List PktErr} {q : Packet} (hq : (errs.foldl (State.routerError h id) s).mesh.pkt id = some q) :
    let s1 := errs.foldl (State.routerError h id) s
    exec (.packetRouterPass id h.inp errs) s = .next { s1 with mesh := s1.mesh.setPkt (q.pass s.cc) } := by
  rw [packetRouterPass_eq hp hst hpath hcyc, hq]
  rfl

/-- Whatever the errors have left, the pass itself changes packets in flight alone and brings none back. -/
theorem packetRouterPass_after (errs : List PktErr) : let s1 := errs.foldl (State.routerError h id) s
    ∃ l : List Packet, exec (.packetRouterPass id h.inp errs) s = .next { s1 with mesh := { s1.mesh with pkts := l } } ∧
      ∀ i, s1.mesh.pkt i = none → ({ s1.mesh with pkts := l } : Mesh).pkt i = none := by
  intro s1
  rw [packetRouterPass_eq hp hst hpath hcyc]
  cases s1.mesh.pkt id with
  | none => exact ⟨s1.mesh.pkts, rfl, fun _ hi => hi⟩
  | some q => exact ⟨_, rfl, fun _ hi => Mesh.pkt_setPkt_none hi _⟩

/-- With no error, or with a corrected one that leaves the packets as they are, the packet passes. -/
theorem packetRouterPass_corrected {errs : List PktErr} {ce hce : Word} (herr : errs.foldl (State.routerError h id) s =
    { s with mesh := { s.mesh with cntCe := ce, cntHdrCe := hce } }) : exec (.packetRouterPass id h.inp errs) s =
      .next { s with mesh := { s.mesh.setPkt { p with path := rest, prev := some h } with cntCe := ce, cntHdrCe := hce } } := by
  rw [packetRouterPass_some hp hst hpath hcyc (q := p) (by rw [herr]; exact hp), herr, Packet.pass_due hst hpath hcyc]
  rfl

/-- An uncorrectable data word is passed on poisoned. -/
theorem packetRouterPass_dataUe : ∃ u : State, exec (.packetRouterPass id h.inp [.dataUe 0]) s = .next u ∧
    u.mesh.errDataUe = true ∧ u.tiles = s.tiles ∧
    (s.mesh.errOvf = false → s.mesh.errHdrUe = false → s.mesh.errDataUe = false → u.mesh.errLoc = h.errLoc) ∧
    u.mesh.cntUe = sat32 s.mesh.cntUe 1 ∧ u.mesh.pkt id = some { p with path := rest, prev := some h, pz0 := true } := by
  obtain ⟨hmesh, htiles⟩ := State.routerError_dataUe (h := h) hp
  have hid := Mesh.pkt_id hp
  have hpois : (s.routerError h id (.dataUe 0)).mesh.pkt id = some { p with pz0 := true } := by
    rw [hmesh]
    exact Mesh.pkt_setPkt hp hid
  have hnext := packetRouterPass_some hp hst hpath hcyc (errs := [.dataUe 0]) hpois
  rw [Packet.pass_due (p := { p with pz0 := true }) hst hpath hcyc] at hnext
  refine ⟨_, hnext, ?_, htiles, fun hov hhd hda => ?_, congrArg Mesh.cntUe hmesh, Mesh.pkt_setPkt hpois hid⟩
  · exact (congrArg Mesh.errDataUe hmesh).trans (Bool.or_true _)
  · exact (congrArg Mesh.errLoc hmesh).trans (Mesh.error_errLoc hov hhd hda 0 _)

/-- An uncorrectable header drops the packet. -/
theorem packetRouterPass_hdrUe : ∃ u : State, exec (.packetRouterPass id h.inp [.hdrUe]) s = .next u ∧
    u.mesh.pkt id = none ∧ u.mesh.errHdrUe = true ∧
    (s.mesh.errOvf = false → s.mesh.errHdrUe = false → s.mesh.errDataUe = false → u.mesh.errLoc = h.errLoc) ∧
    u.mesh.cntHdrUe = sat32 s.mesh.cntHdrUe 1 ∧ u.tiles = s.tiles := by
  obtain ⟨hmesh, htiles⟩ := State.routerError_hdrUe (h := h) hp
  obtain ⟨l, hnext, hgone⟩ := packetRouterPass_after hp hst hpath hcyc [.hdrUe]
  refine ⟨_, hnext, hgone id ?_, ?_, fun hov hhd hda => ?_, congrArg Mesh.cntHdrUe hmesh, htiles⟩
  · exact (congrArg (Mesh.pkt · id) hmesh).trans (Mesh.pkt_drop ..)
  · exact (congrArg Mesh.errHdrUe hmesh).trans (Bool.or_true _)
  · exact (congrArg Mesh.errLoc hmesh).trans (Mesh.error_errLoc hov hhd hda 1 _)

/-- An overflow drops the last packet in input order, which may be another than the one that passes (log entry 84). -/
theorem packetRouterPass_overflow : ∃ u : State, exec (.packetRouterPass id h.inp [.overflow]) s = .next u ∧
    u.mesh.pkt (s.mesh.lastAt h p).1.id = none ∧ u.mesh.errOvf = true ∧ u.mesh.cntHdrUe = sat32 s.mesh.cntHdrUe 1 ∧ u.tiles = s.tiles := by
  obtain ⟨hmesh, htiles⟩ := State.routerError_overflow (h := h) hp
  obtain ⟨l, hnext, hgone⟩ := packetRouterPass_after hp hst hpath hcyc [.overflow]
  refine ⟨_, hnext, hgone _ ?_, ?_, congrArg Mesh.cntHdrUe hmesh, htiles⟩
  · exact (congrArg (Mesh.pkt · _) hmesh).trans (Mesh.pkt_drop ..)
  · exact (congrArg Mesh.errOvf hmesh).trans (Bool.or_true _)

end

/-! ### The landing -/

theorem packetLanding_eq {s : State} {id : Nat} {p : Packet} (hp : s.mesh.pkt id = some p) (hst : p.st = .landingBuf) :
    exec (.packetLanding id) s = .next (if p.r + p.c ≤ s.cc then s.land p else s) := by
  show execPacketLanding id s = _
  unfold execPacketLanding
  rw [hp]
  simp [Packet.landDue, hst]

/-- The two words of a packet, written with their poison (R157, R167). -/
def Tile.landPacket (x : Tile) (p : Packet) : Tile :=
  (x.write p.addr (leBytes 8 p.w0.toNat) p.pz0).write (p.addr + 8) (leBytes 8 p.w1.toNat) p.pz1

theorem State.land_tile (s : State) (p : Packet) (v : Nat) : (s.land p).tile v =
    if v = p.dst then ((s.tile p.dst).landPacket p).ask .arrival [⟨banksOf p.addr 16, false⟩] [] else s.tile v :=
  State.tile_setTile ..

theorem Tile.landPacket_byteAt (x : Tile) (p : Packet) (b : Nat) : (x.landPacket p).byteAt b =
    if p.addr ≤ b ∧ b < p.addr + 8 then (leBytes 8 p.w0.toNat).getD (b - p.addr) 0
    else if p.addr + 8 ≤ b ∧ b < p.addr + 16 then (leBytes 8 p.w1.toNat).getD (b - p.addr - 8) 0
    else x.byteAt b := by
  rw [Tile.landPacket, Tile.write_byteAt, Tile.write_byteAt, leBytes_length, leBytes_length, Nat.add_assoc, Nat.sub_sub]
  by_cases h0 : p.addr ≤ b ∧ b < p.addr + 8
  · rw [if_neg (by omega), if_pos h0, if_pos h0]
  · rw [if_neg h0, if_neg h0]

theorem Tile.landPacket_wordPz (x : Tile) {p : Packet} (ha : p.addr % 8 = 0) (w : Nat) : (x.landPacket p).wordPz w =
    if w = p.addr / 8 then p.pz0 else if w = p.addr / 8 + 1 then p.pz1 else x.wordPz w := by
  have hdvd : 8 ∣ p.addr := Nat.dvd_of_mod_eq_zero ha
  rw [Tile.landPacket, Tile.wordPz_write_word _ _ (by omega) (leBytes_length ..), Tile.wordPz_write_word _ _ hdvd (leBytes_length ..),
    Nat.add_div_right _ (by decide)]
  by_cases h0 : w = p.addr / 8
  · rw [if_neg (by omega), if_pos h0, if_pos h0]
  · rw [if_neg h0, if_neg h0]

/-- Settles O27: the send read, the path, and the life of a packet up to its landing, by the rule of each step. -/
theorem exchangePackets : Obligations.ExchangePackets := by
  unfold Obligations.ExchangePackets
  refine ⟨fun s t k j dst p ht hp => ⟨packetSendRead_early ht hp, ?send⟩,
    fun c x inp a l => ⟨hopsFrom_routers l c x inp a, hopsFrom_first l c x inp a, hopsFrom_last l c x inp a⟩,
    fun s id p hp => ⟨fun hst hcyc => ?inject, fun hst hcyc => ?hold, fun h rest hst hpath => ?pass, fun hst hcyc => ?buffer,
      fun hst hcyc ha => ?land⟩⟩
  case send =>
    intro hlo hhi hj hdue hsent hdst
    obtain ⟨htiles, hphases, hpkts⟩ := State.sendRead_some (p := p) (j := j) hdst
    have htile : ∀ r, (State.sendRead p t s (k, j)).tile r = _ := fun r => congrArg (Sparse.get Tile.reset · r) htiles
    refine ⟨_, packetSendRead_reads ht hp (State.mem_unsent.2 ⟨⟨hlo, hhi⟩, hj, hsent⟩) hdue, ?_, fun r hr => ?_, hphases, ?_⟩
    · exact (htile t).trans (State.tile_setTile_self ..)
    · exact (htile r).trans ((State.tile_setTile ..).trans (if_neg hr))
    · rw [hpkts, State.makePacket_readGranule]
      simp only [State.makePacket, Tile.spare, beq_iff_eq]
      rfl
  case inject => rw [packetInject_eq hp hst, if_pos hcyc]
  case hold => rw [packetInject_eq hp hst, if_neg (Nat.not_le.2 hcyc)]
  case buffer => rw [packetLanding_eq hp hst, if_neg (Nat.not_le.2 hcyc)]
  case pass =>
    refine ⟨fun link errs hw => packetRouterPass_waits hp hpath hw errs, fun hcyc => ?_⟩
    exact ⟨packetRouterPass_corrected hp hst hpath hcyc rfl,
      fun w => packetRouterPass_corrected hp hst hpath hcyc (State.routerError_dataCe hp h w),
      packetRouterPass_corrected hp hst hpath hcyc (State.routerError_hdrCe hp h), packetRouterPass_dataUe hp hst hpath hcyc,
      packetRouterPass_hdrUe hp hst hpath hcyc, packetRouterPass_overflow hp hst hpath hcyc⟩
  case land =>
    refine ⟨s.land p, by rw [packetLanding_eq hp hst, if_pos hcyc], ?_, rfl, fun v hv => ?_, (Tile.same_of_core (s.land_core p p.dst)).1,
      fun b => ?_, fun w => ?_⟩
    · rw [← Mesh.pkt_id hp]
      exact Mesh.pkt_drop ..
    · rw [State.land_tile, if_neg hv]
    · rw [State.land_tile, if_pos rfl, ← Tile.landPacket_byteAt, Tile.byteAt, Tile.ask_store]
      rfl
    · rw [State.land_tile, if_pos rfl, ← Tile.landPacket_wordPz _ ha, Tile.ask_frame]
      rfl

end Sys2Proof.Machine

/-!
PROOFS. Sync flags: the grants of a cycle and its net change (O11).
-/
namespace Sys2Proof.Machine

/-! ### The grant of a flag -/

theorem Tile.sflag_setSflag (x : Tile) (n m : Nat) (f : SFlag) : (x.setSflag n f).sflag m = if m = n then f else x.sflag m :=
  Sparse.get_set ..

@[simp] theorem Tile.sflag_setSflag_self (x : Tile) (n : Nat) (f : SFlag) : (x.setSflag n f).sflag n = f := by
  rw [Tile.sflag_setSflag, if_pos rfl]

theorem Tile.sflag_setSflag_ne (x : Tile) {n m : Nat} (h : m ≠ n) (f : SFlag) : (x.setSflag n f).sflag m = x.sflag m := by
  rw [Tile.sflag_setSflag, if_neg h]

@[simp] theorem Tile.grantHead_st (x : Tile) (q : EQueue) : (x.grantHead q).st = x.st := by
  unfold Tile.grantHead
  split
  · rfl
  · rw [Tile.setQueue_frame]

@[simp] theorem Tile.vWaited_st (x : Tile) (n : Nat) : (x.vWaited n).st = x.st := by
  unfold Tile.vWaited
  split <;> rfl

/-- A grant that leaves the tile in its state writes the tile. -/
theorem syncFlagGrant_next {s : State} {t n : Nat} {z : Tile} (ht : t < 1536) (hz : (s.tile t).grant (s.wrelOk t) s.cc n = z)
    (hst : z.st = (s.tile t).st) : exec (.syncFlagGrant t n) s = .next (s.setTile t z) := by
  subst hz
  exact onTile_live ht s (fun x => x.grant (s.wrelOk t) s.cc n) (.inr hst)

section
variable {x : Tile} {n : Nat} (wrel : Nat → Bool) {cc : Nat}

/-- Without a value at the cycle's start, or with its decrement granted already, a flag gives none (R172). -/
theorem Tile.grant_exhausted (h : (x.sflag n).val0 = 0 ∨ (x.sflag n).dec ≠ 0) : x.grant wrel cc n = x := by
  have hg : x.grantable n = false := by
    rw [Bool.eq_false_iff, ne_eq, Tile.grantable_iff]
    omega
  unfold Tile.grant
  rw [hg]
  rfl

variable (hg : x.grantable n = true)
include hg

/-! The waiters of a flag that can be granted, in the order of R173. -/

theorem Tile.grant_matrix {q : MQueue} (hm : x.mxWants cc n = some q) : x.grant wrel cc n = (x.takeFlag n).grantHead (mqOf q) := by
  unfold Tile.grant
  rw [hg, hm]
  rfl

theorem Tile.grant_vector (hm : x.mxWants cc n = none) (hv : x.vWants cc n = true) :
    x.grant wrel cc n = ((x.takeFlag n).grantHead .v).vWaited n := by
  unfold Tile.grant
  rw [hg, hm]
  exact if_pos hv

theorem Tile.grant_feed (hm : x.mxWants cc n = none) (hv : x.vWants cc n = false) (hd : x.dWants wrel n = true) :
    x.grant wrel cc n = (x.takeFlag n).grantHead .d := by
  unfold Tile.grant
  rw [hg, hm]
  simp only [hv, hd]
  rfl

theorem Tile.grant_scalar (hm : x.mxWants cc n = none) (hv : x.vWants cc n = false) (hd : x.dWants wrel n = false) :
    x.grant wrel cc n = if x.sleep = .flag n then { x.takeFlag n with sleep := .granted n cc } else x := by
  unfold Tile.grant
  rw [hg, hm]
  simp only [hv, hd]
  rfl

end

/-! ### The end of a cycle -/

theorem SFlag.settle_eq (f : SFlag) : let v := f.hand.getD f.val0 + f.inc - f.dec
    f.settle = ⟨min v 255, none, 0, 0, f.ovf || decide (255 < v), f.rsv⟩ := rfl

theorem Tile.settleFlag_frame (x : Tile) (n : Nat) : x.settleFlag n =
    { x with sf := (x.setSflag n (x.sflag n).settle).sf, reports := (x.settleFlag n).reports } := by
  unfold Tile.settleFlag
  simp only
  split <;> rfl

theorem Tile.settleFlag_sflag (x : Tile) (n m : Nat) : (x.settleFlag n).sflag m = if m = n then (x.sflag n).settle else x.sflag m := by
  rw [← Tile.sflag_setSflag, Tile.settleFlag_frame]
  rfl

/-- The rise of OVF is reported, not its standing (R172). -/
theorem Tile.settleFlag_reports (x : Tile) (n : Nat) : (x.settleFlag n).reports =
    if (x.sflag n).ovf = false ∧ 255 < (x.sflag n).hand.getD (x.sflag n).val0 + (x.sflag n).inc - (x.sflag n).dec
      then x.reports ++ [0x0105] else x.reports := by
  have hrise : ((x.sflag n).settle.ovf && !(x.sflag n).ovf) = true ↔
      (x.sflag n).ovf = false ∧ 255 < (x.sflag n).hand.getD (x.sflag n).val0 + (x.sflag n).inc - (x.sflag n).dec := by
    rw [SFlag.settle_eq]
    cases (x.sflag n).ovf <;> simp
  unfold Tile.settleFlag
  simp only [hrise]
  split <;> rfl

/-- Settles O11: the grant by its first waiter, and the end of the cycle flag by flag. -/
theorem flagsFollowTheFourRules : Obligations.FlagsFollowTheFourRules := by
  unfold Obligations.FlagsFollowTheFourRules
  refine ⟨fun x n => ?increment, fun s t n ht => ⟨fun hno => ?exhausted, fun hval hdec => ?grant⟩, fun x n => ?settle⟩
  case increment =>
    intro y
    have hself : y.sflag n = { x.sflag n with inc := (x.sflag n).inc + 1 } := Tile.sflag_setSflag_self ..
    rw [hself]
    exact ⟨rfl, rfl, rfl, fun m hm => Tile.sflag_setSflag_ne x hm _⟩
  case exhausted => exact syncFlagGrant_next ht (Tile.grant_exhausted _ hno) rfl
  case grant =>
    have hg : (s.tile t).grantable n = true := (Tile.grantable_iff _ n).2 ⟨hval, hdec⟩
    refine ⟨fun q hm => syncFlagGrant_next ht (Tile.grant_matrix _ hg hm) (Tile.grantHead_st ..),
      fun hm hv => syncFlagGrant_next ht (Tile.grant_vector _ hg hm hv) ((Tile.vWaited_st ..).trans (Tile.grantHead_st ..)),
      fun hm hv hd => syncFlagGrant_next ht (Tile.grant_feed _ hg hm hv hd) (Tile.grantHead_st ..),
      fun hm hv hd hs => syncFlagGrant_next ht ((Tile.grant_scalar _ hg hm hv hd).trans (if_pos hs)) rfl,
      fun hm hv hd hs => syncFlagGrant_next ht ((Tile.grant_scalar _ hg hm hv hd).trans (if_neg hs)) rfl⟩
  case settle =>
    refine ⟨(x.settleFlag_sflag n n).trans (if_pos rfl), fun m hm => (x.settleFlag_sflag n m).trans (if_neg hm), x.settleFlag_reports n, ?_⟩
    rw [Tile.settleFlag_frame]

end Sys2Proof.Machine

/-!
PROOFS. Hand settings, the JTAG port and the sideband (O58).
-/
namespace Sys2Proof.Machine

/-! ### Records of the journal -/

/-- A mounted, undamaged journal takes a record into its batch (R397). -/
theorem State.journal_push {s : State} (hm : s.vent.journal.mounted = true) (hd : s.vent.journal.damaged = false) (typ : Nat)
    (payload : List Byte) (next : JThen) :
    s.journal typ payload next = { s with vent := { s.vent with journal := s.vent.journal.push typ payload next } } := by
  unfold State.journal
  rw [if_neg (by simp [hm, hd])]

theorem joinBefore_last {p : PendRec → Bool} {e : PendRec} (hp : p e = true) (r : PendRec) (l : List PendRec) :
    joinBefore p r (l ++ [e]) = l ++ [r, e] := by
  unfold joinBefore
  simp [hp]

/-! ### A hand setting -/

/-- The payload of an INTERVENTION record (R179): tile, flag, old value, new value, source. -/
def handBytes (t n old v src : Nat) : List Byte := leBytes 2 t ++ leBytes 1 n ++ leBytes 1 old ++ leBytes 1 v ++ leBytes 1 src

section
variable (s : State) (t n old v src : Nat)

theorem State.journalHand_frame : s.journalHand t n old v src =
    { s with vent := { s.vent with journal := (s.journalHand t n old v src).vent.journal } } := by
  unfold State.journalHand State.journal
  simp only
  split_ifs <;> rfl

/-- Vent after a hand setting: its record, and one intervention more. -/
theorem State.handSetting_vent : (s.handSetting t n v src).vent = { s.vent with
    journal := (s.journalHand t n ((s.tile t).sflag n).val0 v src).vent.journal
    run := { s.vent.run with interventions := s.vent.run.interventions + 1 } } := by
  unfold State.handSetting
  simp only
  rw [State.journalHand_frame]
  split_ifs <;> rfl

theorem State.handSetting_inside : (s.handSetting t n v src).host.inside = s.host.inside := by
  unfold State.handSetting
  simp only
  refine (HostIface.inside_post ..).trans ?_
  rw [State.journalHand_frame]
  split_ifs <;> rfl

theorem State.handSetting_jtag : (s.handSetting t n v src).jtag =
    if src = 1 then { s.jtag with lastSet := some (t, n, s.cc) } else s.jtag := by
  unfold State.handSetting
  simp only
  rw [State.journalHand_frame]
  split_ifs <;> rfl

variable {s t n v src}

/-- A setting sets its flag, unless it is a SYNCF_SET after a setting by JTAG in the same cycle (R348). -/
theorem State.tile_handSetting (h : ¬ (src = 0 ∧ s.jtag.lastSet = some (t, n, s.cc))) (k : Nat) :
    (s.handSetting t n v src).tile k = if k = t then (s.tile t).handSet n v else s.tile k := by
  unfold State.handSetting
  simp only
  rw [if_neg h, State.journalHand_frame]
  exact State.tile_setTile ..

variable {old} (hm : s.vent.journal.mounted = true) (hd : s.vent.journal.damaged = false)
include hm hd

theorem State.journalHand_push (h : src ≠ 1 ∨ ((s.tile t).sflag n).hand = none) :
    (s.journalHand t n old v src).vent.journal = s.vent.journal.push 0x30 (handBytes t n old v src) .extendM3 := by
  have hlate : ¬ (src = 1 ∧ ((s.tile t).sflag n).hand.isSome = true ∧ s.jtag.lastSet ≠ some (t, n, s.cc)) := by
    rintro ⟨hsrc, hhand, -⟩
    rcases h with h | h
    · exact h hsrc
    · simp [h] at hhand
  unfold State.journalHand
  simp only
  rw [if_pos (.inl (by rw [decide_eq_false hlate]; rfl)), State.journal_push hm hd]
  rfl

/-- JTAG's record goes before that of the SYNCF_SET which reached the flag in the same cycle (R348). -/
theorem State.journalHand_before (hh : ((s.tile t).sflag n).hand.isSome = true) (hl : s.jtag.lastSet ≠ some (t, n, s.cc)) {w : Nat}
    {l : List PendRec} (hb : s.vent.journal.batch = l ++ [⟨0x30, handBytes t n old w 0, .extendM3⟩]) :
    (s.journalHand t n old v 1).vent.journal.batch =
      l ++ [⟨0x30, handBytes t n old v 1, .extendM3⟩, ⟨0x30, handBytes t n old w 0, .extendM3⟩] := by
  unfold State.journalHand
  simp only
  rw [if_neg (by simp [hm, hd, hh, hl]), hb]
  exact joinBefore_last (by simp [handBytes, leBytes]) _ l

end

/-- A setting by JTAG stands: the flag, the count, and its record, before that of a SYNCF_SET of the same cycle (R179, R348). -/
theorem State.handSetting_byJtag (s : State) (t n v : Nat) : let u := s.handSetting t n v 1
    let old := ((s.tile t).sflag n).val0
    u.tile t = (s.tile t).handSet n v ∧ (∀ k, k ≠ t → u.tile k = s.tile k) ∧ u.jtag.lastSet = some (t, n, s.cc) ∧
    u.vent.run.interventions = s.vent.run.interventions + 1 ∧
    (((s.tile t).sflag n).hand = none → s.vent.journal.mounted = true → s.vent.journal.damaged = false →
      u.vent.journal = s.vent.journal.push 0x30 (handBytes t n old v 1) .extendM3) ∧
    ∀ (w : Nat) (l : List PendRec), ((s.tile t).sflag n).hand.isSome = true → s.jtag.lastSet ≠ some (t, n, s.cc) →
      s.vent.journal.mounted = true → s.vent.journal.damaged = false →
      s.vent.journal.batch = l ++ [⟨0x30, handBytes t n old w 0, .extendM3⟩] →
      u.vent.journal.batch = l ++ [⟨0x30, handBytes t n old v 1, .extendM3⟩, ⟨0x30, handBytes t n old w 0, .extendM3⟩] := by
  intro u old
  have htile := State.tile_handSetting (s := s) (t := t) (n := n) (v := v) (src := 1) (by simp)
  simp only [u]
  rw [State.handSetting_jtag, State.handSetting_vent]
  exact ⟨(htile t).trans (if_pos rfl), fun k hk => (htile k).trans (if_neg hk), rfl, rfl,
    fun hh hm hd => State.journalHand_push hm hd (.inr hh), fun w l hh hl hm hd hb => State.journalHand_before hm hd hh hl hb⟩

/-! ### The JTAG port -/

section
variable {s : State} (h : s.jtag.trst = false) (hp : s.aon.power = true)
include h hp

theorem jtagBypass_next (b : Bool) : exec (.jtagBypass b) s = .next { s with jtag := s.jtag.shift b } := by
  show execJtagBypass b s = _
  unfold execJtagBypass
  rw [jtagOp_next h hp]

theorem jtagIdcode_next : exec .jtagIdcode s = .next (({ s with
    jtag := { s.jtag with ir := .idcode, dr := idcode s.vent.stepping, driving := false } } : State).answerWord (idcode s.vent.stepping)) := by
  show execJtagIdcode s = _
  unfold execJtagIdcode
  rw [jtagOp_next h hp]

theorem jtagSamplePreload_next (pins cells : List Bool) : exec (.jtagSamplePreload pins cells) s = .next { s with
    jtag := { s.jtag with ir := .samplePreload, cells := cells, driving := false }
    out := ⟨bitsToBytes pins, false⟩ } := by
  show execJtagSamplePreload pins cells s = _
  unfold execJtagSamplePreload
  rw [jtagOp_next h hp]

theorem jtagExtest_next (b : Bool) : exec (.jtagExtest b) s = if s.sec.right 2
    then .next { s with jtag := { s.jtag with ir := .extest, driving := true } } else exec (.jtagBypass b) s := by
  rw [jtagBypass_next h hp]
  show execJtagExtest b s = _
  unfold execJtagExtest
  rw [jtagOp_next h hp, apply_ite Host.Outcome.next]

theorem jtagRegisterRead_next {t : Nat} (ht : t < 1536) (off : Nat) (b : Bool) : exec (.jtagRegisterRead t off b) s = if s.sec.right 2
    then .next (({ s with jtag := { s.jtag with ir := .regRead, dr := s.tregWord t off, driving := false } } : State).answerWord
      (s.tregWord t off)) else exec (.jtagBypass b) s := by
  rw [jtagBypass_next h hp]
  show execJtagRegisterRead t off b s = _
  unfold execJtagRegisterRead
  rw [jtagOp_next h hp, apply_ite Host.Outcome.next]
  simp only [if_pos ht]

/-- At Update-DR the setting is that of a flag's hand setting (R179). -/
theorem jtagSyncfSet_next {t n : Nat} (ht : t < 1536) (hn : n < 48) (v : Nat) (b : Bool) (hr : s.sec.right 2 = true) :
    exec (.jtagSyncfSet t n v b) s =
      .next (({ s with jtag := { s.jtag with ir := .syncfSet, driving := false } } : State).handSetting t n (v % 256) 1) := by
  show execJtagSyncfSet t n v b s = _
  unfold execJtagSyncfSet
  rw [jtagOp_next h hp, if_neg (by simp [hr])]
  simp only
  rw [if_neg (by omega)]

theorem jtagSyncfSet_bypass (t n v : Nat) (b : Bool) (hr : s.sec.right 2 = false) :
    exec (.jtagSyncfSet t n v b) s = exec (.jtagBypass b) s := by
  rw [jtagBypass_next h hp]
  show execJtagSyncfSet t n v b s = _
  unfold execJtagSyncfSet
  rw [jtagOp_next h hp, if_pos (by simp [hr])]

end

/-! ### The sideband -/

/-- Each sensor's record begins with its handle, version 1 and its type (R354; log entry 17). -/
theorem pdrBytes_of_sensor : ∀ n, 1 ≤ n → n ≤ 9 → ∃ p rest, pdrRepository.find? (fun p => p.handle == n) = some p ∧
    p.bytes = leBytes 4 n ++ [1, if n = 7 ∨ n = 8 then 4 else 2, 0, 0] ++ rest := by
  intro n h1 h9
  interval_cases n <;> exact ⟨_, _, rfl, rfl⟩

section
variable {s : State} (h : s.sideServes = true)
include h

theorem mctpControlMessage_next (cmd : Nat) (data : List Byte) :
    exec (.mctpControlMessage cmd data) s = .next { s with out := ⟨Config.standardAnswer (0x10000 + cmd) data, false⟩ } :=
  congrArg Host.Outcome.next (if_pos h)

theorem pldmRequest_next (r : PldmReq) : exec (.pldmRequest r) s = .next { s with out := ⟨s.pldmAnswer r, false⟩ } :=
  congrArg Host.Outcome.next (if_pos h)

theorem smbusArp_next (a : Nat) : exec (.smbusArp a) s = .next { s with side := { s.side with addr := a % 128 } } :=
  congrArg Host.Outcome.next (if_pos h)

theorem pldmRequest_reading {n : Nat} (h1 : 1 ≤ n) (h9 : n ≤ 9) : exec (.pldmRequest (.reading n)) s = .next { s with
    out := ⟨leBytes 4 (BitVec.ofInt 32 (Sparse.get 0 s.side.sensors n)).toNat, false⟩ } := by
  rw [pldmRequest_next h, State.pldmAnswer, if_pos ⟨h1, h9⟩]

theorem pldmRequest_pdr {n : Nat} (h1 : 1 ≤ n) (h9 : n ≤ 9) : ∃ rest, exec (.pldmRequest (.pdr n)) s = .next { s with
    out := ⟨leBytes 4 n ++ [1, if n = 7 ∨ n = 8 then 4 else 2, 0, 0] ++ rest, false⟩ } := by
  obtain ⟨p, rest, hp, hb⟩ := pdrBytes_of_sensor n h1 h9
  refine ⟨rest, ?_⟩
  rw [pldmRequest_next h, State.pldmAnswer, hp, ← hb]

end

/-- Settles O58: each TAP instruction and each sideband request from its own equation. -/
theorem jtagAndSideband : Obligations.JtagAndSideband := by
  unfold Obligations.JtagAndSideband
  refine ⟨fun s h hp => ⟨jtagBypass_next h hp, ⟨_, jtagIdcode_next h hp, rfl, rfl, rfl, rfl⟩, jtagSamplePreload_next h hp,
      fun hr b => ⟨?extest, fun t off ht => ?read, fun t n v _ => jtagSyncfSet_bypass h hp t n v b hr⟩,
      fun hr b => ⟨?drives, fun t off ht => ⟨_, (jtagRegisterRead_next h hp ht off b).trans (if_pos hr), rfl, rfl, rfl⟩,
        fun t n v ht hn => ⟨_, jtagSyncfSet_next h hp ht hn v b hr, ?set⟩⟩⟩,
    fun s => ⟨rfl, rfl, fun h b => congrArg Host.Outcome.next (if_pos (.inl h))⟩,
    fun s h => ⟨fun cmd data => ⟨_, mctpControlMessage_next h cmd data⟩, fun n => pldmRequest_reading h, fun n => pldmRequest_pdr h,
      ⟨_, pldmRequest_next h .repository⟩, smbusArp_next h⟩⟩
  case extest => rw [jtagExtest_next h hp, hr]; rfl
  case read => rw [jtagRegisterRead_next h hp ht, hr]; rfl
  case drives => rw [jtagExtest_next h hp, if_pos hr]
  case set => exact State.handSetting_byJtag { s with jtag := { s.jtag with ir := .syncfSet, driving := false } } t n (v % 256)

end Sys2Proof.Machine

/-!
PROOFS. Firmware, debug access and hand settings at the mailbox (O55).
-/
namespace Sys2Proof

/-- Where an entry fails P, the store without the entries that do reads the default. -/
theorem Sparse.get_filter_out {α : Type} (d : α) (P : Nat → Bool) (m : Sparse α) {k : Nat} (hk : P k = false) :
    Sparse.get d (m.filter fun e => P e.1) k = d := by
  induction m with
  | nil => rfl
  | cons e m ih =>
    obtain ⟨i, v⟩ := e
    by_cases hi : P i = true
    · rw [List.filter_cons_of_pos (by exact hi), Sparse.get, if_neg (by rintro rfl; simp [hk] at hi), ih]
    · rw [List.filter_cons_of_neg (by exact hi), ih]

namespace Machine

/-! ### The image in flash -/

theorem Flash.get_program {f : Flash} {o : Nat} {bs : List Byte} (h : List.zipWith (· &&& ·) (f.read o bs.length) bs = bs) (i : Nat) :
    Sparse.get 0xFF (f.program o bs).fw i = if o ≤ i ∧ i < o + bs.length then bs.getD (i - o) 0xFF else Sparse.get 0xFF f.fw i := by
  unfold Flash.program
  rw [h]
  exact Sparse.get_setRun ..

theorem Flash.get_erase (f : Flash) (o n i : Nat) :
    Sparse.get 0xFF (f.erase o n).fw i = if o ≤ i ∧ i < o + n then 0xFF else Sparse.get 0xFF f.fw i := by
  unfold Flash.erase
  by_cases hi : o ≤ i ∧ i < o + n
  · rw [if_pos hi]
    exact Sparse.get_filter_out 0xFF (fun k => decide (k < o) || decide (o + n ≤ k)) _ (by simp; omega)
  · rw [if_neg hi]
    exact Sparse.get_filter_index 0xFF (fun k => decide (k < o) || decide (o + n ≤ k)) _ (by simp; omega)

/-- Erased bytes take whatever is programmed into them (R390). -/
theorem Flash.read_erase_and (f : Flash) (o : Nat) (bs : List Byte) :
    List.zipWith (· &&& ·) ((f.erase o bs.length).read o bs.length) bs = bs := by
  refine List.ext_getElem (by simp [Flash.read]) fun i h1 h2 => ?_
  have hi : (f.erase o bs.length).read o bs.length = List.replicate bs.length 0xFF := by
    refine List.ext_getElem (by simp [Flash.read]) fun k hk _ => ?_
    have hk' : k < bs.length := by simpa [Flash.read] using hk
    rw [List.getElem_replicate]
    simp only [Flash.read, Sparse.getRun, List.getElem_map, List.getElem_range]
    rw [Flash.get_erase, if_pos (by omega)]
  simp only [hi, List.getElem_zipWith, List.getElem_replicate]
  exact BitVec.allOnes_and

/-- A write names its bytes, and every other byte of the image region stays (R350). -/
theorem Flash.get_write (f : Flash) (o : Nat) (bs : List Byte) (i : Nat) :
    Sparse.get 0xFF (f.write o bs).fw i = if o ≤ i ∧ i < o + bs.length then bs.getD (i - o) 0xFF else Sparse.get 0xFF f.fw i := by
  unfold Flash.write
  split
  next h => exact Flash.get_program h i
  next =>
    rw [Flash.get_program (f.read_erase_and o bs), Flash.get_erase]
    split_ifs <;> rfl

theorem Flash.write_ident (f : Flash) (o : Nat) (bs : List Byte) : (f.write o bs).ident = f.ident := by
  unfold Flash.write
  split <;> rfl

/-! ### FW_WRITE and FW_COMMIT -/

section
variable {s : State} {r : List Byte}

section
variable (h : s.Asks 0x0602 stDI (fun n => decide (9 ≤ n) && decide (n ≤ 32768)) r)
include h

theorem fwWrite_badLength (hl : r.length ≠ 8 + leAt r 4 4) : exec .fwWrite s = .next (s.complete stBAD_LENGTH []) := by
  show execFwWrite s = _
  unfold execFwWrite
  rw [mbox_run _ h]
  simp only
  rw [if_pos hl]

/-- A request of 9 to 32,768 bytes names 1 to 32,760 bytes of the image. -/
theorem fwWrite_next (hl : r.length = 8 + leAt r 4 4) (ha : leAt r 0 4 + leAt r 4 4 ≤ 0x1000000) : exec .fwWrite s =
    .next (({ s with vent := { s.vent with flash := { s.vent.flash.write (leAt r 0 4) (r.drop 8) with stale := true } } } : State).complete
      stOK []) := by
  obtain ⟨-, -, -, hlen⟩ := id h
  simp only [Bool.and_eq_true, decide_eq_true_eq] at hlen
  show execFwWrite s = _
  unfold execFwWrite
  rw [mbox_run _ h]
  simp only
  rw [if_neg (by simp [hl]), if_neg (by omega)]

end

/-- The check of an image of n bytes is in progress. -/
def State.commitStarted (s : State) (n : Nat) : State := { s with host := { s.host with bg := some ⟨0x0603, 0, n⟩ } }

section
variable (h : s.Asks 0x0603 stDI (lenIs 4) r)
include h

theorem fwCommit_busy (hb : s.host.bg ≠ none) : exec .fwCommit s = .next (s.complete stBUSY []) := by
  show execFwCommit s = _
  unfold execFwCommit
  rw [mbox_run _ h]
  simp only
  rw [if_pos (Option.isSome_iff_ne_none.2 hb)]

theorem fwCommit_starts (hb : s.host.bg = none) :
    exec .fwCommit s = .next ((s.commitStarted (leAt r 0 4)).complete stBG_STARTED []) := by
  show execFwCommit s = _
  unfold execFwCommit
  rw [mbox_run _ h, hb]
  rfl

end

end

/-- What an event keeps: whatever the writing of an entry, a drop and the end of a run of drops keep. -/
theorem HostIface.post_keep {γ : Type} (π : HostIface → γ) (hw : ∀ h p typ detail, π (HostIface.writeEvent h p typ detail) = π h)
    (hl : ∀ h, π (HostIface.loseEvent h) = π h) (hz : ∀ h : HostIface, π { h with lostPend := 0 } = π h) (h : HostIface) (p : Ptp)
    (typ : Nat) (detail : List Byte) : π (h.post p typ detail) = π h := by
  have hfirst : π (if h.lostPend = 0 then h else { h.writeEvent p 0x0C (leBytes 4 h.lostPend) with lostPend := 0 }) = π h := by
    split
    · rfl
    · rw [hz, hw]
  have hlast (g : HostIface) (hg : π g = π h) : π (if g.evqFull then g.loseEvent else g.writeEvent p typ detail) = π h := by
    split
    · rw [hl, hg]
    · rw [hw, hg]
  unfold HostIface.post
  split
  · rfl
  · split
    · exact hl h
    · exact hlast _ hfirst

theorem HostIface.bg_msi (h : HostIface) (v : Nat) : (h.msi v).bg = h.bg := by
  unfold HostIface.msi
  split_ifs <;> rfl

theorem HostIface.bg_post (h : HostIface) (p : Ptp) (typ : Nat) (detail : List Byte) : (h.post p typ detail).bg = h.bg := by
  refine HostIface.post_keep HostIface.bg (fun h p typ detail => ?_) (fun _ => rfl) (fun _ => rfl) h p typ detail
  exact HostIface.bg_msi _ 1

theorem State.complete_bg (s : State) (status : Nat) (resp : List Byte) : (s.complete status resp).host.bg = s.host.bg := by
  show (s.host.complete status resp).bg = _
  unfold HostIface.complete
  split
  · rfl
  · exact HostIface.bg_msi _ 0

/-- The end of a background command leaves none, and of the state outside the host's side everything (R341). -/
theorem State.bgDone_frame (s : State) (code status refusal : Nat) :
    (s.bgDone code status refusal).host.bg = none ∧ (s.bgDone code status refusal).vent = s.vent := by
  unfold State.bgDone
  simp only
  split_ifs
  · exact ⟨HostIface.bg_post .., rfl⟩
  · exact ⟨rfl, rfl⟩
  · exact ⟨rfl, rfl⟩

theorem fwCommitDone_idle {s : State} (h : s.host.bg = none ∨ s.mbServes = false) : exec .fwCommitDone s = .next s := by
  show execFwCommitDone s = _
  unfold execFwCommitDone
  cases hb : s.host.bg with
  | none => rfl
  | some b =>
    have hs : s.mbServes = false := h.resolve_left (by simp [hb])
    simp [hs]

/-- The check of the image in the background: its result is journaled, and a good image loses its mark (R350, R385). -/
theorem fwCommitDone_next {s : State} {n : Nat} (hb : s.host.bg = some ⟨0x0603, 0, n⟩) (hs : s.mbServes = true)
    (hm : s.vent.journal.mounted = true) (hd : s.vent.journal.damaged = false) :
    let st := if s.vent.flash.verifies n then stOK else stVERIFY_FAIL
    exec .fwCommitDone s = .next (State.bgDone { s with vent := { s.vent with
      flash := { s.vent.flash with stale := s.vent.flash.stale && !s.vent.flash.verifies n }
      journal := s.vent.journal.push 0x33 (leBytes 2 st ++ leBytes 4 n) .nothing } } 0x0603 st 0) := by
  show execFwCommitDone s = _
  unfold execFwCommitDone
  rw [hb]
  simp only
  rw [if_neg (by simp [hs]), State.journal_push]
  · exact hm
  · exact hd

/-! ### DEBUG_OPEN and DEBUG_CLOSE -/

/-- The reserved fields of a token that are not zero (Table 16-6). -/
def tokenReserved (k : List Byte) : Prop := 8 ≤ leAt k 2 2 ∨ zeroAt k 5 8 = false ∨ zeroAt k 32 64 = false

/-- An authority without a key in the running image opens nothing (R424). -/
theorem State.tokenOk_noKey {s : State} {k : List Byte} (h : s.vent.authKeys.getD (leAt k 4 1) none = none) : s.tokenOk k = false := by
  unfold State.tokenOk
  simp only [h, Bool.and_false]

section
variable {s : State} {k : List Byte} (h : s.Asks 0x0604 stAll (lenIs 17152) k)
include h

theorem debugOpen_reserved (hr : tokenReserved k) : exec .debugOpen s = .next (s.complete stBAD_FIELD []) := by
  show execDebugOpen s = _
  unfold execDebugOpen
  rw [mbox_run _ h]
  rw [if_pos (by simpa [tokenReserved] using hr)]

variable (hr : ¬ tokenReserved k)
include hr

theorem debugOpen_open (hs : s.sec.session ≠ none) : exec .debugOpen s = .next (s.complete stWRONG_STATE []) := by
  show execDebugOpen s = _
  unfold execDebugOpen
  rw [mbox_run _ h]
  rw [if_neg (by simpa [tokenReserved] using hr), if_pos (Option.isSome_iff_ne_none.2 hs)]

variable (hs : s.sec.session = none)
include hs

theorem debugOpen_badToken (ht : s.tokenOk k = false) : exec .debugOpen s = .next (s.complete stTOKEN_BAD []) := by
  show execDebugOpen s = _
  unfold execDebugOpen
  rw [mbox_run _ h]
  rw [if_neg (by simpa [tokenReserved] using hr), if_neg (by simp [hs]), if_pos (by simp [ht])]

theorem debugOpen_opens (ht : s.tokenOk k = true) (hm : s.vent.journal.mounted = true) (hd : s.vent.journal.damaged = false) :
    exec .debugOpen s = .next (({ s with
      sec := { s.sec with session := some (leAt k 2 2), tokno := some (leAt k 20 4), tokDig := shake256 32 k }
      vent := { s.vent with journal := s.vent.journal.push 0x31 ([0] ++ shake256 32 k) .extendM3 } } : State).complete stOK []) := by
  show execDebugOpen s = _
  unfold execDebugOpen
  rw [mbox_run _ h]
  rw [if_neg (by simpa [tokenReserved] using hr), if_neg (by simp [hs]), if_neg (by simp [ht])]
  simp only
  rw [State.journal_push]
  · exact hm
  · exact hd

end

section
variable {s : State} (h : s.Asks 0x0605 stAll (lenIs 0) [])
include h

theorem debugClose_closed (hs : s.sec.session = none) : exec .debugClose s = .next (s.complete stNO_DEBUG []) := by
  show execDebugClose s = _
  unfold execDebugClose
  rw [mbox_run _ h]
  simp [hs]

/-- The session ends, and EXTEST's driving with it (R425, R426). -/
def State.debugClosed (s : State) : State :=
  State.journal { s with sec := { s.sec with session := none }, jtag := { s.jtag with driving := false } } 0x31
    ([1] ++ padTo 32 s.sec.tokDig) .extendM3

theorem debugClose_next (hs : s.sec.session ≠ none) : exec .debugClose s = .next (s.debugClosed.complete stOK []) := by
  show execDebugClose s = _
  unfold execDebugClose
  rw [mbox_run _ h]
  rw [if_neg (by simpa using hs)]
  rfl

end

theorem State.journal_frame (s : State) (typ : Nat) (payload : List Byte) (next : JThen) :
    s.journal typ payload next = { s with vent := (s.journal typ payload next).vent } := by
  unfold State.journal
  split_ifs <;> rfl

theorem State.debugClosed_frame (s : State) : s.debugClosed.sec.session = none ∧ s.debugClosed.sec.tokno = s.sec.tokno ∧
    s.debugClosed.jtag.driving = false ∧ s.debugClosed.host = s.host := by
  unfold State.debugClosed
  rw [State.journal_frame]
  exact ⟨rfl, rfl, rfl, rfl⟩

/-! ### SYNCF_SET -/

/-- A completion of the mailbox's own command answers with as many bytes as its response has (R339). -/
theorem State.complete_rlen {s : State} (h : s.host.inside = []) (status : Nat) (resp : List Byte) :
    (s.complete status resp).host.rlen = resp.length := by
  show (s.host.complete status resp).rlen = _
  unfold HostIface.complete HostIface.msi
  rw [if_neg (by simp [h])]
  split_ifs <;> rfl

section
variable {s : State} {r : List Byte} (h : s.Asks 0x0700 [.running] (lenIs 4) r) (ht : leAt r 0 2 < s.tileLimit) (hn : leAt r 2 1 < 48)
include h ht hn

theorem syncfSet_noRight (hr : s.sec.right 0 = false) : exec .syncfSet s = .next (s.complete stNO_DEBUG []) := by
  show execSyncfSet s = _
  unfold execSyncfSet
  rw [mbox_run _ h]
  simp only
  rw [if_neg (by omega), if_pos (by simp [hr])]

theorem syncfSet_next (hr : s.sec.right 0 = true) : exec .syncfSet s =
    .next ((s.handSetting (leAt r 0 2) (leAt r 2 1) (leAt r 3 1) 0).complete stOK
      (leBytes 1 ((s.tile (leAt r 0 2)).sflag (leAt r 2 1)).val0)) := by
  show execSyncfSet s = _
  unfold execSyncfSet
  rw [mbox_run _ h]
  simp only
  rw [if_neg (by omega), if_neg (by simp [hr])]

end

/-- Settles O55: each command by the outcome of its checks. -/
theorem firmwareAndDebug : Obligations.FirmwareAndDebug := by
  unfold Obligations.FirmwareAndDebug
  refine ⟨fun s r => ⟨fun h => ⟨fwWrite_badLength h, fun hl ha => ⟨_, fwWrite_next h hl ha, ?write⟩⟩,
      fun h => ⟨fwCommit_busy h, fun hb => ⟨_, fwCommit_starts h hb, ?commit⟩⟩,
      fun h => ⟨debugOpen_reserved h, debugOpen_open h, State.tokenOk_noKey, debugOpen_badToken h,
        fun hr hs ht hm hd => ⟨_, debugOpen_opens h hr hs ht hm hd, State.answered_complete rfl .., rfl, rfl, rfl⟩⟩,
      fun h => ⟨debugClose_closed h, fun hs => ⟨_, debugClose_next h hs, ?close⟩⟩,
      fun h ht hn => ⟨syncfSet_noRight h ht hn, fun hr hl hm hd => ⟨_, syncfSet_next h ht hn hr, ?set⟩⟩⟩,
    fun s n hb hs hm hd => ⟨_, fwCommitDone_next hb hs hm hd, ?done⟩, fun s => fwCommitDone_idle⟩
  case write =>
    refine ⟨State.answered_complete rfl .., fun i => (s.vent.flash.get_write _ _ i).trans ?_, rfl, s.vent.flash.write_ident _ _, rfl⟩
    have hn : (r.drop 8).length = leAt r 4 4 := by rw [List.length_drop, hl]; omega
    rw [hn]
    split
    next hi => rw [List.getD_eq_getElem _ _ (by omega), List.getElem_drop, List.getD_eq_getElem _ _ (by omega)]
    next => rfl
  case commit => exact ⟨State.answered_complete (t := s.commitStarted (leAt r 0 4)) rfl .., State.complete_bg ..⟩
  case close =>
    obtain ⟨hsession, htokno, hjtag, hhost⟩ := s.debugClosed_frame
    exact ⟨State.answered_complete (congrArg HostIface.inside hhost) .., hsession, htokno, hjtag⟩
  case set =>
    have htile := State.tile_handSetting (t := leAt r 0 2) (n := leAt r 2 1) (v := leAt r 3 1) (src := 0) (fun hk => hl hk.2)
    have hin := s.handSetting_inside (leAt r 0 2) (leAt r 2 1) (leAt r 3 1) 0
    refine ⟨State.answered_complete hin .., fun h0 => State.complete_rlen (hin.trans h0) .., (htile _).trans (if_pos rfl),
      fun k hk => (htile k).trans (if_neg hk), ?_⟩
    rw [State.complete_vent, State.handSetting_vent]
    exact ⟨rfl, State.journalHand_push hm hd (.inl (by decide))⟩
  case done =>
    obtain ⟨hbg, hvent⟩ := State.bgDone_frame { s with vent := { s.vent with
      flash := { s.vent.flash with stale := s.vent.flash.stale && !s.vent.flash.verifies n }
      journal := s.vent.journal.push 0x33 (leBytes 2 (if s.vent.flash.verifies n then stOK else stVERIFY_FAIL) ++ leBytes 4 n) .nothing } }
      0x0603 (if s.vent.flash.verifies n then stOK else stVERIFY_FAIL) 0
    rw [hvent]
    exact ⟨hbg, rfl, rfl, rfl⟩

end Machine

end Sys2Proof

/-!
PROOFS. The arrivals of a barrier, and the nodes that combine them (O12).
-/
namespace Sys2Proof.Machine

/-! ### BAR.ARRIVE -/

/-- What BAR.ARRIVE does where it issues: the core sleeps, and its arrival waits for the node (R182, R183, R188). -/
def Tile.arrive (cc : Nat) (rd rs1 : BitVec 5) (rop level : BitVec 3) (xpn : BitVec 8) (ctl : Bool) (y : Tile) : Tile :=
  let z := y.ctrl ctl
  let pz := ctl || z.taint
  { z with
    st := .wait
    sleep := .barrier
    arr := some ⟨xpn.toNat, level.toNat, rop.toNat, rd, y.reg rs1.toNat, if 6 ≤ rop.toNat then y.reg (rs1.toNat + 1) else 0, pz, pz,
      decide (dirLevel (y.dirEnt xpn.toNat) ≠ level.toNat), cc, false⟩ }

theorem barArrive_next {s : State} {t : Nat} {rd rs1 : BitVec 5} {rop level : BitVec 3} {xpn : BitVec 8} {srcs : List Nat} {y : Tile}
    (hs : srcs = if 6 ≤ rop.toNat then [rs1.toNat, rs1.toNat + 1] else [rs1.toNat])
    (h : s.Issues t (encR 0x31 rd.toNat rs1.toNat rop.toNat (256 * level.toNat + xpn.toNat)) srcs y) :
    exec (.barArrive t rd rs1 rop level xpn) s = .next (s.setTile t (y.arrive s.cc rd rs1 rop level xpn (srcs.any y.regPz))) := by
  have hfunc : at' level.toNat 8 + xpn.toNat = 256 * level.toNat + xpn.toNat := by
    unfold at'
    omega
  have hnext := onTile_issues h fun y => y.arrive s.cc rd rs1 rop level xpn (srcs.any y.regPz)
  rw [State.afterTile_live _ _ _ (by simp [Tile.arrive]) (by simp [Tile.arrive])] at hnext
  rw [← hnext]
  show execBarArrive t rd rs1 rop level xpn s = _
  unfold execBarArrive Tile.arrive
  simp only [hfunc, hs, decide_eq_true_eq]

/-! ### What a node takes -/

/-- What no arrival changes. -/
def State.besideTree (s : State) : Mem × Sparse Port × Vent × Aon × Nat × List Release :=
  (s.mem, s.ports, s.vent, s.aon, s.cc, s.cal.releases)

/-- What an arrival keeps of every node: whether it is held, and its pacing debt. -/
def CalNode.account (n : CalNode) : Bool × Nat × Nat := (n.held, n.debt, n.debtAt)

/-- The value that a node takes, poisoned where it finds an uncorrectable error in it (R188). -/
def NVal.marked (err : Bool) (v : NVal) : NVal := if err then { v with pzVal := true, pzIdx := true } else v

/-- Node gid takes value v of the child c of rank `rank`, with an uncorrectable error in it where `err`. -/
def State.nodeTakes (s : State) (gid rank c : Nat) (v : NVal) (err : Bool) : State :=
  let s2 := if err then (s.takeChild c).valueUe gid else s.takeChild c
  s2.setNode gid { s2.node gid with
    got := insertOn (·.1) (rank, v.marked err) (s.node gid).got
    firstAt := if (s.node gid).got.isEmpty then s.cc else (s.node gid).firstAt }

section
variable (s : State)

theorem State.account_setNode {g : Nat} {n : CalNode} (h : n.account = (s.node g).account) (k : Nat) :
    ((s.setNode g n).node k).account = (s.node k).account := by
  rw [State.node_setNode]
  split
  next hk => rw [h, hk]
  next => rfl

theorem State.account_got (g : Nat) (l : List (Nat × NVal)) (first k : Nat) :
    ((s.setNode g { s.node g with got := l, firstAt := first }).node k).account = (s.node k).account := s.account_setNode (by rfl) k

theorem State.takeChild_frame (c : Nat) : (s.takeChild c).besideTree = s.besideTree ∧
    (∀ g, ((s.takeChild c).node g).account = (s.node g).account) ∧
    ((s.takeChild c).cal.errUe, (s.takeChild c).cal.errMismatch, (s.takeChild c).cal.errLoc) =
      (s.cal.errUe, s.cal.errMismatch, s.cal.errLoc) := by
  unfold State.takeChild
  split
  · exact ⟨rfl, fun _ => rfl, rfl⟩
  · exact ⟨rfl, s.account_setNode (by rfl), rfl⟩

theorem State.valueUe_frame (gid : Nat) : (s.valueUe gid).besideTree = s.besideTree ∧
    (∀ g, ((s.valueUe gid).node g).account = (s.node g).account) ∧
    ((s.valueUe gid).cal.errUe, (s.valueUe gid).cal.errMismatch, (s.valueUe gid).cal.errLoc) =
      (true, s.cal.errMismatch, if s.cal.errMismatch || s.cal.errUe then s.cal.errLoc else gid) := by
  have hcal : ((s.valueUe gid).cal.errUe, (s.valueUe gid).cal.errMismatch, (s.valueUe gid).cal.errLoc) =
      (s.cal.errUe || true, s.cal.errMismatch || false, if s.cal.errMismatch || s.cal.errUe then s.cal.errLoc else gid) := rfl
  rw [Bool.or_true, Bool.or_false] at hcal
  exact ⟨rfl, (s.calError false gid).account_setNode (by rfl), hcal⟩

theorem State.nodeTakes_frame (gid rank c : Nat) (v : NVal) (err : Bool) : let u := s.nodeTakes gid rank c v err
    u.besideTree = s.besideTree ∧ (∀ g, (u.node g).account = (s.node g).account) ∧
    (u.node gid).got = insertOn (·.1) (rank, v.marked err) (s.node gid).got ∧
    (u.cal.errUe, u.cal.errMismatch, u.cal.errLoc) = (s.cal.errUe || err, s.cal.errMismatch,
      if err && !(s.cal.errMismatch || s.cal.errUe) then gid else s.cal.errLoc) := by
  intro u
  obtain ⟨hbeside, hnode, herr⟩ := s.takeChild_frame c
  simp only [Prod.mk.injEq] at herr
  obtain ⟨hue, hmis, hloc⟩ := herr
  have hgot : (u.node gid).got = insertOn (·.1) (rank, v.marked err) (s.node gid).got :=
    congrArg CalNode.got ((State.node_setNode ..).trans (if_pos rfl))
  cases err
  case false =>
    refine ⟨hbeside, fun g => ?_, hgot, ?_⟩
    · exact (State.account_got ..).trans (hnode g)
    · rw [Bool.or_false, Bool.false_and, if_neg (by decide)]
      exact congrArg₂ Prod.mk hue (congrArg₂ Prod.mk hmis hloc)
  case true =>
    obtain ⟨hbeside', hnode', herr'⟩ := (s.takeChild c).valueUe_frame gid
    refine ⟨hbeside'.trans hbeside, fun g => ?_, hgot, ?_⟩
    · exact ((State.account_got ..).trans (hnode' g)).trans (hnode g)
    · rw [hue, hmis, hloc] at herr'
      refine herr'.trans ?_
      cases s.cal.errMismatch <;> cases s.cal.errUe <;> rfl

end

/-- A node's idle supersteps depend on its account, the pacing level and the cycle alone (R402). -/
theorem State.idleOf_congr {s u : State} {g : Nat} (hb : u.besideTree = s.besideTree) (hn : (u.node g).account = (s.node g).account) :
    u.idleOf g = s.idleOf g := by
  simp only [State.besideTree, Prod.mk.injEq] at hb
  obtain ⟨-, -, -, haon, hcc, -⟩ := hb
  simp only [CalNode.account, Prod.mk.injEq] at hn
  obtain ⟨-, hdebt, hat⟩ := hn
  unfold State.idleOf State.debt
  simp only [haon, hcc, hdebt, hat]

/-- What a node's taking of an arrival keeps, by name. -/
theorem State.nodeTakes_keeps (s : State) (gid rank c : Nat) (v : NVal) (err : Bool) : let u := s.nodeTakes gid rank c v err
    (u.mem = s.mem ∧ u.ports = s.ports ∧ u.vent = s.vent ∧ u.cal.releases = s.cal.releases) ∧
    (u.node gid).held = (s.node gid).held ∧ u.idleOf gid = s.idleOf gid ∧ u.parkXpn = s.parkXpn := by
  obtain ⟨hbeside, haccount, -, -⟩ := s.nodeTakes_frame gid rank c v err
  have hidle := State.idleOf_congr hbeside (haccount gid)
  simp only [State.besideTree, Prod.mk.injEq] at hbeside
  obtain ⟨hmem, hports, hvent, -, -, hrel⟩ := hbeside
  refine ⟨⟨hmem, hports, hvent, hrel⟩, congrArg Prod.fst (haccount gid), hidle, ?_⟩
  unfold State.parkXpn
  rw [hvent]

/-- An uncorrectable error stands in CAL.ERR; ERRLOC is as before where an error stood, and otherwise the node's where it is raised (R203). -/
theorem State.nodeTakes_errors (s : State) (gid rank c : Nat) (v : NVal) (err : Bool) : let u := s.nodeTakes gid rank c v err
    (err = true → u.cal.errUe = true) ∧ (s.cal.errMismatch = false → s.cal.errUe = false →
      (if u.cal.errMismatch || u.cal.errUe then u.cal.errLoc else gid) = gid) := by
  intro u
  obtain ⟨-, -, -, hcal⟩ := s.nodeTakes_frame gid rank c v err
  simp only [Prod.mk.injEq] at hcal
  obtain ⟨hue, hmis, hloc⟩ := hcal
  refine ⟨fun h => by rw [hue, h, Bool.or_true], fun h1 h2 => ?_⟩
  rw [hloc, hmis, hue, h1, h2]
  cases err <;> rfl

/-! ### What a node does with an arrival -/

/-- Every child of the node that has arrived agrees with v in XPN, LEVEL and ROP (R183). -/
def CalNode.agrees (n : CalNode) (v : NVal) : Bool := n.got.all fun a => a.2.xpn == v.xpn && a.2.level == v.level && a.2.rop == v.rop

theorem CalNode.agrees_iff (n : CalNode) (v : NVal) (err : Bool) : n.agrees (v.marked err) = true ↔
    ∀ a ∈ n.got, a.2.xpn = v.xpn ∧ a.2.level = v.level ∧ a.2.rop = v.rop := by
  unfold CalNode.agrees NVal.marked
  cases err <;> simp [and_assoc]

/-- The arrivals of the node with that of value v from the child of rank `rank`. -/
def CalNode.took (n : CalNode) (rank : Nat) (v : NVal) : List (Nat × NVal) := insertOn (·.1) (rank, v) n.got

section
variable {s : State} {gid rank c : Nat} {v : NVal} {bad ue err : Bool}
variable (hl : gLevel gid ≠ 0) (he : gExists s.rows gid = true) (hc : (gChildren s.rows gid)[rank]? = some c)
variable (ha : s.childArrival c = some (v, bad)) (herr : (ue && decide (v.rop ≠ 0)) = err)
include hl he hc ha herr

/-- The four ways of an arrival (R183): the node is held, holds the barrier for it, waits for others, or is complete. -/
theorem calderaArrival_next : exec (.calderaArrival gid rank ue) s = .next
    (if (s.node gid).held then s.nodeTakes gid rank c v err
     else if bad || !(s.node gid).agrees (v.marked err) then (s.nodeTakes gid rank c v err).holdNode gid
     else if ((s.node gid).took rank (v.marked err)).length < (gChildren s.rows gid).length then s.nodeTakes gid rank c v err
     else (combineChildren (((s.node gid).took rank (v.marked err)).map (·.2))).elim (s.nodeTakes gid rank c v err)
       ((s.nodeTakes gid rank c v err).completeNode gid)) := by
  subst herr
  show execCalderaArrival gid rank ue s = _
  unfold execCalderaArrival
  simp only
  rw [if_neg (by simp [hl, he]), hc]
  simp only [ha]
  rw [apply_ite Host.Outcome.next, apply_ite Host.Outcome.next, apply_ite Host.Outcome.next]
  refine if_congr Iff.rfl rfl (if_congr Iff.rfl rfl (if_congr Iff.rfl rfl ?_))
  split
  next hn => rw [show combineChildren (((s.node gid).took rank (v.marked (ue && decide (v.rop ≠ 0)))).map (·.2)) = none from hn]; rfl
  next r hr => rw [show combineChildren (((s.node gid).took rank (v.marked (ue && decide (v.rop ≠ 0)))).map (·.2)) = some r from hr]; rfl

theorem calderaArrival_stays (h : (s.node gid).held = true ∨ bad = false ∧ (s.node gid).agrees (v.marked err) = true ∧
      ((s.node gid).took rank (v.marked err)).length < (gChildren s.rows gid).length) :
    exec (.calderaArrival gid rank ue) s = .next (s.nodeTakes gid rank c v err) := by
  rw [calderaArrival_next hl he hc ha herr]
  obtain hheld | ⟨rfl, hag, hlt⟩ := h
  · rw [if_pos hheld]
  · rw [hag, Bool.not_true, Bool.or_false, if_neg (α := State) Bool.false_ne_true, if_pos hlt, ite_self]

variable (hfree : (s.node gid).held = false)
include hfree

theorem calderaArrival_holds (h : bad = true ∨ (s.node gid).agrees (v.marked err) = false) :
    exec (.calderaArrival gid rank ue) s = .next ((s.nodeTakes gid rank c v err).holdNode gid) := by
  rw [calderaArrival_next hl he hc ha herr, hfree, if_neg Bool.false_ne_true, if_pos]
  obtain rfl | hag := h
  · rfl
  · rw [hag, Bool.not_false, Bool.or_true]

theorem calderaArrival_completes (hb : bad = false) (hag : (s.node gid).agrees (v.marked err) = true)
    (hlast : (gChildren s.rows gid).length ≤ ((s.node gid).took rank (v.marked err)).length) :
    exec (.calderaArrival gid rank ue) s = .next ((combineChildren (((s.node gid).took rank (v.marked err)).map (·.2))).elim
      (s.nodeTakes gid rank c v err) ((s.nodeTakes gid rank c v err).completeNode gid)) := by
  subst hb
  rw [calderaArrival_next hl he hc ha herr, hfree, if_neg Bool.false_ne_true, hag, Bool.not_true, Bool.or_false,
    if_neg Bool.false_ne_true, if_neg (Nat.not_lt.2 hlast)]

end

section
variable (s : State) (gid : Nat)

/-- A held node keeps its arrivals; CAL.ERR.MISMATCH stands, and ERRLOC is its own where no error stood (R183, R203). -/
theorem State.holdNode_frame : let u := s.holdNode gid
    u.besideTree = s.besideTree ∧ (u.node gid).held = true ∧ u.cal.errMismatch = true ∧ u.cal.errUe = s.cal.errUe ∧
    u.cal.errLoc = (if s.cal.errMismatch || s.cal.errUe then s.cal.errLoc else gid) := by
  intro u
  refine ⟨rfl, ?_, Bool.or_true _, Bool.or_false _, rfl⟩
  refine congrArg CalNode.held ((State.node_setNode ..).trans (if_pos rfl)) |>.trans ?_
  exact congrArg CalNode.held ((State.node_setNode ..).trans (if_pos rfl))

/-- What the writing of any node's debt keeps, the payment of idle supersteps keeps. -/
theorem State.payIdle_keep {γ : Type} (π : State → γ)
    (h : ∀ (u : State) a d t, π (u.setNode a { u.node a with debt := d, debtAt := t }) = π u) (n : Nat) : π (s.payIdle gid n) = π s := by
  unfold State.payIdle
  split
  · rfl
  · refine foldl_keep π _ (fun u a => ?_) _ s
    split
    · exact h u a _ _
    · rfl

/-- A scheduled release stands behind those that are due before it; the node's arrivals are gone or not as before (R184, R402). -/
theorem State.schedRelease_frame (last : Nat) (v : NVal) : let u := s.schedRelease gid last v
    u.cal.releases = s.cal.releases ++ [⟨gid, last + barLatency (gLevel gid) + 2048 * s.idleOf gid, s.idleOf gid, v⟩] ∧
    (u.node gid).got = (s.node gid).got ∧ u.cal.errUe = s.cal.errUe ∧ u.mem = s.mem ∧ u.ports = s.ports ∧ u.vent = s.vent := by
  have hgot := s.payIdle_keep gid (fun u => (u.node gid).got) (fun u a d t => by
    rw [State.node_setNode]
    split
    next ha => rw [ha]
    next => rfl) (s.idleOf gid)
  have hrest := s.payIdle_keep gid (fun u => (u.cal.releases, u.cal.errUe, u.mem, u.ports, u.vent)) (fun _ _ _ _ => rfl) (s.idleOf gid)
  simp only [Prod.mk.injEq] at hrest
  obtain ⟨hrel, hue, hmem, hports, hvent⟩ := hrest
  exact ⟨congrArg (· ++ _) hrel, hgot, hue, hmem, hports, hvent⟩

/-- A node whose children have all arrived begins anew. -/
def State.nodeEmptied : State := s.setNode gid { s.node gid with got := [], expired := false }

theorem State.nodeEmptied_got : ((s.nodeEmptied gid).node gid).got = [] :=
  congrArg CalNode.got ((State.node_setNode ..).trans (if_pos rfl))

theorem State.completeNode_eq (r : NVal) : s.completeNode gid r =
    if r.level = gLevel gid then
      if gid = 0x5000 ∧ s.parkXpn ≠ 0xFFFF ∧ r.xpn = s.parkXpn then (s.nodeEmptied gid).park r
      else (s.nodeEmptied gid).schedRelease gid r.at' r
    else (s.nodeEmptied gid).setNode gid { (s.nodeEmptied gid).node gid with fwd := some r } := rfl

/-- A node that completes: its arrivals are gone; the result goes up, or is released at its own level, where it is not the park's (R183, R184). -/
theorem State.completeNode_frame (r : NVal) : let u := s.completeNode gid r
    ((u.node gid).got = [] ∧ u.cal.errUe = s.cal.errUe ∧ u.mem = s.mem ∧ u.ports = s.ports ∧ u.vent.dev = s.vent.dev) ∧
    (r.level ≠ gLevel gid → (u.node gid).fwd = some r ∧ u.cal.releases = s.cal.releases) ∧
    (r.level = gLevel gid → gid ≠ 0x5000 ∨ r.xpn ≠ s.parkXpn → u.cal.releases = s.cal.releases ++
      [⟨gid, r.at' + barLatency (gLevel gid) + 2048 * s.idleOf gid, s.idleOf gid, r⟩]) := by
  intro u
  have hgot := s.nodeEmptied_got gid
  have hu := s.completeNode_eq gid r
  by_cases hl : r.level = gLevel gid
  · rw [if_pos hl] at hu
    by_cases hpark : gid = 0x5000 ∧ s.parkXpn ≠ 0xFFFF ∧ r.xpn = s.parkXpn
    · rw [if_pos hpark] at hu
      obtain ⟨hroot, -, hxpn⟩ := hpark
      simp only [u, hu]
      exact ⟨⟨hgot, rfl, rfl, rfl, rfl⟩, fun h => absurd hl h, fun _ h => absurd h (by simp [hroot, hxpn])⟩
    · rw [if_neg hpark] at hu
      have hidle : (s.nodeEmptied gid).idleOf gid = s.idleOf gid := State.idleOf_congr rfl (s.account_setNode (by rfl) gid)
      obtain ⟨hrel, hgot', hue, hmem, hports, hvent⟩ := (s.nodeEmptied gid).schedRelease_frame gid r.at' r
      rw [hidle] at hrel
      simp only [u, hu]
      exact ⟨⟨hgot'.trans hgot, hue, hmem, hports, congrArg Vent.dev hvent⟩, fun h => absurd hl h, fun _ _ => hrel⟩
  · rw [if_neg hl] at hu
    have hnode : (u.node gid) = { (s.nodeEmptied gid).node gid with fwd := some r } := by
      simp only [u, hu]
      exact (State.node_setNode ..).trans (if_pos rfl)
    refine ⟨⟨(congrArg CalNode.got hnode).trans hgot, ?_⟩, fun _ => ⟨congrArg CalNode.fwd hnode, ?_⟩, fun h => absurd h hl⟩
    all_goals simp only [u, hu]
    · exact ⟨rfl, rfl, rfl, rfl⟩
    · rfl

end

/-- Settles O12: an arrival by whether its node is held, holds now, stays open or completes. -/
theorem barrierArrivalsCombine : Obligations.BarrierArrivalsCombine := by
  unfold Obligations.BarrierArrivalsCombine
  refine ⟨fun s t rd rs1 rop level xpn y => ?arrive, fun s gid rank c v bad ue _ hl he hc ha => ?node⟩
  case arrive =>
    intro two h ctl r pz
    have hany : (if two then [rs1.toNat, rs1.toNat + 1] else [rs1.toNat]).any y.regPz = ctl := by
      by_cases htwo : two <;> simp [ctl, htwo]
    rw [barArrive_next (by rfl) h, hany]
    unfold Tile.arrive
    rw [Tile.ctrl_eq]
    rfl
  case node =>
    intro n err got agree
    obtain ⟨e, hE⟩ : ∃ e, (ue && decide (v.rop ≠ 0)) = e := ⟨_, rfl⟩
    have herr : err ↔ e = true := by simp [err, ← hE]
    have hgot : got = n.took rank (v.marked e) := by
      unfold got CalNode.took NVal.marked
      rw [if_congr herr rfl rfl]
    have hagree : agree ↔ n.agrees (v.marked e) = true := (n.agrees_iff v e).symm
    obtain ⟨-, -, htook, -⟩ := s.nodeTakes_frame gid rank c v e
    obtain ⟨⟨hmem, hports, hvent, hrel⟩, hheld, hidle, hpark⟩ := s.nodeTakes_keeps gid rank c v e
    obtain ⟨hue, hloc⟩ := s.nodeTakes_errors gid rank c v e
    rw [hagree, hgot, herr]
    by_cases hopen : n.held = true ∨
        bad = false ∧ n.agrees (v.marked e) = true ∧ (n.took rank (v.marked e)).length < (gChildren s.rows gid).length
    · -- an arrival that the node keeps
      refine ⟨_, calderaArrival_stays hl he hc ha hE hopen, hue, fun _ => ⟨htook, hheld, hrel⟩, fun hfree hbad => ?_,
        fun hfree hb hag hlast => ?_, congrArg Mem.data hmem, hports, congrArg Vent.dev hvent⟩
      · obtain ⟨hb, hag, -⟩ := hopen.resolve_left (by simp [hfree])
        exact absurd hbad (by simp [hb, hag])
      · obtain ⟨-, -, hlt⟩ := hopen.resolve_left (by simp [hfree])
        omega
    have hfree : n.held = false := by simpa using fun h => hopen (.inl h)
    by_cases hbad : bad = true ∨ n.agrees (v.marked e) = false
    · -- one that it holds the barrier for
      obtain ⟨hbeside, hholds, hmis, hue', hloc'⟩ := (s.nodeTakes gid rank c v e).holdNode_frame gid
      simp only [State.besideTree, Prod.mk.injEq] at hbeside
      obtain ⟨hmem', hports', hvent', -, -, hrel'⟩ := hbeside
      exact ⟨_, calderaArrival_holds hl he hc ha hE hfree hbad, fun h => hue'.trans (hue h), fun h => absurd h hopen,
        fun _ _ => ⟨hholds, hmis, hrel'.trans hrel, fun h1 h2 => hloc'.trans (hloc h1 h2)⟩,
        fun _ hb hag => absurd hbad (by simp [hb, hag]), congrArg Mem.data (hmem'.trans hmem), hports'.trans hports,
        congrArg Vent.dev (hvent'.trans hvent)⟩
    · -- the last one
      simp only [not_or, Bool.not_eq_true, Bool.not_eq_false] at hbad
      obtain ⟨hb, hag⟩ := hbad
      have hnext := calderaArrival_completes hl he hc ha hE hfree hb hag (Nat.not_lt.1 fun hlt => hopen (.inr ⟨hb, hag, hlt⟩))
      cases hcomb : combineChildren ((n.took rank (v.marked e)).map (·.2)) with
      | none =>
        rw [hcomb] at hnext
        exact ⟨_, hnext, hue, fun h => absurd h hopen, fun _ h => absurd h (by simp [hb, hag]), fun _ _ _ _ _ hr => (nomatch hr),
          congrArg Mem.data hmem, hports, congrArg Vent.dev hvent⟩
      | some r =>
        rw [hcomb] at hnext
        obtain ⟨⟨hgot', hue', hmem', hports', hdev'⟩, hup, hrelease⟩ := (s.nodeTakes gid rank c v e).completeNode_frame gid r
        rw [hidle, hpark, hrel] at hrelease
        refine ⟨_, hnext, fun h => hue'.trans (hue h), fun h => absurd h hopen, fun _ h => absurd h (by simp [hb, hag]),
          fun _ _ _ _ r' hr => ?_, congrArg Mem.data (hmem'.trans hmem), hports'.trans hports, hdev'.trans (congrArg Vent.dev hvent)⟩
        cases hr
        exact ⟨hgot', fun h => ⟨(hup h).1, (hup h).2.trans hrel⟩, hrelease⟩

end Sys2Proof.Machine

/-!
PROOFS. The MSG instructions (O14).
-/
namespace Sys2Proof.Machine

/-! ### MSG.SEND -/

theorem State.Issues.issue_eq {s : State} {t word : Nat} {srcs : List Nat} {y : Tile} (h : s.Issues t word srcs y) (f : Tile → Tile) :
    (s.tile t).issue s.cc word srcs f = f y := by
  obtain ⟨-, hrun, hsleep, hat, hw, hy, hdef, hready⟩ := h
  rw [Tile.issue_eq f hrun hsleep hat hw hdef hready, hy]

theorem flagOk_iff (n : Nat) : flagOk n = true ↔ n < 48 ∨ n = 0x3F := by
  unfold flagOk
  simp

@[simp] theorem Tile.stop_outst (x : Tile) (code : Byte) : (x.stop code).ring.outst = x.ring.outst := by
  unfold Tile.stop Tile.stopAt Tile.halt
  cases x.st <;> rfl

/-- What a MSG.SEND that reads the registers `srcs` leaves of its tile where its message leaves (R190, R196). -/
def Tile.sent (cc : Nat) (srcs : List Nat) (y : Tile) : Tile :=
  let z := y.ctrl (srcs.any y.regPz)
  (({ z with ring := { z.ring with outst := z.ring.outst + 1 } } : Tile).bump 0x720 1).advance cc

theorem Tile.sent_frame (cc : Nat) (srcs : List Nat) (y : Tile) : let z := y.sent cc srcs
    z = { y with
      taint := srcs.any y.regPz || y.taint
      reports := z.reports
      cnt := z.cnt
      ring := { y.ring with outst := y.ring.outst + 1 }
      pc := y.pc + 4
      issueAt := cc + 1 } := by
  unfold Tile.sent
  simp only
  rw [Tile.ctrl_eq]
  cases srcs.any y.regPz <;> rfl

/-- A MSG.SEND keeps registers, store and state of its tile (R190). -/
theorem State.Issues.sent_keeps {s : State} {t word : Nat} {srcs : List Nat} {y : Tile} (h : s.Issues t word srcs y) (regs : List Nat) :
    (y.sent s.cc regs).SameRegs (s.tile t) ∧ (y.sent s.cc regs).SameStore (s.tile t) ∧ (y.sent s.cc regs).st = (s.tile t).st ∧
    (y.sent s.cc regs).ring.outst = (s.tile t).ring.outst + 1 ∧ (y.sent s.cc regs).pc = (s.tile t).pc + 4 ∧
    (y.sent s.cc regs).taint = (regs.any (s.tile t).regPz || (s.tile t).taint) := by
  rw [Tile.sent_frame, h.fetched_frame]
  exact ⟨fun _ => ⟨rfl, rfl⟩, fun _ => rfl, rfl, rfl, rfl, rfl⟩

/-- The registers that MSG.SEND reads: the two of its destination and tag words, and its payload's. -/
def sendRegs (x : Tile) (rp rs1 rs2 : BitVec 5) : List Nat := rs1.toNat :: rs2.toNat :: payRegs rp.toNat (x.reg rs2.toNat).toNat

/-- The message of a MSG.SEND of tile t (R190); `taint` is the taint that its registers leave. -/
def State.message (s : State) (t : Nat) (rp rs1 rs2 : BitVec 5) (flag : BitVec 6) (taint : Bool) : Msg :=
  let dw := ((s.tile t).reg rs1.toNat).toNat
  let tw := ((s.tile t).reg rs2.toNat).toNat
  { id := s.msgs.no
    src := t
    esc := bitAt dw 16
    dest := fld dw 15 0
    tag := fld tw 15 0
    words := (payRegs rp.toNat tw).map (s.tile t).reg
    poison := (payRegs rp.toNat tw).any (s.tile t).regPz || taint
    flag := flag.toNat
    answer := if s.badDest rp.toNat dw tw then some 6 else none
    sentTo := none }

section
variable {s : State} {t : Nat} {rp rs1 rs2 : BitVec 5} {flag : BitVec 6} {y : Tile}

/-- MSG.SEND in its two parts: what it leaves of its tile, and the message where one more send is unanswered then. -/
theorem msgSend_eq (ht : t < 1536) {z : Tile}
    (hz : (s.tile t).issueWhen s.cc (encR 0x32 rp.toNat rs1.toNat rs2.toNat flag.toNat) (sendRegs (s.tile t) rp rs1 rs2)
      (Tile.canSend flag.toNat) (fun y => if flagOk flag.toNat then y.sent s.cc (sendRegs (s.tile t) rp rs1 rs2) else y.stop 0x09) = z) :
    exec (.msgSend t rp rs1 rs2 flag) s = .next (if z.ring.outst = (s.tile t).ring.outst + 1
      then { s.afterTile t z with
        msgs := ⟨(s.afterTile t z).msgs.fly ++ [s.message t rp rs1 rs2 flag z.taint], (s.afterTile t z).msgs.no + 1⟩ }
      else s.afterTile t z) := by
  subst hz
  rw [apply_ite Host.Outcome.next]
  show execMsgSend t rp rs1 rs2 flag s = _
  unfold execMsgSend
  rw [if_pos ht]
  cases flagOk flag.toNat <;> rfl

variable (h : s.Issues t (encR 0x32 rp.toNat rs1.toNat rs2.toNat flag.toNat) (sendRegs (s.tile t) rp rs1 rs2) y)
include h

theorem msgSend_stops (hf : flagOk flag.toNat = false) : exec (.msgSend t rp rs1 rs2 flag) s = .next (s.afterTile t (y.stop 0x09)) := by
  have hgo : Tile.canSend flag.toNat (s.tile t) = true := by
    rw [Tile.canSend, hf]
    rfl
  rw [msgSend_eq h.1 (Tile.issueWhen_go hgo ..), h.issue_eq, hf, if_neg Bool.false_ne_true, if_neg]
  rw [Tile.stop_outst, h.fetched_frame]
  exact Nat.ne_of_lt (Nat.lt_succ_self _)

theorem msgSend_full (hf : flagOk flag.toNat = true) (ho : 8 ≤ (s.tile t).ring.outst) :
    exec (.msgSend t rp rs1 rs2 flag) s = .next (s.setTile t (s.tile t)) := by
  have hgo : Tile.canSend flag.toNat (s.tile t) = false := by
    rw [Tile.canSend, hf]
    simpa using ho
  rw [msgSend_eq h.1 (h.issueWhen_stall hgo _), if_neg (Nat.ne_of_lt (Nat.lt_succ_self _)), State.afterTile_same _ _ _ rfl]

/-- The message leaves, BADDEST answered where it is the sender's own check (R190, R195). -/
theorem msgSend_leaves (hf : flagOk flag.toNat = true) (ho : (s.tile t).ring.outst < 8) :
    exec (.msgSend t rp rs1 rs2 flag) s = .next { s.setTile t (y.sent s.cc (sendRegs (s.tile t) rp rs1 rs2)) with
      msgs := ⟨s.msgs.fly ++ [s.message t rp rs1 rs2 flag
        ((sendRegs (s.tile t) rp rs1 rs2).any (s.tile t).regPz || (s.tile t).taint)], s.msgs.no + 1⟩ } := by
  have hgo : Tile.canSend flag.toNat (s.tile t) = true := by
    rw [Tile.canSend, hf]
    simpa using ho
  obtain ⟨-, -, hst, hout, -, htaint⟩ := h.sent_keeps (sendRegs (s.tile t) rp rs1 rs2)
  rw [msgSend_eq h.1 (Tile.issueWhen_go hgo ..), h.issue_eq, if_pos hf, if_pos hout, State.afterTile_same _ _ _ hst, htaint]
  rfl

end

/-- The poison of the payload counts in what the sources leave of the taint. -/
theorem any_payRegs_or (x : Tile) (rp rs1 rs2 : BitVec 5) (taint : Bool) :
    ((payRegs rp.toNat (x.reg rs2.toNat).toNat).any x.regPz || ((sendRegs x rp rs1 rs2).any x.regPz || taint)) =
      ((sendRegs x rp rs1 rs2).any x.regPz || taint) := by
  rw [sendRegs, List.any_cons, List.any_cons]
  cases (payRegs rp.toNat (x.reg rs2.toNat).toNat).any x.regPz <;> simp

/-! ### The count of a cycle at a stalled MSG.SEND -/

/-- The fields of a MSG.SEND. -/
theorem fld_encSend {rp rs1 rs2 flag : Nat} (hp : rp < 32) (h1 : rs1 < 32) (h2 : rs2 < 32) (hf : flag < 64) :
    let w := encR 0x32 rp rs1 rs2 flag
    fld w 31 26 = 0x32 ∧ fld w 25 21 = rp ∧ fld w 20 16 = rs1 ∧ fld w 15 11 = rs2 ∧ fld w 10 8 = 0 ∧ fld w 5 0 = flag := by
  simp only [fld, encR, at']
  omega

theorem Tile.countStall_send {x : Tile} {c w : Nat} (hw : x.nextWord c = some w) (hopc : fld w 31 26 = 0x32) (hop : fld w 10 8 = 0)
    (hfull : Tile.canSend (fld w 5 0) x = false)
    (hr : x.srcReady c (fld w 20 16 :: fld w 15 11 :: payRegs (fld w 25 21) (x.reg (fld w 15 11)).toNat) = true) :
    (x.countStall c).count 0x730 = sat32 (x.count 0x730) 1 := by
  have hs : (x.nextWord c).bind (x.stallCounter c) = some 0x730 := by
    rw [hw]
    show x.stallCounter c w = some 0x730
    unfold Tile.stallCounter
    simp only [hopc, hop, hfull, hr]
    rfl
  unfold Tile.countStall
  rw [hs]
  exact Tile.count_bump x 0x730 1

theorem Tile.cycle_count_send (x : Tile) (c : Nat) : (x.cycle c).count 0x730 = (x.countStall c).count 0x730 := by
  rw [Tile.cycle_count_ne x c (by decide) (by decide), Tile.countCycle_eq, Tile.count_bumpIf_ne _ _ (by decide),
    Tile.count_bumpIf_ne _ _ (by decide), Tile.count_bumpIf_ne _ _ (by decide), Tile.count_bumpIf_ne _ _ (by decide),
    Tile.count_bumpIf_ne _ _ (by decide)]

/-! ### The look at the ring -/

/-- RD as a look at the ring leaves it: a skip marker sends it to 0 (R199). -/
def Tile.lookRd (y : Tile) : Nat := if y.ring.rd ≠ y.ring.wr ∧ bitAt y.ringHead 15 = true then 0 else y.ring.rd

/-- A tile that has looked at its ring: the record that it found is the program's to read (R199). -/
def Tile.looked (y : Tile) : Tile :=
  { y.headTouch with ring := { y.ring with rd := y.lookRd, lent := y.ring.lent || decide (y.lookRd ≠ y.ring.wr) } }

theorem Tile.headTouch_empty {y : Tile} (h : y.ring.rd = y.ring.wr) : y.headTouch = y := by
  unfold Tile.headTouch
  rw [if_pos h]

theorem Tile.ringLook_eq (y : Tile) : y.ringLook = (y.looked, if y.lookRd = y.ring.wr then none else some y.lookRd) := by
  by_cases h : y.ring.rd = y.ring.wr
  · have hrd : y.lookRd = y.ring.rd := if_neg (by simp [h])
    rw [Tile.ringLook_empty h, Tile.looked, Tile.headTouch_empty h, hrd, if_pos h, decide_eq_false (not_not.2 h), Bool.or_false]
  by_cases hm : bitAt y.ringHead 15 = true
  · have hrd : y.lookRd = 0 := if_pos ⟨h, hm⟩
    rw [Tile.ringLook_marker h hm, Tile.looked, hrd]
    by_cases h0 : y.ring.wr = 0
    · simp [h0]
    · rw [if_neg h0, if_neg (Ne.symm h0)]
      simp [Ne.symm h0]
  · have hrd : y.lookRd = y.ring.rd := if_neg (by simp [hm])
    rw [Tile.ringLook_record h (by simpa using hm), Tile.looked, hrd, if_neg h]
    simp [h]

@[simp] theorem Tile.headTouch_store (y : Tile) : y.headTouch.store = y.store := by
  unfold Tile.headTouch
  split <;> simp

section
variable {s : State} {t : Nat} {rd : BitVec 5} {y : Tile}

theorem Tile.looked_st (y : Tile) : y.looked.st = y.st := y.headTouch_st

theorem State.Issues.looked_retire_store {word : Nat} {srcs : List Nat} (h : s.Issues t word srcs y) (cc rd : Nat) (v : Word) :
    (y.looked.retire cc rd v false 2).SameStore (s.tile t) :=
  Tile.sameStore_of_store ((Tile.retire_store y.looked ..).trans (y.headTouch_store.trans h.fetched_store)).symm

theorem Tile.looked_retired (y : Tile) (cc rd : Nat) (v : Word) :
    y.looked.Retired (y.looked.retire cc rd v false 2) cc rd 2 v false 0 := Tile.retired_plain ..

section
variable (h : s.Issues t (encR 0x32 rd.toNat 0 0 256) [] y)
include h

theorem msgRecv_record (hne : y.lookRd ≠ y.ring.wr) :
    exec (.msgRecv t rd) s = .next (s.setTile t (y.looked.retire s.cc rd.toNat (w32 y.lookRd) false 2)) := by
  refine (onTile_issues h _).trans ?_
  simp only [Tile.ringLook_eq, if_neg hne]
  rw [State.afterTile_same _ _ _ ((Tile.retire_st ..).trans (y.looked_st.trans h.fetched_st))]

theorem msgRecv_sleeps (he : y.lookRd = y.ring.wr) :
    exec (.msgRecv t rd) s = .next (s.setTile t { y.looked with st := .wait, sleep := .recv rd }) := by
  refine (onTile_issues h _).trans ?_
  simp only [Tile.ringLook_eq, if_pos he]
  rw [State.afterTile_live _ _ _ (by simp) (by simp)]

end

section
variable (h : s.Issues t (encR 0x32 rd.toNat 0 0 512) [] y)
include h

theorem msgPoll_record (hne : y.lookRd ≠ y.ring.wr) :
    exec (.msgPoll t rd) s = .next (s.setTile t (y.looked.retire s.cc rd.toNat (w32 y.lookRd) false 2)) := by
  refine (onTile_issues h _).trans ?_
  simp only [Tile.ringLook_eq, if_neg hne]
  rw [State.afterTile_same _ _ _ ((Tile.retire_st ..).trans (y.looked_st.trans h.fetched_st))]

theorem msgPoll_empty (he : y.lookRd = y.ring.wr) :
    exec (.msgPoll t rd) s = .next (s.setTile t (y.looked.retire s.cc rd.toNat 0xFFFFFFFF false 2)) := by
  refine (onTile_issues h _).trans ?_
  simp only [Tile.ringLook_eq, if_pos he]
  rw [State.afterTile_same _ _ _ ((Tile.retire_st ..).trans (y.looked_st.trans h.fetched_st))]

end

/-! ### MSG.FREE and MSG.CTL -/

/-- MSG.FREE moves RD past the record at it and takes it back from the program; an empty ring stays (R199). -/
theorem msgFree_next (h : s.Issues t (encR 0x32 0 0 0 768) [] y) : exec (.msgFree t) s = .next (s.setTile t { y.headTouch with
    ring := { y.ring with
      rd := if y.ring.rd = y.ring.wr then y.ring.rd
        else (y.ring.rd + recordBytes (fld y.ringHead 14 12 + 1)) % (256 * 2 ^ y.ring.size)
      lent := y.ring.lent && decide (y.ring.rd = y.ring.wr) }
    pc := y.pc + 4
    issueAt := s.cc + 1 }) := by
  refine (onTile_issues h _).trans ?_
  rw [State.afterTile_same]
  · by_cases he : y.ring.rd = y.ring.wr
    · simp only [Tile.headTouch_ring, if_pos he, Tile.advance, Tile.headTouch_pc, decide_eq_true he, Bool.and_true]
    · simp [Tile.advance, he, MsgRing.bytes]
  · refine Eq.trans ?_ h.fetched_st
    by_cases he : y.ring.rd = y.ring.wr <;> simp [he]

theorem ctlOp_next {func : Nat} {f : MsgRing → MsgRing} (h : s.Issues t (encR 0x32 0 0 0 (1024 + func)) [] y) :
    ctlOp t func f s = .next (s.setTile t { y with ring := f y.ring, pc := y.pc + 4, issueAt := s.cc + 1 }) :=
  onTile_issues_set h (fun y => ({ y with ring := f y.ring } : Tile).advance s.cc) rfl

theorem exec_msgCtlClose (t : Nat) (s : State) : exec (.msgCtlClose t) s = ctlOp t 0 (fun r => { r with opened := false }) s := rfl
theorem exec_msgCtlOpen (t : Nat) (s : State) : exec (.msgCtlOpen t) s = ctlOp t 1 (fun r => { r with opened := true }) s := rfl
theorem exec_msgCtlEpoch (t : Nat) (ep : BitVec 4) (s : State) :
    exec (.msgCtlEpoch t ep) s = ctlOp t (2 + 16 * ep.toNat) (fun r => { r with epoch := ep.toNat }) s := by
  rw [Nat.add_comm, Nat.mul_comm]
  rfl

end

/-- Settles O14: each MSG instruction from its own equation. -/
theorem messagesFromAProgram : Obligations.MessagesFromAProgram := by
  unfold Obligations.MessagesFromAProgram
  refine ⟨fun s t rp rs1 rs2 flag y => ?send, fun x c rp rs1 rs2 flag => ?stall,
    ⟨fun s t rd y => ⟨fun h => ⟨fun hne => ⟨_, msgRecv_record h hne, Tile.looked_retired .., h.looked_retire_store _ _ _⟩, msgRecv_sleeps h⟩,
        fun h => ⟨fun hne => ⟨_, msgPoll_record h hne, Tile.looked_retired .., h.looked_retire_store _ _ _⟩,
          fun he => ⟨_, msgPoll_empty h he, Tile.looked_retired .., h.looked_retire_store _ _ _⟩⟩⟩,
      fun s t y => msgFree_next⟩,
    fun s t ep y => ⟨fun h => (exec_msgCtlClose t s).trans (ctlOp_next h),
      fun h => (exec_msgCtlOpen t s).trans (ctlOp_next h), fun h => (exec_msgCtlEpoch t ep s).trans (ctlOp_next ?epoch)⟩⟩
  case send =>
    intro x dw tw pay h
    refine ⟨fun h1 h2 => msgSend_stops h ?_, fun hf ho => ⟨_, msgSend_leaves h ((flagOk_iff _).2 hf) ho, ?_⟩,
      fun hf ho => msgSend_full h ((flagOk_iff _).2 hf) ho⟩
    · rw [← Bool.not_eq_true, flagOk_iff]
      omega
    · have hkeeps := h.sent_keeps (sendRegs x rp rs1 rs2)
      rw [← State.tile_setTile_self s t (y.sent s.cc (sendRegs x rp rs1 rs2))] at hkeeps
      obtain ⟨hregs, hstore, -, hout, hpc, -⟩ := hkeeps
      refine ⟨fun v hv => (State.tile_setTile ..).trans (if_neg hv), hregs, hstore, ?_, rfl, hout, hpc⟩
      rw [State.message, any_payRegs_or]
      rfl
  case stall =>
    intro hw hf hr ho
    obtain ⟨hopc, hrp, hrs1, hrs2, hop, hfl⟩ := fld_encSend rp.isLt rs1.isLt rs2.isLt flag.isLt
    refine (x.cycle_count_send c).trans (Tile.countStall_send hw hopc hop ?_ ?_)
    · rw [hfl, Tile.canSend, (flagOk_iff _).2 hf]
      simpa using ho
    · rw [hrp, hrs1, hrs2, hr]
  case epoch => rwa [← Nat.add_assoc]

end Sys2Proof.Machine

/-!
PROOFS. Messages at their ring and their answers (O15).
-/
namespace Sys2Proof.Machine

/-! ### The counters beside the tile store's -/

/-- The check of a word counts in TILE.CNT_CE and TILE.CNT_UE alone. -/
theorem Tile.checkWord_count_ne (x : Tile) (w : Nat) {off : Nat} (h1 : off ≠ 0x810) (h2 : off ≠ 0x814) :
    (x.checkWord w).count off = x.count off := by
  unfold Tile.checkWord Tile.check
  split
  · rfl
  · exact Tile.count_bump_ne _ 1 h1
  · exact Tile.count_bump_ne _ 1 h2

theorem Tile.writePz_count_ne (a n : Nat) (pz : Bool) (x : Tile) (w : Nat) {off : Nat} (h1 : off ≠ 0x810) (h2 : off ≠ 0x814) :
    (Tile.writePz a n pz x w).count off = x.count off := by
  unfold Tile.writePz
  split
  · rfl
  · exact x.checkWord_count_ne w h1 h2

theorem Tile.write_count_ne (x : Tile) (a : Nat) (bs : List Byte) (pz : Bool) {off : Nat} (h1 : off ≠ 0x810) (h2 : off ≠ 0x814) :
    (x.write a bs pz).count off = x.count off :=
  foldl_keep (Tile.count off) _ (fun y w => Tile.writePz_count_ne a bs.length pz y w h1 h2) _ x

/-! ### A write in the ring -/

theorem Tile.ringWrite_frame (x : Tile) (o : Nat) (bs : List Byte) : let z := x.ringWrite o bs
    z = { x with store := z.store, spz := z.spz, ecc := z.ecc, cnt := z.cnt, reports := z.reports, banks := z.banks } := by
  unfold Tile.ringWrite
  simp only
  rw [Tile.ask_frame, Tile.write_frame]

theorem Tile.ringWrite_core (x : Tile) (o : Nat) (bs : List Byte) : (x.ringWrite o bs).core = x.core := by
  unfold Tile.ringWrite
  rw [Tile.ask_core, Tile.write_core]

@[simp] theorem Tile.ringWrite_ring (x : Tile) (o : Nat) (bs : List Byte) : (x.ringWrite o bs).ring = x.ring := by
  rw [Tile.ringWrite_frame]

theorem Tile.ringWrite_store (x : Tile) (o : Nat) (bs : List Byte) :
    (x.ringWrite o bs).store = (x.write (x.ringAddr o) bs false).store := Tile.ask_store ..

theorem Tile.ringWrite_byteAt (x : Tile) {o : Nat} {bs : List Byte} {b : Nat} (h : b < x.ringAddr o ∨ x.ringAddr o + bs.length ≤ b) :
    (x.ringWrite o bs).byteAt b = x.byteAt b := by
  unfold Tile.byteAt
  rw [Tile.ringWrite_store]
  exact (x.write_byteAt (x.ringAddr o) bs false b).trans (if_neg (by omega))

theorem Tile.ringWrite_bytes (x : Tile) (o : Nat) (bs : List Byte) : (x.ringWrite o bs).bytes (x.ringAddr o) bs.length = bs := by
  unfold Tile.bytes
  rw [Tile.ringWrite_store]
  exact x.bytes_write_self (x.ringAddr o) bs false

theorem Tile.ringWrite_count_ne (x : Tile) (o : Nat) (bs : List Byte) {off : Nat} (h1 : off ≠ 0x810) (h2 : off ≠ 0x814) :
    (x.ringWrite o bs).count off = x.count off := by
  unfold Tile.ringWrite
  rw [Tile.ask_frame]
  exact x.write_count_ne (x.ringAddr o) bs false h1 h2

/-! ### The room of a ring, and the write of a record (R194) -/

/-- A record of m bytes fits at WR. -/
def MsgRing.RoomAtWr (r : MsgRing) (m : Nat) : Prop :=
  (r.rd ≤ r.wr ∧ (r.wr + m < r.bytes ∨ (r.wr + m = r.bytes ∧ r.rd ≠ 0))) ∨ (r.wr < r.rd ∧ r.wr + m < r.rd)

/-- A record of m bytes fits at 0 only, behind a skip marker. -/
def MsgRing.RoomAt0 (r : MsgRing) (m : Nat) : Prop := r.rd ≤ r.wr ∧ ¬ r.RoomAtWr m ∧ r.rd ≠ 0 ∧ m < r.rd

/-- The tile with a record written at offset o of its ring, and WR past it. -/
def Tile.putAt (x : Tile) (o : Nat) (rcd : List Byte) : Tile :=
  { x.ringWrite o rcd with ring := { x.ring with wr := (o + rcd.length) % x.ring.bytes } }

/-- The tile with a skip marker written at WR, and WR at 0. -/
def Tile.skipped (x : Tile) : Tile := { x.ringWrite x.ring.wr (leBytes 8 0x8000) with ring := { x.ring with wr := 0 } }

theorem Tile.putAt_core (x : Tile) (o : Nat) (rcd : List Byte) : (x.putAt o rcd).core = x.core := x.ringWrite_core o rcd

theorem Tile.skipped_core (x : Tile) : x.skipped.core = x.core := x.ringWrite_core ..

theorem Tile.putAt_count_ne (x : Tile) (o : Nat) (rcd : List Byte) {off : Nat} (h1 : off ≠ 0x810) (h2 : off ≠ 0x814) :
    (x.putAt o rcd).count off = x.count off := x.ringWrite_count_ne o rcd h1 h2

theorem Tile.skipped_count_ne (x : Tile) {off : Nat} (h1 : off ≠ 0x810) (h2 : off ≠ 0x814) : x.skipped.count off = x.count off :=
  x.ringWrite_count_ne _ _ h1 h2

theorem Tile.putAt_bytes (x : Tile) (o : Nat) (rcd : List Byte) : (x.putAt o rcd).bytes (x.ringAddr o) rcd.length = rcd :=
  x.ringWrite_bytes o rcd

theorem Tile.putAt_byteAt (x : Tile) {o : Nat} {rcd : List Byte} {b : Nat} (h : b < x.ringAddr o ∨ x.ringAddr o + rcd.length ≤ b) :
    (x.putAt o rcd).byteAt b = x.byteAt b := x.ringWrite_byteAt h

theorem Tile.skipped_byteAt (x : Tile) {b : Nat} (h : b < x.ringAddr x.ring.wr ∨ x.ringAddr x.ring.wr + 8 ≤ b) :
    x.skipped.byteAt b = x.byteAt b := x.ringWrite_byteAt (by rwa [leBytes_length])

/-- The ring stays where it is in the tile store. -/
@[simp] theorem Tile.skipped_ringAddr (x : Tile) (o : Nat) : x.skipped.ringAddr o = x.ringAddr o := by
  unfold Tile.skipped
  rw [Tile.ringWrite_frame]
  rfl

section
variable {x : Tile} {rcd : List Byte}

theorem Tile.ringPut_atWr (h : x.ring.RoomAtWr rcd.length) : x.ringPut rcd = (x.putAt x.ring.wr rcd, true) := by
  unfold Tile.ringPut
  simp only [Tile.ringWrite_ring]
  obtain ⟨hle, hfit⟩ | ⟨hlt, hfit⟩ := h
  · rw [if_pos hle, if_pos hfit]
    rfl
  · rw [if_neg (Nat.not_le.2 hlt), if_pos hfit]
    rfl

theorem Tile.ringPut_at0 (h : x.ring.RoomAt0 rcd.length) : x.ringPut rcd = (x.skipped.putAt 0 rcd, true) := by
  obtain ⟨hle, hwr, hrd, hfit⟩ := h
  unfold Tile.ringPut
  simp only [Tile.ringWrite_ring]
  rw [if_pos hle, if_neg fun hw => hwr (.inl ⟨hle, hw⟩), if_neg hrd, if_pos hfit]
  rfl

/-- Without room nothing is written but, at most, a skip marker. -/
theorem Tile.ringPut_full (hwr : ¬ x.ring.RoomAtWr rcd.length) (h0 : ¬ x.ring.RoomAt0 rcd.length) :
    x.ringPut rcd = (x, false) ∨ x.ringPut rcd = (x.skipped, false) := by
  unfold Tile.ringPut
  simp only [Tile.ringWrite_ring]
  by_cases hle : x.ring.rd ≤ x.ring.wr
  · rw [if_pos hle, if_neg fun hw => hwr (.inl ⟨hle, hw⟩)]
    by_cases hrd : x.ring.rd = 0
    · exact .inl (if_pos hrd)
    · rw [if_neg hrd, if_neg fun hm => h0 ⟨hle, hwr, hrd, hm⟩]
      exact .inr rfl
  · rw [if_neg hle]
    exact .inl (if_neg fun hm => hwr (.inr ⟨Nat.not_le.1 hle, hm⟩))

end

/-! ### The receiver's checks (R195) -/

/-- The running tile hears the message: its ring is open, and the message neither poisoned nor of another epoch. -/
def Tile.Hears (x : Tile) (m : Arrived) : Prop :=
  x.st ≠ .idle ∧ x.ring.opened = true ∧ m.poison = false ∧ fld m.tag 15 12 = x.ring.epoch

section
variable {x : Tile} {m : Arrived}

theorem Tile.ringRefuse_core (x : Tile) (code : Nat) : (x.ringRefuse code).core = x.core := by
  unfold Tile.ringRefuse
  simp only
  split <;> rfl

theorem Tile.ringRefuse_store (x : Tile) (code : Nat) : (x.ringRefuse code).store = x.store := by
  unfold Tile.ringRefuse
  simp only
  split <;> rfl

theorem Tile.ringRefuse_count (x : Tile) (code : Nat) : (x.ringRefuse code).count 0x728 = sat32 (x.count 0x728) 1 := by
  unfold Tile.ringRefuse
  simp only
  split
  · rw [Tile.count_bump_ne _ 1 (by decide), Tile.count_bump]
  · rw [Tile.count_bump]

theorem Tile.receive_absent (h : x.ring.present = false) : x.receive m = (x, 6) := by
  unfold Tile.receive
  rw [h]
  rfl

section
variable (hp : x.ring.present = true)
include hp

theorem Tile.receive_idle (hst : x.st = .idle) : x.receive m = (x, 3) := by
  unfold Tile.receive
  rw [hp, if_neg (by decide), if_pos hst]

variable (hst : x.st ≠ .idle)
include hst

theorem Tile.receive_closed (ho : x.ring.opened = false) : x.receive m = (x.ringRefuse 2, 2) := by
  unfold Tile.receive
  rw [hp, if_neg (by decide), if_neg hst, ho]
  rfl

variable (ho : x.ring.opened = true)
include ho

theorem Tile.receive_poison (hz : m.poison = true) : x.receive m = (x.ringRefuse 5, 5) := by
  unfold Tile.receive
  rw [hp, if_neg (by decide), if_neg hst, ho, if_neg (by decide), if_pos hz]

variable (hz : m.poison = false)
include hz

theorem Tile.receive_stale (he : fld m.tag 15 12 ≠ x.ring.epoch) : x.receive m = (x.ringRefuse 4, 4) := by
  unfold Tile.receive
  rw [hp, if_neg (by decide), if_neg hst, ho, if_neg (by decide), hz, if_neg Bool.false_ne_true, if_pos he]

end

section
variable (hp : x.ring.present = true)
include hp

/-- A message that is not heard changes nothing but the counters of its refusal. -/
theorem Tile.receive_unheard (hst : x.st ≠ .idle) (h : ¬ x.Hears m) : ∃ code, code ≠ 0 ∧ x.receive m = (x.ringRefuse code, code) := by
  by_cases ho : x.ring.opened = true
  · by_cases hz : m.poison = true
    · exact ⟨5, by decide, Tile.receive_poison hp hst ho hz⟩
    · have hz : m.poison = false := by simpa using hz
      exact ⟨4, by decide, Tile.receive_stale hp hst ho hz fun he => h ⟨hst, ho, hz, he⟩⟩
  · exact ⟨2, by decide, Tile.receive_closed hp hst (by simpa using ho)⟩

variable (h : x.Hears m)
include h

/-- The write decides on a message that is heard (R194). -/
theorem Tile.receive_heard : x.receive m = if (x.ringPut m.record).2 = true then ((x.ringPut m.record).1.bump 0x724 1, 0)
    else ((x.ringPut m.record).1.ringRefuse 1, 1) := by
  obtain ⟨hst, ho, hz, he⟩ := h
  unfold Tile.receive
  rw [hp, if_neg (by decide), if_neg hst, ho, if_neg (by decide), hz, if_neg Bool.false_ne_true, if_neg (not_not.2 he)]
  obtain ⟨y, _ | _⟩ := x.ringPut m.record <;> rfl

theorem Tile.receive_atWr (hr : x.ring.RoomAtWr m.record.length) :
    x.receive m = ((x.putAt x.ring.wr m.record).bump 0x724 1, 0) := by
  rw [Tile.receive_heard hp h, Tile.ringPut_atWr hr, if_pos rfl]

theorem Tile.receive_at0 (hr : x.ring.RoomAt0 m.record.length) :
    x.receive m = ((x.skipped.putAt 0 m.record).bump 0x724 1, 0) := by
  rw [Tile.receive_heard hp h, Tile.ringPut_at0 hr, if_pos rfl]

theorem Tile.receive_full (hwr : ¬ x.ring.RoomAtWr m.record.length) (h0 : ¬ x.ring.RoomAt0 m.record.length) :
    ∃ z, (z = x ∨ z = x.skipped) ∧ x.receive m = (z.ringRefuse 1, 1) := by
  rw [Tile.receive_heard hp h]
  obtain he | he := Tile.ringPut_full hwr h0
  · exact ⟨x, .inl rfl, by rw [he, if_neg Bool.false_ne_true]⟩
  · exact ⟨x.skipped, .inr rfl, by rw [he, if_neg Bool.false_ne_true]⟩

end

/-! ### What an arrival leaves of its tile -/

/-- An arrival is of no other matter to the tile's program (R194). -/
theorem Tile.receive_core (x : Tile) (m : Arrived) : (x.receive m).1.core = x.core := by
  by_cases hp : x.ring.present = true
  case neg => rw [Tile.receive_absent (by simpa using hp)]
  by_cases hst : x.st = .idle
  case pos => rw [Tile.receive_idle hp hst]
  by_cases h : x.Hears m
  case neg =>
    obtain ⟨code, -, he⟩ := Tile.receive_unheard hp hst h
    rw [he, Tile.ringRefuse_core]
  by_cases hwr : x.ring.RoomAtWr m.record.length
  · rw [Tile.receive_atWr hp h hwr]
    exact x.putAt_core ..
  by_cases h0 : x.ring.RoomAt0 m.record.length
  · rw [Tile.receive_at0 hp h h0]
    exact (x.skipped.putAt_core ..).trans x.skipped_core
  · obtain ⟨z, rfl | rfl, he⟩ := Tile.receive_full hp h hwr h0
    · rw [he, Tile.ringRefuse_core]
    · rw [he, Tile.ringRefuse_core, Tile.skipped_core]

section
variable (hp : x.ring.present = true)
include hp

theorem Tile.receive_unheard_store (h : ¬ x.Hears m) : (x.receive m).1.store = x.store := by
  by_cases hst : x.st = .idle
  · rw [Tile.receive_idle hp hst]
  · obtain ⟨code, -, he⟩ := Tile.receive_unheard hp hst h
    rw [he, Tile.ringRefuse_store]

/-- A refusal by the ring is counted (R202). -/
theorem Tile.receive_refused_count (hst : x.st ≠ .idle) (hc : (x.receive m).2 ≠ 0) :
    (x.receive m).1.count 0x728 = sat32 (x.count 0x728) 1 := by
  by_cases h : x.Hears m
  case neg =>
    obtain ⟨code, -, he⟩ := Tile.receive_unheard hp hst h
    rw [he, Tile.ringRefuse_count]
  by_cases hwr : x.ring.RoomAtWr m.record.length
  · exact absurd (congrArg Prod.snd (Tile.receive_atWr hp h hwr)) hc
  by_cases h0 : x.ring.RoomAt0 m.record.length
  · exact absurd (congrArg Prod.snd (Tile.receive_at0 hp h h0)) hc
  · obtain ⟨z, rfl | rfl, he⟩ := Tile.receive_full hp h hwr h0
    · rw [he, Tile.ringRefuse_count]
    · rw [he, Tile.ringRefuse_count, Tile.skipped_count_ne _ (by decide) (by decide)]

/-- A full ring takes a skip marker at most (R194). -/
theorem Tile.receive_full_byteAt (h : x.Hears m) (hwr : ¬ x.ring.RoomAtWr m.record.length) (h0 : ¬ x.ring.RoomAt0 m.record.length) {b : Nat}
    (hb : b < x.ringAddr x.ring.wr ∨ x.ringAddr x.ring.wr + 8 ≤ b) : (x.receive m).1.byteAt b = x.byteAt b := by
  have hrefuse (z : Tile) : (z.ringRefuse 1).byteAt b = z.byteAt b := congrArg (Sparse.get 0 · b) (z.ringRefuse_store 1)
  obtain ⟨z, rfl | rfl, he⟩ := Tile.receive_full hp h hwr h0
  · rw [he, hrefuse]
  · rw [he, hrefuse, Tile.skipped_byteAt _ hb]

end

end

/-- The record of an accepted message stands whole where it is written, WR is past it, and the message is counted (R194). -/
theorem Tile.putAt_accepted (y : Tile) (o : Nat) (rcd : List Byte) : let z := (y.putAt o rcd).bump 0x724 1
    z.bytes (y.ringAddr o) rcd.length = rcd ∧ z.ring.wr = (o + rcd.length) % y.ring.bytes ∧ z.count 0x724 = sat32 (y.count 0x724) 1 ∧
    ∀ b, b < y.ringAddr o ∨ y.ringAddr o + rcd.length ≤ b → z.byteAt b = y.byteAt b := by
  refine ⟨y.putAt_bytes o rcd, rfl, ?_, fun b => y.putAt_byteAt⟩
  rw [Tile.count_bump, Tile.putAt_count_ne _ _ _ (by decide) (by decide)]

/-- The same behind a skip marker. -/
theorem Tile.skipped_putAt_accepted (x : Tile) (rcd : List Byte) : let z := (x.skipped.putAt 0 rcd).bump 0x724 1
    z.bytes (x.ringAddr 0) rcd.length = rcd ∧ z.ring.wr = (0 + rcd.length) % x.ring.bytes ∧ z.count 0x724 = sat32 (x.count 0x724) 1 ∧
    ∀ b, b < x.ringAddr 0 ∨ x.ringAddr 0 + rcd.length ≤ b → b < x.ringAddr x.ring.wr ∨ x.ringAddr x.ring.wr + 8 ≤ b →
      z.byteAt b = x.byteAt b := by
  obtain ⟨hbytes, hwr, hcount, hframe⟩ := x.skipped.putAt_accepted 0 rcd
  rw [Tile.skipped_ringAddr] at hbytes hframe
  rw [Tile.skipped_count_ne _ (by decide) (by decide)] at hcount
  exact ⟨hbytes, hwr, hcount, fun b hb hm => (hframe b hb).trans (x.skipped_byteAt hm)⟩

/-- What a receiving tile of this module sees of a message. -/
def Msg.arrived (m : Msg) : Arrived := ⟨0xFFFF, m.src, m.esc, m.dest, m.tag, m.words, m.poison⟩

/-- A message that no earlier one of its sender to the same ring precedes is answered by that ring (R194, R198). -/
theorem messageArrival_next {s : State} {id t : Nat} {m : Msg}
    (hm : s.msgs.fly.find? (fun k => k.id == id && k.answer.isNone && k.sentTo.isNone) = some m) (ht : s.msgTile m.esc m.dest = some t)
    (hfirst : ∀ k ∈ s.msgs.fly, ¬ (k.src = m.src ∧ k.id < m.id ∧ k.answer = none ∧ s.msgTile k.esc k.dest = some t)) :
    ∃ u, exec (.messageArrival id) s = .next u ∧
      u.msgs.fly = s.msgs.fly.map (fun k => if k.id = id then { k with answer := some ((s.tile t).receive m.arrived).2 } else k) ∧
      (∀ v, v ≠ t → u.tile v = s.tile v) ∧ u.tile t = ((s.tile t).receive m.arrived).1 := by
  have hearlier : (s.msgs.fly.any fun k =>
      k.src == m.src && decide (k.id < m.id) && k.answer.isNone && s.msgTile k.esc k.dest == some t) = false := by
    rw [List.any_eq_false]
    intro k hk
    simpa [and_assoc] using hfirst k hk
  have h : exec (.messageArrival id) s = .next { s.setTile t ((s.tile t).receive m.arrived).1 with msgs := { s.msgs with
      fly := s.msgs.fly.map fun k => if k.id = id then { k with answer := some ((s.tile t).receive m.arrived).2 } else k } } := by
    show execMessageArrival id s = _
    unfold execMessageArrival
    rw [hm]
    simp only [ht, hearlier]
    rfl
  exact ⟨_, h, rfl, fun v hv => (State.tile_setTile ..).trans (if_neg hv), State.tile_setTile_self ..⟩

/-! ### The answer at the sender (R196) -/

theorem Tile.signal_ring (x : Tile) (n : Nat) (r : MsgRing) : ({ x with ring := r } : Tile).signal n = { x.signal n with ring := r } := by
  obtain hn | hn | hn : n < 44 ∨ (44 ≤ n ∧ n < 48) ∨ 48 ≤ n := by omega
  · rw [Tile.signal_low _ hn, Tile.signal_low _ hn]
    rfl
  · rw [Tile.signal_reserved _ hn.1 hn.2, Tile.signal_reserved _ hn.1 hn.2]
    rfl
  · rw [Tile.signal, if_pos hn, Tile.signal, if_pos hn]

theorem Tile.signal_core (x : Tile) (n : Nat) : (x.signal n).core = x.core ∧ (x.signal n).store = x.store := by
  obtain hn | hn | hn : n < 44 ∨ (44 ≤ n ∧ n < 48) ∨ 48 ≤ n := by omega
  · rw [Tile.signal_low _ hn]
    exact ⟨rfl, rfl⟩
  · rw [Tile.signal_reserved _ hn.1 hn.2]
    exact ⟨rfl, rfl⟩
  · rw [Tile.signal, if_pos hn]
    exact ⟨rfl, rfl⟩

/-- The sender's ring after an answer: one send fewer is unanswered, a refusal is in the NACK queue, or counted where that is full. -/
def MsgRing.answered (r : MsgRing) (m : Msg) (code : Nat) : MsgRing :=
  { r with
    outst := r.outst - 1
    nack := if code ≠ 0 ∧ r.nack.length < 4 then r.nack ++ [⟨code, m.tag, m.dest⟩] else r.nack
    novf := if code ≠ 0 ∧ 4 ≤ r.nack.length then min (r.novf + 1) 255 else r.novf }

theorem Tile.answered_eq (x : Tile) (m : Msg) (code : Nat) :
    x.answered m code = { x.signal m.flag with ring := x.ring.answered m code } := by
  unfold Tile.answered MsgRing.answered
  simp only [Tile.signal_ring]
  by_cases hc : code = 0
  · simp [hc]
  by_cases hl : x.ring.nack.length < 4
  · simp [hc, hl, Nat.not_le.2 hl]
  · simp [hc, hl, Nat.not_lt.1 hl, satN]

theorem messageAnswer_next {s : State} {id code : Nat} {m : Msg} (hm : s.msgs.fly.find? (fun k => k.id == id) = some m)
    (hc : m.answer = some code) :
    ∃ u, exec (.messageAnswer id) s = .next u ∧ u.msgs.fly = s.msgs.fly.filter (fun k => k.id != id) ∧
      (∀ v, v ≠ m.src → u.tile v = s.tile v) ∧ u.tile m.src = (s.tile m.src).answered m code := by
  have h : exec (.messageAnswer id) s = .next { s.setTile m.src ((s.tile m.src).answered m code) with
      msgs := { s.msgs with fly := s.msgs.fly.filter fun k => k.id != id } } := by
    show execMessageAnswer id s = _
    unfold execMessageAnswer
    rw [hm]
    simp only [hc]
  exact ⟨_, h, rfl, fun v hv => (State.tile_setTile ..).trans (if_neg hv), State.tile_setTile_self ..⟩

/-- Settles O15: an arrival by the receiver's checks in their order and the ring's room, an answer by what it leaves of its sender
(`Tile.answered_eq`). -/
theorem messagesAreAnsweredOnce : Obligations.MessagesAreAnsweredOnce := by
  unfold Obligations.MessagesAreAnsweredOnce
  refine ⟨fun s id t m hm ht hfirst => ?arrival, fun s id m code hm hc => ?answer⟩
  case arrival =>
    intro x rcd n atWr at0 o heard
    obtain ⟨u, hu, hfly, hother, hself⟩ := messageArrival_next hm ht hfirst
    refine ⟨u, _, hu, hfly, hother, ?_⟩
    rw [hself]
    refine ⟨(Tile.same_of_core (x.receive_core m.arrived)).1, fun hp => ?absent, fun hp => ⟨fun hst => ?idle,
      fun hst ho => congrArg Prod.snd (Tile.receive_closed hp hst ho),
      fun hst ho hz => congrArg Prod.snd (Tile.receive_poison (m := m.arrived) hp hst ho hz),
      fun hst ho hz he => congrArg Prod.snd (Tile.receive_stale (m := m.arrived) hp hst ho hz he), fun h hfull => ?full, fun h hroom => ?room,
      fun h => Tile.sameStore_of_store (Tile.receive_unheard_store (m := m.arrived) hp h).symm, Tile.receive_refused_count hp⟩⟩
    case absent => exact ⟨congrArg Prod.snd (Tile.receive_absent hp), congrArg Prod.fst (Tile.receive_absent hp)⟩
    case idle => exact ⟨congrArg Prod.snd (Tile.receive_idle hp hst), congrArg Prod.fst (Tile.receive_idle hp hst)⟩
    case full =>
      obtain ⟨hwr, h0⟩ := not_or.1 hfull
      obtain ⟨z, -, he⟩ := Tile.receive_full (m := m.arrived) hp h hwr h0
      exact ⟨congrArg Prod.snd he, fun b => Tile.receive_full_byteAt (m := m.arrived) hp h hwr h0⟩
    case room =>
      by_cases hwr : atWr
      · have ho : o = x.ring.wr := if_pos hwr
        obtain ⟨hbytes, hpast, hcount, hframe⟩ := x.putAt_accepted x.ring.wr rcd
        rw [ho, Tile.receive_atWr (m := m.arrived) hp h hwr]
        exact ⟨rfl, hbytes, hpast, hcount, fun b hb _ => hframe b hb⟩
      · have ho : o = 0 := if_neg hwr
        obtain ⟨hbytes, hpast, hcount, hframe⟩ := x.skipped_putAt_accepted rcd
        rw [ho, Tile.receive_at0 (m := m.arrived) hp h (hroom.resolve_left hwr)]
        exact ⟨rfl, hbytes, hpast, hcount, fun b hb hm => hframe b hb (hm.resolve_left hwr)⟩
  case answer =>
    intro x
    obtain ⟨u, hu, hfly, hother, hself⟩ := messageAnswer_next hm hc
    obtain ⟨hcore, hstore⟩ := x.signal_core m.flag
    refine ⟨u, hu, hfly, hother, ?_⟩
    rw [hself, Tile.answered_eq]
    refine ⟨rfl, fun hf => ?_, rfl, rfl, (Tile.same_of_core hcore).1, Tile.sameStore_of_store hstore.symm⟩
    rw [Tile.signal_low _ hf]
    exact Tile.sflag_setSflag_self ..

end Sys2Proof.Machine

/-!
PROOFS. Every step keeps the canonical form of the device range and the size of the loaded image's grid (O59).
-/
namespace Sys2Proof.Machine

/-! ### Outcomes that leave the bytes of the device range and the loaded image -/

/-- Whatever state follows `s` by the outcome has the bytes of its device range and its loaded image. -/
def State.KeepsRange (s : State) (o : Host.Outcome State Fault Refusal) : Prop :=
  ∀ u, o = .next u → u.mem.data = s.mem.data ∧ u.vent.image = s.vent.image

@[simp] theorem State.keepsRange_next (s u : State) : s.KeepsRange (.next u) ↔ u.mem.data = s.mem.data ∧ u.vent.image = s.vent.image :=
  ⟨fun h => h u rfl, fun h _ e => Host.Outcome.next.inj e ▸ h⟩

@[simp] theorem State.keepsRange_fault (s : State) (r : Fault) : s.KeepsRange (.fault r) := fun _ e => nomatch e

@[simp] theorem State.recvSeg_data (s : State) (dev : Nat) (g : Seg) : (s.recvSeg dev g).1.mem.data = s.mem.data := by
  unfold State.recvSeg
  dsimp only
  (repeat' split) <;> simp
@[simp] theorem State.recvSeg_image (s : State) (dev : Nat) (g : Seg) : (s.recvSeg dev g).1.vent.image = s.vent.image := by
  unfold State.recvSeg
  dsimp only
  (repeat' split) <;> simp
@[simp] theorem State.onEpoch_data (s : State) (dev : Nat) (g : Seg) (m : EpochMsg) : (s.onEpoch dev g m).1.mem.data = s.mem.data := by
  unfold State.onEpoch
  (repeat' split) <;> simp
@[simp] theorem State.onEpoch_image (s : State) (dev : Nat) (g : Seg) (m : EpochMsg) : (s.onEpoch dev g m).1.vent.image = s.vent.image := by
  unfold State.onEpoch
  (repeat' split) <;> simp
@[simp] theorem foldl_setTile_range (f : State → Nat → Tile) (l : List Nat) (s : State) :
    (l.foldl (fun (u : State) t => u.setTile t (f u t)) s).mem.data = s.mem.data ∧
    (l.foldl (fun (u : State) t => u.setTile t (f u t)) s).vent.image = s.vent.image :=
  ⟨foldl_data (fun (u : State) t => u.setTile t (f u t)) (fun _ _ => rfl) l s,
    foldl_image (fun (u : State) t => u.setTile t (f u t)) (fun _ _ => rfl) l s⟩
theorem ite_range {s a b : State} (c : Prop) [Decidable c] (ha : a.mem.data = s.mem.data ∧ a.vent.image = s.vent.image)
    (hb : b.mem.data = s.mem.data ∧ b.vent.image = s.vent.image) :
    (if c then a else b).mem.data = s.mem.data ∧ (if c then a else b).vent.image = s.vent.image := by
  split <;> assumption

/-! ### The shared forms of a command -/

theorem onTile_range (t : Nat) (s : State) (f : Tile → Tile) : s.KeepsRange (onTile t s f) := fun _ h => ⟨onTile_data h, onTile_image h⟩
/-- A vector instruction also takes a number for the free values. -/
theorem onTile_free_range (t n : Nat) (s : State) (f : Tile → Tile) : s.KeepsRange (onTile t { s with free := n } f) :=
  onTile_range t { s with free := n } f
theorem loadOp_range (opc size t rd h rs : Nat) (imm : BitVec 10) (wr : Tile → Nat → Bool → Tile) (s : State) :
    s.KeepsRange (loadOp opc size t rd h rs imm wr s) := onTile_range _ _ _
theorem storeOp_range (opc size t rsrc h rs : Nat) (imm : BitVec 10) (srcs : List Nat) (s : State) :
    s.KeepsRange (storeOp opc size t rsrc h rs imm srcs s) := onTile_range _ _ _
theorem enqOp_range (q : EQueue) (t rs1 rs2 : Nat) (s : State) : s.KeepsRange (enqOp q t rs1 rs2 s) := onTile_range _ _ _
theorem ctlOp_range (t func : Nat) (f : MsgRing → MsgRing) (s : State) : s.KeepsRange (ctlOp t func f s) := onTile_range _ _ _
theorem aluR_range (func lat : Nat) (op : Word → Word → Word) (t rd rs1 rs2 : Nat) (s : State) :
    s.KeepsRange (aluR func lat op t rd rs1 rs2 s) := onTile_range _ _ _
theorem fpuR_range (func lat : Nat) (op : Word → Word → Word × Flg) (t rd rs1 rs2 : Nat) (s : State) :
    s.KeepsRange (fpuR func lat op t rd rs1 rs2 s) := onTile_range _ _ _
theorem fpu1_range (func : Nat) (op : Word → Word) (t rd rs1 : Nat) (s : State) : s.KeepsRange (fpu1 func op t rd rs1 s) := onTile_range _ _ _
theorem aluI_range (opc : Nat) (op : Word → Word → Word) (t rd rs1 imm : Nat) (v : Word) (s : State) :
    s.KeepsRange (aluI opc op t rd rs1 imm v s) := onTile_range _ _ _
theorem branch_range (opc : Nat) (c : Word → Word → Bool) (t ra rb : Nat) (imm : BitVec 16) (s : State) :
    s.KeepsRange (branch opc c t ra rb imm s) := onTile_range _ _ _
theorem vopfRow_range (fn t : Nat) (s : State) : s.KeepsRange (vopfRow fn t s) := onTile_free_range _ _ _ _
theorem vopiRow_range (fn t : Nat) (s : State) : s.KeepsRange (vopiRow fn t s) := onTile_free_range _ _ _ _
theorem vredRow_range (op t : Nat) (s : State) : s.KeepsRange (vredRow op t s) := onTile_free_range _ _ _ _
theorem rngRow_range (kind t : Nat) (s : State) : s.KeepsRange (rngRow kind t s) := onTile_free_range _ _ _ _
theorem onPort_range {s : State} {f : State → State} (h : (f s).mem.data = s.mem.data ∧ (f s).vent.image = s.vent.image) (p : Nat) :
    s.KeepsRange (onPort p s f) := by
  unfold onPort
  split <;> simp [h]
theorem State.receive_range (s : State) (dev : Nat) (g : Seg) (m : TxpMsg) : s.KeepsRange (s.receive dev g m) := by
  unfold State.receive
  simp
theorem cxlAnswer_range (s : State) (code : Nat) (payload : List Byte) : s.KeepsRange (cxlAnswer s code payload) := by
  unfold cxlAnswer
  simp
theorem jtagOp_range {s : State} {f : State → State} (h : (f s).mem.data = s.mem.data ∧ (f s).vent.image = s.vent.image) :
    s.KeepsRange (jtagOp s f) := by
  unfold jtagOp
  simp [h]
theorem mbox_range {s : State} {run : List Byte → State} (h : ∀ r, (run r).mem.data = s.mem.data ∧ (run r).vent.image = s.vent.image)
    (code : Nat) (sts : List DevSt) (len : Nat → Bool) : s.KeepsRange (mbox code sts len s run) := by
  unfold mbox
  (repeat' split) <;> simp [h]
@[simp] theorem execMsgSend_range (t : Nat) (rp rs1 rs2 : BitVec 5) (flag : BitVec 6) (s : State) : s.KeepsRange (execMsgSend t rp rs1 rs2 flag s) := by
  unfold execMsgSend
  dsimp only
  (repeat' split) <;> simp
@[simp] theorem execWrel_range (t : Nat) (s : State) : s.KeepsRange (execWrel t s) := by
  unfold execWrel
  dsimp only
  (repeat' split) <;> simp
@[simp] theorem execCalderaArrival_range (gid rank : Nat) (ue : Bool) (s : State) : s.KeepsRange (execCalderaArrival gid rank ue s) := by
  unfold execCalderaArrival
  dsimp only
  (repeat' split) <;> simp
@[simp] theorem execBarrierRelease_range (gid : Nat) (s : State) : s.KeepsRange (execBarrierRelease gid s) := by
  unfold execBarrierRelease
  split <;> simp
@[simp] theorem execExchangePhaseEnd_range (gid : Nat) (s : State) : s.KeepsRange (execExchangePhaseEnd gid s) := by
  unfold execExchangePhaseEnd
  (repeat' split) <;> simp
@[simp] theorem execBarrierWatchdogExpiry_range (gid : Nat) (s : State) : s.KeepsRange (execBarrierWatchdogExpiry gid s) := by
  unfold execBarrierWatchdogExpiry
  dsimp only
  split <;> simp
@[simp] theorem execStartGateSet_range (s : State) : s.KeepsRange (execStartGateSet s) := by
  unfold execStartGateSet
  dsimp only
  split <;> simp
@[simp] theorem execPacketSendRead_range (t e j : Nat) (s : State) : s.KeepsRange (execPacketSendRead t e j s) := by
  unfold execPacketSendRead
  (repeat' split) <;> simp
@[simp] theorem execPacketInject_range (id : Nat) (s : State) : s.KeepsRange (execPacketInject id s) := by
  unfold execPacketInject
  split <;> simp
@[simp] theorem execPacketRouterPass_range (id link : Nat) (errs : List PktErr) (s : State) : s.KeepsRange (execPacketRouterPass id link errs s) := by
  unfold execPacketRouterPass
  dsimp only
  (repeat' split) <;> simp
@[simp] theorem execPacketLanding_range (id : Nat) (s : State) : s.KeepsRange (execPacketLanding id s) := by
  unfold execPacketLanding
  split <;> simp
@[simp] theorem execScheduleEntryApply_range (n : Nat) (s : State) : s.KeepsRange (execScheduleEntryApply n s) := by
  unfold execScheduleEntryApply
  simp
@[simp] theorem execFrameWaitGrant_range (part : Nat) (s : State) : s.KeepsRange (execFrameWaitGrant part s) := by
  unfold execFrameWaitGrant
  split <;> simp
@[simp] theorem execBasinReadRetry_range (word : Nat) (ok : Bool) (s : State) : s.KeepsRange (execBasinReadRetry word ok s) := by
  unfold execBasinReadRetry
  (repeat' split) <;> simp
@[simp] theorem execMessageArrival_range (id : Nat) (s : State) : s.KeepsRange (execMessageArrival id s) := by
  unfold execMessageArrival
  dsimp only
  (repeat' split) <;> simp
@[simp] theorem execMessageAnswer_range (id : Nat) (s : State) : s.KeepsRange (execMessageAnswer id s) := by
  unfold execMessageAnswer
  (repeat' split) <;> simp
@[simp] theorem execArbiterRequest_range (p : Nat) (r : Requester) (x : XferReq) (s : State) : s.KeepsRange (execArbiterRequest p r x s) := by
  unfold execArbiterRequest
  refine onPort_range ?_ p
  simp
@[simp] theorem execFrameTxEnd_range (p : Nat) (s : State) : s.KeepsRange (execFrameTxEnd p s) := by
  unfold execFrameTxEnd
  refine onPort_range ?_ p
  split <;> simp
-- TODO requesterMask
@[simp] theorem execDirectDataFrame_range (p : Nat) (f : DFrame) (s : State) : s.KeepsRange (execDirectDataFrame p f s) := by
  unfold execDirectDataFrame
  refine onPort_range ?_ p
  simp
@[simp] theorem execLack_range (p ackseq : Nat) (s : State) : s.KeepsRange (execLack p ackseq s) := by
  unfold execLack
  refine onPort_range ?_ p
  simp
@[simp] theorem execLnak_range (p ackseq : Nat) (s : State) : s.KeepsRange (execLnak p ackseq s) := by
  unfold execLnak
  refine onPort_range ?_ p
  dsimp only
  (repeat' split) <;> simp
@[simp] theorem execEthFrame_range (p : Nat) (f : EFrame) (s : State) : s.KeepsRange (execEthFrame p f s) := by
  unfold execEthFrame
  refine onPort_range ?_ p
  simp
@[simp] theorem execPortTrained_range (p : Nat) (ident : Bool) (s : State) : s.KeepsRange (execPortTrained p ident s) := by
  unfold execPortTrained
  refine onPort_range ?_ p
  simp
@[simp] theorem execLaneLockLoss_range (p lane : Nat) (s : State) : s.KeepsRange (execLaneLockLoss p lane s) := by
  unfold execLaneLockLoss
  refine onPort_range ?_ p
  simp
@[simp] theorem execFecBurst_range (p lane : Nat) (s : State) : s.KeepsRange (execFecBurst p lane s) := by
  unfold execFecBurst
  refine onPort_range ?_ p
  simp
-- TODO retrainAttemptTimeout
@[simp] theorem execDirectIdentTimeout_range (p : Nat) (s : State) : s.KeepsRange (execDirectIdentTimeout p s) := by
  unfold execDirectIdentTimeout
  refine onPort_range ?_ p
  simp
@[simp] theorem execTransferRestart_range (id : Nat) (s : State) : s.KeepsRange (execTransferRestart id s) := by
  unfold execTransferRestart
  simp
@[simp] theorem execMessageEgress_range (e : EgressEv) (s : State) : s.KeepsRange (execMessageEgress e s) := by
  unfold execMessageEgress
  split <;> simp
@[simp] theorem execHelloOffer_range (p dev vmaj vmin : Nat) (payload : List Byte) (s : State) : s.KeepsRange (execHelloOffer p dev vmaj vmin payload s) := by
  unfold execHelloOffer
  refine onPort_range ?_ p
  (repeat' split) <;> simp
@[simp] theorem execHelloAnswer_range (p dev : Nat) (payload : List Byte) (s : State) : s.KeepsRange (execHelloAnswer p dev payload s) := by
  unfold execHelloAnswer
  refine onPort_range ?_ p
  split <;> simp
@[simp] theorem execHelloConfirm_range (p dev : Nat) (payload : List Byte) (s : State) : s.KeepsRange (execHelloConfirm p dev payload s) := by
  unfold execHelloConfirm
  refine onPort_range ?_ p
  split <;> simp
@[simp] theorem execHelloPing_range (dev : Nat) (g : Seg) (s : State) : s.KeepsRange (execHelloPing dev g s) := by
  unfold execHelloPing
  simp
@[simp] theorem execHelloPong_range (dev : Nat) (g : Seg) (s : State) : s.KeepsRange (execHelloPong dev g s) := by
  unfold execHelloPong
  simp
@[simp] theorem execHelloClose_range (dev : Nat) (g : Seg) (s : State) : s.KeepsRange (execHelloClose dev g s) := by
  unfold execHelloClose
  dsimp only
  (repeat' split) <;> simp
@[simp] theorem execSegmentAuthFail_range (dev : Nat) (why : AuthFail) (s : State) : s.KeepsRange (execSegmentAuthFail dev why s) := by
  unfold execSegmentAuthFail
  dsimp only
  (repeat' split) <;> simp
@[simp] theorem execEpoch_range (dev : Nat) (g : Seg) (m : EpochMsg) (s : State) : s.KeepsRange (execEpoch dev g m s) := by
  unfold execEpoch
  dsimp only
  split <;> simp
-- TODO reject
-- TODO auditReq
@[simp] theorem execTHsExpiry_range (dev : Nat) (s : State) : s.KeepsRange (execTHsExpiry dev s) := by
  unfold execTHsExpiry
  (repeat' split) <;> simp
@[simp] theorem execTPingExpiry_range (dev : Nat) (s : State) : s.KeepsRange (execTPingExpiry dev s) := by
  unfold execTPingExpiry
  simp
@[simp] theorem execTSessExpiry_range (dev : Nat) (s : State) : s.KeepsRange (execTSessExpiry dev s) := by
  unfold execTSessExpiry
  simp
@[simp] theorem execTReconExpiry_range (dev : Nat) (s : State) : s.KeepsRange (execTReconExpiry dev s) := by
  unfold execTReconExpiry
  simp
@[simp] theorem execTContribExpiry_range (part : Nat) (s : State) : s.KeepsRange (execTContribExpiry part s) := by
  unfold execTContribExpiry
  dsimp only
  (repeat' split) <;> simp
@[simp] theorem execTInclExpiry_range (s : State) : s.KeepsRange (execTInclExpiry s) := by
  unfold execTInclExpiry
  split <;> simp
@[simp] theorem execTFreezeExpiry_range (s : State) : s.KeepsRange (execTFreezeExpiry s) := by
  unfold execTFreezeExpiry
  dsimp only
  (repeat' split) <;> simp
@[simp] theorem execTLeadDeputyExpiry_range (s : State) : s.KeepsRange (execTLeadDeputyExpiry s) := by
  unfold execTLeadDeputyExpiry
  dsimp only
  (repeat' split) <;> simp
@[simp] theorem execTLeadStepDown_range (s : State) : s.KeepsRange (execTLeadStepDown s) := by
  unfold execTLeadStepDown
  simp
@[simp] theorem execTLeadDeputyLost_range (s : State) : s.KeepsRange (execTLeadDeputyLost s) := by
  unfold execTLeadDeputyLost
  dsimp only
  (repeat' split) <;> simp
@[simp] theorem execTJoinExpiry_range (s : State) : s.KeepsRange (execTJoinExpiry s) := by
  unfold execTJoinExpiry
  (repeat' split) <;> simp
@[simp] theorem execTXferExpiry_range (dev cls xfer : Nat) (s : State) : s.KeepsRange (execTXferExpiry dev cls xfer s) := by
  unfold execTXferExpiry
  (repeat' split) <;> simp
@[simp] theorem execTWinExpiry_range (id : Nat) (s : State) : s.KeepsRange (execTWinExpiry id s) := by
  unfold execTWinExpiry
  (repeat' split) <;> simp
@[simp] theorem execTAuditExpiry_range (s : State) : s.KeepsRange (execTAuditExpiry s) := by
  unfold execTAuditExpiry
  (repeat' split) <;> simp
@[simp] theorem execSessionLifetimeLimit_range (dev : Nat) (s : State) : s.KeepsRange (execSessionLifetimeLimit dev s) := by
  unfold execSessionLifetimeLimit
  simp
@[simp] theorem execSessionDown60s_range (dev : Nat) (s : State) : s.KeepsRange (execSessionDown60s dev s) := by
  unfold execSessionDown60s
  simp
@[simp] theorem execJournalBatchWrite_range (s : State) : s.KeepsRange (execJournalBatchWrite s) := by
  unfold execJournalBatchWrite
  dsimp only
  split <;> simp
@[simp] theorem execJournalCompaction_range (s : State) : s.KeepsRange (execJournalCompaction s) := by
  unfold execJournalCompaction
  dsimp only
  (repeat' split) <;> simp
@[simp] theorem execCounterShadowPoll_range (s : State) : s.KeepsRange (execCounterShadowPoll s) := by
  unfold execCounterShadowPoll
  simp
@[simp] theorem execHeartbeatTick_range (s : State) : s.KeepsRange (execHeartbeatTick s) := by
  unfold execHeartbeatTick
  simp
@[simp] theorem execWinRefusedEvent_range (s : State) : s.KeepsRange (execWinRefusedEvent s) := by
  unfold execWinRefusedEvent
  dsimp only
  split <;> simp
@[simp] theorem execMonitorSample_range (temps : List Int) (volts : List Nat) (oscs : List Nat) (s : State) : s.KeepsRange (execMonitorSample temps volts oscs s) := by
  unfold execMonitorSample
  split <;> simp
@[simp] theorem execPacingLevelUpdate_range (s : State) : s.KeepsRange (execPacingLevelUpdate s) := by
  unfold execPacingLevelUpdate
  dsimp only
  (repeat' split) <;> simp
@[simp] theorem execThermalTrip_range (sensor : Nat) (s : State) : s.KeepsRange (execThermalTrip sensor s) := by
  unfold execThermalTrip
  (repeat' split) <;> simp
@[simp] theorem execVoltageExcursion_range (monitor mv : Nat) (wide : Bool) (s : State) : s.KeepsRange (execVoltageExcursion monitor mv wide s) := by
  unfold execVoltageExcursion
  (repeat' split) <;> simp
@[simp] theorem execRingOscillatorCheck_range (shifts : List Int) (s : State) : s.KeepsRange (execRingOscillatorCheck shifts s) := by
  unfold execRingOscillatorCheck
  simp
@[simp] theorem execPldmSensorUpdate_range (s : State) : s.KeepsRange (execPldmSensorUpdate s) := by
  unfold execPldmSensorUpdate
  simp
@[simp] theorem execInputEdgeAccept_range (i : ExtInput) (level : Bool) (s : State) : s.KeepsRange (execInputEdgeAccept i level s) := by
  unfold execInputEdgeAccept
  dsimp only
  (repeat' split) <;> simp
@[simp] theorem execInputStuck_range (i : ExtInput) (s : State) : s.KeepsRange (execInputStuck i s) := by
  unfold execInputStuck
  dsimp only
  (repeat' split) <;> simp
@[simp] theorem execIeee1588Lock_range (p sec ns : Nat) (s : State) : s.KeepsRange (execIeee1588Lock p sec ns s) := by
  unfold execIeee1588Lock
  refine onPort_range ?_ p
  simp
@[simp] theorem execErrorReport_range (r : ErrEv) (src : Nat) (s : State) : s.KeepsRange (execErrorReport r src s) := by
  unfold execErrorReport
  dsimp only
  (repeat' split) <;> simp
@[simp] theorem execSummaryForward_range (gid code : Nat) (s : State) : s.KeepsRange (execSummaryForward gid code s) := by
  unfold execSummaryForward
  dsimp only
  (repeat' split) <;> simp
@[simp] theorem execLedgerEntryCreate_range (s : State) : s.KeepsRange (execLedgerEntryCreate s) := by
  unfold execLedgerEntryCreate
  (repeat' split) <;> simp
@[simp] theorem execLedgerEntryHandle_range (s : State) : s.KeepsRange (execLedgerEntryHandle s) := by
  unfold execLedgerEntryHandle
  dsimp only
  (repeat' split) <;> simp
@[simp] theorem execHandlerTimeout_range (s : State) : s.KeepsRange (execHandlerTimeout s) := by
  unfold execHandlerTimeout
  split <;> simp
@[simp] theorem execFirmwareVerify_range (s : State) : s.KeepsRange (execFirmwareVerify s) := by
  unfold execFirmwareVerify
  dsimp only
  (repeat' split) <;> simp
@[simp] theorem execJournalMount_range (s : State) : s.KeepsRange (execJournalMount s) := by
  unfold execJournalMount
  dsimp only
  (repeat' split) <;> simp
@[simp] theorem execSelfTestComplete_range (r : SelfTest) (s : State) : s.KeepsRange (execSelfTestComplete r s) := by
  unfold execSelfTestComplete
  dsimp only
  split <;> simp
@[simp] theorem execRepairMapMerge_range (s : State) : s.KeepsRange (execRepairMapMerge s) := by
  unfold execRepairMapMerge
  dsimp only
  (repeat' split) <;> simp
@[simp] theorem execInputRise39v_range (s : State) : s.KeepsRange (execInputRise39v s) := by
  unfold execInputRise39v
  simp
@[simp] theorem execCxlFunctionReset_range (s : State) : s.KeepsRange (execCxlFunctionReset s) := by
  unfold execCxlFunctionReset
  simp
@[simp] theorem execHdmRead_range (off : Nat) (s : State) : s.KeepsRange (execHdmRead off s) := by
  unfold execHdmRead
  dsimp only
  (repeat' split) <;> simp
-- TODO cxlUnsupportedOpcode
@[simp] theorem execUnsupportedCommand_range (s : State) : s.KeepsRange (execUnsupportedCommand s) := by
  unfold execUnsupportedCommand
  (repeat' split) <;> simp
@[simp] theorem execIdentify_range (s : State) : s.KeepsRange (execIdentify s) := by
  unfold execIdentify
  refine mbox_range (fun r => ?_) _ _ _
  simp
@[simp] theorem execGetState_range (s : State) : s.KeepsRange (execGetState s) := by
  unfold execGetState
  refine mbox_range (fun r => ?_) _ _ _
  simp
@[simp] theorem execGetHealth_range (s : State) : s.KeepsRange (execGetHealth s) := by
  unfold execGetHealth
  refine mbox_range (fun r => ?_) _ _ _
  simp
@[simp] theorem execGetErrledger_range (s : State) : s.KeepsRange (execGetErrledger s) := by
  unfold execGetErrledger
  refine mbox_range (fun r => ?_) _ _ _
  simp
@[simp] theorem execGetCounters_range (s : State) : s.KeepsRange (execGetCounters s) := by
  unfold execGetCounters
  refine mbox_range (fun r => ?_) _ _ _
  simp
@[simp] theorem execBarPending_range (s : State) : s.KeepsRange (execBarPending s) := by
  unfold execBarPending
  refine mbox_range (fun r => ?_) _ _ _
  simp
@[simp] theorem execImageLoad_range (s : State) : s.KeepsRange (execImageLoad s) := by
  unfold execImageLoad
  refine mbox_range (fun r => ?_) _ _ _
  simp
@[simp] theorem execImageStopSignal_range (s : State) : s.KeepsRange (execImageStopSignal s) := by
  unfold execImageStopSignal
  refine mbox_range (fun r => ?_) _ _ _
  simp
@[simp] theorem execImageStopHalt_range (s : State) : s.KeepsRange (execImageStopHalt s) := by
  unfold execImageStopHalt
  refine mbox_range (fun r => ?_) _ _ _
  simp
@[simp] theorem execCtxRestore_range (s : State) : s.KeepsRange (execCtxRestore s) := by
  unfold execCtxRestore
  refine mbox_range (fun r => ?_) _ _ _
  split <;> simp
@[simp] theorem execHdmMap_range (s : State) : s.KeepsRange (execHdmMap s) := by
  unfold execHdmMap
  refine mbox_range (fun r => ?_) _ _ _
  simp
@[simp] theorem execWinQuery_range (s : State) : s.KeepsRange (execWinQuery s) := by
  unfold execWinQuery
  refine mbox_range (fun r => ?_) _ _ _
  simp
@[simp] theorem execPartnerAdd_range (s : State) : s.KeepsRange (execPartnerAdd s) := by
  unfold execPartnerAdd
  refine mbox_range (fun r => ?_) _ _ _
  simp
@[simp] theorem execPartnerRemove_range (s : State) : s.KeepsRange (execPartnerRemove s) := by
  unfold execPartnerRemove
  refine mbox_range (fun r => ?_) _ _ _
  simp
-- TODO portCfg
@[simp] theorem execPortStatus_range (s : State) : s.KeepsRange (execPortStatus s) := by
  unfold execPortStatus
  refine mbox_range (fun r => ?_) _ _ _
  simp
@[simp] theorem execTxpTimers_range (s : State) : s.KeepsRange (execTxpTimers s) := by
  unfold execTxpTimers
  refine mbox_range (fun r => ?_) _ _ _
  simp
@[simp] theorem execTxpStatus_range (s : State) : s.KeepsRange (execTxpStatus s) := by
  unfold execTxpStatus
  refine mbox_range (fun r => ?_) _ _ _
  simp
@[simp] theorem execForceTakeover_range (s : State) : s.KeepsRange (execForceTakeover s) := by
  unfold execForceTakeover
  refine mbox_range (fun r => ?_) _ _ _
  simp
@[simp] theorem execJrnInfo_range (s : State) : s.KeepsRange (execJrnInfo s) := by
  unfold execJrnInfo
  refine mbox_range (fun r => ?_) _ _ _
  simp
@[simp] theorem execJrnRead_range (s : State) : s.KeepsRange (execJrnRead s) := by
  unfold execJrnRead
  refine mbox_range (fun r => ?_) _ _ _
  simp
@[simp] theorem execJrnAckClose_range (s : State) : s.KeepsRange (execJrnAckClose s) := by
  unfold execJrnAckClose
  refine mbox_range (fun r => ?_) _ _ _
  simp
@[simp] theorem execGetIdentity_range (s : State) : s.KeepsRange (execGetIdentity s) := by
  unfold execGetIdentity
  refine mbox_range (fun r => ?_) _ _ _
  simp
@[simp] theorem execAttestQuote_range (s : State) : s.KeepsRange (execAttestQuote s) := by
  unfold execAttestQuote
  refine mbox_range (fun r => ?_) _ _ _
  simp
@[simp] theorem execFwWrite_range (s : State) : s.KeepsRange (execFwWrite s) := by
  unfold execFwWrite
  refine mbox_range (fun r => ?_) _ _ _
  simp
@[simp] theorem execFwCommit_range (s : State) : s.KeepsRange (execFwCommit s) := by
  unfold execFwCommit
  refine mbox_range (fun r => ?_) _ _ _
  simp
@[simp] theorem execFwCommitDone_range (s : State) : s.KeepsRange (execFwCommitDone s) := by
  unfold execFwCommitDone
  (repeat' split) <;> simp
@[simp] theorem execDebugOpen_range (s : State) : s.KeepsRange (execDebugOpen s) := by
  unfold execDebugOpen
  refine mbox_range (fun r => ?_) _ _ _
  simp
@[simp] theorem execDebugClose_range (s : State) : s.KeepsRange (execDebugClose s) := by
  unfold execDebugClose
  refine mbox_range (fun r => ?_) _ _ _
  simp
@[simp] theorem execSyncfSet_range (s : State) : s.KeepsRange (execSyncfSet s) := by
  unfold execSyncfSet
  refine mbox_range (fun r => ?_) _ _ _
  simp
@[simp] theorem execSyncfRead_range (s : State) : s.KeepsRange (execSyncfRead s) := by
  unfold execSyncfRead
  refine mbox_range (fun r => ?_) _ _ _
  simp
@[simp] theorem execTregRead_range (s : State) : s.KeepsRange (execTregRead s) := by
  unfold execTregRead
  refine mbox_range (fun r => ?_) _ _ _
  simp
@[simp] theorem execTstoreRead_range (s : State) : s.KeepsRange (execTstoreRead s) := by
  unfold execTstoreRead
  refine mbox_range (fun r => ?_) _ _ _
  simp
@[simp] theorem execMailboxWriteWhileBusy_range (off : Nat) (v : Word) (s : State) : s.KeepsRange (execMailboxWriteWhileBusy off v s) := by
  unfold execMailboxWriteWhileBusy
  simp
@[simp] theorem execEvqHeadWrite_range (v : Word) (s : State) : s.KeepsRange (execEvqHeadWrite v s) := by
  unfold execEvqHeadWrite
  simp
@[simp] theorem execPortnCfgWriteDisable_range (p : Nat) (v : Word) (s : State) : s.KeepsRange (execPortnCfgWriteDisable p v s) := by
  unfold execPortnCfgWriteDisable
  refine onPort_range ?_ p
  simp
@[simp] theorem execPortnCfgWriteEnable_range (p : Nat) (v : Word) (s : State) : s.KeepsRange (execPortnCfgWriteEnable p v s) := by
  unfold execPortnCfgWriteEnable
  refine onPort_range ?_ p
  simp
-- TODO rcCounterRead
@[simp] theorem execLatchedLowWordRead_range (c : LatchReg) (high : Bool) (s : State) : s.KeepsRange (execLatchedLowWordRead c high s) := by
  unfold execLatchedLowWordRead
  (repeat' split) <;> simp
@[simp] theorem execMsgNackRead_range (t : Nat) (s : State) : s.KeepsRange (execMsgNackRead t s) := by
  unfold execMsgNackRead
  split <;> simp
@[simp] theorem execTsqEntryRead_range (p word : Nat) (s : State) : s.KeepsRange (execTsqEntryRead p word s) := by
  unfold execTsqEntryRead
  refine onPort_range ?_ p
  simp
-- TODO registerWrite
@[simp] theorem execJtagBypass_range (tdi : Bool) (s : State) : s.KeepsRange (execJtagBypass tdi s) := jtagOp_range ⟨rfl, rfl⟩
@[simp] theorem execJtagIdcode_range (s : State) : s.KeepsRange (execJtagIdcode s) := jtagOp_range ⟨rfl, rfl⟩
@[simp] theorem execJtagSamplePreload_range (pins preload : List Bool) (s : State) : s.KeepsRange (execJtagSamplePreload pins preload s) := jtagOp_range ⟨rfl, rfl⟩
@[simp] theorem execJtagExtest_range (tdi : Bool) (s : State) : s.KeepsRange (execJtagExtest tdi s) := by
  unfold execJtagExtest
  refine jtagOp_range ?_
  simp
@[simp] theorem execJtagRegisterRead_range (t off : Nat) (tdi : Bool) (s : State) : s.KeepsRange (execJtagRegisterRead t off tdi s) := by
  unfold execJtagRegisterRead
  refine jtagOp_range ?_
  simp
@[simp] theorem execJtagSyncfSet_range (t flag value : Nat) (tdi : Bool) (s : State) : s.KeepsRange (execJtagSyncfSet t flag value tdi s) := by
  unfold execJtagSyncfSet
  refine jtagOp_range ?_
  simp
@[simp] theorem execTrstNReset_range (low : Bool) (s : State) : s.KeepsRange (execTrstNReset low s) := by
  unfold execTrstNReset
  simp
@[simp] theorem execMctpControlMessage_range (cmd : Nat) (data : List Byte) (s : State) : s.KeepsRange (execMctpControlMessage cmd data s) := by
  unfold execMctpControlMessage
  simp
@[simp] theorem execPldmRequest_range (r : PldmReq) (s : State) : s.KeepsRange (execPldmRequest r s) := by
  unfold execPldmRequest
  simp
@[simp] theorem execSmbusArp_range (addr : Nat) (s : State) : s.KeepsRange (execSmbusArp addr s) := by
  unfold execSmbusArp
  simp
@[simp] theorem execSyncOutPulse_range (s : State) : s.KeepsRange (execSyncOutPulse s) := by
  unfold execSyncOutPulse
  simp
@[simp] theorem execHostLinkTraining_range (e : LinkEv) (speed : Nat) (s : State) : s.KeepsRange (execHostLinkTraining e speed s) := by
  unfold execHostLinkTraining
  split <;> simp
@[simp] theorem execPllLock_range (r : PllEnd) (s : State) : s.KeepsRange (execPllLock r s) := by
  unfold execPllLock
  dsimp only
  (repeat' split) <;> simp
@[simp] theorem execFreshJoin_range (s : State) : s.KeepsRange (execFreshJoin s) := by
  unfold execFreshJoin
  split <;> simp
@[simp] theorem execRequesterMask_range (r : Requester) (masked : Bool) (s : State) : s.KeepsRange (execRequesterMask r masked s) := by
  unfold execRequesterMask
  dsimp only
  split
  · simp
  · split
    · rw [State.keepsRange_next, foldl_data _ (fun u e => by simp), foldl_image _ (fun u e => by simp)]
      exact ⟨rfl, rfl⟩
    · simp
/-- The attempt's length is left open: its numeral, 270,000,000 cycles, is no number to compute with. -/
theorem retryAfter_range (p wait : Nat) (s : State) :
    s.KeepsRange (onPort p s fun u => if (u.port p).tryAt + wait ≤ u.cc then u.retry p else u) :=
  onPort_range (ite_range _ ⟨State.retry_data _ _, State.retry_image _ _⟩ ⟨rfl, rfl⟩) p
@[simp] theorem execRetrainAttemptTimeout_range (p : Nat) (s : State) : s.KeepsRange (execRetrainAttemptTimeout p s) :=
  retryAfter_range p attemptCc s
@[simp] theorem execReject_range (dev : Nat) (g : Seg) (m : RejectMsg) (s : State) : s.KeepsRange (execReject dev g m s) := by
  unfold execReject
  split
  · exact s.receive_range _ _ _
  · split <;> simp
@[simp] theorem execAuditReq_range (dev : Nat) (g : Seg) (id : ContribId) (s : State) : s.KeepsRange (execAuditReq dev g id s) := by
  unfold execAuditReq
  split
  · simp
  · exact s.receive_range _ _ _
@[simp] theorem execCxlUnsupportedOpcode_range (opcode : Nat) (s : State) : s.KeepsRange (execCxlUnsupportedOpcode opcode s) := by
  unfold execCxlUnsupportedOpcode
  split
  · simp
  · exact cxlAnswer_range _ _ _
@[simp] theorem execPortCfg_range (s : State) : s.KeepsRange (execPortCfg s) := by
  unfold execPortCfg
  refine mbox_range (fun r => ?_) _ _ _
  split
  · exact ⟨rfl, rfl⟩
  · split
    · exact ⟨rfl, rfl⟩
    · split
      · exact ⟨rfl, rfl⟩
      · exact ⟨by rw [State.complete_data, State.applyPortCfg_data, State.journal_data],
          by rw [State.complete_image, State.applyPortCfg_image, State.journal_image]⟩
@[simp] theorem execRcCounterRead_range (c : CntReg) (s : State) : s.KeepsRange (execRcCounterRead c s) := by
  unfold execRcCounterRead
  cases c with
  | tile t off => dsimp only; (repeat' split) <;> simp
  | xch off => dsimp only; (repeat' split) <;> simp
  | port p off => exact onPort_range (by dsimp only; split <;> exact ⟨rfl, rfl⟩) p
  | _ => simp
@[simp] theorem execRegisterWrite_range (r : WReg) (v : Word) (s : State) : s.KeepsRange (execRegisterWrite r v s) := by
  unfold execRegisterWrite
  dsimp only
  split
  · simp
  · cases r with
    | tile t off => exact onTile_range _ _ _
    | port p off => exact onPort_range ⟨State.portPoke_data _ _ _ _, State.portPoke_image _ _ _ _⟩ p
    | cal off => dsimp only; split <;> simp
    | mig off => dsimp only; split <;> simp
    | _ => simp
theorem State.auditArrive_range {s u : State} {w : Nat} (h : s.auditArrive w = some u) :
    u.mem.data = s.mem.data ∧ u.vent.image = s.vent.image := by
  unfold State.auditArrive at h
  split at h
  · split at h
    · cases h
    · cases h
    · dsimp only at h
      split at h
      · cases h
      · split at h <;> cases h <;> simp
  · cases h
@[simp] theorem execWinArrive_range (s : State) : s.KeepsRange (execWinArrive s) := by
  unfold execWinArrive
  refine mbox_range (fun r => ?_) _ _ _
  dsimp only
  split
  · simp
  · split
    · simp
    · split
      · simp
      · split
        · split
          · simp
          · rename_i hv
            simp [State.auditArrive_range hv]
        · simp
@[simp] theorem execCxlClearEventRecords_range (n : Nat) (s : State) : s.KeepsRange (execCxlClearEventRecords n s) := by
  unfold execCxlClearEventRecords cxlAnswer
  split <;> simp

/-! ### The invariant -/

/-- Whatever state follows `s` by the outcome meets the invariant where `s` does. -/
def State.KeepsInv (s : State) (o : Host.Outcome State Fault Refusal) : Prop := s.Inv → ∀ u, o = .next u → u.Inv

theorem State.rows_of_image {s u : State} (h : u.vent.image = s.vent.image) : u.rows = s.rows := by
  unfold State.rows
  rw [h]

/-- An operation that keeps the canonical form of memory and the loaded image keeps the invariant. -/
theorem State.Inv.of_memWf {s u : State} (h : s.Inv) (hm : s.MemWf → u.MemWf) (hi : u.vent.image = s.vent.image) : u.Inv :=
  ⟨hm h.1, (State.rows_of_image hi).trans_le h.2⟩

theorem State.Inv.of_range {s u : State} (h : s.Inv) (hu : u.mem.data = s.mem.data ∧ u.vent.image = s.vent.image) : u.Inv :=
  h.of_memWf (fun hm => hm.of_data hu.1) hu.2

/-- Without a loaded image the grid counts as the 48 rows of grade 1536. -/
theorem State.Inv.of_noImage {u : State} (hm : u.MemWf) (hi : u.vent.image = none) : u.Inv := by
  refine ⟨hm, ?_⟩
  unfold State.rows
  rw [hi]

theorem State.KeepsRange.keepsInv {s : State} {o : Host.Outcome State Fault Refusal} (h : s.KeepsRange o) : s.KeepsInv o :=
  fun hs u hu => hs.of_range (h u hu)

theorem State.keepsInv_next {s u : State} (h : s.Inv → u.Inv) : s.KeepsInv (.next u) := fun hs _ e => Host.Outcome.next.inj e ▸ h hs

theorem State.keepsInv_fault (s : State) (r : Fault) : s.KeepsInv (.fault r) := fun _ _ e => nomatch e

theorem onPort_keepsInv {s : State} {f : State → State} (h : s.Inv → (f s).Inv) (p : Nat) : s.KeepsInv (onPort p s f) := by
  unfold onPort
  split
  · exact State.keepsInv_next h
  · exact s.keepsInv_fault _

theorem mbox_keepsInv {s : State} {run : List Byte → State} (h : ∀ r, s.Inv → (run r).Inv) (code : Nat) (sts : List DevSt)
    (len : Nat → Bool) : s.KeepsInv (mbox code sts len s run) := by
  unfold mbox
  (repeat' split) <;> refine State.keepsInv_next fun hs => ?_
  case h_2.isFalse.isFalse.isFalse => exact h _ hs
  all_goals exact hs

theorem State.Inv.memWrite {s : State} (h : s.Inv) (a : Nat) (bs : List Byte) (pz : Nat → Bool) : (s.memWrite a bs pz).Inv :=
  h.of_memWf (fun hm => State.memWrite_memWf hm a bs pz) (s.memWrite_image a bs pz)

theorem State.Inv.setTile {s : State} (h : s.Inv) (t : Nat) (x : Tile) : (s.setTile t x).Inv := h

theorem State.Inv.retryColl {s : State} (h : s.Inv) : s.retryColl.Inv := h.of_memWf State.retryColl_memWf s.retryColl_image

theorem State.Inv.releaseWin {s : State} (h : s.Inv) (w t : Nat) : (s.releaseWin w t).Inv :=
  h.of_memWf (fun hm => State.releaseWin_memWf hm w t) (s.releaseWin_image w t)

theorem State.Inv.startImage {s : State} (h : s.Inv) (im : Image) (seed : Dword) : (s.startImage im seed).Inv :=
  h.of_memWf (fun hm => State.startImage_memWf hm im seed) (s.startImage_image im seed)

/-! ### The commands that write the device range -/

theorem execFeedComplete_keepsInv (t id : Nat) (s : State) : s.KeepsInv (execFeedComplete t id s) := by
  unfold execFeedComplete
  split
  · exact s.keepsInv_fault _
  · split
    · exact State.keepsInv_next fun hs => hs
    · split
      · exact State.keepsInv_next fun hs => hs
      · refine State.keepsInv_next fun hs => State.Inv.of_range ?_ ⟨State.feedGone_data _ _ _, State.feedGone_image _ _ _⟩
        split
        · exact (hs.setTile t _).memWrite _ _ _
        · exact hs.of_range ⟨State.memTouch_data _ _ _, State.memTouch_image _ _ _⟩

theorem execWrelTakeEffect_keepsInv (t : Nat) (s : State) : s.KeepsInv (execWrelTakeEffect t s) := by
  unfold execWrelTakeEffect
  split
  · exact s.keepsInv_fault _
  · dsimp only
    split
    · exact State.keepsInv_next fun hs => hs
    · split
      · exact State.keepsInv_next fun hs => hs
      · exact State.keepsInv_next fun hs => (hs.setTile t _).releaseWin _ _

theorem execPromotionComplete_keepsInv (page : Nat) (s : State) : s.KeepsInv (execPromotionComplete page s) := by
  unfold execPromotionComplete
  dsimp only
  split
  · exact State.keepsInv_next fun hs => (hs.of_range (by simp)).retryColl
  · exact State.keepsInv_next fun hs => hs

theorem execWriteBackComplete_keepsInv (page : Nat) (s : State) : s.KeepsInv (execWriteBackComplete page s) := by
  unfold execWriteBackComplete
  dsimp only
  split
  · exact State.keepsInv_next fun hs => hs
  · (repeat' split) <;> exact State.keepsInv_next fun hs => (hs.of_range (by simp)).retryColl

theorem execDataSegment_keepsInv (p dev : Nat) (c : Carriage) (g : Seg) (dst : SegDst) (data : List Byte) (mask : List Bool) (s : State) :
    s.KeepsInv (execDataSegment p dev c g dst data mask s) := by
  unfold execDataSegment
  refine onPort_keepsInv (fun hs => ?_) p
  have hr : (s.recvSeg dev g).1.Inv := hs.of_range (by simp)
  dsimp only
  split
  · exact hs
  · split
    · exact hr
    · split
      · exact hr.of_range (by simp)
      · split
        · exact hs.of_range (by simp)
        · have hl := hr.of_memWf (fun hm => State.landSegment_memWf hm p dev c g dst data mask) (State.landSegment_image ..)
          exact hl.of_range (by simp)

theorem execReductionBlockRelease_keepsInv (cid blk : Nat) (s : State) : s.KeepsInv (execReductionBlockRelease cid blk s) := by
  unfold execReductionBlockRelease
  split
  · exact State.keepsInv_next fun hs => hs
  · split
    · exact State.keepsInv_next fun hs => hs
    · dsimp only
      split
      · refine State.keepsInv_next fun hs => ?_
        split
        · exact (hs.of_memWf (fun hm => State.sumBlock_memWf hm _ _ _ _ _) (State.sumBlock_image ..)).retryColl
        · exact hs
      · refine State.keepsInv_next fun hs => ?_
        split <;> exact hs

theorem execSrcwinArrival_keepsInv (cid : Nat) (s : State) : s.KeepsInv (execSrcwinArrival cid s) := by
  unfold execSrcwinArrival
  split
  · exact State.keepsInv_next fun hs => hs
  · split
    · exact State.keepsInv_next fun hs => hs
    · refine State.keepsInv_next fun hs => ?_
      dsimp only
      (repeat' split) <;> exact (hs.of_range (by simp)).retryColl

theorem execHdmWrite_keepsInv (off : Nat) (data : List Byte) (poison : Bool) (s : State) : s.KeepsInv (execHdmWrite off data poison s) := by
  unfold execHdmWrite
  dsimp only
  split
  · exact State.keepsInv_next fun hs => hs
  · split
    · exact State.keepsInv_next fun hs => hs.of_range (by simp)
    · split
      · exact State.keepsInv_next fun hs => hs
      · exact State.keepsInv_next fun hs => hs.memWrite _ _ _

theorem execCtxSave_keepsInv (s : State) : s.KeepsInv (execCtxSave s) := by
  unfold execCtxSave
  refine mbox_keepsInv (fun r hs => ?_) _ _ _
  split
  · exact hs
  · dsimp only
    split
    · exact hs
    · exact ((hs.setTile _ _).memWrite _ _ _).of_range ⟨rfl, rfl⟩

/-! ### The commands that load, start and drop an image, and the resets -/

theorem firstFail_none {l : List (Nat × Bool)} (h : firstFail l = none) : ∀ e ∈ l, e.2 = false := by
  induction l with
  | nil => simp
  | cons e l ih =>
    unfold firstFail at h
    split at h
    · cases h
    · rename_i hb
      exact List.forall_mem_cons.2 ⟨by simpa using hb, ih h⟩

theorem rows_of_checkImage {b : List Byte} {addr len current stepping : Nat} {map : RepairMap} {p : Option Nat × List RouteChoice}
    (h : checkImage b addr len current stepping map = .ok p) : (imgMan b).rows ≤ 48 := by
  unfold checkImage at h
  split at h
  · cases h
  · rename_i hc
    have hm : badManifest b = false := firstFail_none hc (0x0202, badManifest b) (by simp)
    have hg : (imgMan b).grade = 1408 ∧ (imgMan b).rows = 44 ∨ (imgMan b).grade = 1536 ∧ (imgMan b).rows = 48 := by
      unfold badManifest at hm
      simp only [Bool.or_eq_false_iff, Bool.not_eq_false', Bool.or_eq_true, Bool.and_eq_true, beq_iff_eq] at hm
      exact hm.1.1.1.1.1.1.1.1.1.1.2
    omega

theorem State.rows_of_stagedCheck {s : State} {g : Bg} {p : Option Nat × List RouteChoice} (h : s.stagedCheck g = .ok p) :
    (imgMan (s.memBytes g.addr g.len)).rows ≤ 48 := by
  unfold State.stagedCheck at h
  split at h
  · cases h
  · rename_i hc
    exact rows_of_checkImage hc

theorem State.loadImage_inv {s : State} (h : s.Inv) {b : List Byte} (hb : (imgMan b).rows ≤ 48) (skip : Option Nat) (cs : List RouteChoice) :
    (s.loadImage b skip cs).Inv := by
  refine ⟨State.loadImage_memWf h.1 b skip cs, ?_⟩
  have hi : (s.loadImage b skip cs).vent.image = some (imgOf b s.vent.map skip) := by
    unfold State.loadImage
    exact foldl_image _ (fun u r => u.memWrite_image _ _ _) _ _
  unfold State.rows
  rw [hi]
  exact hb

theorem execImageLoadDone_keepsInv (s : State) : s.KeepsInv (execImageLoadDone s) := by
  unfold execImageLoadDone
  split
  · exact State.keepsInv_next fun hs => hs
  · split
    · exact State.keepsInv_next fun hs => hs
    · split
      · exact State.keepsInv_next fun hs => hs.of_range (by simp)
      · dsimp only
        split
        · exact State.keepsInv_next fun hs => hs.of_range (by simp)
        · rename_i hc
          refine State.keepsInv_next fun hs => ?_
          have hu : ∀ a n, (s.memRead a n).Inv := fun a n => hs.of_range ⟨State.memRead_data s a n, State.memRead_image s a n⟩
          exact (State.loadImage_inv (hu _ _) (State.rows_of_stagedCheck hc) _ _).of_range ⟨State.bgDone_data _ _ _ _, State.bgDone_image _ _ _ _⟩

theorem execImageStart_keepsInv (s : State) : s.KeepsInv (execImageStart s) := by
  unfold execImageStart
  split
  · exact State.keepsInv_next fun hs => hs
  · refine mbox_keepsInv (fun r hs => ?_) _ _ _
    split
    · exact hs
    · split
      · exact State.Inv.of_noImage hs.1 rfl
      · exact hs.startImage _ _

theorem execImageUnload_keepsInv (s : State) : s.KeepsInv (execImageUnload s) := by
  unfold execImageUnload
  refine mbox_keepsInv (fun r hs => ?_) _ _ _
  have hd : (s.dropImage.complete stOK []).Inv := State.Inv.of_noImage hs.1 rfl
  exact hd.of_range (by simp)

theorem State.restarted_inv (s : State) (held : Bool) : (s.restarted held).Inv := State.Inv.of_noImage rfl rfl

theorem State.powerFail_inv (s : State) : s.powerFail.Inv := State.Inv.of_noImage rfl rfl

theorem execModuleReset_keepsInv (s : State) : s.KeepsInv (execModuleReset s) := by
  unfold execModuleReset
  refine State.keepsInv_next fun hs => ?_
  split
  · exact s.restarted_inv false
  · exact hs

theorem execResetNAssert_keepsInv (s : State) : s.KeepsInv (execResetNAssert s) := by
  unfold execResetNAssert
  refine State.keepsInv_next fun hs => ?_
  split
  · exact State.restarted_inv _ true
  · exact hs

theorem execAonPowerUp_keepsInv (puf : List Byte) (s : State) : s.KeepsInv (execAonPowerUp puf s) := by
  unfold execAonPowerUp
  refine State.keepsInv_next fun hs => ?_
  split
  · exact hs
  · exact s.restarted_inv true

theorem execAlwaysOnPowerLoss_keepsInv (s : State) : s.KeepsInv (execAlwaysOnPowerLoss s) :=
  State.keepsInv_next fun _ => s.restarted_inv true

theorem execInputFall38v_keepsInv (s : State) : s.KeepsInv (execInputFall38v s) := by
  unfold execInputFall38v
  refine State.keepsInv_next fun hs => ?_
  split
  · exact State.powerFail_inv _
  · exact hs

theorem execRailOutOfLimits_keepsInv (s : State) : s.KeepsInv (execRailOutOfLimits s) := by
  unfold execRailOutOfLimits
  refine State.keepsInv_next fun hs => ?_
  split
  · exact s.powerFail_inv
  · exact hs

/-! ### Every command, and the step -/

/-- No command breaks the invariant: most leave the bytes and the image, the others have their lemmas above. -/
theorem exec_keepsInv (i : Instr) (s : State) : s.KeepsInv (exec i s) := by
  cases i
  case feedComplete t id => exact execFeedComplete_keepsInv t id s
  case wrelTakeEffect t => exact execWrelTakeEffect_keepsInv t s
  case promotionComplete page => exact execPromotionComplete_keepsInv page s
  case writeBackComplete page => exact execWriteBackComplete_keepsInv page s
  case dataSegment p dev c g dst bs mask => exact execDataSegment_keepsInv p dev c g dst bs mask s
  case reductionBlockRelease cid blk => exact execReductionBlockRelease_keepsInv cid blk s
  case srcwinArrival cid => exact execSrcwinArrival_keepsInv cid s
  case moduleReset => exact execModuleReset_keepsInv s
  case resetNAssert => exact execResetNAssert_keepsInv s
  case aonPowerUp puf => exact execAonPowerUp_keepsInv puf s
  case inputFall38v => exact execInputFall38v_keepsInv s
  case railOutOfLimits => exact execRailOutOfLimits_keepsInv s
  case hdmWrite off bs poison => exact execHdmWrite_keepsInv off bs poison s
  case imageLoadDone => exact execImageLoadDone_keepsInv s
  case imageStart => exact execImageStart_keepsInv s
  case imageUnload => exact execImageUnload_keepsInv s
  case ctxSave => exact execCtxSave_keepsInv s
  case alwaysOnPowerLoss => exact execAlwaysOnPowerLoss_keepsInv s
  case fma | movhi | j | jal | jr | trr | trw | mqModeApply | sfWait | sfSig | sfRead | syncFlagGrant | scalarWake | barArrive |
      msgRecv | msgPoll | msgFree | endProg | tileDone | mnop | mld | mldComplete | mma | mmaComplete | sliceComplete | vnop | vsd |
      pkld | rngsetS | rngsetB | vectorComplete | dnop | feed | tileStoreScrub =>
    unfold exec
    exact State.KeepsRange.keepsInv (onTile_range _ _ _)
  case slice | cvt | prism =>
    unfold exec
    exact State.KeepsRange.keepsInv (onTile_free_range _ _ _ _)
  case add | sub | and | or | xor | shl | shr | sra | slt | sltu | mul | mulh | mulhu | div | divu | rem | remu =>
    unfold exec
    exact State.KeepsRange.keepsInv (aluR_range _ _ _ _ _ _ _ _)
  case fadd | fsub | fmul | fmin | fmax | fcmpEq | fcmpLt | fcmpLe =>
    unfold exec
    exact State.KeepsRange.keepsInv (fpuR_range _ _ _ _ _ _ _ _)
  case fabs | fneg =>
    unfold exec
    exact State.KeepsRange.keepsInv (fpu1_range _ _ _ _ _ _)
  case addi | andi | ori | xori | shli | shri | srai | slti | sltui =>
    unfold exec
    exact State.KeepsRange.keepsInv (aluI_range _ _ _ _ _ _ _ _)
  case beq | bne | blt | bge | bltu | bgeu =>
    unfold exec
    exact State.KeepsRange.keepsInv (branch_range _ _ _ _ _ _ _)
  case ldB | ldBu | ldH | ldHu | ldW | ldD =>
    unfold exec
    exact State.KeepsRange.keepsInv (loadOp_range _ _ _ _ _ _ _ _ _)
  case stB | stH | stW | stD =>
    unfold exec
    exact State.KeepsRange.keepsInv (storeOp_range _ _ _ _ _ _ _ _ _)
  case enqF | enqB | enqV | enqD =>
    unfold exec
    exact State.KeepsRange.keepsInv (enqOp_range _ _ _ _ _)
  case msgCtlClose | msgCtlOpen | msgCtlEpoch =>
    unfold exec
    exact State.KeepsRange.keepsInv (ctlOp_range _ _ _ _)
  case vopfMov | vopfFadd | vopfFsub | vopfFmul | vopfFma | vopfFmin | vopfFmax | vopfFabs | vopfFneg | vopfFcmpLt | vopfFcmpLe |
      vopfFcmpEq | vopfFsel | vopfExp2 | vopfLog2 | vopfRcp | vopfRsqrt | vopfSqrt =>
    unfold exec
    exact State.KeepsRange.keepsInv (vopfRow_range _ _ _)
  case vopiMov | vopiIadd | vopiIsub | vopiImul | vopiAnd | vopiOr | vopiXor | vopiShl | vopiShr | vopiSra | vopiImin | vopiImax |
      vopiIsel | vopiIcmpLt | vopiIcmpEq =>
    unfold exec
    exact State.KeepsRange.keepsInv (vopiRow_range _ _ _)
  case vredSum | vredSumsq | vredMax | vredMin | vredArgmax | vredArgmin | vredIsum =>
    unfold exec
    exact State.KeepsRange.keepsInv (vredRow_range _ _ _)
  case rngBits | rngUnif | rngBern | rngGumbel =>
    unfold exec
    exact State.KeepsRange.keepsInv (rngRow_range _ _ _)
  case winHandover | join | leave | stepOpen | stepOpenTakeover | contrib | contribFwd | accept | resendXfer | resendList | resendEpoch |
      resendContrib | stepCloseFreeze | stepCloseFreezeAck | stepCloseFinal | auditReply | auditReport =>
    unfold exec
    exact State.KeepsRange.keepsInv (State.receive_range _ _ _ _)
  case cxlIdentifyMemoryDevice | cxlGetSupportedLogs | cxlGetLog | cxlGetHealthInfo | cxlGetEventRecords =>
    unfold exec
    exact State.KeepsRange.keepsInv (cxlAnswer_range _ _ _)
  all_goals exact State.KeepsRange.keepsInv (by simp [exec])

/-- Settles O59: a command by `exec_keepsInv`, an idle cycle since it leaves the bytes and the image. -/
theorem everyStepKeepsTheInvariant : Obligations.EveryStepKeepsTheInvariant := by
  unfold Obligations.EveryStepKeepsTheInvariant
  intro s u hs hu
  unfold step at hu
  split at hu
  case h_1 => exact Host.Outcome.next.inj hu ▸ hs.of_range ⟨State.tick_data s, State.tick_image s⟩
  case h_2 c l _ => exact exec_keepsInv c { s with pending := l } hs u hu

end Sys2Proof.Machine

/-!
PROOFS. Feeds (O24): what the head of the D-queue does, and what a feed that is done leaves.
-/
namespace Sys2Proof.Machine

/-! ### The head of the D-queue -/

/-- A head whose OPC Table 9-6 does not list stops the program, whichever row looks at it. -/
theorem Tile.dRow_badOpc {x : Tile} {e : QEnt} {l : List QEnt} (hq : x.qd = e :: l) (hw : flagOk (eWflag e.word.toNat) = true)
    (hs : flagOk (eSflag e.word.toNat) = true) (hg : eWflag e.word.toNat = 0x3F ∨ e.granted = true)
    (ho : eOpc e.word.toNat ∉ [0x01, 0x20, 0x30]) (opc : Nat) (body : Tile → QEnt → Nat → Bool → Tile) :
    x.dRow opc body = x.stopAt 0x08 e.pchi := by
  have hgo : (eWflag e.word.toNat == 0x3F || e.granted) = true := by obtain h | h := hg <;> simp [h]
  simp only [List.mem_cons, List.not_mem_nil, or_false, not_or] at ho
  unfold Tile.dRow
  simp only [hq, hgo]
  rw [if_neg (by simp [hw, hs]), if_neg (by simp), if_pos ho]
  rfl

/-- The tile after a FEED has read its descriptor at `a`: tainted where a word of it is poisoned (R52, R225). -/
def Tile.descRead (x : Tile) (a : Nat) : Tile :=
  let u := (x.touch a 16).ask .feed [⟨banksOf a 16, false⟩] []
  if u.anyPz a 16 then u.tainted else u

/-- The read keeps the queue and the state of running. -/
theorem Tile.descRead_keep (x : Tile) (a : Nat) : (x.descRead a).qd = x.qd ∧ (x.descRead a).st = x.st := by
  unfold Tile.descRead
  dsimp only
  split <;> rw [Tile.ask_frame, Tile.touch_frame] <;> exact ⟨rfl, rfl⟩

section
variable {x : Tile} {w a : Nat} (hd : x.fdesc = none) (ha : x.feedTable w = .ok a) (e : QEnt) (go : Bool)
include hd ha

theorem Tile.feedBody_badDesc {c : Byte} (hc : (x.descRead a).feedDesc a = .error c) :
    x.feedBody e w go = (x.descRead a).stopAt c e.pchi := by
  unfold Tile.descRead at hc ⊢
  unfold Tile.feedBody
  simp only [hd, ha, Tile.ctrl_eq]
  rw [hc]

theorem Tile.feedBody_desc {d : FeedDesc} (hc : (x.descRead a).feedDesc a = .ok d) :
    x.feedBody e w go = (x.descRead a).feedStart w go d := by
  unfold Tile.descRead at hc ⊢
  unfold Tile.feedBody
  simp only [hd, ha, Tile.ctrl_eq]
  rw [hc]

end

/-- With 8 feeds in flight, or one that it overlaps, a feed stays at the head with its descriptor. -/
theorem Tile.feedStart_waits {y : Tile} {d : FeedDesc} (h : 8 ≤ y.feeds.length ∨ y.feeds.any (feedsMeet d) = true) (w : Nat) :
    y.feedStart w true d = { y with fdesc := some d } := by
  unfold Tile.feedStart Tile.feedFree
  refine if_pos ?_
  obtain h | h := h
  · simp [h]
  · simp only [h]
    simp

/-- Otherwise it leaves the queue and is in flight. -/
theorem Tile.feedStart_leaves {y : Tile} {d : FeedDesc} {e : QEnt} {l : List QEnt} (hq : y.qd = e :: l) (h : y.feeds.length < 8)
    (hm : y.feeds.any (feedsMeet d) = false) (w : Nat) :
    y.feedStart w true d = { y with
      qd := l
      fdesc := none
      feedNo := y.feedNo + 1
      feeds := y.feeds ++ [{
        id := y.feedNo
        sid := d.sid
        daddr := d.daddr
        out := d.out
        ts := d.ts
        len := d.len
        sflag := eSflag w }] } := by
  unfold Tile.feedStart Tile.feedFree Tile.dLeave
  rw [if_neg (by simp only [hm]; simp [h]), hq]
  rfl

/-! ### A feed that is done -/

/-- The bytes that land in whole words, and every other byte as before. -/
theorem Tile.landWords_byteAt (data : List Byte) (pz : Nat → Bool) (ts n : Nat) (h : 8 * n ≤ data.length) (x : Tile) (b : Nat) :
    (Tile.landWords data pz ts n x).byteAt b = if ts ≤ b ∧ b < ts + 8 * n then data.getD (b - ts) 0 else x.byteAt b := by
  induction n with
  | zero => exact (if_neg (by omega)).symm
  | succ n ih =>
    have hlen : ((data.drop (8 * n)).take 8).length = 8 := by
      rw [List.length_take, List.length_drop]
      omega
    unfold Tile.landWords
    rw [Tile.write_byteAt, hlen, ih (by omega)]
    by_cases hin : ts + 8 * n ≤ b ∧ b < ts + 8 * n + 8
    · rw [if_pos hin, if_pos (by omega), List.getD_eq_getElem?_getD, List.getD_eq_getElem?_getD, List.getElem?_take,
        if_pos (by omega), List.getElem?_drop]
      congr 2
      omega
    · rw [if_neg hin]
      exact if_congr (by omega) rfl rfl

theorem Tile.landWords_frame (data : List Byte) (pz : Nat → Bool) (ts n : Nat) (x : Tile) :
    let z := Tile.landWords data pz ts n x
    z = { x with store := z.store, spz := z.spz, ecc := z.ecc, cnt := z.cnt, reports := z.reports } := by
  induction n with
  | zero => rfl
  | succ n ih =>
    simp only at ih
    simp only [Tile.landWords]
    rw [Tile.write_frame, ih]

/-- The tile that a feed leaves: the feed is gone and has signalled its flag. -/
def Tile.feedDone (y : Tile) (f : FeedFly) (id : Nat) : Tile :=
  ({ y with feeds := y.feeds.filter fun g => g.id != id } : Tile).signal f.sflag

theorem Tile.signal_feeds (x : Tile) (n : Nat) : (x.signal n).feeds = x.feeds := by
  obtain hn | hn | hn : n < 44 ∨ (44 ≤ n ∧ n < 48) ∨ 48 ≤ n := by omega
  · rw [Tile.signal_low _ hn]
    rfl
  · rw [Tile.signal_reserved _ hn.1 hn.2]
    rfl
  · rw [Tile.signal, if_pos hn]

/-- A feed that is done, on a tile whose core, flags and feeds are those of `x`. -/
theorem Tile.feedDone_spec {x y : Tile} (hcore : y.core = x.core) (hsf : y.sf = x.sf) (hfeeds : y.feeds = x.feeds) (f : FeedFly) (id : Nat) :
    (y.feedDone f id).feeds = x.feeds.filter (fun g => g.id != id) ∧ (y.feedDone f id).SameRegs x ∧
      (f.sflag < 44 → (y.feedDone f id).sflag f.sflag = { x.sflag f.sflag with inc := (x.sflag f.sflag).inc + 1 }) := by
  unfold Tile.feedDone
  refine ⟨?_, ?_, fun hn => ?_⟩
  · rw [Tile.signal_feeds, hfeeds]
  · refine (Tile.same_of_core ?_).1
    rw [(Tile.signal_core _ _).1]
    exact hcore
  · rw [Tile.signal_low _ hn, Tile.sflag_setSflag_self]
    unfold Tile.sflag
    rw [hsf]

theorem Tile.feedDone_byteAt (y : Tile) (f : FeedFly) (id b : Nat) : (y.feedDone f id).byteAt b = y.byteAt b := by
  unfold Tile.feedDone Tile.byteAt
  rw [(Tile.signal_core _ _).2]

/-- The bytes of the tile store that a feed reads, its ring taken into account, are there after its reads as before. -/
theorem Tile.seenByte_feedRead (x : Tile) (a n : Nat) (need : List BankNeed) (b : Nat) :
    ((x.touch a n).ask .feed need []).seenByte b = x.seenByte b := by
  rw [Tile.ask_frame, Tile.touch_frame]
  rfl

theorem Tile.getD_seen (x : Tile) (a n : Nat) {i : Nat} (hi : i < n) : (x.seen a n).getD i 0 = x.seenByte (a + i) := by
  simp [Tile.seen, hi]

theorem State.getD_memBytes (s : State) (a n : Nat) {i : Nat} (hi : i < n) :
    (s.memBytes a n).getD i 0 = Sparse.get 0 s.mem.data (a + i) := by
  simp [State.memBytes, Sparse.getRun, hi]

theorem State.memTouch_tiles (s : State) (a n : Nat) : (s.memTouch a n).tiles = s.tiles :=
  (State.besideRead_iff.mp (foldl_keep State.besideRead State.memCheckWord State.besideRead_memCheckWord _ s)).2.2.1

section
variable {s : State} {t id : Nat} {f : FeedFly} (ht : t < 1536) (hfind : (s.tile t).feeds.find? (fun g => g.id == id) = some f)
include ht hfind

theorem execFeedComplete_held (h : s.feedHeld f = true) : exec (.feedComplete t id) s = .next s := by
  show execFeedComplete t id s = _
  unfold execFeedComplete
  rw [if_neg (by omega), hfind]
  exact if_pos h

/-- A feed to the device range that is not held: the bytes its tile sees are written, and the tile has no feed of its number left. -/
theorem execFeedComplete_out (h : s.feedHeld f = false) (ho : f.out = true) :
    let y := ((s.tile t).touch f.ts f.len).ask .feed (runNeeds f.ts f.len 64) []
    exec (.feedComplete t id) s =
      .next (((s.setTile t (y.feedDone f id)).memWrite f.daddr (y.seen f.ts f.len) fun w => y.taint || y.wordPz (f.ts / 8 + (w - f.daddr / 8))).feedGone
        t id) := by
  show execFeedComplete t id s = _
  unfold execFeedComplete
  rw [if_neg (by omega), hfind]
  simp only [h, ho]
  rfl

/-- A feed from the device range that is not held: its whole words land in the tile, which has no feed of its number left. -/
theorem execFeedComplete_in (h : s.feedHeld f = false) (ho : f.out = false) :
    let s0 := s.memTouch f.daddr f.len
    let y := Tile.landWords (s0.memBytes f.daddr f.len) (fun n => s0.mem.wordPz (f.daddr / 8 + n)) f.ts (f.len / 8)
      ((s.tile t).ask .feed (runNeeds f.ts f.len 64) [])
    exec (.feedComplete t id) s = .next ((s0.setTile t (y.feedDone f id)).feedGone t id) := by
  show execFeedComplete t id s = _
  unfold execFeedComplete
  rw [if_neg (by omega), hfind]
  simp only [h, ho]
  rfl

end

/-! ### The head of the queue as a command -/

section
variable {s : State} {t : Nat} {e : QEnt} {l : List QEnt} (ht : t < 1536) (hq : (s.tile t).qd = e :: l)
  (hw : flagOk (eWflag e.word.toNat) = true) (hs : flagOk (eSflag e.word.toNat) = true)
  (hg : eWflag e.word.toNat = 0x3F ∨ e.granted = true)
include ht hq hw hs hg

theorem exec_dnop_leaves (ho : eOpc e.word.toNat = 0x01) (hz : fld e.word.toNat 43 0 = 0) :
    exec (.dnop t) s = .next (s.setTile t (Tile.signal { s.tile t with qd := l } (eSflag e.word.toNat))) := by
  rw [exec_dnop]
  refine onTile_set ht ?_ (Tile.signal_st _ _)
  rw [Tile.dRow_own hq hw hs hg ho (.inl rfl), if_neg (by simp [hz]), if_pos rfl]
  unfold Tile.dLeave
  rw [hq]
  rfl

/-- A FEED whose row is reached runs its body. -/
theorem exec_feed_body (ho : eOpc e.word.toNat = 0x20) :
    exec (.feed t) s = .next (s.afterTile t ((s.tile t).feedBody e e.word.toNat true)) := by
  rw [exec_feed]
  exact onTile_to ht (Tile.dRow_own hq hw hs hg ho (.inr (.inl rfl)) _)

theorem exec_dQueue_badOpc (ho : eOpc e.word.toNat ∉ [0x01, 0x20, 0x30]) :
    ∀ i ∈ [Instr.dnop t, Instr.feed t, Instr.wrel t], exec i s = .next (s.afterTile t ((s.tile t).stopAt 0x08 e.pchi)) := by
  have hrow := Tile.dRow_badOpc hq hw hs hg ho
  simp only [List.forall_mem_cons]
  refine ⟨?_, ?_, ?_, List.forall_mem_nil _⟩
  · rw [exec_dnop]
    exact onTile_to ht (hrow _ _)
  · rw [exec_feed]
    exact onTile_to ht (hrow _ _)
  · exact execWrel_stops ht fun body => hrow _ body

/-- A feed with its descriptor `d` at hand, its tile `y` having the queue and state of the tile before: it waits or leaves. -/
theorem exec_feed_starts (ho : eOpc e.word.toNat = 0x20) {y : Tile} (hyq : y.qd = (s.tile t).qd) (hyst : y.st = (s.tile t).st) {d : FeedDesc}
    (hbody : (s.tile t).feedBody e e.word.toNat true = y.feedStart e.word.toNat true d) :
    ((8 ≤ y.feeds.length ∨ y.feeds.any (feedsMeet d) = true) → exec (.feed t) s = .next (s.setTile t { y with fdesc := some d })) ∧
      (y.feeds.length < 8 → y.feeds.any (feedsMeet d) = false →
        exec (.feed t) s = .next (s.setTile t { y with
          qd := l
          fdesc := none
          feedNo := y.feedNo + 1
          feeds := y.feeds ++ [{
            id := y.feedNo
            sid := d.sid
            daddr := d.daddr
            out := d.out
            ts := d.ts
            len := d.len
            sflag := eSflag e.word.toNat }] })) := by
  rw [exec_feed_body ht hq hw hs hg ho, hbody]
  refine ⟨fun h => ?_, fun h hm => ?_⟩
  · rw [Tile.feedStart_waits h, State.afterTile_same]
    exact hyst
  · rw [Tile.feedStart_leaves (hyq.trans hq) h hm, State.afterTile_same]
    exact hyst

end

/-- Settles O24: the head of the D-queue by its row (`Tile.dRow_own`), a feed that is done by the bytes its words land in. -/
theorem feedsStartAndMove : Obligations.FeedsStartAndMove := by
  unfold Obligations.FeedsStartAndMove
  refine ⟨?_, ?_⟩
  · intro s t e l ht hq x w hw hs hg starts
    refine ⟨exec_dnop_leaves ht hq hw hs hg, fun ho => ?_, exec_dQueue_badOpc ht hq hw hs hg⟩
    have hbody := exec_feed_body ht hq hw hs hg ho
    refine ⟨fun d hd => ?_, fun hd c hc => ?_, fun hd a ha => ?_⟩
    · exact exec_feed_starts ht hq hw hs hg ho rfl rfl (by simp only [Tile.feedBody, hd, x])
    · rw [hbody]
      simp only [Tile.feedBody, hd, hc, x, w]
    · intro u y
      obtain ⟨hyq, hyst⟩ := x.descRead_keep a
      refine ⟨fun c hc => ?_, fun d hd' => ?_⟩
      · rw [hbody, Tile.feedBody_badDesc hd ha e true hc]
        rfl
      · exact exec_feed_starts ht hq hw hs hg ho hyq hyst (Tile.feedBody_desc hd ha e true hd')
  · intro s t id f ht hfind
    refine ⟨execFeedComplete_held ht hfind, fun hheld => ?_⟩
    cases ho : f.out
    case false =>
      refine ⟨_, execFeedComplete_in ht hfind hheld ho, ?_⟩
      set s0 := s.memTouch f.daddr f.len
      set y := Tile.landWords _ _ _ _ _ with hy
      have htile (v : Nat) : s0.tile v = s.tile v := congrArg (fun m => Sparse.get Tile.reset m v) (s.memTouch_tiles f.daddr f.len)
      have hself : ((s0.setTile t (y.feedDone f id)).feedGone t id).tile t = y.feedDone f id := State.tile_setTile_self _ _ _
      have hframe := Tile.landWords_frame (s0.memBytes f.daddr f.len) (fun n => s0.mem.wordPz (f.daddr / 8 + n)) f.ts (f.len / 8)
        ((s.tile t).ask .feed (runNeeds f.ts f.len 64) [])
      rw [← hy, Tile.ask_frame] at hframe
      obtain ⟨hfeeds, hregs, hflag⟩ := Tile.feedDone_spec (x := s.tile t) (y := y) (by rw [hframe]; rfl) (by rw [hframe]) (by rw [hframe]) f id
      rw [hself]
      refine ⟨fun v hv => ((State.tile_setTile ..).trans (if_neg hv)).trans (htile v), hfeeds, hregs, hflag, nofun, fun _ => ⟨?_, fun b => ?_⟩⟩
      · exact s.memTouch_data f.daddr f.len
      · have hlen : 8 * (f.len / 8) ≤ (s0.memBytes f.daddr f.len).length := by
          rw [State.memBytes, Sparse.getRun_length]
          omega
        rw [Tile.feedDone_byteAt, hy, Tile.landWords_byteAt _ _ _ _ hlen, Nat.mul_comm 8, Tile.byteAt, Tile.ask_store]
        split
        next hin => rw [State.getD_memBytes _ _ _ (by omega), s.memTouch_data]
        next => rfl
    case true =>
      refine ⟨_, execFeedComplete_out ht hfind hheld ho, ?_⟩
      set y := ((s.tile t).touch f.ts f.len).ask .feed (runNeeds f.ts f.len 64) [] with hy
      set u := (s.setTile t (y.feedDone f id)).memWrite _ _ _ with hu
      have htile (v : Nat) : (u.feedGone t id).tile v = if v = t then y.feedDone f id else s.tile v := by
        refine Eq.trans ?_ (s.tile_setTile t v (y.feedDone f id))
        exact congrArg (fun m => Sparse.get Tile.reset m v) (State.memWrite_frame _ _ _ _).1
      obtain ⟨hfeeds, hregs, hflag⟩ := Tile.feedDone_spec (x := s.tile t) (y := y) (by rw [hy, Tile.ask_frame, Tile.touch_frame]; rfl)
        (by rw [hy, Tile.ask_frame, Tile.touch_frame]) (by rw [hy, Tile.ask_frame, Tile.touch_frame]) f id
      rw [htile t, if_pos rfl]
      refine ⟨fun v hv => (htile v).trans (if_neg hv), hfeeds, hregs, hflag, fun _ => ⟨fun b => ?_, fun b => ?_⟩, nofun⟩
      · rw [Tile.feedDone_byteAt, hy]
        unfold Tile.byteAt
        rw [Tile.ask_store, Tile.touch_store]
      · show Sparse.get 0 u.mem.data b = _
        have hlen : (y.seen f.ts f.len).length = f.len := by simp [Tile.seen]
        rw [hu, State.memWrite_data, Sparse.get_setRun, hlen, State.setTile_mem]
        split
        next hin => rw [Tile.getD_seen _ _ _ (by omega), hy, Tile.seenByte_feedRead]
        next => rfl

end Sys2Proof.Machine

/-!
PROOFS. Window release (O25): a WREL at the head of the D-queue, and its taking effect.
-/
namespace Sys2Proof.Machine

theorem State.win_setWin (s : State) (w k : Nat) (x : Win) : (s.setWin w x).win k = if k = w then some x else s.win k :=
  Sparse.get_put none s.mem.wins w k (some x)

@[simp] theorem State.win_setWin_self (s : State) (w : Nat) (x : Win) : (s.setWin w x).win w = some x := by
  rw [State.win_setWin, if_pos rfl]

/-! ### A WREL at the head of the D-queue (R231) -/

section
variable {s : State} {t : Nat} {e : QEnt} {l : List QEnt} (ht : t < 1536) (hq : (s.tile t).qd = e :: l)
  (hw : flagOk (eWflag e.word.toNat) = true) (hs : flagOk (eSflag e.word.toNat) = true)
  (hg : eWflag e.word.toNat = 0x3F ∨ e.granted = true) (ho : eOpc e.word.toNat = 0x30)
include ht hq hw hs hg ho

/-- A release that may not be issued stops the program. -/
theorem execWrel_refused (h : s.wrelOk t e.word.toNat = false) :
    exec (.wrel t) s = .next (s.afterTile t ((s.tile t).stopAt 0x08 e.pchi)) := by
  show execWrel t s = _
  unfold execWrel
  simp only [Tile.dRow_own hq hw hs hg ho (.inr (.inr rfl)), h]
  rw [if_neg (by omega), if_neg (by simp)]
  rfl

/-- A release that may be issued leaves the queue; the window records that the tile has issued it. -/
theorem execWrel_issued (h : s.wrelOk t e.word.toNat = true) {v : Win} (hv : s.win (fld e.word.toNat 43 38) = some v) :
    exec (.wrel t) s = .next
      ((s.setTile t { s.tile t with
        qd := l
        wrels := (s.tile t).wrels ++ [⟨fld e.word.toNat 43 38, eSflag e.word.toNat, (s.tile t).feeds.map (·.id)⟩] }).setWin
          (fld e.word.toNat 43 38) { v with issued := v.issued ++ [t] }) := by
  show execWrel t s = _
  unfold execWrel
  simp only [Tile.dRow_own hq hw hs hg ho (.inr (.inr rfl)), h, Bool.not_true, Bool.false_eq_true, if_false, if_true,
    List.getLast?_concat]
  rw [if_neg (by omega), if_pos (by simp), State.afterTile_same]
  · unfold Tile.dLeave
    simp only [hq, List.drop_one, List.tail_cons]
    rw [show (s.setTile t _).win _ = some v from hv]
  · rfl

end

/-- A tile of CONS that has not issued its release of a window that the inside holds may issue it. -/
theorem State.wrelOk_of {s : State} {t w : Nat} {v : Win} (hz : fld w 37 0 = 0) (hv : s.win (fld w 43 38) = some v)
    (hcons : t ∈ gTiles s.rows v.cons) (hin : v.outside = false) (hnew : t ∉ v.issued) : s.wrelOk t w = true := by
  unfold State.wrelOk
  rw [hv]
  simp [hz, hcons, hin, hnew]

/-! ### The release takes effect (R233, R346) -/

section
variable {s : State} {t : Nat} {r : WrelFly} {rest : List WrelFly} (ht : t < 1536) (hr : (s.tile t).wrels = r :: rest)
include ht hr

theorem execWrelTakeEffect_waits (h : ∃ f ∈ (s.tile t).feeds, f.id ∈ r.after) : exec (.wrelTakeEffect t) s = .next s := by
  show execWrelTakeEffect t s = _
  unfold execWrelTakeEffect
  simp only [hr]
  rw [if_neg (by omega), if_pos (by simpa using h)]

theorem execWrelTakeEffect_releases (h : ∀ f ∈ (s.tile t).feeds, f.id ∉ r.after) :
    exec (.wrelTakeEffect t) s = .next ((s.setTile t (Tile.signal { s.tile t with wrels := rest } r.sflag)).releaseWin r.win t) := by
  show execWrelTakeEffect t s = _
  unfold execWrelTakeEffect
  simp only [hr]
  rw [if_neg (by omega), if_neg (by simpa using h)]

end

/-- The tiles of CONS that have released a window once tile `t` has. -/
def Win.releasedWith (v : Win) (t : Nat) : List Nat := if v.released.contains t then v.released else v.released ++ [t]

theorem Win.mem_releasedWith (v : Win) (t k : Nat) : k ∈ v.releasedWith t ↔ k = t ∨ k ∈ v.released := by
  unfold Win.releasedWith
  split
  next h =>
    refine ⟨.inr, ?_⟩
    rintro (rfl | hk)
    · exact List.contains_iff_mem.1 h
    · exact hk
  next => rw [List.mem_append, List.mem_singleton, or_comm]

/-- The window after the last release: the outside holds it, under the next transfer number. -/
def Win.passed (v : Win) : Win :=
  { v with
    outside := true
    xfer := (v.xfer + 1) % 65536
    issued := []
    released := []
    handed := [] }

/-- A window that is the source of no collective starts none. -/
theorem State.startCollectives_none {u : State} {w : Nat} (hwait : u.coll.waiting = []) (hsrc : ∀ d ∈ u.coll.decls, d.2.srcWin ≠ w) :
    u.startCollectives w = u := by
  have hids : u.coll.decls.filter (fun e => e.2.srcWin == w) = [] := by simpa [List.filter_eq_nil_iff] using hsrc
  unfold State.startCollectives
  simp only [hids]
  simp only [List.map_nil, List.filter_nil, List.append_nil]
  exact State.retryColl_idle hwait

section
variable {s : State} {w t : Nat} {v : Win} (hv : s.win w = some v)
include hv

theorem State.releaseWin_eq : s.releaseWin w t =
    if (gTiles s.rows v.cons).all (v.releasedWith t).contains then
      if v.side1 then ((s.setWin w v.passed).startCollectives w).retryColl
      else if (s.setWin w v.passed).isAout w ∧ (s.txp.audit.any fun a => a.running) then (s.setWin w v.passed).auditFinish w
      else (s.setWin w v.passed).post 0x05 (leBytes 1 w)
    else s.setWin w { v with released := v.releasedWith t } := by
  unfold State.releaseWin
  rw [hv]
  rfl

theorem State.releaseWin_stays (h : ¬ ∀ k ∈ gTiles s.rows v.cons, k = t ∨ k ∈ v.released) :
    s.releaseWin w t = s.setWin w { v with released := v.releasedWith t } := by
  rw [State.releaseWin_eq hv, if_neg (by simpa [Win.mem_releasedWith] using h)]

section
variable (h : ∀ k ∈ gTiles s.rows v.cons, k = t ∨ k ∈ v.released)
include h

theorem State.releaseWin_host (hside : v.side1 = false) (haudit : ∀ a, s.txp.audit = some a → a.running = false) :
    s.releaseWin w t = (s.setWin w v.passed).post 0x05 (leBytes 1 w) := by
  have hidle : ¬ ((s.setWin w v.passed).isAout w ∧ (s.txp.audit.any fun a => a.running)) := by
    rintro ⟨-, hrun⟩
    obtain ⟨a, ha, hrun⟩ := Option.any_eq_true _ _ |>.1 hrun
    exact Bool.false_ne_true ((haudit a ha).symm.trans hrun)
  rw [State.releaseWin_eq hv, if_pos (by simpa [Win.mem_releasedWith] using h), if_neg (by simp [hside]), if_neg hidle]

theorem State.releaseWin_partner (hside : v.side1 = true) (hwait : s.coll.waiting = []) (hsrc : ∀ d ∈ s.coll.decls, d.2.srcWin ≠ w) :
    s.releaseWin w t = s.setWin w v.passed := by
  rw [State.releaseWin_eq hv, if_pos (by simpa [Win.mem_releasedWith] using h), if_pos hside]
  rw [State.startCollectives_none (u := s.setWin w v.passed) hwait hsrc]
  exact State.retryColl_idle (s := s.setWin w v.passed) hwait

end

end

/-- Settles O25: issue by the head's row, release by `State.releaseWin` at the tile that has signalled. -/
theorem windowRelease : Obligations.WindowRelease := by
  unfold Obligations.WindowRelease
  refine ⟨?_, ?_⟩
  · intro s t e l ht hq x w hw hs hg ho
    refine ⟨execWrel_refused ht hq hw hs hg ho, fun hz v hv hcons hin hnew => ?_⟩
    have hok := State.wrelOk_of hz hv hcons hin hnew
    exact ⟨_, execWrel_issued ht hq hw hs hg ho hok hv, s.tile_setTile_self t _, State.win_setWin_self _ _ _, rfl⟩
  · intro s t r rest ht hr
    refine ⟨execWrelTakeEffect_waits ht hr, fun h v hv => ?_⟩
    have hrun := execWrelTakeEffect_releases ht hr h
    set x := Tile.signal { s.tile t with wrels := rest } r.sflag
    have hv' : (s.setTile t x).win r.win = some v := hv
    have hx : (s.setTile t x).tile t = x := s.tile_setTile_self t x
    refine ⟨fun hd => ?_, fun hd hside haudit => ?_, fun hd hside hwait hsrc => ?_⟩
    · rw [State.releaseWin_stays hv' hd] at hrun
      exact ⟨_, hrun, hx, ⟨_, State.win_setWin_self _ _ _, (v.mem_releasedWith t t).2 (.inl rfl), rfl, rfl⟩, rfl⟩
    · rw [State.releaseWin_host hv' hd hside haudit] at hrun
      exact ⟨_, ⟨hrun, hx, State.win_setWin_self _ _ _⟩, rfl⟩
    · rw [State.releaseWin_partner hv' hd hside hwait hsrc] at hrun
      exact ⟨_, ⟨hrun, hx, State.win_setWin_self _ _ _⟩, rfl⟩

end Sys2Proof.Machine

/-!
PROOFS. Windows, partners, ports and the job through the mailbox (O54).
-/
namespace Sys2Proof.Machine

/-! ### What the end of a command leaves of the host's side -/

theorem HostIface.hbase_complete (h : HostIface) (status : Nat) (resp : List Byte) : (h.complete status resp).hbase = h.hbase := by
  have hmsi (g : HostIface) : (g.msi 0).hbase = g.hbase := by
    unfold HostIface.msi
    split_ifs <;> rfl
  unfold HostIface.complete
  split
  · rfl
  · exact hmsi _

theorem State.journal_host (s : State) (typ : Nat) (payload : List Byte) (next : JThen) :
    (s.journal typ payload next).host = s.host ∧ (s.journal typ payload next).txp = s.txp ∧ (s.journal typ payload next).ports = s.ports := by
  rw [State.journal_frame]
  exact ⟨rfl, rfl, rfl⟩

/-- A record in the journal changes the journal alone, so the map of what the module has and the device's state stay. -/
theorem State.journal_map (s : State) (typ : Nat) (payload : List Byte) (next : JThen) :
    (s.journal typ payload next).vent.map = s.vent.map ∧ (s.journal typ payload next).vent.dev = s.vent.dev := by
  unfold State.journal
  split <;> exact ⟨rfl, rfl⟩

/-! ### WIN_ARRIVE (R232) -/

/-- The arrival of a window changes tiles and the windows, nothing else. -/
theorem State.arriveWin_only (s : State) (w : Nat) :
    s.arriveWin w = { s with
      tiles := (s.arriveWin w).tiles
      mem := (s.arriveWin w).mem } := by
  have h : ({ s.arriveWin w with
      tiles := []
      mem := Mem.reset } : State) = { s with
      tiles := []
      mem := Mem.reset } := by
    unfold State.arriveWin
    split
    · rfl
    · exact foldl_keep (fun u : State => { u with
        tiles := []
        mem := Mem.reset }) (fun (u : State) t => u.setTile t ((u.tile t).incFlag ‹Win›.aflag)) (fun _ _ => rfl) _ _
  exact congrArg (fun u : State => { u with
    tiles := (s.arriveWin w).tiles
    mem := (s.arriveWin w).mem }) h

/-- It leaves the host's side, Caldera and Vent. -/
theorem State.arriveWin_frame (s : State) (w : Nat) : (s.arriveWin w).host = s.host ∧ (s.arriveWin w).cal = s.cal ∧
    (s.arriveWin w).vent = s.vent := by
  rw [State.arriveWin_only]
  exact ⟨rfl, rfl, rfl⟩

/-- A window back inside: no tile has released it, under the next transfer number. -/
def Win.arrived (x : Win) : Win := { x with outside := false, xfer := (x.xfer + 1) % 2 ^ 16, issued := [], released := [], handed := [] }

section
variable {s : State} {w : Nat} {x : Win} (hx : s.win w = some x)
include hx

theorem State.win_arriveWin : (s.arriveWin w).win w = some x.arrived := by
  unfold State.arriveWin
  rw [hx]
  exact (foldl_keep (fun u : State => u.win w) (fun (u : State) t => u.setTile t ((u.tile t).incFlag x.aflag)) (fun _ _ => rfl) _ _).trans
    (s.win_setWin_self w x.arrived)

theorem State.tile_arriveWin (k : Nat) :
    (s.arriveWin w).tile k = if k ∈ gTiles s.rows x.cons then (s.tile k).incFlag x.aflag else s.tile k := by
  unfold State.arriveWin
  rw [hx]
  exact State.tile_foldl_setTile (fun y => y.incFlag x.aflag) k _ (gTiles_nodup _ _) _

end

/-- A barrier's value that is scheduled leaves the host's side, the memory and the tiles. -/
theorem State.schedRelease_beside (s : State) (gid last : Nat) (v : NVal) : let u := s.schedRelease gid last v
    u.host = s.host ∧ u.mem = s.mem ∧ u.tiles = s.tiles ∧ u.cal.parked = s.cal.parked := by
  have h := s.payIdle_keep gid (fun u => (u.host, u.mem, u.tiles, u.cal.parked)) (fun _ _ _ _ => rfl) (s.idleOf gid)
  simp only [Prod.mk.injEq] at h
  exact h

theorem State.resume_beside (s : State) (w : Nat) : (s.resume w).host = s.host ∧ (s.resume w).mem = s.mem ∧ (s.resume w).tiles = s.tiles := by
  unfold State.resume
  (repeat' split)
  · exact ⟨rfl, rfl, rfl⟩
  · exact ⟨rfl, rfl, rfl⟩
  · obtain ⟨hhost, hmem, htiles, -⟩ := State.schedRelease_beside
      { s with cal := { s.cal with parked := none }, vent := { s.vent with run := { s.vent.run with parked := false } } } 0x5000 s.cc ‹NVal›
    exact ⟨hhost, hmem, htiles⟩

/-- The resume window's arrival ends a park. -/
theorem State.resume_parked {s : State} {w : Nat} (hw : w = s.resumeWin) : (s.resume w).cal.parked = none := by
  unfold State.resume
  split
  next hp => exact hp
  next v hp =>
    rw [if_neg (by simp [hw])]
    exact (State.schedRelease_beside _ 0x5000 s.cc v).2.2.2

theorem State.resume_other {s : State} {w : Nat} (hw : w ≠ s.resumeWin) : s.resume w = s := by
  unfold State.resume
  split
  · rfl
  · exact if_pos hw

section
variable {s : State} {r : List Byte} (ha : s.Asks 0x0301 [.running] (lenIs 1) r)
include ha

theorem exec_winArrive_undeclared (h : 64 ≤ leAt r 0 1 ∨ s.win (leAt r 0 1) = none ∨ ∃ x, s.win (leAt r 0 1) = some x ∧ x.side1 = true) :
    exec .winArrive s = .next (s.complete stWIN_UNDECLARED []) := by
  refine (mbox_run _ ha).trans (congrArg Host.Outcome.next ?_)
  dsimp only
  obtain h | h | ⟨x, hx, hside⟩ := h
  · rw [if_neg (by omega)]
  · rw [h, ite_self]
  · rw [hx]
    by_cases hw : leAt r 0 1 < 64
    · rw [if_pos hw]
      exact if_pos hside
    · rw [if_neg hw]

section
variable {x : Win} (hw : leAt r 0 1 < 64) (hx : s.win (leAt r 0 1) = some x) (hside : x.side1 = false)
include hw hx hside

theorem exec_winArrive_held (hout : x.outside = false) : exec .winArrive s = .next (s.complete stWIN_HELD []) := by
  refine (mbox_run _ ha).trans (congrArg Host.Outcome.next ?_)
  simp only [hw, hx, hside, hout, if_true]
  rfl

/-- The audit's input window waits for bytes that agree with the request. -/
theorem exec_winArrive_auditRefused (hout : x.outside = true) (hain : s.isAin (leAt r 0 1) = true)
    (h : (s.auditRead (leAt r 0 1)).auditArrive (leAt r 0 1) = none) :
    exec .winArrive s = .next ((s.auditRead (leAt r 0 1)).complete stBAD_FIELD []) := by
  refine (mbox_run _ ha).trans (congrArg Host.Outcome.next ?_)
  simp only [hw, hx, hside, hout, hain, h, if_true]
  rfl

theorem exec_winArrive_audited (hout : x.outside = true) (hain : s.isAin (leAt r 0 1) = true) {v : State}
    (h : (s.auditRead (leAt r 0 1)).auditArrive (leAt r 0 1) = some v) :
    exec .winArrive s = .next ((v.resume (leAt r 0 1)).complete stOK []) := by
  refine (mbox_run _ ha).trans (congrArg Host.Outcome.next ?_)
  simp only [hw, hx, hside, hout, hain, h, if_true]
  rfl

theorem exec_winArrive_arrives (hout : x.outside = true) (hain : s.isAin (leAt r 0 1) = false) :
    exec .winArrive s = .next (((s.arriveWin (leAt r 0 1)).resume (leAt r 0 1)).complete stOK []) := by
  refine (mbox_run _ ha).trans (congrArg Host.Outcome.next ?_)
  simp only [hw, hx, hside, hout, hain, if_true]
  rfl

/-- What a host window's arrival leaves: its declaration and the flags of CONS; a park where it is the resume window. -/
theorem exec_winArrive_spec (hout : x.outside = true) (hain : s.isAin (leAt r 0 1) = false) :
    ∃ t : State, exec .winArrive s = .next t ∧
      s.Answered t stOK ∧ t.mem.data = s.mem.data ∧ (leAt r 0 1 = s.resumeWin → t.cal.parked = none) ∧
      (leAt r 0 1 ≠ s.resumeWin → t.cal = s.cal) ∧
      t.win (leAt r 0 1) = some { x with outside := false, xfer := (x.xfer + 1) % 2 ^ 16, issued := [], released := [], handed := [] } ∧
      (∀ k ∈ gTiles s.rows x.cons, t.tile k = (s.tile k).incFlag x.aflag) ∧
      (∀ k, k ∉ gTiles s.rows x.cons → t.tile k = s.tile k) := by
  set w := leAt r 0 1
  obtain ⟨hhost, hcal, hvent⟩ := s.arriveWin_frame w
  obtain ⟨hrhost, hrmem, hrtiles⟩ := (s.arriveWin w).resume_beside w
  have hresume : (s.arriveWin w).resumeWin = s.resumeWin := by
    unfold State.resumeWin
    rw [hvent]
  have htile (k : Nat) : ((s.arriveWin w).resume w).tile k = (s.arriveWin w).tile k := congrArg (fun m => Sparse.get Tile.reset m k) hrtiles
  refine ⟨_, exec_winArrive_arrives ha hw hx hside hout hain, State.answered_complete (congrArg HostIface.inside (hrhost.trans hhost)) _ _,
    ?_, fun h => ?_, fun h => ?_, ?_, fun k hk => ?_, fun k hk => ?_⟩
  · exact (congrArg Mem.data hrmem).trans (s.arriveWin_data w)
  · exact State.resume_parked (h.trans hresume.symm)
  · exact (congrArg State.cal (State.resume_other (hresume ▸ h))).trans hcal
  · exact (congrArg (fun m : Mem => Sparse.get none m.wins w) hrmem).trans (State.win_arriveWin hx)
  · exact (htile k).trans ((State.tile_arriveWin hx k).trans (if_pos hk))
  · exact (htile k).trans ((State.tile_arriveWin hx k).trans (if_neg hk))

end

end

/-! ### Partners (R299, R349) -/

/-- The module with partner `q` listed last, in place of any entry of its device. -/
def State.partnerAdded (s : State) (q : Partner) : State :=
  { s with txp := { s.txp with partners := s.txp.partners.filter (fun (k : Partner) => k.dev != q.dev) ++ [q] } }

/-- The module without the partner of device `dev`. -/
def State.partnerGone (s : State) (dev : Nat) : State :=
  { s with txp := { s.txp with partners := s.txp.partners.filter fun (k : Partner) => k.dev != dev } }

theorem exec_partnerAdd_reserved {s : State} {r : List Byte} (ha : s.Asks 0x0400 stILRE (lenIs 32) r) (h : 4096 ≤ leAt r 8 2) :
    exec .partnerAdd s = .next (s.complete stBAD_FIELD []) :=
  (mbox_run _ ha).trans (congrArg Host.Outcome.next (if_pos h))

section
variable {s : State} {r : List Byte} (ha : s.Asks 0x0400 stILRE (lenIs 32) r) (hports : leAt r 8 2 < 4096)
include ha hports

theorem exec_partnerAdd_full (hnew : s.partner (partnerOf r).dev = none) (hfull : Config.partnerSlots ≤ s.txp.partners.length) :
    exec .partnerAdd s = .next (s.complete stPARTNER []) := by
  refine (mbox_run _ ha).trans (congrArg Host.Outcome.next ?_)
  dsimp only
  rw [if_neg (by omega), if_pos ⟨by rw [hnew]; rfl, hfull⟩]

/-- The partner's entry is the last one of its device; its session is as before. -/
theorem exec_partnerAdd_entry (h : s.partner (partnerOf r).dev ≠ none ∨ s.txp.partners.length < Config.partnerSlots) :
    ∃ t : State, exec .partnerAdd s = .next t ∧
      s.Answered t stOK ∧ t.txp.partners = s.txp.partners.filter (fun k => k.dev != (partnerOf r).dev) ++ [partnerOf r] ∧
      t.txp.sessions = s.txp.sessions := by
  have hroom : ¬ ((s.partner (partnerOf r).dev).isNone ∧ Config.partnerSlots ≤ s.txp.partners.length) := by
    rintro ⟨hnone, hfull⟩
    obtain h | h := h
    · exact h (Option.isNone_iff_eq_none.1 hnone)
    · omega
  have hrun : exec .partnerAdd s = .next (((s.partnerAdded (partnerOf r)).journal 0x21 ([0] ++ r) .nothing).complete stOK []) :=
    (mbox_run _ ha).trans (congrArg Host.Outcome.next ((if_neg (Nat.not_le.2 hports)).trans (if_neg hroom)))
  obtain ⟨hhost, htxp, -⟩ := (s.partnerAdded (partnerOf r)).journal_host 0x21 ([0] ++ r) .nothing
  exact ⟨_, hrun, State.answered_complete (congrArg HostIface.inside hhost) _ _, congrArg Txp.partners htxp,
    (congrArg Txp.sessions htxp).trans rfl⟩

end

/-- What the writing of ports and of the next transfer's number keeps, the sending of a management message keeps. -/
theorem State.mgmt_keep {γ : Type} (π : State → γ) (hport : ∀ u p x, π (State.setPort u p x) = π u)
    (hno : ∀ (u : State) l, π { u with txp := { u.txp with xferNo := l } } = π u) (s : State) (p : Nat) (m : OutMsg) (num : Nat) :
    π (s.mgmt p m num) = π s := by
  unfold State.mgmt
  refine foldl_keep π _ (fun u d => ?_) _ s
  refine Eq.trans ?_ (hno u (Sparse.set 0 u.txp.xferNo 0 ((Sparse.get 0 u.txp.xferNo 0 + 1) % 65536)))
  unfold State.queueAt
  dsimp only
  split
  · rfl
  · exact hport _ _ _

/-- The management messages, the sessions and the hand-shakes of the links between modules, with the commands left inside Vent. -/
def State.links (s : State) : List OutMsg × Sparse Session × Sparse Hand × List (Nat × List Byte) :=
  (s.txp.out, s.txp.sessions, s.txp.hands, s.host.inside)

theorem State.emit_links (s : State) (p : Nat) (m : OutMsg) :
    (s.emit p m).links = (s.txp.out ++ [m], s.txp.sessions, s.txp.hands, s.host.inside) := by
  unfold State.emit
  dsimp only
  split
  · exact State.mgmt_keep State.links (fun _ _ _ => rfl) (fun _ _ => rfl) _ _ _ _
  · rfl

theorem State.holdXfer_host (s : State) (p : Nat) (g : Grant) (fresh waitWin : Bool) : (s.holdXfer p g fresh waitWin).host = s.host := by
  unfold State.holdXfer State.park' State.freshXfer
  dsimp only
  split <;> rfl

theorem State.abandonAt_host (mine : Grant → Bool) (s : State) (p : Nat) : (State.abandonAt mine s p).host = s.host := by
  have hkeep (l : List Grant) (u : State) : (l.foldl (fun (u : State) g => u.keepXfer p g true false) u).host = u.host := by
    refine foldl_keep State.host _ (fun u g => ?_) l u
    unfold State.keepXfer
    split
    · rfl
    · exact u.holdXfer_host _ _ _ _
  unfold State.abandonAt
  simp only [apply_ite State.host, hkeep]
  exact ite_self _

theorem State.renewWaits_host (s : State) (dev : Nat) : (s.renewWaits dev).host = s.host := by
  unfold State.renewWaits
  dsimp only
  refine (foldl_keep State.host _ ?_ _ _).trans (foldl_keep State.host _ ?_ _ _)
  · exact fun _ _ => rfl
  · intro u w
    split <;> rfl

/-- A session that changes its state is in it; the commands left inside Vent stay. -/
theorem State.sessTo_spec (s : State) (dev : Nat) (st : SessSt) :
    ((s.sessTo dev st).sess dev).st = st ∧ (s.sessTo dev st).host.inside = s.host.inside := by
  unfold State.sessTo
  split
  next h => exact ⟨h, rfl⟩
  next =>
    refine ⟨congrArg Session.st (Sparse.get_put_self Session.closed s.txp.sessions dev { s.sess dev with st := st, stAt := s.now }), ?_⟩
    exact HostIface.inside_post ..

/-- What the end of a session does before its state changes: its transfers are given up, what waits is renewed (R300). -/
def State.sessDropped (s : State) (dev : Nat) : State :=
  let s1 := ((List.range 12).foldl (State.abandonAt fun g => g.x.dev == dev) s).renewWaits dev
  let s2 := { s1 with txp := { s1.txp with rx := s1.txp.rx.filter (fun r => r.dev != dev || r.complete),
                                           old := Sparse.del s1.txp.old dev } }
  s2.setSess dev { s2.sess dev with since := s.now }

theorem State.sessDropped_host (s : State) (dev : Nat) : (s.sessDropped dev).host = s.host := by
  have habandon (l : List Nat) : (l.foldl (State.abandonAt fun g => g.x.dev == dev) s).host = s.host :=
    foldl_keep State.host _ (fun u p => State.abandonAt_host _ u p) l s
  unfold State.sessDropped State.setSess
  dsimp only
  rw [State.renewWaits_host, habandon]

theorem State.sessDown_eq (s : State) (dev : Nat) (st : SessSt) :
    s.sessDown dev st = (if s.sessUp dev then s.sessDropped dev else s).sessTo dev st := by
  unfold State.sessDown State.sessDropped
  cases s.sessUp dev
  · simp only [Bool.not_false, if_true, Bool.false_eq_true, if_false]
  · simp only [Bool.not_true, Bool.false_eq_true, if_false, if_true]

theorem State.sessDown_spec (s : State) (dev : Nat) (st : SessSt) :
    ((s.sessDown dev st).sess dev).st = st ∧ (s.sessDown dev st).host.inside = s.host.inside := by
  rw [State.sessDown_eq]
  refine ⟨(State.sessTo_spec _ dev st).1, (State.sessTo_spec _ dev st).2.trans (congrArg HostIface.inside ?_)⟩
  split
  · exact s.sessDropped_host dev
  · rfl

/-- The message that ends a session. -/
def closeMsg (dev epoch : Nat) (x : Session) : OutMsg := { outMsg dev 0x01 6 0 [] [] with session := x.num, epoch := epoch }

theorem State.sendClose_links (s : State) (dev : Nat) (x : Session) :
    (s.sendClose dev x).links = (s.txp.out ++ [closeMsg dev s.txp.epoch x], s.txp.sessions, s.txp.hands, s.host.inside) :=
  State.emit_links { s with txp := { s.txp with old := Sparse.put s.txp.old dev { x with st := .closed } } } x.port (closeMsg dev s.txp.epoch x)

theorem Sparse.find?_del {α : Type} (m : Sparse α) (k : Nat) : (Sparse.del m k).find? (fun e => e.1 == k) = none := by
  induction m with
  | nil => rfl
  | cons e m ih =>
    unfold Sparse.del
    split
    next => exact ih
    next h => rw [List.find?_cons_of_neg (by simpa using fun h' => h h'.symm), ih]

section
variable {s : State} {r : List Byte} (ha : s.Asks 0x0401 stILRE (lenIs 8) r)
include ha

theorem exec_partnerRemove_unknown (h : s.partner (leAt r 0 8) = none) : exec .partnerRemove s = .next (s.complete stPARTNER []) := by
  refine (mbox_run _ ha).trans (congrArg Host.Outcome.next (if_pos ?_))
  rw [h]
  rfl

/-- The partner is gone, its session closed, its hand-shake dropped; an open session is told so. -/
theorem exec_partnerRemove_gone (h : s.partner (leAt r 0 8) ≠ none) : ∃ t : State, exec .partnerRemove s = .next t ∧ s.Answered t stOK ∧
    t.partner (leAt r 0 8) = none ∧ (t.sess (leAt r 0 8)).st = .closed ∧ t.hand (leAt r 0 8) = none ∧
    ((s.sess (leAt r 0 8)).st = .up → ∃ m ∈ t.txp.out, m.dev = leAt r 0 8 ∧ m.mtype = 0x01 ∧ m.kind = 6) := by
  set dev := leAt r 0 8
  obtain ⟨hst, hinside⟩ := s.sessDown_spec dev .closed
  set s1 := (s.sessDown dev .closed).dropHand dev with hs1
  set s2 := if s.sessUp dev then s1.sendClose dev (s.sess dev) else s1 with hs2
  have hrun : exec .partnerRemove s = .next (((s2.partnerGone dev).journal 0x21 ([1] ++ padTo 32 r) .nothing).complete stOK []) :=
    (mbox_run _ ha).trans (congrArg Host.Outcome.next (if_neg fun hn => h (Option.isNone_iff_eq_none.1 hn)))
  obtain ⟨hhost, htxp, -⟩ := (s2.partnerGone dev).journal_host 0x21 ([1] ++ padTo 32 r) .nothing
  have hlinks : s2.links.2 = s1.links.2 := by
    rw [hs2]
    split
    · exact (congrArg Prod.snd (s1.sendClose_links dev _)).trans rfl
    · rfl
  simp only [State.links, Prod.mk.injEq] at hlinks
  obtain ⟨hsess, hhands, hins⟩ := hlinks
  refine ⟨_, hrun, State.answered_complete ((congrArg HostIface.inside hhost).trans (hins.trans hinside)) _ _, ?_, ?_, ?_, fun hup => ?_⟩
  · refine (congrArg (fun x : Txp => x.partners.find? fun q => q.dev == dev) htxp).trans ?_
    simp [State.partnerGone, List.find?_eq_none]
  · refine (congrArg (fun x : Txp => (Sparse.get Session.closed x.sessions dev).st) htxp).trans ?_
    exact (congrArg (fun l => (Sparse.get Session.closed l dev).st) hsess).trans hst
  · refine (congrArg (fun x : Txp => (x.hands.find? fun e => e.1 == dev).map (·.2)) htxp).trans ?_
    refine (congrArg (fun l : Sparse Hand => (l.find? fun e => e.1 == dev).map (·.2)) hhands).trans ?_
    exact congrArg (Option.map _) (Sparse.find?_del _ _)
  · have hout : s2.txp.out = s1.txp.out ++ [closeMsg dev s1.txp.epoch (s.sess dev)] := by
      rw [hs2, if_pos (by simpa [State.sessUp] using hup)]
      exact (congrArg Prod.fst (s1.sendClose_links dev _)).trans rfl
    refine ⟨closeMsg dev s1.txp.epoch (s.sess dev), ?_, rfl, rfl, rfl⟩
    refine (congrArg (fun x : Txp => _ ∈ x.out) htxp).mpr ?_
    show _ ∈ s2.txp.out
    rw [hout]
    exact List.mem_append_right _ (List.mem_singleton_self _)

end

/-! ### The settings of the job (R317, R333, R388) -/

theorem exec_txpTimers_refused {s : State} {r : List Byte} (ha : s.Asks 0x0404 stILRE (lenIs 12) r)
    (h : leAt r 0 4 < 200 ∨ 10000 < leAt r 0 4 ∨ leAt r 4 4 < 1000 ∨ 3600000 < leAt r 4 4 ∨ leAt r 8 4 < 1000 ∨ 60000 < leAt r 8 4) :
    exec .txpTimers s = .next (s.complete stBAD_FIELD []) :=
  (mbox_run _ ha).trans (congrArg Host.Outcome.next (if_pos h))

theorem exec_txpTimers_set {s : State} {r : List Byte} (ha : s.Asks 0x0404 stILRE (lenIs 12) r)
    (h : ¬ (leAt r 0 4 < 200 ∨ 10000 < leAt r 0 4 ∨ leAt r 4 4 < 1000 ∨ 3600000 < leAt r 4 4 ∨ leAt r 8 4 < 1000 ∨ 60000 < leAt r 8 4)) :
    ∃ t : State, exec .txpTimers s = .next t ∧ s.Answered t stOK ∧
      t.txp = { s.txp with newTimers := some (leAt r 0 4, leAt r 4 4, leAt r 8 4) } := by
  refine ⟨_, (mbox_run _ ha).trans (congrArg Host.Outcome.next (if_neg h)), ?_⟩
  obtain ⟨hhost, htxp, -⟩ := State.journal_host
    { s with txp := { s.txp with newTimers := some (leAt r 0 4, leAt r 4 4, leAt r 8 4) } } 0x22 r .nothing
  exact ⟨State.answered_complete (congrArg HostIface.inside hhost) _ _, htxp⟩

section
variable {s : State} {r : List Byte} (ha : s.Asks 0x0406 [.running] (lenIs 8) r)
include ha

theorem exec_forceTakeover_refused (h : ¬ (s.txp.members.length = 2 ∧ s.txp.deputy = some s.vent.devId ∧ s.txp.leader = leAt r 0 8 ∧
    s.sessUp (leAt r 0 8) = false)) : exec .forceTakeover s = .next (s.complete stWRONG_STATE []) := by
  refine (mbox_run _ ha).trans (congrArg Host.Outcome.next (if_pos ?_))
  by_contra hn
  simp only [not_or, not_not, Bool.not_eq_true] at hn
  exact h hn

/-- The takeover is journaled first (R317). -/
theorem exec_forceTakeover_journals (h : s.txp.members.length = 2 ∧ s.txp.deputy = some s.vent.devId ∧ s.txp.leader = leAt r 0 8 ∧
    s.sessUp (leAt r 0 8) = false) (hm : s.vent.journal.mounted = true) (hd : s.vent.journal.damaged = false) :
    ∃ t : State, exec .forceTakeover s = .next t ∧ s.Answered t stOK ∧ t.txp = s.txp ∧
      t.vent.journal = s.vent.journal.push 0x47 (leBytes 4 (s.txp.epoch + 1) ++ leBytes 6 s.stepNo ++ leBytes 8 s.txp.leader) .takeover := by
  obtain ⟨hn, hdep, hlead, hsess⟩ := h
  refine ⟨_, (mbox_run _ ha).trans (congrArg Host.Outcome.next (if_neg ?_)), ?_⟩
  · simp [hn, hdep, hlead, hsess]
  · unfold State.takeover
    rw [State.journal_push hm hd]
    exact ⟨State.answered_complete rfl _ _, rfl, rfl⟩

end

theorem exec_jrnAckClose_acks {s : State} {r : List Byte} (ha : s.Asks 0x0502 stAll (lenIs 6) r) :
    ∃ t : State, exec .jrnAckClose s = .next t ∧ s.Answered t stOK ∧
      t.txp.closes = s.txp.closes.map fun c => if c.step = leAt r 0 6 then { c with acked := true } else c :=
  ⟨_, mbox_run _ ha, State.answered_complete rfl _ _, rfl⟩

/-! ### PORT_CFG (R346, R388) -/

/-- What a port keeps while it loses its frames: its configuration, its addresses and its state. -/
def Port.settings (x : Port) : Word × Nat × Nat × PortSt := (x.cfg, x.mac, x.ip6, x.st)

/-- What the transfers that wait, the answers of messages and the frames of one port leave, the port's going down leaves. -/
theorem State.portDown_keep {γ : Type} (π : State → γ) {p : Nat}
    (hport : ∀ u x, x.settings = (u.port p).settings → π (State.setPort u p x) = π u)
    (htxp : ∀ (u : State) x, π { u with txp := x } = π u) (hmsgs : ∀ (u : State) x, π { u with msgs := x } = π u) (s : State) :
    π (s.portDown p) = π s := by
  have hhold (u : State) (g : Grant) (fresh waitWin : Bool) : π (u.holdXfer p g fresh waitWin) = π u := by
    unfold State.holdXfer State.park' State.freshXfer
    dsimp only
    split
    · exact htxp u _
    · exact htxp u _
  have hrecover (u : State) (g : Grant) : π (u.recover p g false) = π u := by
    unfold State.recover
    split
    · rfl
    · exact hhold u _ _ _
  have hlost (u : State) (g : Grant) : π (u.msgLost g) = π u := by
    unfold State.msgLost
    split
    · split
      · exact hmsgs u _
      · rfl
    · rfl
  have hunbump (u : State) (q : Prop) [Decidable q] (off n : Nat) :
      π (if q then u else u.setPort p ((u.port p).unbump off n)) = π u := by
    split
    · rfl
    · exact hport u _ rfl
  have hcut (u : State) (gs : List Grant) : π (gs.foldl (fun (u : State) g => u.park' p g false) u) = π u :=
    foldl_keep π _ (fun u g => htxp u _) gs u
  have hrecovers (u : State) (gs : List (Nat × Grant)) : π (gs.foldl (fun (u : State) e => u.recover p e.2 false) u) = π u :=
    foldl_keep π _ (fun u e => hrecover u e.2) gs u
  have hdone (u : State) (h : π u = π s) (g : Grant) (q : Prop) [Decidable q] (pend : List Grant) :
      π (if g.dead then u.msgLost g else if q then u.setPort p { u.port p with pend := pend } else u.recover p g false) = π s := by
    split
    · exact (hlost u g).trans h
    · split
      · exact (hport u { u.port p with pend := pend } rfl).trans h
      · exact (hrecover u g).trans h
  unfold State.portDown
  dsimp only
  generalize hu : List.foldl (fun (u : State) (e : Nat × Grant) => u.recover p e.2 false) _ _ = u
  have hsu : π u = π s := by
    rw [← hu]
    refine (hrecovers _ _).trans ((hcut _ _).trans ((htxp _ _).trans ((hunbump _ _ _ _).trans (hport s _ rfl))))
  split
  · exact hdone u hsu _ _ _
  · exact hsu

/-- A change of port `p` alone: the other ports, the map of the module, its state and the commands left inside Vent stay. -/
def State.OnlyPort (s u : State) (p : Nat) : Prop :=
  (∀ q, q ≠ p → u.port q = s.port q) ∧ u.vent = s.vent ∧ u.host.inside = s.host.inside

theorem State.OnlyPort.trans {s u v : State} {p : Nat} (h : s.OnlyPort u p) (h' : u.OnlyPort v p) : s.OnlyPort v p :=
  ⟨fun q hq => (h'.1 q hq).trans (h.1 q hq), h'.2.1.trans h.2.1, h'.2.2.trans h.2.2⟩

theorem State.onlyPort_setPort (s : State) (p : Nat) (x : Port) : s.OnlyPort (s.setPort p x) p :=
  ⟨fun _ hq => (State.port_setPort ..).trans (if_neg hq), rfl, rfl⟩

theorem State.portDown_spec (s : State) (p : Nat) : s.OnlyPort (s.portDown p) p ∧ ((s.portDown p).port p).settings = (s.port p).settings := by
  have hset := State.portDown_keep (fun u => (u.port p).settings) (p := p)
    (fun u x hx => (congrArg Port.settings (u.port_setPort_self p x)).trans hx) (fun _ _ => rfl) (fun _ _ => rfl) s
  have hvent := State.portDown_keep (fun u => (u.vent, u.host.inside)) (p := p) (fun _ _ _ => rfl) (fun _ _ => rfl) (fun _ _ => rfl) s
  simp only [Prod.mk.injEq] at hvent
  refine ⟨⟨fun q hq => ?_, hvent⟩, hset⟩
  exact State.portDown_keep (fun u => u.port q) (p := p) (fun u x _ => (State.port_setPort ..).trans (if_neg hq)) (fun _ _ => rfl)
    (fun _ _ => rfl) s

theorem State.portTo_spec (s : State) (p : Nat) (st : PortSt) :
    s.OnlyPort (s.portTo p st) p ∧ ((s.portTo p st).port p).settings = ((s.port p).cfg, (s.port p).mac, (s.port p).ip6, st) := by
  unfold State.portTo
  split
  next h => exact ⟨⟨fun _ _ => rfl, rfl, rfl⟩, by simp [Port.settings, h]⟩
  next =>
    refine ⟨⟨(s.onlyPort_setPort p _).1, rfl, HostIface.inside_post ..⟩, ?_⟩
    exact congrArg Port.settings (s.port_setPort_self p { s.port p with st := st })

/-- A port that goes down where it was up is otherwise as before. -/
theorem State.portDownIf_spec (s : State) (p : Nat) (q : Prop) [Decidable q] :
    let u := if q then s.portDown p else s
    s.OnlyPort u p ∧ (u.port p).settings = (s.port p).settings := by
  dsimp only
  split
  · exact s.portDown_spec p
  · exact ⟨⟨fun _ _ => rfl, rfl, rfl⟩, rfl⟩

section
variable (s : State) (p : Nat) {v : Word} (hv : cfgReserved v = false)
include hv

theorem State.cfgDisable_spec : s.OnlyPort (s.cfgDisable p v) p ∧
    ((s.cfgDisable p v).port p).settings = (v &&& cfgMask, (s.port p).mac, (s.port p).ip6, .disabled) := by
  unfold State.cfgDisable
  rw [if_neg (by simp [hv])]
  obtain ⟨honly, hset⟩ := s.portDownIf_spec p ((s.port p).st = .up)
  simp only [Port.settings, Prod.mk.injEq] at hset
  obtain ⟨-, hmac, hip, -⟩ := hset
  refine ⟨(honly.trans (State.onlyPort_setPort ..)).trans (State.portTo_spec ..).1, (State.portTo_spec ..).2.trans ?_⟩
  rw [State.port_setPort_self, hmac, hip]

theorem State.cfgEnable_spec (hmode : (s.port p).mode = 0 ∨ (s.port p).mode = fld v.toNat 1 0)
    (hgood : Sparse.get false s.vent.map.ports p = false) (hboot : s.vent.dev ≠ .boot) (hdormant : s.vent.dev ≠ .dormant) :
    s.OnlyPort (s.cfgEnable p v) p ∧
      ((s.cfgEnable p v).port p).settings = (v &&& cfgMask, (s.port p).mac, (s.port p).ip6, .training) := by
  unfold State.cfgEnable
  dsimp only
  rw [if_neg (by simp [hv]; omega), if_neg (by simp [hgood, hboot, hdormant])]
  obtain ⟨honly, hset⟩ := s.portDownIf_spec p ((s.port p).st = .up)
  simp only [Port.settings, Prod.mk.injEq] at hset
  obtain ⟨-, hmac, hip, -⟩ := hset
  refine ⟨(honly.trans (State.onlyPort_setPort ..)).trans (State.portTo_spec ..).1, (State.portTo_spec ..).2.trans ?_⟩
  rw [State.port_setPort_self, hmac, hip]

end

/-- The mode is in the two low bits of the configuration, which the mask keeps. -/
theorem fld_mode_mask (v : Word) : fld (v &&& cfgMask).toNat 1 0 = fld v.toNat 1 0 := by
  unfold fld
  rw [BitVec.toNat_and, Nat.pow_zero, Nat.div_one, Nat.div_one, Nat.and_mod_two_pow]
  exact Nat.and_two_pow_sub_one_eq_mod (v.toNat % 4) 2 |>.trans (Nat.mod_mod _ _)

section
variable {r : List Byte} (h : portCfgOk r = true)
include h

/-- The configuration that a permitted request names: no reserved value, and its mode (R346). -/
theorem portCfgWord_spec : cfgReserved (portCfgWord r) = false ∧ fld (portCfgWord r).toNat 1 0 = leAt r 1 1 := by
  simp only [portCfgOk, Bool.and_eq_true, decide_eq_true_eq] at h
  obtain ⟨⟨⟨⟨⟨⟨⟨hm, hfec⟩, hr3⟩, hr4⟩, hr5⟩, hr6⟩, -⟩, -⟩ := h
  have hval : (portCfgWord r).toNat = leAt r 1 1 + leAt r 2 1 * 2 ^ 8 + leAt r 5 1 * 2 ^ 10 + leAt r 6 2 * 2 ^ 13 + leAt r 4 1 * 2 ^ 25 +
      leAt r 3 1 * 2 ^ 26 := by
    unfold portCfgWord w32 at'
    rw [BitVec.toNat_ofNat]
    exact Nat.mod_eq_of_lt (by omega)
  unfold cfgReserved fld
  rw [hval]
  refine ⟨?_, by omega⟩
  simp only [Bool.or_eq_false_iff, beq_eq_false_iff_ne, decide_eq_false_iff_not]
  refine ⟨⟨?_, ?_⟩, ?_⟩ <;> omega

end

/-- The port with the addresses of a PORT_CFG request. -/
def Port.addressed (x : Port) (r : List Byte) : Port :=
  { x with mac := leAt r 14 6, etype := leAt r 8 2, udpp := leAt r 10 2, ipcfg := w32 (at' (leAt r 13 1) 8 + leAt r 12 1), ip6 := leAt r 20 16 }

section
variable (s : State) {r : List Byte} (h : portCfgOk r = true)
include h

theorem State.applyPortCfg_off (hmode : leAt r 1 1 = 0) : s.OnlyPort (s.applyPortCfg r) (leAt r 0 1) ∧
    ((s.applyPortCfg r).port (leAt r 0 1)).settings = (portCfgWord r &&& cfgMask, leAt r 14 6, leAt r 20 16, .disabled) := by
  obtain ⟨hv, hword⟩ := portCfgWord_spec h
  have heq : s.applyPortCfg r = (s.setPort (leAt r 0 1) ((s.port (leAt r 0 1)).addressed r)).cfgDisable (leAt r 0 1) (portCfgWord r) :=
    if_pos (hword.trans hmode)
  obtain ⟨honly, hset⟩ := (s.setPort (leAt r 0 1) ((s.port (leAt r 0 1)).addressed r)).cfgDisable_spec (leAt r 0 1) hv
  rw [heq, hset, State.port_setPort_self]
  exact ⟨(s.onlyPort_setPort _ _).trans honly, rfl⟩

/-- A port in another mode is disabled first, with the configuration 0, which has no reserved value. -/
theorem State.applyPortCfg_on (hmode : leAt r 1 1 ≠ 0) (hgood : Sparse.get false s.vent.map.ports (leAt r 0 1) = false)
    (hboot : s.vent.dev ≠ .boot) (hdormant : s.vent.dev ≠ .dormant) : s.OnlyPort (s.applyPortCfg r) (leAt r 0 1) ∧
    ((s.applyPortCfg r).port (leAt r 0 1)).settings = (portCfgWord r &&& cfgMask, leAt r 14 6, leAt r 20 16, .training) := by
  obtain ⟨hv, hword⟩ := portCfgWord_spec h
  set p := leAt r 0 1
  set x := (s.port p).addressed r with hx
  have heq : s.applyPortCfg r = (if x.mode ≠ 0 ∧ x.mode ≠ fld (portCfgWord r).toNat 1 0 then (s.setPort p x).cfgDisable p 0 else s.setPort p x).cfgEnable p
      (portCfgWord r) := if_neg (hword ▸ hmode)
  have hnow : let u := if x.mode ≠ 0 ∧ x.mode ≠ fld (portCfgWord r).toNat 1 0 then (s.setPort p x).cfgDisable p 0 else s.setPort p x
      s.OnlyPort u p ∧ (u.port p).mac = x.mac ∧ (u.port p).ip6 = x.ip6 ∧
        ((u.port p).mode = 0 ∨ (u.port p).mode = fld (portCfgWord r).toNat 1 0) := by
    dsimp only
    split
    next =>
      obtain ⟨honly, hset⟩ := (s.setPort p x).cfgDisable_spec p (v := 0) (by decide)
      simp only [Port.settings, Prod.mk.injEq, State.port_setPort_self] at hset
      obtain ⟨hcfg, hmac, hip, -⟩ := hset
      refine ⟨(s.onlyPort_setPort p x).trans honly, hmac, hip, .inl ?_⟩
      rw [Port.mode, hcfg]
      decide
    next hn =>
      rw [State.port_setPort_self]
      exact ⟨s.onlyPort_setPort p x, rfl, rfl, by omega⟩
  obtain ⟨honly, hmac, hip, hm⟩ := hnow
  obtain ⟨honly', hset⟩ := State.cfgEnable_spec _ p hv hm (by rw [honly.2.1]; exact hgood) (by rw [honly.2.1]; exact hboot)
    (by rw [honly.2.1]; exact hdormant)
  rw [heq, hset, hmac, hip]
  exact ⟨honly.trans honly', rfl⟩

end

theorem State.port_complete (u : State) (status : Nat) (resp : List Byte) (p : Nat) : (u.complete status resp).port p = u.port p :=
  congrArg (fun m => Sparse.get Port.reset m p) (show (u.complete status resp).ports = u.ports from rfl)

section
variable {s : State} {r : List Byte} (ha : s.Asks 0x0402 stILRE (lenIs 48) r)
include ha

theorem exec_portCfg_noPort (h : 11 < leAt r 0 1) : exec .portCfg s = .next (s.complete stPORT []) :=
  (mbox_run _ ha).trans (congrArg Host.Outcome.next (if_pos h))

section
variable (hp : leAt r 0 1 ≤ 11)
include hp

theorem exec_portCfg_badField (h : portCfgOk r = false) : exec .portCfg s = .next (s.complete stBAD_FIELD []) := by
  refine (mbox_run _ ha).trans (congrArg Host.Outcome.next ((if_neg (Nat.not_lt.2 hp)).trans (if_pos ?_)))
  rw [h]
  rfl

variable (hok : portCfgOk r = true)
include hok

theorem exec_portCfg_broken (hmode : leAt r 1 1 ≠ 0) (hbad : Sparse.get false s.vent.map.ports (leAt r 0 1) = true) :
    exec .portCfg s = .next (s.complete stWRONG_STATE []) := by
  refine (mbox_run _ ha).trans (congrArg Host.Outcome.next ((if_neg (Nat.not_lt.2 hp)).trans ((if_neg ?_).trans (if_pos ⟨hmode, hbad⟩))))
  rw [hok]
  exact Bool.false_ne_true

theorem exec_portCfg_applies (h : ¬ (leAt r 1 1 ≠ 0 ∧ Sparse.get false s.vent.map.ports (leAt r 0 1) = true)) :
    exec .portCfg s = .next (((s.journal 0x20 r .nothing).applyPortCfg r).complete stOK []) := by
  refine (mbox_run _ ha).trans (congrArg Host.Outcome.next ((if_neg (Nat.not_lt.2 hp)).trans ((if_neg ?_).trans (if_neg h))))
  rw [hok]
  exact Bool.false_ne_true

/-- What a permitted configuration leaves, from what it leaves of its port. -/
theorem exec_portCfg_spec (h : ¬ (leAt r 1 1 ≠ 0 ∧ Sparse.get false s.vent.map.ports (leAt r 0 1) = true)) {st : PortSt}
    (hu : (s.journal 0x20 r .nothing).OnlyPort ((s.journal 0x20 r .nothing).applyPortCfg r) (leAt r 0 1) ∧
      (((s.journal 0x20 r .nothing).applyPortCfg r).port (leAt r 0 1)).settings = (portCfgWord r &&& cfgMask, leAt r 14 6, leAt r 20 16, st)) :
    ∃ t : State, exec .portCfg s = .next t ∧ s.Answered t stOK ∧ (t.port (leAt r 0 1)).st = st ∧ (t.port (leAt r 0 1)).mode = leAt r 1 1 ∧
      (t.port (leAt r 0 1)).mac = leAt r 14 6 ∧ (t.port (leAt r 0 1)).ip6 = leAt r 20 16 ∧ ∀ p, p ≠ leAt r 0 1 → t.port p = s.port p := by
  have hrun := exec_portCfg_applies ha hp hok h
  obtain ⟨hhost, -, hports⟩ := s.journal_host 0x20 r .nothing
  generalize (s.journal 0x20 r .nothing).applyPortCfg r = u at hrun hu
  generalize s.journal 0x20 r .nothing = v at hu hhost hports
  obtain ⟨⟨hothers, -, hinside⟩, hset⟩ := hu
  simp only [Port.settings, Prod.mk.injEq] at hset
  obtain ⟨hcfg, hmac, hip, hstate⟩ := hset
  refine ⟨_, hrun, State.answered_complete (hinside.trans (congrArg HostIface.inside hhost)) _ _, ?_⟩
  simp only [State.port_complete]
  refine ⟨hstate, ?_, hmac, hip, fun p hpne => ?_⟩
  · exact (congrArg (fun c : Word => fld c.toNat 1 0) hcfg).trans ((fld_mode_mask _).trans (portCfgWord_spec hok).2)
  · exact (hothers p hpne).trans (congrArg (fun m => Sparse.get Port.reset m p) hports)

theorem exec_portCfg_on (hmode : leAt r 1 1 ≠ 0) (hgood : Sparse.get false s.vent.map.ports (leAt r 0 1) = false) :
    ∃ t : State, exec .portCfg s = .next t ∧ s.Answered t stOK ∧ (t.port (leAt r 0 1)).st = .training ∧
      (t.port (leAt r 0 1)).mode = leAt r 1 1 ∧ (t.port (leAt r 0 1)).mac = leAt r 14 6 ∧ ∀ p, p ≠ leAt r 0 1 → t.port p = s.port p := by
  obtain ⟨hmap, hdev⟩ := s.journal_map 0x20 r .nothing
  have hst : stILRE.contains s.vent.dev = true := ha.2.2.1
  have hboot : s.vent.dev ≠ .boot := fun h => by rw [h] at hst; exact absurd hst (by decide)
  have hdormant : s.vent.dev ≠ .dormant := fun h => by rw [h] at hst; exact absurd hst (by decide)
  have hu := (s.journal 0x20 r .nothing).applyPortCfg_on hok hmode (by rw [hmap]; exact hgood) (by rw [hdev]; exact hboot)
    (by rw [hdev]; exact hdormant)
  obtain ⟨t, hrun, hans, hstate, hm, hmac, -, hothers⟩ := exec_portCfg_spec ha hp hok (by rw [hgood]; simp) hu
  exact ⟨t, hrun, hans, hstate, hm, hmac, hothers⟩

theorem exec_portCfg_off (hmode : leAt r 1 1 = 0) : ∃ t : State, exec .portCfg s = .next t ∧ s.Answered t stOK ∧
    (t.port (leAt r 0 1)).st = .disabled ∧ (t.port (leAt r 0 1)).mode = 0 ∧ (t.port (leAt r 0 1)).mac = leAt r 14 6 ∧
    (t.port (leAt r 0 1)).ip6 = leAt r 20 16 ∧ ∀ p, p ≠ leAt r 0 1 → t.port p = s.port p := by
  obtain ⟨t, hrun, hans, hstate, hm, hrest⟩ :=
    exec_portCfg_spec ha hp hok (by simp [hmode]) ((s.journal 0x20 r .nothing).applyPortCfg_off hok hmode)
  exact ⟨t, hrun, hans, hstate, hm.trans hmode, hrest⟩

end

end

/-! ### HDM_MAP (R333) -/

section
variable {s : State} {r : List Byte} (ha : s.Asks 0x0300 stILRE (lenIs 8) r)
include ha

theorem exec_hdmMap_range (h : leAt r 0 8 % 65536 ≠ 0 ∨ imageEndAddr < leAt r 0 8 + 0x1000000000) :
    exec .hdmMap s = .next (s.complete stRANGE []) :=
  (mbox_run _ ha).trans (congrArg Host.Outcome.next (if_pos h))

theorem exec_hdmMap_maps (h : ¬ (leAt r 0 8 % 65536 ≠ 0 ∨ imageEndAddr < leAt r 0 8 + 0x1000000000)) :
    ∃ t : State, exec .hdmMap s = .next t ∧ t.host.hbase = leAt r 0 8 ∧ s.Answered t stOK ∧ t.mem = s.mem ∧ t.vent = s.vent :=
  ⟨_, (mbox_run _ ha).trans (congrArg Host.Outcome.next (if_neg h)), HostIface.hbase_complete ..,
    State.answered_complete (t := { s with host := { s.host with hbase := leAt r 0 8 } }) rfl _ _, rfl, rfl⟩

end

/-- Settles O54: the row of each command as its lemmas above say it. -/
theorem mailboxSettings : Obligations.MailboxSettings := by
  unfold Obligations.MailboxSettings
  intro s r
  refine ⟨fun ha => ⟨exec_hdmMap_range ha, fun h1 h2 => exec_hdmMap_maps ha (by omega)⟩, fun ha => ⟨exec_winArrive_undeclared ha, ?_⟩,
    exec_partnerAdd_reserved, fun ha hports => ⟨exec_partnerAdd_full ha hports, exec_partnerAdd_entry ha hports⟩,
    fun ha => ⟨exec_partnerRemove_unknown ha, exec_partnerRemove_gone ha⟩, fun ha => ?_,
    fun ha => ⟨exec_txpTimers_refused ha, fun h1 h2 h3 h4 h5 h6 => exec_txpTimers_set ha (by omega)⟩,
    fun ha => ⟨exec_forceTakeover_refused ha, exec_forceTakeover_journals ha⟩, exec_jrnAckClose_acks⟩
  · intro x hw hx hside
    exact ⟨exec_winArrive_held ha hw hx hside, fun hout hain => ⟨exec_winArrive_auditRefused ha hw hx hside hout hain,
      fun v => exec_winArrive_audited ha hw hx hside hout hain⟩, exec_winArrive_spec ha hw hx hside⟩
  · exact ⟨exec_portCfg_noPort ha, exec_portCfg_badField ha, exec_portCfg_broken ha, exec_portCfg_on ha, exec_portCfg_off ha⟩

end Sys2Proof.Machine

/-!
PROOFS. The CXL function (O57): a write of HDM reads the words at the ends of its line where the base is no multiple of 8.
-/
namespace Sys2Proof.Machine

/-- Where a write is not empty, it leaves the host's side as its reads of the words at its ends do. -/
theorem State.memWrite_host (s : State) (a : Nat) {bs : List Byte} (h : bs.isEmpty = false) (pz : Nat → Bool) :
    (s.memWrite a bs pz).host = (s.memEdges a bs.length).host := by
  have hdirty (u : State) (p : Nat) : (u.dirtyPage p).host = u.host := by
    unfold State.dirtyPage
    split_ifs <;> rfl
  unfold State.memWrite
  simp only [h, Bool.false_eq_true, if_false]
  exact foldl_keep State.host _ hdirty _ _

/-- A module in IDLE whose HDM begins at address 4, which HDM_MAP would refuse (R333), with a lost word at address 0 and events on. -/
def offLine : State :=
  { State.reset with
    vent := { Vent.reset with
      dev := .idle
      startup := { Vent.reset.startup with held := false } }
    host := { HostIface.reset with
      hbase := 4
      en := true }
    mem := { Mem.reset with ecc := [(0, .ue)] } }

/-- Its line 0 lies from address 4 to 67; no window, page or staging area holds it. -/
theorem offLine_serves : offLine.hostDown = false ∧ offLine.hdmServed true 4 = true ∧ offLine.staged 4 64 = false ∧
    offLine.pageHeld 4 64 true = false := by decide

/-- The write of that line reads the word at address 0, finds it lost and posts an event (R59, R205). -/
theorem offLine_posts : (offLine.memEdges 4 64).host.evSeq = 1 := by decide

/-- Refutes O57, in its clause that a write served leaves the host's side: with a base that is no multiple of 8 the write reads the words at
the ends of its line, and a lost one among them posts an event. HDM_MAP sets multiples of 65536 only; the statement is of every base. -/
theorem not_cxlFunction : ¬ Obligations.CxlFunction := by
  unfold Obligations.CxlFunction
  rintro ⟨hdm, -⟩
  obtain ⟨hdown, hserved, hstaged, hpage⟩ := offLine_serves
  obtain ⟨-, -, -, hwrite⟩ := hdm offLine 0 (by decide) hdown
  obtain ⟨t, hrun, -, hhost, -⟩ := (hwrite [] false).1 hserved hstaged hpage
  have hline : exec (.hdmWrite 0 [] false) offLine = .next (offLine.memWrite 4 (padTo 64 []) fun _ => false) := by
    show execHdmWrite 0 [] false offLine = _
    unfold execHdmWrite
    rw [if_neg (by decide), if_neg (by decide), if_neg (by decide)]
    rfl
  have ht : t = offLine.memWrite 4 (padTo 64 []) fun _ => false := Host.Outcome.next.inj (hrun.symm.trans hline)
  have hposts : t.host.evSeq = 1 := by
    rw [ht, State.memWrite_host _ _ (by decide)]
    exact offLine_posts
  rw [hhost] at hposts
  exact absurd hposts (by decide)

end Sys2Proof.Machine

/-!
PROOFS. The collective engine and window DMA (O32).
-/
namespace Sys2Proof.Machine

/-! ### Runs of collectives -/

theorem Sparse.find?_put {α : Type} (m : Sparse α) (k : Nat) (v : α) : (Sparse.put m k v).find? (fun e => e.1 == k) = some (k, v) := by
  induction m with
  | nil => simp [Sparse.put]
  | cons e m ih =>
    unfold Sparse.put
    split_ifs with h1 h2
    · simp
    · simp
    · rw [List.find?_cons_of_neg (by simpa using fun h => h1 h.symm), ih]

/-- A run that is written is the collective's run. -/
theorem State.collOf_setRun {s : State} {cid : Nat} {d : CollDecl} {r : CollRun} (h : s.collOf cid = some (d, r)) (q : CollRun) :
    (s.setRun cid q).collOf cid = some (d, q) := by
  unfold State.collOf at h ⊢
  have hput : (s.setRun cid q).coll.runs.find? (fun e => e.1 == cid) = some (cid, q) := Sparse.find?_put _ _ _
  rw [hput]
  show (match s.coll.decls.find? fun e => e.1 == cid, some (cid, q) with
    | some d, some r => some (d.2, r.2)
    | _, _ => none) = _
  split at h
  next hd hr =>
    rw [hd]
    exact congrArg (fun x => some (x, q)) (Prod.mk.inj (Option.some.inj h)).1
  next => cases h

theorem State.arriveWin_coll (s : State) (w : Nat) : (s.arriveWin w).coll = s.coll := by
  rw [State.arriveWin_only]

/-- The check of a run against its end keeps everything of the engine but whether it has ended. -/
theorem State.collCheck_spec {s : State} {cid : Nat} {d : CollDecl} {r : CollRun} (h : s.collOf cid = some (d, r)) :
    let u := s.collCheck cid
    (∃ q, u.collOf cid = some (d, q) ∧ q.released = r.released) ∧ u.coll.waiting = s.coll.waiting ∧ u.coll.cnt = s.coll.cnt ∧
      u.ports = s.ports ∧ u.txp = s.txp := by
  unfold State.collCheck
  rw [h]
  dsimp only
  split
  · exact ⟨⟨r, h, rfl⟩, rfl, rfl, rfl, rfl⟩
  · rw [State.arriveWin_only]
    exact ⟨⟨_, State.collOf_setRun h _, rfl⟩, rfl, rfl, rfl, rfl⟩

/-! ### What the reads and the write of a block leave -/

theorem State.memSettle_masks (s : State) (w : Nat) : (s.memSettle w).masks = s.masks := by
  unfold State.memSettle State.memCheckWord
  dsimp only
  split_ifs <;> rfl

theorem State.memRead_masks (s : State) (a n : Nat) : (s.memRead a n).masks = s.masks :=
  foldl_keep State.masks (fun (u : State) (e : Nat × Ecc) => u.memSettle e.1) (fun u e => u.memSettle_masks e.1) _ s

theorem State.memWrite_coll_masks (s : State) (a : Nat) (bs : List Byte) (pz : Nat → Bool) :
    (s.memWrite a bs pz).coll = s.coll ∧ (s.memWrite a bs pz).masks = s.masks := by
  have hdirty (u : State) (p : Nat) : ((u.dirtyPage p).coll, (u.dirtyPage p).masks) = (u.coll, u.masks) := by
    unfold State.dirtyPage
    split_ifs <;> rfl
  have hread (u : State) (a n : Nat) : ((u.memRead a n).coll, (u.memRead a n).masks) = (u.coll, u.masks) := by
    obtain ⟨-, -, -, -, -, -, -, -, hc, -⟩ := State.besideRead_iff.mp (u.besideRead_memRead a n)
    rw [hc, u.memRead_masks]
  have hedges : ((s.memEdges a bs.length).coll, (s.memEdges a bs.length).masks) = (s.coll, s.masks) := by
    unfold State.memEdges
    dsimp only
    split_ifs <;> simp only [hread]
  have hwrite : ((s.memWrite a bs pz).coll, (s.memWrite a bs pz).masks) = (s.coll, s.masks) := by
    unfold State.memWrite
    dsimp only
    rw [foldl_keep (fun u : State => (u.coll, u.masks)) State.dirtyPage hdirty]
    split
    · rfl
    · exact hedges
  exact Prod.mk.inj hwrite

section
variable (s : State) (d : CollDecl) (r : CollRun) (blk n : Nat) (need : List Nat)

/-- The reads of the staging of a block leave what lies beside the marks of its words. -/
theorem State.readStage_beside : (s.readStage d r blk n need).besideRead = s.besideRead ∧ (s.readStage d r blk n need).masks = s.masks := by
  refine ⟨foldl_keep State.besideRead _ (fun u k => ?_) need s, foldl_keep State.masks _ (fun u k => ?_) need s⟩
  · split
    · rfl
    · exact u.besideRead_memRead _ _
  · split
    · rfl
    · exact u.memRead_masks _ _

/-- A contribution's value depends on bytes, not on their marks. -/
theorem State.contribElem_value {u : State} (h : u.besideRead = s.besideRead) (a0 k i : Nat) :
    (u.contribElem d r blk a0 n k i).1 = (s.contribElem d r blk a0 n k i).1 := by
  obtain ⟨hdata, -, -, -, hvent, -⟩ := State.besideRead_iff.mp h
  have haddr : u.stageAddr d k blk = s.stageAddr d k blk := by
    unfold State.stageAddr
    rw [hvent]
  unfold State.contribElem
  split
  · rfl
  · dsimp only
    rw [haddr, State.memBytes, State.memBytes, hdata]

end

/-- A sum over ranks depends on the values, not on their marks. -/
theorem foldRanks_value (rop : Nat) {α : Type} (l : List α) {f g : α → Word × Bool} (h : ∀ x ∈ l, (f x).1 = (g x).1) :
    (foldRanks rop (l.map f)).1 = (foldRanks rop (l.map g)).1 := by
  have hfold (l : List α) (h : ∀ x ∈ l, (f x).1 = (g x).1) : ∀ a b : Word × Bool, a.1 = b.1 →
      ((l.map f).foldl (fun a b => ((calCombine rop (a.1, 0) (b.1, 0)).1, a.2 || b.2)) a).1 =
      ((l.map g).foldl (fun a b => ((calCombine rop (a.1, 0) (b.1, 0)).1, a.2 || b.2)) b).1 := by
    induction l with
    | nil => exact fun _ _ hab => hab
    | cons x l ih =>
      intro a b hab
      exact ih (fun y hy => h y (List.mem_cons_of_mem _ hy)) _ _ (by dsimp only; rw [hab, h x List.mem_cons_self])
  cases l with
  | nil => rfl
  | cons x l => exact hfold l (fun y hy => h y (List.mem_cons_of_mem _ hy)) _ _ (h x List.mem_cons_self)

/-! ### What carries a transfer goes on carrying it (R276, R281) -/

/-- A transfer of a requester and a request with Q is at a port or waits at its requester. -/
def State.CarriesReq (s : State) (Q : Requester → XferReq → Prop) : Prop := s.Carries fun g => Q g.r g.x

/-- A port holds or has pending a transfer of a requester and a request with Q. -/
def Port.CarriesReq (y : Port) (Q : Requester → XferReq → Prop) : Prop := ∃ g, (y.holder = some g ∨ g ∈ y.pend) ∧ Q g.r g.x

theorem State.carriesReq_iff (s : State) (Q : Requester → XferReq → Prop) :
    s.CarriesReq Q ↔ (∃ p, (s.port p).CarriesReq Q) ∨ ∃ w ∈ s.txp.waiting, Q w.g.r w.g.x := Iff.rfl

/-- A grant takes none of the port's transfers away. -/
theorem Port.CarriesReq.arbitrate {y : Port} {Q : Requester → XferReq → Prop} (h : y.CarriesReq Q) (cc : Nat) (t : Ptp) :
    (y.arbitrate cc t).CarriesReq Q := by
  unfold Port.arbitrate
  split
  next => exact h
  next hn =>
    split_ifs
    · exact h
    · split
      next => exact h
      next b hb =>
        obtain ⟨g, hg, hq⟩ := h
        have hpend : g ∈ y.pend := hg.resolve_left (by simp [hn])
        by_cases hgb : g = b
        · exact ⟨_, .inl rfl, hgb ▸ hq⟩
        · exact ⟨g, .inr ((List.mem_erase_of_ne hgb).2 hpend), hq⟩

/-- A request leaves the port's transfers and adds its own. -/
theorem Port.carriesReq_request {y : Port} {Q : Requester → XferReq → Prop} {g : Grant} (h : y.CarriesReq Q ∨ Q g.r g.x) (cc : Nat) (t : Ptp) :
    (y.request cc t g).CarriesReq Q := by
  have hadd : ({ y with pend := y.pend ++ [g] } : Port).CarriesReq Q := by
    obtain ⟨k, hk, hq⟩ | hq := h
    · exact ⟨k, hk.imp_right (List.mem_append_left _), hq⟩
    · exact ⟨g, .inr (List.mem_append_right _ (List.mem_singleton_self g)), hq⟩
  unfold Port.request
  dsimp only
  split
  next k hk =>
    split_ifs
    · refine Port.CarriesReq.arbitrate ?_ cc t
      obtain ⟨j, hj, hq⟩ := hadd
      refine ⟨j, .inr ?_, hq⟩
      obtain hj | hj := hj
      · exact List.mem_cons.2 (.inl (Option.some.inj (hj.symm.trans hk)))
      · exact List.mem_cons_of_mem _ hj
    · exact hadd
  next => exact hadd.arbitrate cc t

section
variable {s : State} {Q : Requester → XferReq → Prop}

theorem State.CarriesReq.of_eq {u : State} (h : s.CarriesReq Q) (hp : u.ports = s.ports) (hw : u.txp.waiting = s.txp.waiting) :
    u.CarriesReq Q := by
  have hport (p : Nat) : u.port p = s.port p := congrArg (fun m => Sparse.get Port.reset m p) hp
  rw [State.carriesReq_iff] at h ⊢
  simpa only [hport, hw] using h

/-- A port that carries what it did goes on doing so where it is written. -/
theorem State.CarriesReq.setPort (h : s.CarriesReq Q) {p : Nat} {x : Port} (hx : (s.port p).CarriesReq Q → x.CarriesReq Q) :
    (s.setPort p x).CarriesReq Q := by
  rw [State.carriesReq_iff] at h ⊢
  refine h.imp_left ?_
  rintro ⟨q, hq⟩
  by_cases hqp : q = p
  · refine ⟨p, ?_⟩
    rw [State.port_setPort_self]
    exact hx (hqp ▸ hq)
  · refine ⟨q, ?_⟩
    rw [State.port_setPort, if_neg hqp]
    exact hq

theorem State.CarriesReq.queueAt (h : s.CarriesReq Q) (p : Nat) (g : Grant) : (s.queueAt p g).CarriesReq Q := by
  unfold State.queueAt
  split
  · exact h
  · exact h.setPort fun hx => Port.carriesReq_request (.inl hx) _ _

theorem State.carriesReq_queueAt (s : State) {Q : Requester → XferReq → Prop} {g : Grant} (hm : s.masks.contains g.r = false)
    (hq : Q g.r g.x) (p : Nat) : (s.queueAt p g).CarriesReq Q := by
  unfold State.queueAt
  rw [if_neg (by rw [hm]; exact Bool.false_ne_true)]
  refine .inl ⟨p, ?_⟩
  rw [State.port_setPort_self]
  exact Port.carriesReq_request (.inr hq) _ _

theorem State.CarriesReq.park' (h : s.CarriesReq Q) (p : Nat) (g : Grant) (b : Bool) : (s.park' p g b).CarriesReq Q := by
  rw [State.carriesReq_iff] at h ⊢
  exact h.imp_right fun ⟨w, hw, hq⟩ => ⟨w, List.mem_append_left _ hw, hq⟩

theorem State.carriesReq_park' (s : State) {Q : Requester → XferReq → Prop} {g : Grant} (hq : Q g.r g.x) (p : Nat) (b : Bool) :
    (s.park' p g b).CarriesReq Q :=
  .inr ⟨_, List.mem_append_right _ (List.mem_singleton_self _), hq⟩

theorem State.CarriesReq.foldl {β : Type} {f : State → β → State} (hf : ∀ u x, u.CarriesReq Q → (f u x).CarriesReq Q) (l : List β)
    (h : s.CarriesReq Q) : (l.foldl f s).CarriesReq Q := by
  induction l generalizing s with
  | nil => exact h
  | cons x l ih => exact ih (hf s x h)

theorem State.CarriesReq.mgmt (h : s.CarriesReq Q) (p : Nat) (m : OutMsg) (num : Nat) : (s.mgmt p m num).CarriesReq Q := by
  unfold State.mgmt
  refine State.CarriesReq.foldl (fun u d hu => ?_) _ h
  refine State.CarriesReq.queueAt ?_ _ _
  exact hu.of_eq rfl rfl

theorem State.CarriesReq.emit (h : s.CarriesReq Q) (p : Nat) (m : OutMsg) : (s.emit p m).CarriesReq Q := by
  unfold State.emit
  dsimp only
  split
  · refine State.CarriesReq.mgmt ?_ _ _ _
    exact h.of_eq rfl rfl
  · exact h.of_eq rfl rfl

theorem State.CarriesReq.sessTo (h : s.CarriesReq Q) (dev : Nat) (st : SessSt) : (s.sessTo dev st).CarriesReq Q := by
  unfold State.sessTo
  split
  · exact h
  · exact h.of_eq rfl rfl

theorem State.CarriesReq.needPeer (h : s.CarriesReq Q) (dev : Nat) : (s.needPeer dev).CarriesReq Q := by
  have hopening (u : State) (hu : u.CarriesReq Q) : (if u.sessUp dev then u else u.sessTo dev .opening).CarriesReq Q := by
    split
    · exact hu
    · exact hu.sessTo _ _
  unfold State.needPeer
  split
  · unfold State.offer
    refine hopening _ (State.CarriesReq.emit ?_ _ _)
    exact h.of_eq rfl rfl
  · exact h

theorem State.CarriesReq.launch (h : s.CarriesReq Q) (r : Requester) (x : XferReq) : (s.launch r x).CarriesReq Q := by
  unfold State.launch
  dsimp only
  split
  · refine State.CarriesReq.queueAt ?_ _ _
    exact h.of_eq rfl rfl
  · refine State.CarriesReq.needPeer (State.CarriesReq.park' ?_ _ _ _) _
    exact h.of_eq rfl rfl

end

/-- A transfer that is launched is carried, at its port or at its requester; its number in its class is the next. -/
theorem State.carriesReq_launch (s : State) {Q : Requester → XferReq → Prop} {r : Requester} {x : XferReq} (hm : s.masks.contains r = false)
    (hq : ∀ n, Q r { x with xfer := n }) : (s.launch r x).CarriesReq Q := by
  unfold State.launch
  dsimp only
  split
  · refine State.carriesReq_queueAt _ ?_ ?_ _
    · exact hm
    · exact hq _
  · refine State.CarriesReq.needPeer (State.carriesReq_park' _ ?_ _ _) _
    exact hq _

/-- What the writing of ports, of the sessions' side and of the host's side keeps, a launch keeps. -/
theorem State.launch_keep {γ : Type} (π : State → γ) (hport : ∀ u p x, π (State.setPort u p x) = π u)
    (htxp : ∀ (u : State) x, π { u with txp := x } = π u) (hhost : ∀ (u : State) x, π { u with host := x } = π u) (s : State)
    (r : Requester) (x : XferReq) : π (s.launch r x) = π s := by
  have hemit (u : State) (p : Nat) (m : OutMsg) : π (u.emit p m) = π u := by
    unfold State.emit
    dsimp only
    split
    · exact (State.mgmt_keep π hport (fun u _ => htxp u _) _ _ _ _).trans (htxp u _)
    · exact htxp u _
  have hsess (u : State) (dev : Nat) (st : SessSt) : π (u.sessTo dev st) = π u := by
    unfold State.sessTo
    split
    · rfl
    · exact (hhost _ _).trans (htxp u _)
  have hopening (u : State) (dev : Nat) : π (if u.sessUp dev then u else u.sessTo dev .opening) = π u := by
    split
    · rfl
    · exact hsess _ _ _
  have hpeer (u : State) (dev : Nat) : π (u.needPeer dev) = π u := by
    unfold State.needPeer
    split
    · unfold State.offer
      refine (hopening _ _).trans ((hemit _ _ _).trans ?_)
      exact htxp u _
    · rfl
  unfold State.launch
  dsimp only
  split
  · unfold State.queueAt
    split
    · exact htxp s _
    · exact (hport _ _ _).trans (htxp s _)
  · exact (hpeer _ _).trans (htxp s _)

section
variable {s : State} {r : CollRun} {f : Nat → List XferReq}

/-- What a launch keeps, the launches to every other rank keep. -/
theorem State.toOthers_keep {γ : Type} (π : State → γ) (h : ∀ u x, π (State.launch u .coll x) = π u) : π (s.toOthers r f) = π s := by
  unfold State.toOthers
  refine foldl_keep π _ (fun u k => ?_) _ s
  split
  · rfl
  · exact foldl_keep π _ (fun u x => h u _) _ u

theorem State.CarriesReq.toOthers {Q : Requester → XferReq → Prop} (h : s.CarriesReq Q) : (s.toOthers r f).CarriesReq Q := by
  unfold State.toOthers
  refine State.CarriesReq.foldl (fun u k hu => ?_) _ h
  split
  · exact hu
  · exact State.CarriesReq.foldl (fun v x hv => hv.launch _ _) _ hu

end

/-- Each transfer for another rank is carried. -/
theorem State.carriesReq_toOthers {s : State} (hm : s.masks.contains .coll = false) (r : CollRun) (f : Nat → List XferReq) {k : Nat}
    (hk : k < r.members.length) (hme : k ≠ r.me) {x : XferReq} (hx : x ∈ f k) {Q : Requester → XferReq → Prop}
    (hq : ∀ n, Q .coll { x with dev := r.members.getD k 0, xfer := n }) : (s.toOthers r f).CarriesReq Q := by
  have hmasks (u : State) (y : XferReq) : (u.launch .coll y).masks = u.masks :=
    State.launch_keep State.masks (fun _ _ _ => rfl) (fun _ _ => rfl) (fun _ _ => rfl) u _ y
  -- of a list of launches in any state with the mask open, one is the transfer's
  have hlaunch (l : List XferReq) (hl : x ∈ l) (u : State) (hu : u.masks.contains .coll = false) :
      (l.foldl (fun (v : State) x => v.launch .coll { x with dev := r.members.getD k 0 }) u).CarriesReq Q := by
    induction l generalizing u with
    | nil => cases hl
    | cons y l ih =>
      rw [List.foldl_cons]
      obtain rfl | hl := List.mem_cons.1 hl
      · exact State.CarriesReq.foldl (fun v x hv => hv.launch _ _) _ (State.carriesReq_launch u hu hq)
      · exact ih hl _ (by rw [hmasks]; exact hu)
  -- and of the ranks, one is k
  have hranks (l : List Nat) (hl : k ∈ l) (u : State) (hu : u.masks.contains .coll = false) :
      (l.foldl (fun (u : State) k => if k = r.me then u else (f k).foldl (fun (v : State) x => v.launch .coll { x with dev := r.members.getD k 0 }) u)
        u).CarriesReq Q := by
    induction l generalizing u with
    | nil => cases hl
    | cons j l ih =>
      rw [List.foldl_cons]
      obtain rfl | hl := List.mem_cons.1 hl
      · refine State.CarriesReq.foldl (fun v i hv => ?_) _ ?_
        · split
          · exact hv
          · exact State.CarriesReq.foldl (fun v x hv => hv.launch _ _) _ hv
        · rw [if_neg hme]
          exact hlaunch _ hx u hu
      · refine ih hl _ ?_
        split
        · exact hu
        · rw [foldl_keep State.masks _ (fun u x => hmasks u _)]
          exact hu
  exact hranks _ (List.mem_range.2 hk) s hm

/-! ### A block is summed (R285, R287) -/

/-- The elements of the result of a block with their marks. -/
def State.blockSum (s : State) (d : CollDecl) (r : CollRun) (blk : Nat) (need : List Nat) : List (List Byte × Bool) :=
  let a0 := r.lo d + blk * d.per
  let n := min (r.hi d) (a0 + d.per) - a0
  (List.range n).map fun i =>
    let v := foldRanks d.rop (need.map (s.contribElem d r blk a0 n · i))
    (if d.ofmt = cINT32 then leBytes 4 v.1.toNat else narrow d.ofmt v.1, v.2)

/-- The block's offset in DSTWIN. -/
def CollRun.dstOff (r : CollRun) (d : CollDecl) (blk : Nat) : Nat :=
  let a0 := r.lo d + blk * d.per
  fmtBits d.ofmt / 8 * (if d.op = 1 then a0 - r.lo d else a0)

/-- The staging of the block has been read. -/
def State.blockRead (s : State) (d : CollDecl) (r : CollRun) (blk : Nat) (need : List Nat) : State :=
  let a0 := r.lo d + blk * d.per
  s.readStage d r blk (min (r.hi d) (a0 + d.per) - a0) need

/-- A block released is counted, and counted again where its provisional sum was over other ranks (R293). -/
def State.countRelease (s : State) (again : Bool) : State := (if again then s.collBump 0x008 1 else s).collBump 0x004 1

/-- The owner of an ALLREDUCE sends the result of a block to the other ranks. -/
def State.sendSum (s : State) (d : CollDecl) (r : CollRun) (off : Nat) (es : List (List Byte × Bool)) : State :=
  if d.op = 3 then s.toOthers r fun _ => resultReqs r.step d.dstWin off (es.map (·.1)).flatten (byteMarks d.ofmt (es.map (·.2))) else s

/-- The block's result has been written to DSTWIN and counted. -/
def State.blockWritten (s : State) (d : CollDecl) (r : CollRun) (blk : Nat) (need : List Nat) : State :=
  let u := s.blockRead d r blk need
  (u.writeElems (u.winBase d.dstWin + r.dstOff d blk) (fmtBits d.ofmt / 8) (u.blockSum d r blk need)).countRelease
    (r.provisional.any fun p => p.1 == blk && p.2 != need)

theorem State.sumBlock_eq (s : State) (cid : Nat) (d : CollDecl) (r : CollRun) (blk : Nat) (need : List Nat) :
    s.sumBlock cid d r blk need =
      (((s.blockWritten d r blk need).sendSum d r (r.dstOff d blk) ((s.blockRead d r blk need).blockSum d r blk need)).setRun cid
        { r with released := r.released ++ [(blk, need)] }).collCheck cid := rfl

section
variable (s : State) (d : CollDecl) (r : CollRun) (blk : Nat) (need : List Nat)

theorem State.blockRead_beside : (s.blockRead d r blk need).besideRead = s.besideRead ∧ (s.blockRead d r blk need).masks = s.masks :=
  s.readStage_beside d r blk _ need

/-- The bytes of the result do not depend on marks. -/
theorem State.blockSum_bytes {u : State} (h : u.besideRead = s.besideRead) :
    (u.blockSum d r blk need).map (·.1) =
      let a0 := r.lo d + blk * d.per
      let n := min (r.hi d) (a0 + d.per) - a0
      (List.range n).map fun i =>
        let v := (foldRanks d.rop (need.map fun k => s.contribElem d r blk a0 n k i)).1
        if d.ofmt = cINT32 then leBytes 4 v.toNat else narrow d.ofmt v := by
  unfold State.blockSum
  simp only [List.map_map]
  refine List.map_congr_left fun i _ => ?_
  simp only [Function.comp_apply]
  rw [foldRanks_value d.rop need fun k _ => s.contribElem_value d r blk _ h _ k i]

end

theorem State.countRelease_cnt (s : State) (again : Bool) :
    Sparse.get 0 (s.countRelease again).coll.cnt 0x004 = sat32 (Sparse.get 0 s.coll.cnt 0x004) 1 ∧
    Sparse.get 0 (s.countRelease again).coll.cnt 0x008 = sat32 (Sparse.get 0 s.coll.cnt 0x008) (if again = true then 1 else 0) := by
  unfold State.countRelease State.collBump
  cases again
  · simp [Sparse.get_set, sat32_zero]
  · simp [Sparse.get_set]

theorem State.countRelease_frame (s : State) (again : Bool) :
    s.countRelease again = { s with coll := { s.coll with cnt := (s.countRelease again).coll.cnt } } := by
  unfold State.countRelease
  cases again <;> rfl

theorem State.sendSum_keep {γ : Type} (π : State → γ) (h : ∀ u x, π (State.launch u .coll x) = π u) (s : State) (d : CollDecl) (r : CollRun)
    (off : Nat) (es : List (List Byte × Bool)) : π (s.sendSum d r off es) = π s := by
  unfold State.sendSum
  split
  · exact State.toOthers_keep π h
  · rfl

/-- The result of at most 1 MiB goes to each other rank in one transfer (Table 11-6). -/
theorem State.carriesReq_sendSum {s : State} (hm : s.masks.contains .coll = false) {d : CollDecl} (hop : d.op = 3) (r : CollRun) (off : Nat)
    (es : List (List Byte × Bool)) (hlen : (es.map (·.1)).flatten.length ≤ 1048576) {k : Nat} (hk : k < r.members.length) (hme : k ≠ r.me) :
    (s.sendSum d r off es).CarriesReq fun q x =>
      q = .coll ∧ x.dev = r.members.getD k 0 ∧ x.dst = some (.win d.dstWin off) ∧ x.data = (es.map (·.1)).flatten := by
  have hpieces : pieces 1048576 ((es.map (·.1)).flatten.length / 1048576 + 1) (es.map (·.1)).flatten = [(es.map (·.1)).flatten] := by
    unfold pieces
    exact if_pos hlen
  unfold State.sendSum
  rw [if_pos hop]
  refine State.carriesReq_toOthers hm r _ hk hme (x := collReq r.step (.win d.dstWin off) (es.map (·.1)).flatten
    (wordMarks ((byteMarks d.ofmt (es.map (·.2))).take 1048576))) ?_ fun _ => ⟨rfl, rfl, rfl, rfl⟩
  unfold resultReqs
  rw [hpieces]
  simp

/-- The engine's runs and declarations are as before, its counters and the bytes of DSTWIN are the block's. -/
theorem State.blockWritten_spec (s : State) (d : CollDecl) (r : CollRun) (blk : Nat) (need : List Nat) :
    let v := s.blockWritten d r blk need
    v.coll = { s.coll with cnt := v.coll.cnt } ∧ v.masks = s.masks ∧
      Sparse.get 0 v.coll.cnt 0x004 = sat32 (Sparse.get 0 s.coll.cnt 0x004) 1 ∧
      Sparse.get 0 v.coll.cnt 0x008 =
        sat32 (Sparse.get 0 s.coll.cnt 0x008) (if (r.provisional.any fun p => p.1 == blk && p.2 != need) = true then 1 else 0) ∧
      v.mem.data = Sparse.setRun 0 s.mem.data (s.winBase d.dstWin + r.dstOff d blk) ((s.blockSum d r blk need).map (·.1)).flatten := by
  obtain ⟨hread, hmasks⟩ := s.blockRead_beside d r blk need
  obtain ⟨hdata, hwins, -, -, -, -, -, -, hcoll, -⟩ := State.besideRead_iff.mp hread
  have hbytes := (s.blockSum_bytes d r blk need hread).trans (s.blockSum_bytes d r blk need rfl).symm
  have hbase : (s.blockRead d r blk need).winBase d.dstWin = s.winBase d.dstWin := by
    unfold State.winBase State.win
    rw [hwins]
  unfold State.blockWritten
  generalize s.blockRead d r blk need = u at *
  dsimp only
  set es := u.blockSum d r blk need
  set x := u.writeElems (u.winBase d.dstWin + r.dstOff d blk) (fmtBits d.ofmt / 8) es
  obtain ⟨hxcoll, hxmasks⟩ : x.coll = u.coll ∧ x.masks = u.masks := u.memWrite_coll_masks _ _ _
  have hxdata : x.mem.data = Sparse.setRun 0 u.mem.data (u.winBase d.dstWin + r.dstOff d blk) (es.map (·.1)).flatten := u.memWrite_data _ _ _
  obtain ⟨hcnt4, hcnt8⟩ := x.countRelease_cnt (r.provisional.any fun p => p.1 == blk && p.2 != need)
  refine ⟨?_, ?_, ?_, ?_, ?_⟩
  · rw [State.countRelease_frame, hxcoll, hcoll]
  · rw [State.countRelease_frame]
    exact hxmasks.trans hmasks
  · rw [hcnt4, hxcoll, hcoll]
  · rw [hcnt8, hxcoll, hcoll]
  · rw [State.countRelease_frame]
    exact hxdata.trans (by rw [hdata, hbase, hbytes])

/-- What the sum of a block leaves, from the module before it. -/
theorem State.sumBlock_spec {s : State} {cid : Nat} {d : CollDecl} {r : CollRun} (h : s.collOf cid = some (d, r)) (blk : Nat) (need : List Nat) :
    let t := s.sumBlock cid d r blk need
    let out := ((s.blockSum d r blk need).map (·.1)).flatten
    (∃ q, t.collOf cid = some (d, q) ∧ q.released = r.released ++ [(blk, need)]) ∧ t.coll.waiting = s.coll.waiting ∧
      Sparse.get 0 t.coll.cnt 0x004 = sat32 (Sparse.get 0 s.coll.cnt 0x004) 1 ∧
      Sparse.get 0 t.coll.cnt 0x008 =
        sat32 (Sparse.get 0 s.coll.cnt 0x008) (if (r.provisional.any fun p => p.1 == blk && p.2 != need) = true then 1 else 0) ∧
      t.mem.data = Sparse.setRun 0 s.mem.data (s.winBase d.dstWin + r.dstOff d blk) out ∧
      (d.op = 3 → s.masks.contains .coll = false → out.length ≤ 1048576 → ∀ k < r.members.length, k ≠ r.me →
        t.CarriesReq fun q x => q = .coll ∧ x.dev = r.members.getD k 0 ∧ x.dst = some (.win d.dstWin (r.dstOff d blk)) ∧ x.data = out) := by
  obtain ⟨hvcoll, hvmasks, hcnt4, hcnt8, hdata⟩ := s.blockWritten_spec d r blk need
  have hbytes := (s.blockSum_bytes d r blk need (s.blockRead_beside d r blk need).1).trans (s.blockSum_bytes d r blk need rfl).symm
  rw [State.sumBlock_eq]
  generalize s.blockWritten d r blk need = v at *
  generalize (s.blockRead d r blk need).blockSum d r blk need = es at *
  dsimp only
  rw [← hbytes]
  set w := v.sendSum d r (r.dstOff d blk) es with hw
  have hwcoll : w.coll = v.coll := State.sendSum_keep State.coll
    (fun u x => State.launch_keep State.coll (fun _ _ _ => rfl) (fun _ _ => rfl) (fun _ _ => rfl) u _ x) v d r _ es
  have hwdata : w.mem.data = v.mem.data := State.sendSum_keep (fun u => u.mem.data) (fun u x => State.launch_data u _ x) v d r _ es
  have hwof : w.collOf cid = some (d, r) := by
    unfold State.collOf at h ⊢
    rw [hwcoll, hvcoll]
    exact h
  set z := w.setRun cid { r with released := r.released ++ [(blk, need)] }
  have hzof : z.collOf cid = some (d, { r with released := r.released ++ [(blk, need)] }) := State.collOf_setRun hwof _
  obtain ⟨hrun, hwait, hcnt, hports, htxp⟩ := State.collCheck_spec hzof
  have hzcnt : z.coll.cnt = v.coll.cnt := (show z.coll.cnt = w.coll.cnt from rfl).trans (congrArg Coll.cnt hwcoll)
  refine ⟨hrun, hwait.trans ?_, ?_, ?_, ?_, fun hop hm hlen k hk hme => ?_⟩
  · exact (congrArg Coll.waiting hwcoll).trans ((congrArg Coll.waiting hvcoll).trans rfl)
  · rw [hcnt, hzcnt, hcnt4]
  · rw [hcnt, hzcnt, hcnt8]
  · rw [State.collCheck_data, hbytes, ← hdata]
    exact hwdata
  · have hcarries : w.CarriesReq _ := State.carriesReq_sendSum (hvmasks ▸ hm) hop r (r.dstOff d blk) es hlen hk hme
    exact (State.CarriesReq.of_eq hcarries (u := z) rfl rfl).of_eq hports (congrArg Txp.waiting htxp)

section
variable {s : State} {cid blk : Nat} {d : CollDecl} {r : CollRun} (h : s.collOf cid = some (d, r))
include h

theorem exec_blockRelease_released (hrel : (r.released.any fun p => p.1 == blk) = true) : exec (.reductionBlockRelease cid blk) s = .next s := by
  show execReductionBlockRelease cid blk s = _
  unfold execReductionBlockRelease
  rw [h]
  exact if_pos (.inr (.inr hrel))

section
variable (hred : d.reduces = true) (hblk : blk < r.blocks d) (hnew : (r.released.any fun p => p.1 == blk) = false)
include hred hblk hnew

/-- A block of the chunk that has not been released, whose ranks are known, is summed where they have landed and DSTWIN is open (R287). -/
theorem exec_blockRelease_known {need : List Nat} (hn : s.needed d r = some need) : exec (.reductionBlockRelease cid blk) s =
    .next (if (need.all fun k => r.hasBlock d k blk) ∧ s.dstOpen d then (s.sumBlock cid d r blk need).retryColl else s) := by
  show execReductionBlockRelease cid blk s = _
  unfold execReductionBlockRelease
  rw [h]
  refine (if_neg (by rw [hred, hnew]; simp; omega)).trans ?_
  rw [hn]

theorem exec_blockRelease_waits {need : List Nat} (hn : s.needed d r = some need)
    (hno : (need.all fun k => r.hasBlock d k blk) = false ∨ s.dstOpen d = false) : exec (.reductionBlockRelease cid blk) s = .next s := by
  rw [exec_blockRelease_known h hred hblk hnew hn]
  refine congrArg Host.Outcome.next (if_neg ?_)
  rintro ⟨hall, hopen⟩
  obtain hno | hno := hno
  · exact Bool.false_ne_true (hno.symm.trans hall)
  · exact Bool.false_ne_true (hno.symm.trans hopen)

theorem exec_blockRelease_provisional (hn : s.needed d r = none) (hall : ((List.range r.members.length).all fun k => r.hasBlock d k blk) = true)
    (hp : (r.provisional.any fun p => p.1 == blk) = false) :
    exec (.reductionBlockRelease cid blk) s =
      .next (s.setRun cid { r with provisional := r.provisional ++ [(blk, List.range r.members.length)] }) := by
  show execReductionBlockRelease cid blk s = _
  unfold execReductionBlockRelease
  rw [h]
  refine (if_neg (by rw [hred, hnew]; simp; omega)).trans ?_
  rw [hn]
  exact congrArg Host.Outcome.next (if_pos ⟨hall, by rw [hp]; rfl⟩)

/-- A block whose contributions have landed and whose DSTWIN is open is summed; no collective that waited goes on. -/
theorem exec_blockRelease_sums {need : List Nat} (hn : s.needed d r = some need) (hall : (need.all fun k => r.hasBlock d k blk) = true)
    (hopen : s.dstOpen d = true) (hwait : s.coll.waiting = []) :
    exec (.reductionBlockRelease cid blk) s = .next (s.sumBlock cid d r blk need) := by
  rw [exec_blockRelease_known h hred hblk hnew hn]
  refine congrArg Host.Outcome.next ((if_pos ⟨hall, hopen⟩).trans (State.retryColl_idle ?_))
  exact (State.sumBlock_spec h blk need).2.1.trans hwait

end

/-! ### SRCWIN arrives (R283, R308) -/

theorem exec_srcwinArrival_waits (hno : r.srcDone = true ∨ s.srcBusy cid d = true) : exec (.srcwinArrival cid) s = .next s := by
  show execSrcwinArrival cid s = _
  unfold execSrcwinArrival
  rw [h]
  exact if_pos hno

end

/-- A contribution is made, or waits, in the records of the job and the journal alone. -/
theorem State.makeContribution_beside (s : State) (part step : Nat) : let u := s.makeContribution part step
    u.mem = s.mem ∧ u.tiles = s.tiles ∧ u.coll = s.coll := by
  have hform (u : State) (e : Nat × Nat × List Byte) (chain : List Byte) :
      ((u.formContribution e.1 step e.2.2 chain).mem, (u.formContribution e.1 step e.2.2 chain).tiles,
        (u.formContribution e.1 step e.2.2 chain).coll) = (u.mem, u.tiles, u.coll) := by
    unfold State.formContribution
    split
    · rfl
    · dsimp only
      rw [State.journal_frame]
  have hlate (u : State) : ((u.formLate step).mem, (u.formLate step).tiles, (u.formLate step).coll) = (u.mem, u.tiles, u.coll) := by
    unfold State.formLate
    split
    · rfl
    · exact foldl_keep (fun v : State => (v.mem, v.tiles, v.coll)) _ (fun v e => hform v e _) _ _
  have hmake : ((s.makeContribution part step).mem, (s.makeContribution part step).tiles, (s.makeContribution part step).coll) =
      (s.mem, s.tiles, s.coll) := by
    unfold State.makeContribution
    split
    · rfl
    · split
      · rfl
      · exact hlate _
  simpa only [Prod.mk.injEq] using hmake

/-- The run with its source done, its transfers forgotten and SRCWIN back inside. -/
def State.srcArrived (s : State) (cid : Nat) (d : CollDecl) (r : CollRun) : State :=
  let s0 := s.setRun cid { r with srcDone := true }
  let s1 := { s0 with txp := { s0.txp with sentX := s0.txp.sentX.filter fun e => !d.readsSrc cid e.2 } }
  s1.arriveWin d.srcWin

/-- Every collective of the part has its source done in the step of the run. -/
def State.partSent (s : State) (d : CollDecl) (r : CollRun) : Bool :=
  (s.coll.decls.filter fun e => e.2.part == d.part).all fun e =>
    match s.collOf e.1 with
    | some (_, q) => q.srcDone && q.step == r.step
    | none => false

/-- SRCWIN arrives; whether a contribution is made with it or not, no more of memory, tiles and engine changes. -/
theorem exec_srcwinArrival_arrives {s : State} {cid : Nat} {d : CollDecl} {r : CollRun} (h : s.collOf cid = some (d, r)) (hdone : r.srcDone = false)
    (hbusy : s.srcBusy cid d = false) (hwait : s.coll.waiting = []) (hone : d.oneWindow = false) :
    ∃ t : State, exec (.srcwinArrival cid) s = .next t ∧ t.mem = (s.srcArrived cid d r).mem ∧ t.tiles = (s.srcArrived cid d r).tiles ∧
      t.coll = (s.srcArrived cid d r).coll := by
  have hidle (u : State) (hu : u.coll = (s.srcArrived cid d r).coll) : u.retryColl = u :=
    State.retryColl_idle ((congrArg Coll.waiting (hu.trans (State.arriveWin_coll _ _))).trans hwait)
  have hrun : exec (.srcwinArrival cid) s = .next (if d.part < 16 ∧ (s.srcArrived cid d r).partSent d r then
      ((s.srcArrived cid d r).makeContribution d.part r.step).retryColl else (s.srcArrived cid d r).retryColl) := by
    show execSrcwinArrival cid s = _
    unfold execSrcwinArrival
    rw [h]
    refine (if_neg (by simp [hdone, hbusy])).trans ?_
    simp only [hone, Bool.false_eq_true, if_false]
    rfl
  refine ⟨_, hrun, ?_⟩
  split
  · obtain ⟨hmem, htiles, hcoll⟩ := (s.srcArrived cid d r).makeContribution_beside d.part r.step
    rw [hidle _ hcoll]
    exact ⟨hmem, htiles, hcoll⟩
  · rw [hidle _ rfl]
    exact ⟨rfl, rfl, rfl⟩

theorem exec_srcwinArrival_spec {s : State} {cid : Nat} {d : CollDecl} {r : CollRun} (h : s.collOf cid = some (d, r)) (x : Win)
    (hdone : r.srcDone = false) (hbusy : s.srcBusy cid d = false) (hx : s.win d.srcWin = some x) (hwait : s.coll.waiting = [])
    (hone : d.oneWindow = false) :
    ∃ t : State, exec (.srcwinArrival cid) s = .next t ∧ t.collOf cid = some (d, { r with srcDone := true }) ∧
      t.win d.srcWin = some { x with outside := false, xfer := (x.xfer + 1) % 2 ^ 16, issued := [], released := [], handed := [] } ∧
      t.mem.data = s.mem.data ∧ ∀ k ∈ gTiles s.rows x.cons, t.tile k = (s.tile k).incFlag x.aflag := by
  obtain ⟨t, hrun, hmem, htiles, hcoll⟩ := exec_srcwinArrival_arrives h hdone hbusy hwait hone
  set s0 := s.setRun cid { r with srcDone := true } with hs0
  set s1 : State := { s0 with txp := { s0.txp with sentX := s0.txp.sentX.filter fun e => !d.readsSrc cid e.2 } } with hs1
  have hx1 : s1.win d.srcWin = some x := hx
  refine ⟨t, hrun, ?_, ?_, ?_, fun k hk => ?_⟩
  · have hof : s1.collOf cid = some (d, { r with srcDone := true }) := State.collOf_setRun h _
    unfold State.collOf at hof ⊢
    rw [hcoll]
    rw [← State.arriveWin_coll s1 d.srcWin] at hof
    exact hof
  · exact (congrArg (fun m : Mem => Sparse.get none m.wins d.srcWin) hmem).trans (State.win_arriveWin hx1)
  · rw [hmem]
    exact s1.arriveWin_data d.srcWin
  · refine (congrArg (fun m => Sparse.get Tile.reset m k) htiles).trans ((State.tile_arriveWin hx1 k).trans ?_)
    exact if_pos hk

/-! ### HANDOVER (R305, R323) -/

/-- A segment that its session accepts is taken. -/
theorem State.Hears.receive {s u : State} {dev : Nat} {g : Seg} (h : s.Hears dev g u) (m : TxpMsg) : s.receive dev g m = .next (u.takeMsg dev g m) := by
  obtain ⟨htype, hrsv, hup, hnum, hspent, hfresh, rfl⟩ := h
  have hrecv : s.recvSeg dev g = (s.setSess dev ((s.sess dev).took g.seq s.now), true) := by
    unfold State.recvSeg
    dsimp only
    rw [if_neg (by simp [htype, hrsv]), if_pos ⟨hup, hnum⟩, if_neg (by simp [hspent]), if_pos hfresh]
  unfold State.receive
  rw [hrecv]
  rfl

theorem exec_winHandover_stale {s u : State} {dev w : Nat} {g : Seg} (h : s.Hears dev g u) (h0 : g.epoch ≠ 0) (hold : g.epoch < s.txp.epoch) :
    exec (.winHandover dev w g) s = .next (u.reject dev 0x02 none s.txp.epoch g.seq) := by
  have hepoch : u.txp.epoch = s.txp.epoch := by
    obtain ⟨-, -, -, -, -, -, rfl⟩ := h
    rfl
  refine (h.receive (.handover w)).trans (congrArg Host.Outcome.next ?_)
  unfold State.takeMsg
  rw [if_pos ⟨h0, by rw [hepoch]; exact hold, rfl⟩, hepoch]

/-- A HANDOVER of the epoch in force is acted upon. -/
theorem exec_winHandover_acts {s u : State} {dev w : Nat} {g : Seg} (h : s.HearsNow dev g u) :
    exec (.winHandover dev w g) s = .next (u.onHandover dev w g) := by
  obtain ⟨hears, hnow⟩ := h
  have hepoch : u.txp.epoch = s.txp.epoch := by
    obtain ⟨-, -, -, -, -, -, rfl⟩ := hears
    rfl
  have hknows : u.awaits g (.handover w) = false := by
    unfold State.awaits State.knowsEpoch TxpMsg.epoch
    simp [hepoch, hnow]
  refine (hears.receive (.handover w)).trans (congrArg Host.Outcome.next ?_)
  unfold State.takeMsg
  rw [if_neg (by rw [hepoch, hnow]; omega), if_neg (by simp [hknows])]
  rfl

section
variable {s u : State} {dev w : Nat} {g : Seg} {x : Win} (h : s.HearsNow dev g u) (hx : s.win w = some x) (hside : x.side1 = true)
  (hmine : (((s.groupOf x.pset).map (·.dev)).filter fun d => d != s.vent.devId).contains dev = true)
include h hx hside hmine

/-- One to a window that is inside is answered WINHELD. -/
theorem exec_winHandover_held (hin : x.outside = false) : exec (.winHandover dev w g) s = .next (u.reject dev 0x0D none 0 g.seq) := by
  rw [exec_winHandover_acts h]
  obtain ⟨⟨-, -, -, -, -, -, rfl⟩, -⟩ := h
  set u := s.setSess dev ((s.sess dev).took g.seq s.now)
  have hu : u.win w = some x := hx
  refine congrArg Host.Outcome.next ?_
  unfold State.onHandover
  rw [hu]
  refine (if_neg ?_).trans (if_pos (by rw [hin]; rfl))
  rintro (hn | hn)
  · simp [hside] at hn
  · rw [show (((u.groupOf x.pset).map (·.dev)).filter fun d => d != u.vent.devId).contains dev = true from hmine] at hn
    cases hn

/-- A partner's hand-over is noted; the last one is the window's arrival. -/
theorem exec_winHandover_notes (hout : x.outside = true) (hserves : s.collServes w = false) :
    let ms := ((s.groupOf x.pset).map (·.dev)).filter fun d => d != s.vent.devId
    let hs := if x.handed.contains dev then x.handed else x.handed ++ [dev]
    exec (.winHandover dev w g) s = .next
      (if ms.all hs.contains then (u.setWin w { x with handed := hs }).arriveWin w else u.setWin w { x with handed := hs }) := by
  intro ms hs
  rw [exec_winHandover_acts h]
  obtain ⟨⟨-, -, -, -, -, -, rfl⟩, -⟩ := h
  set u := s.setSess dev ((s.sess dev).took g.seq s.now)
  have hu : u.win w = some x := hx
  have hms : ((u.groupOf x.pset).map (·.dev)).filter (fun d => d != u.vent.devId) = ms := rfl
  have hserves' : u.collServes w = false := hserves
  refine congrArg Host.Outcome.next ?_
  unfold State.onHandover
  rw [hu]
  dsimp only
  rw [hms, if_neg (by rw [hside, hmine]; simp), if_neg (by simp [hout]), hserves']
  refine if_congr ?_ rfl rfl
  exact ⟨fun hk => hk.2, fun hk => ⟨rfl, hk⟩⟩

theorem exec_winHandover_spec (hout : x.outside = true) (hserves : s.collServes w = false) :
    let ms := ((s.groupOf x.pset).map (·.dev)).filter fun d => d != s.vent.devId
    let hs := if x.handed.contains dev then x.handed else x.handed ++ [dev]
    ∃ t : State, exec (.winHandover dev w g) s = .next t ∧ t.mem.data = s.mem.data ∧ t.txp = u.txp ∧
      ((ms.all hs.contains) = false → t.win w = some { x with handed := hs } ∧ t.tiles = s.tiles) ∧
      ((ms.all hs.contains) = true → (∀ k ∈ gTiles s.rows x.cons, t.tile k = (s.tile k).incFlag x.aflag) ∧
        t.win w = some { x with outside := false, xfer := (x.xfer + 1) % 2 ^ 16, issued := [], released := [], handed := [] }) := by
  intro ms hs
  have hrun := exec_winHandover_notes h hx hside hmine hout hserves
  obtain ⟨⟨-, -, -, -, -, -, rfl⟩, -⟩ := h
  set v := (s.setSess dev ((s.sess dev).took g.seq s.now)).setWin w { x with handed := hs }
  have hv : v.win w = some { x with handed := hs } := State.win_setWin_self _ _ _
  refine ⟨_, hrun, ?_⟩
  cases hall : ms.all hs.contains
  · rw [if_neg Bool.false_ne_true]
    exact ⟨rfl, rfl, fun _ => ⟨hv, rfl⟩, nofun⟩
  · rw [if_pos rfl]
    refine ⟨v.arriveWin_data w, ?_, nofun, fun _ => ⟨fun k hk => (State.tile_arriveWin hv k).trans (if_pos hk),
      (State.win_arriveWin hv).trans rfl⟩⟩
    exact (congrArg State.txp (v.arriveWin_only w)).trans rfl

end

/-! ### A kept transfer is requested again (R274) -/

theorem exec_transferRestart_requests {s : State} {id q : Nat} {w : WaitXfer} (hfind : s.txp.waiting.find? (fun w => w.id == id) = some w)
    (hwin : w.waitWin = false) (hup : s.sessUp w.g.x.dev = true) (hmask : s.masks.contains w.g.r = false)
    (hport : s.nextPort w.g.x.dev w.port = some q) :
    ∃ t : State, exec (.transferRestart id) s = .next t ∧ t.txp.waiting = s.txp.waiting.filter (fun v => v.id != id) ∧
      t.port q = (s.port q).request s.cc s.aon.ptp { w.g with at' := s.cc, sess := (s.sess w.g.x.dev).num, cut := none } ∧
      (∀ p, p ≠ q → t.port p = s.port p) ∧ t.mem = s.mem := by
  have hrun : s.restart id = ({ s with txp := { s.txp with waiting := s.txp.waiting.filter fun v => v.id != id } } : State).setPort q
      ((s.port q).request s.cc s.aon.ptp { w.g with at' := s.cc, sess := (s.sess w.g.x.dev).num, cut := none }) := by
    unfold State.restart
    rw [hfind]
    refine (if_neg (by rw [hwin, hup, hmask]; simp)).trans ?_
    rw [hport]
    rfl
  refine ⟨_, congrArg Host.Outcome.next hrun, rfl, State.port_setPort_self _ _ _, fun p hp => (State.port_setPort ..).trans (if_neg hp), rfl⟩

/-- Settles O32: a block by its sum (`State.sumBlock_spec`), whose launches are carried (`State.carriesReq_toOthers`); the windows by their arrival. -/
theorem collectivesReleaseAndArrive : Obligations.CollectivesReleaseAndArrive := by
  unfold Obligations.CollectivesReleaseAndArrive
  refine ⟨?_, fun s cid blk d r h => exec_blockRelease_released h,
    fun s cid d r h => ⟨exec_srcwinArrival_spec h, exec_srcwinArrival_waits h⟩, fun s u dev w g => exec_winHandover_stale, ?_,
    fun s id q w => exec_transferRestart_requests⟩
  · intro s cid blk d r h hred hblk hnew a0 n
    refine ⟨fun need hn => ?_, fun hn hall hp => exec_blockRelease_provisional h hred hblk hnew hn hall hp⟩
    intro out off
    refine ⟨fun hall hopen hwait => ?_, exec_blockRelease_waits h hred hblk hnew hn⟩
    obtain ⟨⟨q, hq, hrel⟩, -, hcnt4, hcnt8, hdata, hcarries⟩ := State.sumBlock_spec h blk need
    have hout : ((s.blockSum d r blk need).map (·.1)).flatten = out := congrArg List.flatten (s.blockSum_bytes d r blk need rfl)
    rw [hout] at hdata hcarries
    exact ⟨_, q, exec_blockRelease_sums h hred hblk hnew hn hall hopen hwait, hq, hrel, hcnt4, hcnt8, hdata, hcarries⟩
  · intro s u dev w g x h hx hside ms hs hmine
    exact ⟨exec_winHandover_spec h hx hside hmine, exec_winHandover_held h hx hside hmine⟩

end Sys2Proof.Machine

/-!
PROOFS. Power and reset (O48): what a restart of the module leaves, and which event restarts it.
-/
namespace Sys2Proof.Machine

/-! ### What a restart leaves (R380, R390, R436) -/

section
variable (s : State) (b : Bool)

theorem State.restarted_fresh : (s.restarted b).Fresh := ⟨rfl, rfl, rfl, rfl, rfl, rfl, rfl, rfl, rfl, rfl, rfl⟩

theorem State.restarted_persists : s.Persists (s.restarted b) := ⟨rfl, rfl, rfl, ⟨rfl, rfl, rfl⟩, rfl, rfl, rfl, rfl⟩

end

/-- What a restart keeps does not depend on the input and PWR_OK, the levels at the module's pins. -/
theorem State.persists_pins {s t : State} {a : Aon} (h : ({ s with aon := a } : State).Persists t) (hptp : a.ptp = s.aon.ptp)
    (hvalid : a.timeValid = s.aon.timeValid) (hks : a.ks = s.aon.ks) : s.Persists t := by
  obtain ⟨htptp, htvalid, htks, hrest⟩ := h
  exact ⟨htptp.trans hptp, htvalid.trans hvalid, htks.trans hks, hrest⟩

/-! ### MODULE_RESET and RESET_N (R431) -/

section
variable {s : State}

theorem exec_moduleReset_powered (hpow : s.aon.power = true) (hok : s.aon.pwrOk = true) : exec .moduleReset s = .next (s.restarted false) :=
  congrArg Host.Outcome.next (if_pos ⟨hpow, hok⟩)

theorem exec_moduleReset_unpowered (h : s.aon.power = false ∨ s.aon.pwrOk = false) : exec .moduleReset s = .next s := by
  refine congrArg Host.Outcome.next (if_neg ?_)
  rintro ⟨hpow, hok⟩
  simp [hpow, hok] at h

theorem exec_resetNAssert_powered (hpow : s.aon.power = true) :
    exec .resetNAssert s = .next (({ s with aon := { s.aon with resetLow := true } } : State).restarted true) :=
  congrArg Host.Outcome.next (if_pos hpow)

theorem exec_resetNAssert_unpowered (hpow : s.aon.power = false) : exec .resetNAssert s = .next s :=
  congrArg Host.Outcome.next (if_neg (by simp [hpow]))

/-! ### The input and the rails (R430) -/

theorem exec_inputFall38v_running (hok : s.aon.pwrOk = true) :
    exec .inputFall38v s = .next ({ s with aon := { s.aon with inputOn := false } } : State).powerFail :=
  congrArg Host.Outcome.next (if_pos hok)

theorem exec_inputFall38v_down (hok : s.aon.pwrOk = false) :
    exec .inputFall38v s = .next { s with aon := { s.aon with inputOn := false } } :=
  congrArg Host.Outcome.next (if_neg (by simp [hok]))

theorem exec_railOutOfLimits_running (hok : s.aon.pwrOk = true) : exec .railOutOfLimits s = .next s.powerFail :=
  congrArg Host.Outcome.next (if_pos hok)

theorem exec_railOutOfLimits_down (hok : s.aon.pwrOk = false) : exec .railOutOfLimits s = .next s :=
  congrArg Host.Outcome.next (if_neg (by simp [hok]))

theorem exec_inputRise39v_powers (hpow : s.aon.power = true) (hok : s.aon.pwrOk = false) :
    exec .inputRise39v s = .next { s with aon := { s.aon with pwrOk := s.aon.railsOk, inputOn := true } } :=
  congrArg Host.Outcome.next (if_pos ⟨hpow, by simp [hok]⟩)

/-- Every domain but the always-on domain is held in reset once PWR_OK has fallen. -/
theorem State.powerFail_spec (s : State) : s.powerFail.Fresh ∧ s.Persists s.powerFail ∧ s.powerFail.vent.startup.held = true ∧
    s.powerFail.aon.pwrOk = false ∧ s.powerFail.aon.inputOn = s.aon.inputOn :=
  ⟨State.restarted_fresh _ _, State.persists_pins (State.restarted_persists _ _) rfl rfl rfl, rfl, rfl, rfl⟩

/-- The 48 V input, monitor 23, is no rail. -/
theorem Aon.railsOk_iff (a : Aon) : a.railsOk = true ↔ ∀ e ∈ a.volts, e.1 = 23 ∨ voltWide e.1 e.2 = false := by
  unfold Aon.railsOk
  simp [List.all_eq_true]

/-! ### The always-on domain's own power (R271, R413, R428) -/

theorem exec_aonPowerUp_powers (hpow : s.aon.power = false) (puf : List Byte) : exec (.aonPowerUp puf) s = .next { s.restarted true with
    aon := { Aon.reset with
      pwrOk := false
      inputOn := false
      ks := some (Config.fuzzyExtract puf s.vent.flash.helper)
      resetLow := s.aon.resetLow
      perstLow := s.aon.perstLow }
    jtag := { Jtag.reset with trst := s.jtag.trst } } :=
  congrArg Host.Outcome.next (if_neg (by simp [hpow]))

end

/-- Settles O48, event by event: each that restarts the module does so by `State.restarted`, whose state is fresh and keeps what persists. -/
theorem powerAndReset : Obligations.PowerAndReset := by
  unfold Obligations.PowerAndReset
  refine ⟨fun s hpow hok => ?_, fun s => exec_moduleReset_unpowered, fun s => exec_resetNAssert_unpowered,
    fun s hok => ⟨exec_inputFall38v_down hok, exec_railOutOfLimits_down hok⟩, fun s hpow => ?_, fun s hok => ⟨?_, ?_⟩,
    fun s hpow hok => ⟨exec_inputRise39v_powers hpow hok, s.aon.railsOk_iff⟩, fun s => ?_, fun s puf hpow => ?_⟩
  · refine ⟨_, exec_moduleReset_powered hpow hok, s.restarted_fresh _, s.restarted_persists _, rfl, Bool.and_false _, fun hpace => ?_, rfl, rfl, rfl⟩
    show (!false && (s.aon.thermAlert || s.aon.pace == 4)) = true
    simp [hpace]
  · exact ⟨_, exec_resetNAssert_powered hpow, State.restarted_fresh _ _, State.persists_pins (State.restarted_persists _ _) rfl rfl rfl,
      rfl, rfl, rfl, rfl⟩
  · obtain ⟨hfresh, hkept, hheld, hdown, hinput⟩ := State.powerFail_spec { s with aon := { s.aon with inputOn := false } }
    exact ⟨_, exec_inputFall38v_running hok, hfresh, State.persists_pins hkept rfl rfl rfl, hheld, hdown, hinput⟩
  · obtain ⟨hfresh, hkept, hheld, hdown, -⟩ := s.powerFail_spec
    exact ⟨_, exec_railOutOfLimits_running hok, hfresh, hkept, hheld, hdown⟩
  · exact ⟨_, rfl, s.restarted_fresh _, rfl, rfl, rfl, rfl, ⟨rfl, rfl, rfl⟩, rfl, rfl, rfl, rfl⟩
  · exact ⟨_, exec_aonPowerUp_powers hpow puf, s.restarted_fresh _, rfl, rfl, rfl, rfl, ⟨rfl, rfl, rfl⟩, rfl, rfl, rfl⟩

end Sys2Proof.Machine

/-!
PROOFS. The external inputs and the IEEE 1588 counter (O45).
-/
namespace Sys2Proof.Machine

/-! ### A change of the pacing level (R401) -/

/-- What a change of the pacing level leaves: the counter and the inputs. -/
def Aon.pins (a : Aon) : Ptp × InSt × InSt := (a.ptp, a.syncIn, a.throttle)

theorem State.paceOn_aon (s : State) (p : Nat) : (s.paceOn p).aon = s.aon := by
  unfold State.paceOn
  split <;> rfl

theorem State.setPace_aon (s : State) (p : Nat) : (s.setPace p).aon = { s.aon with pace := p } := by
  unfold State.setPace
  split
  next h => rw [h]
  next =>
    dsimp only
    rw [foldl_keep State.aon]
    exact fun _ _ => rfl

theorem State.paceTo_aon (s : State) (p : Nat) : (s.paceTo p).aon.pace = p ∧ (s.paceTo p).aon.pins = s.aon.pins := by
  unfold State.paceTo
  dsimp only
  split_ifs
  · rw [State.paceOn_aon]
    simp [Aon.pins, State.setPace_aon]
  · simp [Aon.pins, State.setPace_aon]
  · simp [Aon.pins, State.setPace_aon]

/-- An accepted THROTTLE_N leaves the inputs and the counter, raises the level to 4 and lowers none. -/
theorem State.throttleEdge_aon (s : State) : s.throttleEdge.aon.pins = s.aon.pins ∧
    (s.aon.throttled = true → s.aon.pace < 4 → s.throttleEdge.aon.pace = 4) ∧ (4 ≤ s.aon.pace → s.throttleEdge.aon.pace = s.aon.pace) := by
  unfold State.throttleEdge
  split
  next h => exact ⟨(s.paceTo_aon 4).2, fun _ _ => (s.paceTo_aon 4).1, fun hp => absurd h.2 (Nat.not_lt.2 hp)⟩
  next h => exact ⟨rfl, fun ht hp => absurd ⟨ht, hp⟩ h, fun _ => rfl⟩

/-! ### THROTTLE_N (R403, R433) -/

section
variable {s : State}

theorem exec_inputEdgeAccept_held (hheld : s.vent.startup.held = true) (level : Bool) : exec (.inputEdgeAccept .throttleN level) s = .next s :=
  if_pos (.inl (by simp [State.unsampled, hheld]))

theorem exec_inputStuck_held (hheld : s.vent.startup.held = true) : exec (.inputStuck .throttleN) s = .next s :=
  if_pos (.inl (by simp [State.unsampled, hheld]))

/-- An accepted edge is noted; one that masks a chattering input is an event of Vent's. -/
theorem exec_throttle_edge (hpow : s.aon.power = true) (hheld : s.vent.startup.held = false) {level : Bool} (hne : s.aon.throttle.active ≠ level) :
    ∃ u : State, exec (.inputEdgeAccept .throttleN level) s = .next u.throttleEdge ∧
      u.aon = { s.aon with throttle := s.aon.throttle.edge level s.cc } := by
  refine ⟨_, if_neg ?_, ?_⟩
  · simp [State.unsampled, hpow, hheld, hne]
  · rw [apply_ite State.aon]
    exact ite_self _

theorem exec_throttle_edge_spec (hpow : s.aon.power = true) (hheld : s.vent.startup.held = false) {level : Bool}
    (hne : s.aon.throttle.active ≠ level) :
    let es := (s.aon.throttle.edges.filter fun c => decide (s.cc < c + 10 * ccPerMs)) ++ [s.cc]
    ∃ t : State, exec (.inputEdgeAccept .throttleN level) s = .next t ∧ t.aon.throttle.active = level ∧ t.aon.throttle.edges = es ∧
      t.aon.throttle.masked = (s.aon.throttle.masked || decide (16 < es.length)) ∧ t.aon.ptp = s.aon.ptp ∧ t.aon.syncIn = s.aon.syncIn ∧
      (level = true → s.aon.pace < 4 → t.aon.pace = 4) ∧ (4 ≤ s.aon.pace → t.aon.pace = s.aon.pace) := by
  intro es
  obtain ⟨u, hrun, haon⟩ := exec_throttle_edge hpow hheld hne
  obtain ⟨hpins, hraise, hkeep⟩ := u.throttleEdge_aon
  simp only [Aon.pins, Prod.mk.injEq, haon] at hpins
  obtain ⟨hptp, hsync, hthr⟩ := hpins
  refine ⟨_, hrun, by rw [hthr]; rfl, by rw [hthr]; rfl, by rw [hthr]; rfl, hptp, hsync, fun hl hp => hraise ?_ ?_, fun hp => ?_⟩
  · rw [haon]
    simp [Aon.throttled, InSt.edge, hl]
  · rw [haon]
    exact hp
  · rw [hkeep (by rw [haon]; exact hp), haon]

/-- An input that has been active for more than a second is stuck, once. -/
theorem exec_inputStuck_stuck (hpow : s.aon.power = true) (hheld : s.vent.startup.held = false) (hact : s.aon.throttle.active = true)
    (hnew : s.aon.throttle.stuck = false) {c : Nat} (hlast : s.aon.throttle.last = some c) (hlong : c + ccPerSec < s.cc) :
    exec (.inputStuck .throttleN) s =
      .next (({ s with aon := { s.aon with throttle := { s.aon.throttle with stuck := true } } } : State).health 0x0005 (leBytes 1 1)) := by
  show execInputStuck .throttleN s = _
  unfold execInputStuck
  dsimp only
  exact if_neg (by simp [State.unsampled, hpow, hheld, hact, hnew, hlast, hlong])

end

/-! ### SYNC_IN (R403) -/

/-- An edge within a millisecond of one second after the last aligns the counter to the nearest second; another leaves it. -/
theorem State.syncEdge_spec (s : State) (c : Nat) : (s.syncEdge (some c)).aon.syncIn = s.aon.syncIn ∧
    (ccPerSec - ccPerMs ≤ s.cc - c → s.cc - c ≤ ccPerSec + ccPerMs →
      (s.syncEdge (some c)).aon.ptp = ⟨(s.aon.ptp.sec + (if 500000000 ≤ s.aon.ptp.ns then 1 else 0)) % 2 ^ 48, 0, 0⟩) ∧
    (s.cc - c < ccPerSec - ccPerMs ∨ ccPerSec + ccPerMs < s.cc - c → (s.syncEdge (some c)).aon.ptp = s.aon.ptp) := by
  have hms : ccPerMs < ccPerSec := by decide
  unfold State.syncEdge
  dsimp only
  split
  next h => exact ⟨rfl, fun _ _ => rfl, fun hout => absurd h (by omega)⟩
  next h => exact ⟨rfl, fun hlo hhi => absurd ⟨by omega, hhi⟩ h, fun _ => rfl⟩

/-- The edge that makes SYNC_IN active is noted. -/
def State.syncNoted (s : State) : State := { s with aon := { s.aon with syncIn := s.aon.syncIn.edge true s.cc } }

/-- An edge that makes SYNC_IN active, and is not the 17th of 10 ms, is compared with the last. -/
theorem exec_syncIn_edge {s : State} {c : Nat} (hpow : s.aon.power = true) (hact : s.aon.syncIn.active = false)
    (hmask : s.aon.syncIn.masked = false) (hlast : s.aon.syncIn.last = some c)
    (hfew : ((s.aon.syncIn.edges.filter fun c => decide (s.cc < c + 10 * ccPerMs)) ++ [s.cc]).length ≤ 16) :
    exec (.inputEdgeAccept .syncIn true) s = .next (s.syncNoted.syncEdge (some c)) := by
  have hopen : (s.aon.syncIn.edge true s.cc).masked = false := by
    show (s.aon.syncIn.masked || decide _) = false
    rw [hmask, decide_eq_false (Nat.not_lt.2 hfew)]
    rfl
  show execInputEdgeAccept .syncIn true s = _
  unfold execInputEdgeAccept
  simp [State.syncNoted, State.unsampled, hpow, hact, hmask, hopen, hlast]

/-! ### The counter's lock and SYNC_OUT (R270, R271, R434) -/

section
variable {s : State} {p : Nat}

theorem exec_ieee1588Lock (hp : p < 12) (sec ns : Nat) : exec (.ieee1588Lock p sec ns) s =
    .next (if (s.port p).st ≠ .up then s
      else { s with aon := { s.aon with ptp := ⟨sec % 2 ^ 48, ns % 2 ^ 32, 0⟩, timeValid := true } }) := by
  show execIeee1588Lock p sec ns s = _
  unfold execIeee1588Lock
  exact onPort_next hp s _

theorem exec_syncOutPulse_spec (hpow : s.aon.power = true) (hheld : s.vent.startup.held = false) (hpll : s.vent.startup.plls = true) :
    exec .syncOutPulse s = .next (if s.aon.ptp.ns ≤ 10 ∨ 999999990 ≤ s.aon.ptp.ns then
      { s with aon := { s.aon with syncOutUntil := s.cc + 18000 } } else s) := by
  show execSyncOutPulse s = _
  unfold execSyncOutPulse
  dsimp only
  rw [hpow, hheld, hpll]
  refine congrArg Host.Outcome.next (if_congr ?_ rfl rfl)
  simp

end

/-- Settles O45, input by input. -/
theorem externalInputsAndTime : Obligations.ExternalInputsAndTime := by
  unfold Obligations.ExternalInputsAndTime
  refine ⟨fun s hheld => ⟨exec_inputEdgeAccept_held hheld, exec_inputStuck_held hheld⟩,
    fun s level hpow hheld hne => exec_throttle_edge_spec hpow hheld hne, fun s c hpow hact hmask hlast hfew _ => ?_,
    fun s c hpow hheld hact hnew hlast hlong => ⟨_, exec_inputStuck_stuck hpow hheld hact hnew hlast hlong, rfl, rfl⟩,
    fun s p sec ns hp => ⟨fun hup => ?_, fun hdown => ?_⟩,
    fun s hpow hheld hpll => ⟨fun hns => ?_, fun hlo hhi => ?_⟩⟩
  · obtain ⟨hsync, hin, hout⟩ := s.syncNoted.syncEdge_spec c
    exact ⟨_, exec_syncIn_edge hpow hact hmask hlast hfew, by rw [hsync]; rfl, hin, hout⟩
  · exact (exec_ieee1588Lock hp sec ns).trans (congrArg Host.Outcome.next (if_neg (not_not.2 hup)))
  · exact (exec_ieee1588Lock hp sec ns).trans (congrArg Host.Outcome.next (if_pos hdown))
  · rw [exec_syncOutPulse_spec hpow hheld hpll, if_pos (Or.inl hns)]
  · rw [exec_syncOutPulse_spec hpow hheld hpll, if_neg (by omega)]

end Sys2Proof.Machine

/-!
PROOFS. Message egress (O33): what one segment of CLASS MSG to an UP session leaves, and the three events of MESSAGE_EGRESS.
-/
namespace Sys2Proof.Machine

/-! ### One segment of CLASS MSG (R290) -/

theorem State.needPeer_up {s : State} {dev : Nat} (hup : s.sessUp dev = true) : s.needPeer dev = s := by
  have hst : (s.sess dev).st = .up := of_decide_eq_true hup
  exact if_neg (by rw [hst]; simp)

/-- A transfer to an UP session adds no message of its own. -/
theorem State.launch_out {s : State} {x : XferReq} (hup : s.sessUp x.dev = true) (r : Requester) :
    (s.launch r x).txp.out = s.txp.out := by
  unfold State.launch
  dsimp only
  split
  · unfold State.queueAt
    split
    · rfl
    · rfl
  · refine (congrArg (fun u : State => u.txp.out) (State.needPeer_up ?_)).trans rfl
    exact hup

section
variable {s : State} {dev : Nat} (hup : s.sessUp dev = true) (hmask : s.masks.contains .msg = false) (args : List Nat) (pz : Bool)

/-- What the sending of a segment of CLASS MSG keeps beside the messages out, the ports and the transfers that wait. -/
theorem State.egress_keep {γ : Type} (π : State → γ) (hport : ∀ u p x, π (State.setPort u p x) = π u)
    (htxp : ∀ (u : State) x, π { u with txp := x } = π u) (hhost : ∀ (u : State) x, π { u with host := x } = π u) :
    π (s.egress dev args pz) = π s :=
  (State.launch_keep π hport htxp hhost _ _ _).trans (htxp s _)

theorem State.egress_frame (s : State) (dev : Nat) : (s.egress dev args pz).tiles = s.tiles ∧ (s.egress dev args pz).mem = s.mem ∧
    (s.egress dev args pz).msgs = s.msgs :=
  ⟨State.egress_keep args pz State.tiles (fun _ _ _ => rfl) (fun _ _ => rfl) fun _ _ => rfl,
    State.egress_keep args pz State.mem (fun _ _ _ => rfl) (fun _ _ => rfl) fun _ _ => rfl,
    State.egress_keep args pz State.msgs (fun _ _ _ => rfl) (fun _ _ => rfl) fun _ _ => rfl⟩

include hup

theorem State.egress_out : ∃ o : OutMsg, (s.egress dev args pz).txp.out = s.txp.out ++ [o] ∧ o.dev = dev ∧ o.mtype = 0 ∧ o.args = args ∧
    o.session = (s.sess dev).num :=
  ⟨{ outMsg dev 0x00 3 0 args [] with session := (s.sess dev).num, epoch := s.txp.epoch }, State.launch_out hup _, rfl, rfl, rfl, rfl⟩

omit hup
include hmask

theorem State.egress_carries : (s.egress dev args pz).Carries fun g => g.r = .msg ∧ g.x.dev = dev ∧ g.x.cls = 3 ∧
    g.x.data = msgBytes args ∧ g.x.pz = List.replicate (ceilDiv args.length 2) pz := by
  refine State.carriesReq_launch (Q := fun r x => r = .msg ∧ x.dev = dev ∧ x.cls = 3 ∧ x.data = msgBytes args ∧
    x.pz = List.replicate (ceilDiv args.length 2) pz) _ ?_ fun _ => ⟨rfl, rfl, rfl, rfl, rfl⟩
  exact hmask

end

/-- What carries a transfer of one kind carries one of a wider kind. -/
theorem State.Carries.mono {s : State} {P Q : Grant → Prop} (h : s.Carries P) (hpq : ∀ g, P g → Q g) : s.Carries Q := by
  obtain ⟨p, g, hg, hp⟩ | ⟨w, hw, hp⟩ := h
  · exact .inl ⟨p, g, hg, hpq g hp⟩
  · exact .inr ⟨w, hw, hpq _ hp⟩

/-! ### A message of this module (R290) -/

theorem exec_egressSend_none {s : State} {id : Nat} (h : ∀ m ∈ s.msgs.fly, m.id = id → m.outward = false) :
    exec (.messageEgress (.send id)) s = .next s := by
  have hnone : s.msgs.fly.find? (fun m => m.id == id && m.outward) = none :=
    List.find?_eq_none.2 fun m hm => by
      by_cases hid : m.id = id
      · simp [h m hm hid]
      · simp [hid]
  show Host.Outcome.next (s.egressSend id) = _
  unfold State.egressSend
  rw [hnone]

section
variable {s : State} {id : Nat} {m : Msg} (hfind : s.msgs.fly.find? (fun m => m.id == id && m.outward) = some m)
include hfind

theorem exec_egressSend_headless (hhead : s.groupHead m.dest = none) : exec (.messageEgress (.send id)) s = .next (s.answerMsg id 3) := by
  show Host.Outcome.next (s.egressSend id) = _
  unfold State.egressSend
  rw [hfind]
  dsimp only
  rw [hhead]

section
variable {d : Nat} (hhead : s.groupHead m.dest = some d)
include hhead

/-- The message to a group with a head: the checks in their order. -/
theorem exec_egressSend_headed : exec (.messageEgress (.send id)) s = .next (
    if d = s.vent.devId ∨ s.egressEarlier m then s
    else if !s.sessUp d then (s.answerMsg id 3).needPeer d
    else if s.masks.contains .msg then s
    else ({ s with msgs := { s.msgs with fly := s.msgs.fly.map fun k => if k.id = id then { k with sentTo := some d } else k } } : State).egress d
      ([m.id, m.src, m.dest, m.tag, b2n m.poison] ++ m.words.map (·.toNat)) m.poison) := by
  show Host.Outcome.next (s.egressSend id) = _
  unfold State.egressSend
  rw [hfind]
  dsimp only
  rw [hhead]

theorem exec_egressSend_waits (h : d = s.vent.devId ∨ s.egressEarlier m = true) : exec (.messageEgress (.send id)) s = .next s := by
  rw [exec_egressSend_headed hfind hhead, if_pos h]

section
variable (hd : d ≠ s.vent.devId) (hfirst : s.egressEarlier m = false)
include hd hfirst

theorem exec_egressSend_down (hup : s.sessUp d = false) : exec (.messageEgress (.send id)) s = .next ((s.answerMsg id 3).needPeer d) := by
  rw [exec_egressSend_headed hfind hhead, if_neg (by simp [hd, hfirst]), if_pos (by rw [hup]; rfl)]

theorem exec_egressSend_masked (hup : s.sessUp d = true) (hmask : s.masks.contains .msg = true) :
    exec (.messageEgress (.send id)) s = .next s := by
  rw [exec_egressSend_headed hfind hhead, if_neg (by simp [hd, hfirst]), if_neg (by simp [hup]), if_pos hmask]

/-- The first message to an UP head leaves as a transfer of its fields. -/
theorem exec_egressSend_leaves (hup : s.sessUp d = true) (hmask : s.masks.contains .msg = false) :
    let args := [m.id, m.src, m.dest, m.tag, b2n m.poison] ++ m.words.map (·.toNat)
    ∃ t : State, ∃ o : OutMsg, exec (.messageEgress (.send id)) s = .next t ∧ t.tiles = s.tiles ∧ t.mem = s.mem ∧
      t.msgs.fly = s.msgs.fly.map (fun k => if k.id = id then { k with sentTo := some d } else k) ∧
      t.txp.out = s.txp.out ++ [o] ∧ o.dev = d ∧ o.mtype = 0 ∧ o.args = args ∧ o.session = (s.sess d).num ∧
      t.Carries fun g => g.r = .msg ∧ g.x.dev = d ∧ g.x.cls = 3 ∧ g.x.data = msgBytes args ∧
        g.x.pz = List.replicate (ceilDiv args.length 2) m.poison := by
  intro args
  set s1 : State := { s with msgs := { s.msgs with fly := s.msgs.fly.map fun k => if k.id = id then { k with sentTo := some d } else k } } with hs1
  have hrun : exec (.messageEgress (.send id)) s = .next (s1.egress d args m.poison) := by
    rw [exec_egressSend_headed hfind hhead, if_neg (by simp [hd, hfirst]), if_neg (by simp [hup]), if_neg (by rw [hmask]; exact Bool.false_ne_true)]
  have hup1 : s1.sessUp d = true := hup
  obtain ⟨o, hout, hdev, htype, hargs, hsess⟩ := State.egress_out hup1 args m.poison
  obtain ⟨htiles, hmem, hmsgs⟩ := State.egress_frame args m.poison s1 d
  exact ⟨_, o, hrun, htiles, hmem, congrArg Messages.fly hmsgs, hout, hdev, htype, hargs, hsess, State.egress_carries (s := s1) hmask args m.poison⟩

end
end
end

/-! ### A message of another module and its answer (R290) -/

section
variable {s : State} {dev : Nat} {m : RMsg}

theorem exec_egressIn_waits (h : s.sessUp dev = false ∨ s.masks.contains .msg = true) : exec (.messageEgress (.incoming dev m)) s = .next s := by
  show Host.Outcome.next (s.egressIn dev m) = _
  unfold State.egressIn
  exact congrArg Host.Outcome.next (if_pos (h.imp_left fun hup => by rw [hup]; rfl))

/-- A message that arrives is taken by the ring of virtual tile 0, or by none where this module is not the head, and answered. -/
theorem exec_egressIn_answers (hup : s.sessUp dev = true) (hmask : s.masks.contains .msg = false) :
    let r : Tile × Nat := if s.groupHead m.dest = some s.vent.devId
      then (s.tile 0).receive ⟨s.rankOf dev, m.src, true, m.dest, m.tag, m.words, m.poison⟩ else (s.tile 0, 3)
    ∃ t : State, ∃ o : OutMsg, exec (.messageEgress (.incoming dev m)) s = .next t ∧ t.tile 0 = r.1 ∧
      (∀ k, k ≠ 0 → t.tile k = s.tile k) ∧ t.txp.out = s.txp.out ++ [o] ∧ o.dev = dev ∧ o.args = [m.src, m.dest, m.tag, r.2] ∧
      t.Carries fun g => g.r = .msg ∧ g.x.dev = dev ∧ g.x.data = msgBytes [m.src, m.dest, m.tag, r.2] := by
  intro r
  have hrun : exec (.messageEgress (.incoming dev m)) s = .next ((s.setTile 0 r.1).egress dev [m.src, m.dest, m.tag, r.2] false) := by
    show Host.Outcome.next (s.egressIn dev m) = _
    unfold State.egressIn
    dsimp only
    rw [if_neg (by rw [hup, hmask]; decide), ite_not]
  obtain ⟨o, hout, hdev, -, hargs, -⟩ := State.egress_out (s := s.setTile 0 r.1) hup [m.src, m.dest, m.tag, r.2] false
  obtain ⟨htiles, -, -⟩ := State.egress_frame [m.src, m.dest, m.tag, r.2] false (s.setTile 0 r.1) dev
  have htile (k : Nat) : ((s.setTile 0 r.1).egress dev [m.src, m.dest, m.tag, r.2] false).tile k = if k = 0 then r.1 else s.tile k :=
    (congrArg (fun l => Sparse.get Tile.reset l k) htiles).trans (Sparse.get_put ..)
  refine ⟨_, o, hrun, (htile 0).trans (if_pos rfl), fun k hk => (htile k).trans (if_neg hk), hout, hdev, hargs, ?_⟩
  refine (State.egress_carries (s := s.setTile 0 r.1) hmask [m.src, m.dest, m.tag, r.2] false).mono ?_
  rintro g ⟨hr, hgdev, -, hdata, -⟩
  exact ⟨hr, hgdev, hdata⟩

end

/-- Settles O33: the checks of `exec_egressSend_headed` in their order, `State.egress` for what leaves. -/
theorem messageEgress : Obligations.MessageEgress := by
  unfold Obligations.MessageEgress
  refine ⟨fun s id m hfind => ⟨exec_egressSend_headless hfind, fun d hhead => ⟨exec_egressSend_waits hfind hhead, fun hd hfirst =>
      ⟨exec_egressSend_down hfind hhead hd hfirst, exec_egressSend_masked hfind hhead hd hfirst, exec_egressSend_leaves hfind hhead hd hfirst⟩⟩⟩,
    fun s id => exec_egressSend_none, fun s dev m => ⟨exec_egressIn_waits, exec_egressIn_answers⟩, fun s id code => ⟨fun h => ?_, fun h => ?_⟩⟩
  · exact congrArg Host.Outcome.next (if_pos h)
  · exact congrArg Host.Outcome.next (if_neg (by rw [h]; exact Bool.false_ne_true))

end Sys2Proof.Machine

/-!
PROOFS. The port arbiter (O28): the end of a frame also closes a session that closes behind its successor, whatever the port does (R300).
-/
namespace Sys2Proof.Machine

/-- A module with no port in use, where the session with device 9 that a successor has replaced has sent its CLOSE (HELLO phase 6). -/
def closingBehind : State := { State.reset with txp := { Txp.reset with old := [(9, Session.closed)] } }

/-- Port 0 holds no grant. -/
theorem closingBehind_idle : (closingBehind.port 0).holder = none := rfl

/-- FRAME_TX_END on port 0 takes the session away: nothing of it is left to send. -/
theorem exec_frameTxEnd_closingBehind : exec (.frameTxEnd 0) closingBehind = .next State.reset := rfl

/-- Refutes O28, in its clause that FRAME_TX_END changes nothing on a port without a grant, not UP or with a full replay buffer: the session that
closes behind its successor is gone once its CLOSE has left, and the clause does not ask that there is none (the one on the end of a frame does). -/
theorem not_arbiterGrantsAndFrames : ¬ Obligations.ArbiterGrantsAndFrames := by
  unfold Obligations.ArbiterGrantsAndFrames
  rintro ⟨-, hidle, -⟩
  have hstays : exec (.frameTxEnd 0) closingBehind = .next closingBehind := hidle closingBehind 0 (by decide) (.inl closingBehind_idle)
  have hsame : State.reset = closingBehind := Host.Outcome.next.inj (exec_frameTxEnd_closingBehind.symm.trans hstays)
  have hold : ([] : Sparse Session) = [(9, Session.closed)] := congrArg (fun s => s.txp.old) hsame
  cases hold

end Sys2Proof.Machine

/-!
PROOFS. A port and its transfers (R267, R272 to R274, R292): its counters, its state, what it loses as it leaves UP, a flap.
-/
namespace Sys2Proof.Machine

/-! ### The counters of a port (R292) -/

section
variable (x : Port) (off n : Nat)

theorem Port.cnt_bump (k : Nat) : Sparse.get 0 (x.bump off n).cnt k = if k = off then sat32 (Sparse.get 0 x.cnt off) n else Sparse.get 0 x.cnt k :=
  Sparse.get_set ..

@[simp] theorem Port.st_bump : (x.bump off n).st = x.st := rfl
@[simp] theorem Port.cfg_bump : (x.bump off n).cfg = x.cfg := rfl
@[simp] theorem Port.mode_bump : (x.bump off n).mode = x.mode := rfl
@[simp] theorem Port.flaps_bump : (x.bump off n).flaps = x.flaps := rfl
@[simp] theorem Port.replay_bump : (x.bump off n).replay = x.replay := rfl
@[simp] theorem Port.rxSeq_bump : (x.bump off n).rxSeq = x.rxSeq := rfl
@[simp] theorem Port.lnak_bump : (x.bump off n).lnak = x.lnak := rfl
@[simp] theorem Port.holder_bump : (x.bump off n).holder = x.holder := rfl
@[simp] theorem Port.pend_bump : (x.bump off n).pend = x.pend := rfl
@[simp] theorem Port.tsq_bump : (x.bump off n).tsq = x.tsq := rfl
@[simp] theorem Port.tx_bump : (x.bump off n).tx = x.tx := rfl

theorem Port.cnt_unbump (k : Nat) :
    Sparse.get 0 (x.unbump off n).cnt k = if k = off then Sparse.get 0 x.cnt off - BitVec.ofNat 32 n else Sparse.get 0 x.cnt k :=
  Sparse.get_set ..

end

/-- A grant changes the holder and the pending transfers alone. -/
theorem Port.arbitrate_frame (x : Port) (cc : Nat) (t : Ptp) : ∃ h l, x.arbitrate cc t = { x with holder := h, pend := l } := by
  unfold Port.arbitrate
  split
  · exact ⟨_, _, rfl⟩
  · split_ifs
    · exact ⟨_, _, rfl⟩
    · split
      · exact ⟨_, _, rfl⟩
      · exact ⟨_, _, rfl⟩

/-! ### Beside the ports -/

/-- What the frames and the state of a port do not touch. -/
def State.besidePorts (s : State) : Sparse Tile × Mem × Messages × Txp := (s.tiles, s.mem, s.msgs, s.txp)

theorem State.besidePorts_iff {s u : State} : u.besidePorts = s.besidePorts ↔ u.tiles = s.tiles ∧ u.mem = s.mem ∧ u.msgs = s.msgs ∧ u.txp = s.txp := by
  simp [State.besidePorts]

section
variable (s : State) (p : Nat) (st : PortSt)

@[simp] theorem State.port_portTo : (s.portTo p st).port p = { s.port p with st := st } := by
  unfold State.portTo
  split
  next h => rw [← h]
  next => exact s.port_setPort_self p { s.port p with st := st }

theorem State.port_portTo_ne {q : Nat} (hq : q ≠ p) : (s.portTo p st).port q = s.port q := (s.portTo_spec p st).1.1 q hq

@[simp] theorem State.besidePorts_setPort (x : Port) : (s.setPort p x).besidePorts = s.besidePorts := rfl
@[simp] theorem State.besidePorts_health (code : Nat) (data : List Byte) : (s.health code data).besidePorts = s.besidePorts := rfl
@[simp] theorem State.port_health (code : Nat) (data : List Byte) (q : Nat) : (s.health code data).port q = s.port q := rfl

@[simp] theorem State.besidePorts_portTo : (s.portTo p st).besidePorts = s.besidePorts := by
  unfold State.portTo
  split
  · rfl
  · rfl

end

/-! ### Transfers that are kept for a restart (R274, R277) -/

/-- What every step of a fold keeps, and the step of an element brings about, holds of that element after the fold. -/
theorem foldl_brings {α β : Type} {P : β → α → Prop} {f : α → β → α} (hkeep : ∀ u x y, P x u → P x (f u y)) {C : β → Prop}
    (hgive : ∀ u x, C x → P x (f u x)) {l : List β} (a : α) {x : β} (hx : x ∈ l) (hc : C x) : P x (l.foldl f a) := by
  have hstays (l : List β) : ∀ a, P x a → P x (l.foldl f a) := by
    induction l with
    | nil => exact fun _ h => h
    | cons y l ih => exact fun a h => ih _ (hkeep a x y h)
  induction l generalizing a with
  | nil => cases hx
  | cons y l ih =>
    obtain rfl | hl := List.mem_cons.1 hx
    · exact hstays l _ (hgive a _ hc)
    · exact ih _ hl

/-- A transfer with W waits at its requester. -/
def State.Waits (s : State) (W : WaitXfer → Prop) : Prop := ∃ w ∈ s.txp.waiting, W w

theorem State.Waits.park' {s : State} {W : WaitXfer → Prop} (h : s.Waits W) (p : Nat) (g : Grant) (b : Bool) : (s.park' p g b).Waits W := by
  obtain ⟨w, hw, hp⟩ := h
  exact ⟨w, List.mem_append_left _ hw, hp⟩

theorem State.waits_park' (s : State) (p : Nat) (g : Grant) (b : Bool) : (s.park' p g b).Waits fun w => w.g = g ∧ w.port = p ∧ w.waitWin = b :=
  ⟨_, List.mem_append_right _ (List.mem_singleton_self _), rfl, rfl, rfl⟩

theorem State.Waits.recover {s : State} {W : WaitXfer → Prop} (h : s.Waits W) (p : Nat) (g : Grant) (b : Bool) : (s.recover p g b).Waits W := by
  unfold State.recover State.holdXfer
  split
  · exact h
  · refine State.Waits.park' ?_ _ _ _
    split
    · exact h
    · exact h

/-- A transfer that is recovered waits with its request, under its number or a new one, to begin again. -/
theorem State.waits_recover (s : State) (p : Nat) {g : Grant} (hr : g.r ≠ .mgmt) (b : Bool) : (s.recover p g b).Waits fun w =>
    w.port = p ∧ w.g.r = g.r ∧ w.g.x = { g.x with xfer := w.g.x.xfer } ∧ w.g.sent = 0 := by
  unfold State.recover State.holdXfer
  rw [if_neg hr]
  refine ⟨_, List.mem_append_right _ (List.mem_singleton_self _), rfl, ?_⟩
  split
  · exact ⟨rfl, rfl, rfl⟩
  · exact ⟨rfl, rfl, rfl⟩

/-- What a change of the waiting transfers and of the next transfer's number keeps, a recovery keeps. -/
theorem State.recover_keep {γ : Type} (π : State → γ)
    (h : ∀ (u : State) a b c, π { u with txp := { u.txp with waiting := a, waitNo := b, xferNo := c } } = π u) (s : State) (p : Nat) (g : Grant)
    (b : Bool) : π (s.recover p g b) = π s := by
  unfold State.recover State.holdXfer
  split
  · rfl
  · dsimp only
    split
    · exact h s _ _ _
    · exact h s _ _ s.txp.xferNo

/-- The waiting transfers after the recovery of one that is not of management: it is the last, with its next attempt, or after its sixteenth under
a new number (R322). -/
theorem State.recover_waiting (s : State) (p : Nat) {g : Grant} (hr : g.r ≠ .mgmt) :
    (g.att < 15 → (s.recover p g false).txp.waiting = s.txp.waiting ++
      [⟨s.txp.waitNo, { g with att := g.att + 1, sent := 0, dead := false, again := true }, p, false, s.now⟩]) ∧
    (15 ≤ g.att → (s.recover p g false).txp.waiting = s.txp.waiting ++
      [⟨s.txp.waitNo, { g with x := { g.x with xfer := Sparse.get 0 s.txp.xferNo g.x.cls }, att := 0, sent := 0, resends := 0,
                               dead := false, again := true }, p, false, s.now⟩]) := by
  unfold State.recover State.holdXfer
  rw [if_neg hr]
  refine ⟨fun h => ?_, fun h => ?_⟩
  · rw [if_neg (by simpa using h)]
    rfl
  · rw [if_pos (by simpa using h)]
    rfl

/-! ### A port leaves UP (R274) -/

/-- The pending transfers of a port that a pre-emption of this cycle has cut off, and the others. -/
def State.cutOff (s : State) (p : Nat) : List Grant := (s.port p).pend.filter fun g => g.cut == some s.cc
def State.uncut (s : State) (p : Nat) : List Grant := (s.port p).pend.filter fun g => !(g.cut == some s.cc)

/-- The port without its frames and without the transfers that are cut off, which do not count as pre-empted. -/
def State.framesGone (s : State) (p : Nat) : State :=
  let s1 := s.setPort p { s.port p with holder := none, replay := [], lnak := none, pend := s.uncut p }
  if (s.cutOff p).isEmpty then s1 else s1.setPort p ((s1.port p).unbump 0x7C (s.cutOff p).length)

/-- What is cut off waits at its requester, and what the replay buffer held is recovered. -/
def State.framesSaved (s : State) (p : Nat) : State :=
  let u := s.framesGone p
  (s.unacked p).foldl (fun (u : State) e => u.recover p e.2 false)
    ((s.cutOff p).foldl (fun (u : State) g => u.park' p g false)
      { u with txp := { u.txp with sentX := u.txp.sentX.filter fun e => !(s.unacked p).contains e } })

/-- What becomes of the transfer in progress. -/
def State.holderDown (s u : State) (p : Nat) : State :=
  match (s.port p).holder with
  | some g =>
    if g.dead then u.msgLost g
    else if g.gat = s.cc ∧ g.sent = 0 then u.setPort p { u.port p with pend := s.uncut p ++ [g] }
    else u.recover p g false
  | none => u

theorem State.portDown_eq (s : State) (p : Nat) : s.portDown p = s.holderDown (s.framesSaved p) p := rfl

section
variable (s : State) (p : Nat)

/-- The port as its frames leave it. -/
theorem State.port_framesGone : let z := (s.framesGone p).port p
    z = { s.port p with holder := none, replay := [], lnak := none, pend := s.uncut p, cnt := z.cnt } ∧
    ∀ k, Sparse.get 0 z.cnt k =
      if k = 0x7C then Sparse.get 0 (s.port p).cnt 0x7C - BitVec.ofNat 32 (s.cutOff p).length else Sparse.get 0 (s.port p).cnt k := by
  unfold State.framesGone
  dsimp only
  split
  next h =>
    rw [State.port_setPort_self]
    refine ⟨rfl, fun k => ?_⟩
    split
    next hk => simp [hk, List.isEmpty_iff.1 h]
    next => rfl
  next =>
    rw [State.port_setPort_self, State.port_setPort_self]
    exact ⟨rfl, fun k => Port.cnt_unbump ..⟩

theorem State.besidePorts_framesGone : (s.framesGone p).besidePorts = s.besidePorts := by
  unfold State.framesGone
  dsimp only
  split <;> rfl

/-- What the records of transfers keep, the saving of the frames keeps of the port without them. -/
theorem State.framesSaved_keep {γ : Type} (π : State → γ)
    (h : ∀ (u : State) a b c, π { u with txp := { u.txp with waiting := a, waitNo := b, xferNo := c } } = π u) :
    π (s.framesSaved p) = π { s.framesGone p with
      txp := { s.txp with sentX := s.txp.sentX.filter fun e => !(s.unacked p).contains e } } := by
  obtain ⟨-, -, -, htxp⟩ := State.besidePorts_iff.1 (s.besidePorts_framesGone p)
  rw [← htxp]
  exact (foldl_keep π _ (fun u (e : Nat × Grant) => State.recover_keep π h u p e.2 false) _ _).trans (foldl_keep π _ (fun u _ => h u _ _ u.txp.xferNo) _ _)

theorem State.framesSaved_frame : let u := s.framesSaved p
    u.port p = (s.framesGone p).port p ∧ u.tiles = s.tiles ∧ u.mem = s.mem ∧ u.msgs = s.msgs ∧
    u.txp.sentX = s.txp.sentX.filter fun e => !(s.unacked p).contains e := by
  obtain ⟨htiles, hmem, hmsgs, -⟩ := State.besidePorts_iff.1 (s.besidePorts_framesGone p)
  exact ⟨s.framesSaved_keep p (fun u => u.port p) fun _ _ _ _ => rfl, (s.framesSaved_keep p State.tiles fun _ _ _ _ => rfl).trans htiles,
    (s.framesSaved_keep p State.mem fun _ _ _ _ => rfl).trans hmem, (s.framesSaved_keep p State.msgs fun _ _ _ _ => rfl).trans hmsgs,
    s.framesSaved_keep p (fun u => u.txp.sentX) fun _ _ _ _ => rfl⟩

/-- A transfer that waits stays while others are recovered. -/
theorem State.Waits.recovers {u : State} {W : WaitXfer → Prop} (h : u.Waits W) (l : List (Nat × Grant)) :
    (l.foldl (fun (u : State) e => u.recover p e.2 false) u).Waits W := by
  induction l generalizing u with
  | nil => exact h
  | cons e l ih => exact ih (h.recover p e.2 false)

/-- Every transfer that is cut off waits at its requester. -/
theorem State.waits_cutOff {g : Grant} (hg : g ∈ s.cutOff p) :
    (s.framesSaved p).Waits fun w => w.g = g ∧ w.port = p ∧ w.waitWin = false :=
  State.Waits.recovers p (foldl_brings (P := fun g u => State.Waits u fun w => w.g = g ∧ w.port = p ∧ w.waitWin = false)
    (C := fun _ => True) (fun _ _ k h => h.park' p k false) (fun u g _ => u.waits_park' p g false) _ hg trivial) _

/-- Every transfer whose frames stood unacknowledged waits to begin again, and is sent no more. -/
theorem State.waits_unacked {e : Nat × Grant} (he : e ∈ s.unacked p) :
    e ∉ (s.framesSaved p).txp.sentX ∧ (s.framesSaved p).Waits fun w =>
      w.port = p ∧ w.g.r = e.2.r ∧ w.g.x = { e.2.x with xfer := w.g.x.xfer } ∧ w.g.sent = 0 := by
  have hr : e.2.r ≠ .mgmt := by
    have h := (List.mem_filter.1 he).2
    simp only [Bool.and_eq_true, decide_eq_true_eq] at h
    exact h.1.2
  refine ⟨?_, foldl_brings (P := fun (e : Nat × Grant) u => State.Waits u fun w =>
    w.port = p ∧ w.g.r = e.2.r ∧ w.g.x = { e.2.x with xfer := w.g.x.xfer } ∧ w.g.sent = 0) (C := fun e => e.2.r ≠ .mgmt)
    (fun _ _ k h => h.recover p k.2 false) (fun u e hr => u.waits_recover p hr false) _ he hr⟩
  obtain ⟨-, -, -, -, hsent⟩ := s.framesSaved_frame p
  rw [hsent]
  simp [he]

/-- With nothing cut off and nothing unacknowledged, the waiting transfers and their numbers stay. -/
theorem State.framesSaved_idle (hcut : s.cutOff p = []) (hlost : s.unacked p = []) : let u := s.framesSaved p
    u.txp.waiting = s.txp.waiting ∧ u.txp.waitNo = s.txp.waitNo ∧ u.txp.xferNo = s.txp.xferNo ∧ u.now = s.now := by
  obtain ⟨-, -, -, htxp⟩ := State.besidePorts_iff.1 (s.besidePorts_framesGone p)
  have hnow : (s.framesGone p).now = s.now := by
    unfold State.framesGone
    dsimp only
    split <;> rfl
  unfold State.framesSaved
  rw [hcut, hlost]
  simp only [List.foldl_nil]
  exact ⟨congrArg Txp.waiting htxp, congrArg Txp.waitNo htxp, congrArg Txp.xferNo htxp, hnow⟩

end

section
variable {s : State} {p : Nat} {g : Grant} (h : (s.port p).holder = some g)

theorem State.portDown_of_none (h : (s.port p).holder = none) : s.portDown p = s.framesSaved p := by
  rw [State.portDown_eq, State.holderDown, h]

include h

theorem State.portDown_of_dead (hd : g.dead = true) : s.portDown p = (s.framesSaved p).msgLost g := by
  rw [State.portDown_eq, State.holderDown, h]
  exact if_pos hd

theorem State.portDown_of_fresh (hd : g.dead = false) (hg : g.gat = s.cc ∧ g.sent = 0) :
    s.portDown p = (s.framesSaved p).setPort p { (s.framesSaved p).port p with pend := s.uncut p ++ [g] } := by
  rw [State.portDown_eq, State.holderDown, h]
  exact (if_neg (by simp [hd])).trans (if_pos hg)

theorem State.portDown_of_begun (hd : g.dead = false) (hg : ¬ (g.gat = s.cc ∧ g.sent = 0)) :
    s.portDown p = (s.framesSaved p).recover p g false := by
  rw [State.portDown_eq, State.holderDown, h]
  exact (if_neg (by simp [hd])).trans (if_neg hg)

end

section
variable (s : State) (p : Nat) (g : Grant)

/-- The loss of a message touches the messages alone. -/
theorem State.msgLost_keep : ∃ m, s.msgLost g = { s with msgs := m } := by
  unfold State.msgLost
  split
  · split
    · exact ⟨_, rfl⟩
    · exact ⟨_, rfl⟩
  · exact ⟨_, rfl⟩

/-- A message that is lost with its transfer has an answer (R196). -/
theorem State.msgLost_answers {id : Nat} (hid : g.msgId = some id) (hfly : (s.msgs.fly.any fun m => m.id == id && m.sentTo.isSome) = true) :
    ∀ m ∈ (s.msgLost g).msgs.fly, m.id = id → m.answer.isSome = true := by
  unfold State.msgLost
  rw [hid]
  dsimp only
  rw [if_pos hfly]
  intro m hm hmid
  obtain ⟨k, -, rfl⟩ := List.mem_map.1 hm
  revert hmid
  split
  · exact fun _ => rfl
  next hk => exact fun hmid => by simpa [hmid, ← Option.ne_none_iff_isSome] using hk

/-- What becomes of the transfer in progress, case by case (R274, R280). -/
theorem State.portDown_cases {P : State → Prop} (hnone : P (s.framesSaved p)) (hlost : ∀ g, P ((s.framesSaved p).msgLost g))
    (hwaits : ∀ l, P ((s.framesSaved p).setPort p { (s.framesSaved p).port p with pend := l }))
    (hkept : ∀ g, P ((s.framesSaved p).recover p g false)) : P (s.portDown p) := by
  match h : (s.port p).holder with
  | none => rwa [State.portDown_of_none h]
  | some g =>
    by_cases hd : g.dead = true
    · exact State.portDown_of_dead h hd ▸ hlost g
    · by_cases hg : g.gat = s.cc ∧ g.sent = 0
      · exact State.portDown_of_fresh h (by simpa using hd) hg ▸ hwaits _
      · exact State.portDown_of_begun h (by simpa using hd) hg ▸ hkept g

/-- A port that goes down is its own without frames, but for the pending transfers. -/
theorem State.port_portDown : ∃ l, (s.portDown p).port p = { (s.framesGone p).port p with pend := l } := by
  obtain ⟨hport, -⟩ := s.framesSaved_frame p
  refine s.portDown_cases p (P := fun u => ∃ l, u.port p = { (s.framesGone p).port p with pend := l }) ⟨_, hport⟩ (fun g => ?_) (fun l => ?_) fun g => ?_
  · obtain ⟨m, hm⟩ := (s.framesSaved p).msgLost_keep g
    rw [hm]
    exact ⟨_, hport⟩
  · rw [State.port_setPort_self, hport]
    exact ⟨l, rfl⟩
  · exact ⟨_, (State.recover_keep (fun u => u.port p) (fun _ _ _ _ => rfl) _ p g false).trans hport⟩

/-- The transfers that wait once the frames are saved wait when the port is down, and no other is taken to be sent. -/
theorem State.portDown_waits : (∀ W, (s.framesSaved p).Waits W → (s.portDown p).Waits W) ∧
    (s.portDown p).txp.sentX = (s.framesSaved p).txp.sentX := by
  refine s.portDown_cases p (P := fun u => (∀ W, (s.framesSaved p).Waits W → u.Waits W) ∧ u.txp.sentX = (s.framesSaved p).txp.sentX)
    ⟨fun _ h => h, rfl⟩ (fun g => ?_) (fun l => ⟨fun _ h => h, rfl⟩) fun g => ⟨fun _ h => h.recover p g false, ?_⟩
  · obtain ⟨m, hm⟩ := (s.framesSaved p).msgLost_keep g
    rw [hm]
    exact ⟨fun _ h => h, rfl⟩
  · exact State.recover_keep (fun u => u.txp.sentX) (fun _ _ _ _ => rfl) _ p g false

/-- The frame of a port that goes down: what it keeps, what it is left with, and the rest of the module. -/
theorem State.portDown_frame : let u := s.portDown p
    let z := u.port p
    z = { s.port p with holder := none, replay := [], lnak := none, pend := z.pend, cnt := z.cnt } ∧
    (∀ k, Sparse.get 0 z.cnt k =
      if k = 0x7C then Sparse.get 0 (s.port p).cnt 0x7C - BitVec.ofNat 32 (s.cutOff p).length else Sparse.get 0 (s.port p).cnt k) ∧
    u.tiles = s.tiles ∧ u.mem = s.mem ∧ ∀ q, q ≠ p → u.port q = s.port q := by
  obtain ⟨l, hl⟩ := s.port_portDown p
  obtain ⟨hz, hcnt⟩ := s.port_framesGone p
  have hrest := State.portDown_keep (fun u => (u.tiles, u.mem)) (p := p) (fun _ _ _ => rfl) (fun _ _ => rfl) (fun _ _ => rfl) s
  obtain ⟨htiles, hmem⟩ := Prod.mk.injEq .. ▸ hrest
  refine ⟨?_, ?_, htiles, hmem, (s.portDown_spec p).1.1⟩
  · rw [hl]
    dsimp only
    rw [hz]
  · rw [hl]
    exact hcnt

end

/-! ### A flap (R272, R273) -/

/-- The flaps of the last 60 seconds, and whether the next one holds the port down. -/
def State.recentFlaps (s : State) (p : Nat) : List (Nat × Nat) := (s.port p).flaps.filter fun f => decide (s.cc < f.1 + 60 * ccPerSec)
def State.flapState (s : State) (p : Nat) : PortSt := if 3 ≤ (s.recentFlaps p).length then .held else .training

/-- What a flap of an UP port leaves: the port as it went down, with one more loss counted, training or held down, and the rest of the module as
the port's going down leaves it. -/
theorem State.flap_spec {s : State} {p : Nat} (hup : (s.port p).st = .up) (lanes : Nat) :
    let v := s.portDown p
    let u := s.flap p lanes
    let z := u.port p
    u.besidePorts = v.besidePorts ∧ (∀ q, q ≠ p → u.port q = v.port q) ∧
    z = { v.port p with st := s.flapState p, flaps := z.flaps, laneUp := z.laneUp, tryAt := s.cc, identAt := none, heldLane := z.heldLane,
                        cnt := ((v.port p).bump 0x80 1).cnt } := by
  unfold State.flap State.flapState
  dsimp only
  rw [if_neg (by simp [hup])]
  by_cases h : 3 ≤ (s.recentFlaps p).length
  · rw [if_pos h, if_pos (by simpa [State.recentFlaps] using h)]
    refine ⟨by simp, fun q hq => by simp [State.port_portTo_ne, hq, State.port_setPort], ?_⟩
    simp only [State.port_health, State.port_portTo, State.port_setPort_self]
    rfl
  · rw [if_neg h, if_neg (by simpa [State.recentFlaps] using h)]
    refine ⟨by simp, fun q hq => by simp [State.port_portTo_ne, hq, State.port_setPort], ?_⟩
    simp only [State.port_portTo, State.port_setPort_self]
    rfl

end Sys2Proof.Machine

/-!
PROOFS. O30: the states of a port (R262 to R264, R272 to R274, R277, R388).
-/
namespace Sys2Proof.Machine

section
variable {s : State} {p : Nat} (hp : p < 12)
include hp

/-! ### Training (R263, R264, R272) -/

section
variable (hst : (s.port p).st = .training) (hcc : s.cc ≤ (s.port p).tryAt + attemptCc) (hid : ∀ a, (s.port p).identAt = some a → s.cc ≤ a + identCc)
include hst hcc hid

omit hp in
/-- Training that ends in its attempt, and the identification in its wait, are not late. -/
theorem State.trainedInTime : ¬ ((s.port p).st ≠ .training ∨ (s.port p).tryAt + attemptCc < s.cc ∨
    ((s.port p).identAt.any fun a => decide (a + identCc < s.cc)) = true) := by
  simp only [hst, Option.any_eq_true, decide_eq_true_eq]
  grind

theorem exec_portTrained_up (hm : (s.port p).mode = 1 ∨ ((s.port p).mode = 2 ∧ ((s.port p).encap ≠ 0 ∨ (s.port p).etype ≠ 0))) :
    ∃ u : State, exec (.portTrained p true) s = .next u ∧ (u.port p).st = .up ∧ (u.port p).replay = [] ∧ (u.port p).txSeq = 0 ∧
      (u.port p).rxSeq = 255 ∧ (u.port p).laneUp = 15 ∧ ∀ q, q ≠ p → u.port q = s.port q := by
  show ∃ u : State, execPortTrained p true s = _ ∧ _
  unfold execPortTrained
  rw [onPort_next hp]
  refine ⟨_, rfl, ?_⟩
  dsimp only
  rw [if_neg (State.trainedInTime hst hcc hid), if_neg (by simp; grind)]
  simp only [State.port_setPort_self, State.port_portTo]
  generalize hx : ({ s.port p with laneUp := 15, identAt := none, txSeq := 0, replay := [], rxSeq := 255, lnak := none, st := .up } : Port) = x
  obtain ⟨h, l, hg⟩ := x.arbitrate_frame s.cc s.aon.ptp
  rw [hg]
  subst hx
  refine ⟨rfl, rfl, rfl, rfl, rfl, fun q hq => ?_⟩
  simp [State.port_setPort, State.port_portTo_ne, hq]

theorem exec_portTrained_wait (hm : (s.port p).mode = 1) : exec (.portTrained p false) s =
    .next (s.setPort p { s.port p with laneUp := 15, identAt := some ((s.port p).identAt.getD s.cc) }) := by
  show execPortTrained p false s = _
  unfold execPortTrained
  rw [onPort_next hp]
  dsimp only
  rw [if_neg (State.trainedInTime hst hcc hid), if_pos (Or.inl ⟨hm, rfl⟩), if_pos hm]

end

theorem exec_portTrained_late (b : Bool) (h : (s.port p).tryAt + attemptCc < s.cc) : exec (.portTrained p b) s = .next s := by
  show execPortTrained p b s = _
  unfold execPortTrained
  rw [onPort_next hp]
  exact congrArg Host.Outcome.next (if_pos (Or.inr (Or.inl h)))

/-! ### Another attempt (R263, R272) -/

omit hp in
theorem State.retry_of_training (h : (s.port p).st = .training) :
    s.retry p = s.setPort p (Port.bump { s.port p with laneUp := 0, tryAt := s.cc, identAt := none } 0x80 1) := if_pos h

theorem exec_retrainAttemptTimeout : exec (.retrainAttemptTimeout p) s =
    .next (if (s.port p).tryAt + attemptCc ≤ s.cc then s.retry p else s) := by
  show execRetrainAttemptTimeout p s = _
  unfold execRetrainAttemptTimeout
  rw [onPort_next hp]

theorem exec_directIdentTimeout : exec (.directIdentTimeout p) s =
    .next (if (s.port p).mode = 1 ∧ ((s.port p).identAt.any fun a => decide (a + identCc ≤ s.cc)) = true then s.retry p else s) := by
  show execDirectIdentTimeout p s = _
  unfold execDirectIdentTimeout
  rw [onPort_next hp]

/-! ### Configuration writes (R262, R273) -/

theorem exec_portnCfgWriteDisable (v : Word) : exec (.portnCfgWriteDisable p v) s =
    .next (if fld v.toNat 1 0 = 0 ∧ (!s.vent.startup.held) = true then s.cfgDisable p v else s) := onPort_next hp s _

theorem exec_portnCfgWriteEnable (v : Word) : exec (.portnCfgWriteEnable p v) s =
    .next (if fld v.toNat 1 0 ≠ 0 ∧ (!s.vent.startup.held) = true then s.cfgEnable p v else s) := onPort_next hp s _

omit hp

/-- The port that a write disables: without lanes, and without frames where it was UP. -/
theorem State.port_cfgDisable {v : Word} (hv : cfgReserved v = false) : ((s.cfgDisable p v).port p).laneUp = 0 ∧
    ((s.port p).st = .up → ((s.cfgDisable p v).port p).holder = none ∧ ((s.cfgDisable p v).port p).replay = []) := by
  unfold State.cfgDisable
  rw [if_neg (by simp [hv])]
  simp only [State.port_portTo, State.port_setPort_self, true_and]
  intro hup
  rw [if_pos hup]
  obtain ⟨hz, -⟩ := s.portDown_frame p
  rw [hz]
  exact ⟨rfl, rfl⟩

/-- The port that a write enables: its flaps are forgotten, and no lane is held. -/
theorem State.port_cfgEnable {v : Word} (hv : cfgReserved v = false) (hmode : (s.port p).mode = 0 ∨ (s.port p).mode = fld v.toNat 1 0)
    (hgood : Sparse.get false s.vent.map.ports p = false) (hboot : s.vent.dev ≠ .boot) (hdormant : s.vent.dev ≠ .dormant) :
    ((s.cfgEnable p v).port p).flaps = [] ∧ ((s.cfgEnable p v).port p).heldLane = 0 := by
  unfold State.cfgEnable
  dsimp only
  rw [if_neg (by simp [hv]; omega), if_neg (by simp [hgood, hboot, hdormant])]
  simp only [State.port_portTo, State.port_setPort_self, and_self]

end

/-! ### The transfers of a port that leaves UP (R274, R277, R280) -/

section
variable (s : State) (p : Nat)

theorem State.pend_framesSaved : ((s.framesSaved p).port p).pend = s.uncut p := by
  obtain ⟨hport, -⟩ := s.framesSaved_frame p
  obtain ⟨hz, -⟩ := s.port_framesGone p
  rw [hport, hz]

/-- Nothing was cut off and nothing stood unacknowledged. -/
def State.NoneAborted : Prop := s.cutOff p = [] ∧ s.unacked p = []

variable {s p} {g : Grant}

theorem State.portDown_idle (h : (s.port p).holder = none) : ((s.portDown p).port p).pend = s.uncut p ∧
    (s.NoneAborted p → (s.portDown p).txp.waiting = s.txp.waiting) := by
  rw [State.portDown_of_none h]
  exact ⟨s.pend_framesSaved p, fun hn => (s.framesSaved_idle p hn.1 hn.2).1⟩

variable (h : (s.port p).holder = some g)
include h

theorem State.portDown_dead (hd : g.dead = true) : ((s.portDown p).port p).pend = s.uncut p ∧
    (s.NoneAborted p → (s.portDown p).txp.waiting = s.txp.waiting) ∧
    ∀ id, g.msgId = some id → (s.msgs.fly.any fun m => m.id == id && m.sentTo.isSome) = true →
      ∀ m ∈ (s.portDown p).msgs.fly, m.id = id → m.answer.isSome = true := by
  rw [State.portDown_of_dead h hd]
  refine ⟨?_, fun hn => ?_, fun id hid hfly => ?_⟩
  · obtain ⟨m, hm⟩ := (s.framesSaved p).msgLost_keep g
    rw [hm]
    exact s.pend_framesSaved p
  · obtain ⟨m, hm⟩ := (s.framesSaved p).msgLost_keep g
    rw [hm]
    exact (s.framesSaved_idle p hn.1 hn.2).1
  · obtain ⟨-, -, -, hmsgs, -⟩ := s.framesSaved_frame p
    exact State.msgLost_answers _ g hid (hmsgs ▸ hfly)

theorem State.portDown_fresh (hd : g.dead = false) (hg : g.gat = s.cc ∧ g.sent = 0) :
    ((s.portDown p).port p).pend = s.uncut p ++ [g] ∧ (s.NoneAborted p → (s.portDown p).txp.waiting = s.txp.waiting) := by
  rw [State.portDown_of_fresh h hd hg, State.port_setPort_self]
  exact ⟨rfl, fun hn => (s.framesSaved_idle p hn.1 hn.2).1⟩

theorem State.portDown_begun (hd : g.dead = false) (hg : ¬ (g.gat = s.cc ∧ g.sent = 0)) :
    ((s.portDown p).port p).pend = s.uncut p ∧ (s.NoneAborted p →
      (g.r = .mgmt → (s.portDown p).txp.waiting = s.txp.waiting) ∧
      (g.r ≠ .mgmt →
        (g.att < 15 → (s.portDown p).txp.waiting = s.txp.waiting ++
          [⟨s.txp.waitNo, { g with att := g.att + 1, sent := 0, dead := false, again := true }, p, false, s.now⟩]) ∧
        (15 ≤ g.att → (s.portDown p).txp.waiting = s.txp.waiting ++
          [⟨s.txp.waitNo, { g with x := { g.x with xfer := Sparse.get 0 s.txp.xferNo g.x.cls }, att := 0, sent := 0, resends := 0,
                                   dead := false, again := true }, p, false, s.now⟩]))) := by
  rw [State.portDown_of_begun h hd hg]
  refine ⟨?_, fun hn => ?_⟩
  · exact (congrArg Port.pend (State.recover_keep (fun u => u.port p) (fun _ _ _ _ => rfl) _ p g false)).trans (s.pend_framesSaved p)
  · obtain ⟨hwaiting, hwaitNo, hxferNo, hnow⟩ := s.framesSaved_idle p hn.1 hn.2
    refine ⟨fun hr => ?_, fun hr => ?_⟩
    · unfold State.recover
      rw [if_pos hr, hwaiting]
    · have hw := (s.framesSaved p).recover_waiting p hr
      rwa [hwaiting, hwaitNo, hxferNo, hnow] at hw

end

/-! ### The flap itself (R272) -/

/-- A state with n more uncorrectable codewords at port p. -/
def State.MoreCodewords (s t : State) (p n : Nat) : Prop :=
  t = { s with ports := t.ports } ∧ (∀ q, q ≠ p → t.port q = s.port q) ∧ t.port p = { s.port p with cnt := (t.port p).cnt } ∧
  ∀ k, Sparse.get 0 (t.port p).cnt k = if k = 0x6C then sat32 (Sparse.get 0 (s.port p).cnt 0x6C) n else Sparse.get 0 (s.port p).cnt k

theorem State.moreCodewords_none (s : State) (p : Nat) : s.MoreCodewords s p 0 := by
  refine ⟨rfl, fun _ _ => rfl, rfl, fun k => ?_⟩
  split
  next h => rw [sat32_zero, h]
  next => rfl

theorem State.moreCodewords_bump (s : State) (p n : Nat) : s.MoreCodewords (s.setPort p ((s.port p).bump 0x6C n)) p n := by
  refine ⟨rfl, fun q hq => (State.port_setPort ..).trans (if_neg hq), ?_, fun k => ?_⟩
  · rw [State.port_setPort_self]
    rfl
  · rw [State.port_setPort_self, Port.cnt_bump]

/-- A loss of lane lock and a burst of 65 codewords are both flaps; the codewords are counted. -/
theorem exec_flaps {s : State} {p lane : Nat} (hp : p < 12) (hup : (s.port p).st = .up) (hl : lane < 4) {c : Instr}
    (hc : c ∈ [Instr.laneLockLoss p lane, Instr.fecBurst p lane]) :
    ∃ t : State, exec c s = .next (t.flap p (2 ^ lane)) ∧ s.MoreCodewords t p (if c = Instr.fecBurst p lane then 65 else 0) := by
  obtain rfl | rfl : c = .laneLockLoss p lane ∨ c = .fecBurst p lane := by simpa using hc
  · refine ⟨s, ?_, by simpa using s.moreCodewords_none p⟩
    show execLaneLockLoss p lane s = _
    unfold execLaneLockLoss
    rw [onPort_next hp, if_pos hl]
  · refine ⟨_, ?_, by simpa using s.moreCodewords_bump p 65⟩
    show execFecBurst p lane s = _
    unfold execFecBurst
    rw [onPort_next hp, if_pos ⟨hl, hup⟩]

/-- What a flap leaves of the port, and of the module, in terms of the port's going down. -/
theorem State.flap_frame {s : State} {p : Nat} (hup : (s.port p).st = .up) (lanes : Nat) :
    let v := s.portDown p
    let u := s.flap p lanes
    let z := u.port p
    (u.tiles = s.tiles ∧ u.mem = s.mem ∧ (∀ q, q ≠ p → u.port q = s.port q)) ∧
    (z.holder = none ∧ z.replay = [] ∧ z.st = s.flapState p ∧
      Sparse.get 0 z.cnt 0x80 = sat32 (Sparse.get 0 (s.port p).cnt 0x80) 1 ∧
      Sparse.get 0 z.cnt 0x6C = Sparse.get 0 (s.port p).cnt 0x6C ∧
      Sparse.get 0 z.cnt 0x7C = Sparse.get 0 (s.port p).cnt 0x7C - BitVec.ofNat 32 (s.cutOff p).length) ∧
    z.pend = (v.port p).pend ∧ u.txp = v.txp ∧ u.msgs = v.msgs := by
  obtain ⟨hbeside, hports, hz⟩ := State.flap_spec hup lanes
  obtain ⟨htiles, hmem, hmsgs, htxp⟩ := State.besidePorts_iff.1 hbeside
  obtain ⟨hv, hcnt, hvtiles, hvmem, hvports⟩ := s.portDown_frame p
  refine ⟨⟨htiles.trans hvtiles, hmem.trans hvmem, fun q hq => (hports q hq).trans (hvports q hq)⟩, ?_, ?_, htxp, hmsgs⟩
  · rw [hz]
    refine ⟨by rw [hv], by rw [hv], rfl, ?_, ?_, ?_⟩
    · rw [Port.cnt_bump, if_pos rfl, hcnt, if_neg (by decide)]
    · rw [Port.cnt_bump, if_neg (by decide), hcnt, if_neg (by decide)]
    · rw [Port.cnt_bump, if_neg (by decide), hcnt, if_pos rfl]
  · rw [hz]

/-- What more codewords at a port leave of its transfers and of the module. -/
theorem State.MoreCodewords.same {s t : State} {p n : Nat} (h : s.MoreCodewords t p n) :
    t.cutOff p = ((s.port p).pend.filter fun h => h.cut = some s.cc) ∧ t.uncut p = ((s.port p).pend.filter fun h => h.cut ≠ some s.cc) ∧
    t.unacked p = s.unacked p ∧ t.flapState p = s.flapState p ∧ (t.port p).holder = (s.port p).holder ∧ (t.port p).st = (s.port p).st := by
  obtain ⟨ht, -, hport, -⟩ := h
  have hcc : t.cc = s.cc := by rw [ht]
  have htxp : t.txp = s.txp := by rw [ht]
  refine ⟨?_, ?_, ?_, ?_, by rw [hport], by rw [hport]⟩
  · rw [State.cutOff, hport, hcc]
    exact List.filter_congr fun g _ => Bool.eq_iff_iff.2 (by simp)
  · rw [State.uncut, hport, hcc]
    exact List.filter_congr fun g _ => Bool.eq_iff_iff.2 (by simp)
  · rw [State.unacked, State.unacked, hport, htxp]
  · rw [State.flapState, State.flapState, State.recentFlaps, State.recentFlaps, hport, hcc]

/-- Settles O30: clause by clause, a flap by way of the port's going down. -/
theorem portStates : Obligations.PortStates := by
  unfold Obligations.PortStates
  intro s p hp
  refine ⟨fun hst hcc hid => ⟨exec_portTrained_up hp hst hcc hid, exec_portTrained_wait hp hst hcc hid⟩,
    fun _ hlate b => exec_portTrained_late hp b hlate, ?flap, ⟨?_, ?_, ?_, ?_⟩, ?_, ?_, ?_, ?_, ?_⟩
  case flap =>
    intro hup lane hl c hc
    obtain ⟨t, hexec, hmore⟩ := exec_flaps hp hup hl hc
    obtain ⟨hcut, huncut, hlost, hflap, hholder, hst⟩ := hmore.same
    obtain ⟨ht, hports, -, hcnt⟩ := hmore
    obtain ⟨⟨htiles, hmem, hothers⟩, ⟨hh, hr, hs, h80, h6C, h7C⟩, hpend, htxp, hmsgs⟩ := State.flap_frame (hst.trans hup) (2 ^ lane)
    have htx : t.txp = s.txp := by rw [ht]
    have hfly : t.msgs = s.msgs := by rw [ht]
    have hcc : t.cc = s.cc := by rw [ht]
    have hnow : t.now = s.now := by rw [ht]; rfl
    have hnone (hc : t.cutOff p = []) (hl : t.unacked p = []) : t.NoneAborted p := ⟨hc, hl⟩
    obtain ⟨hwaits, hsent⟩ := t.portDown_waits p
    refine ⟨_, hexec, htiles.trans (by rw [ht]), hmem.trans (by rw [ht]), fun q hq => (hothers q hq).trans (hports q hq), hh, hr,
      hs.trans hflap, ?_, ?_, ?_⟩
    · rw [h80, hcnt, if_neg (by decide)]
    · rw [h6C, hcnt, if_pos rfl]
    · dsimp only
      rw [← hcut, ← huncut, ← hlost, h7C, hcnt, if_neg (by decide), hpend, htxp, hmsgs, ← htx, ← hfly, ← hholder, ← hcc, ← hnow]
      refine ⟨rfl, fun g hg => hwaits _ (t.waits_cutOff p hg), fun e he => ?_, fun hc hl hn => (State.portDown_idle hn).2 (hnone hc hl),
        fun hn => (State.portDown_idle hn).1, fun g hg => ⟨fun hd => ?_, fun hd hgat h0 => ?_, fun hd hbegun => ?_⟩⟩
      · obtain ⟨hnot, hw⟩ := t.waits_unacked p he
        exact ⟨hsent ▸ hnot, hwaits _ hw⟩
      · obtain ⟨hp, hw, ha⟩ := State.portDown_dead hg hd
        exact ⟨hp, fun hc hl => hw (hnone hc hl), ha⟩
      · obtain ⟨hp, hw⟩ := State.portDown_fresh hg hd ⟨hgat, h0⟩
        exact ⟨hp, fun hc hl => hw (hnone hc hl)⟩
      · obtain ⟨hp, hw⟩ := State.portDown_begun hg hd (by tauto)
        exact ⟨hp, fun hc hl => (hw (hnone hc hl)).1, fun hc hl => (hw (hnone hc hl)).2⟩
  · intro hst hlate
    rw [exec_retrainAttemptTimeout hp, if_pos hlate, State.retry_of_training hst]
  · intro hearly
    rw [exec_retrainAttemptTimeout hp, if_neg (Nat.not_le.2 hearly)]
  · intro hst hm a ha hlate
    rw [exec_directIdentTimeout hp, if_pos ⟨hm, (Option.any_eq_true _ _).2 ⟨a, ha, decide_eq_true hlate⟩⟩, State.retry_of_training hst]
  · intro hearly
    rw [exec_directIdentTimeout hp, if_neg]
    rintro ⟨-, hlate⟩
    obtain ⟨a, ha, hle⟩ := (Option.any_eq_true _ _).1 hlate
    exact absurd (hearly a ha) (Nat.not_lt.2 (of_decide_eq_true hle))
  · intro hheld v
    rw [exec_portnCfgWriteDisable hp, exec_portnCfgWriteEnable hp, if_neg (by simp [hheld]), if_neg (by simp [hheld])]
    exact ⟨rfl, rfl⟩
  · intro hheld v h0 hv
    obtain ⟨-, hset⟩ := s.cfgDisable_spec p hv
    obtain ⟨hlanes, hframes⟩ := State.port_cfgDisable (s := s) (p := p) hv
    simp only [Port.settings, Prod.mk.injEq] at hset
    obtain ⟨hcfg, -, -, hst⟩ := hset
    refine ⟨_, by rw [exec_portnCfgWriteDisable hp, if_pos ⟨h0, by simp [hheld]⟩], hst, ?_, hlanes, hframes⟩
    rw [Port.mode, hcfg, fld_mode_mask, h0]
  · intro hheld v h0 hv
    rw [exec_portnCfgWriteDisable hp, if_pos ⟨h0, by simp [hheld]⟩, State.cfgDisable, if_pos hv]
  · intro hheld v h0 hrej
    rw [exec_portnCfgWriteEnable hp, if_pos ⟨h0, by simp [hheld]⟩, State.cfgEnable]
    exact congrArg Host.Outcome.next (if_pos hrej)
  · intro hheld v h0 hmode hv hgood hboot hdormant
    obtain ⟨-, hset⟩ := s.cfgEnable_spec p hv hmode hgood hboot hdormant
    obtain ⟨hflaps, hlane⟩ := State.port_cfgEnable (s := s) (p := p) hv hmode hgood hboot hdormant
    simp only [Port.settings, Prod.mk.injEq] at hset
    obtain ⟨hcfg, -, -, hst⟩ := hset
    exact ⟨_, by rw [exec_portnCfgWriteEnable hp, if_pos ⟨h0, by simp [hheld]⟩], hst, hflaps, hlane, hcfg⟩

end Sys2Proof.Machine

/-!
PROOFS. O29: received frames, DIRECT and ETH (R263, R266 to R268, R270, R292).
-/
namespace Sys2Proof.Machine

/-! ### Acknowledgements, stamps and codewords -/

section
variable (x : Port) (t : Ptp)

/-- An acknowledgement changes the replay buffer and the holder alone. -/
theorem Port.ack_frame (n : Nat) : x.ack n t = { x with replay := (x.ack n t).replay, holder := (x.ack n t).holder } := by
  unfold Port.ack
  split
  · rfl
  · rfl

theorem Port.ack_bump (off k n : Nat) : (x.bump off k).ack n t = (x.ack n t).bump off k := by
  unfold Port.ack
  rw [Port.replay_bump]
  by_cases h : (x.replay.any fun e => e.1 == n) = true
  · rw [if_pos h, if_pos h]
    rfl
  · rw [if_neg h, if_neg h]

theorem Port.ack_fec (cw uc n : Nat) : (x.fec cw uc).ack n t = (x.ack n t).fec cw uc := by
  rw [Port.fec, Port.ack_bump, Port.ack_bump, Port.fec]

/-- An acknowledgement of a frame that the buffer holds once frees it and all before it (R267). -/
theorem Port.ack_of_mem {n r : Nat} {bs : List Byte} {pre post : List (Nat × Nat × List Byte)} (h : x.replay = pre ++ (n, r, bs) :: post)
    (hpre : ∀ e ∈ pre, e.1 ≠ n) :
    x.ack n t = { x with replay := post, holder := if x.replayFull then x.holder.map fun g => { g with start := t } else x.holder } := by
  have hany : (x.replay.any fun e => e.1 == n) = true := by simp [h]
  have hdrop : (x.replay.dropWhile fun e => e.1 != n) = (n, r, bs) :: post := by
    rw [h, List.dropWhile_append_of_pos (by simpa using hpre)]
    simp
  rw [Port.ack, if_pos hany, hdrop, List.drop_one, List.tail_cons]

/-- A stamp changes the queue and the count of lost stamps; a queue with room takes it (R270). -/
theorem Port.stamp_frame (sent : Bool) (kind tag : Nat) : let z := x.stamp t sent kind tag
    z = { x with tsq := z.tsq, cnt := z.cnt } := by
  unfold Port.stamp
  split
  · rfl
  · rfl

theorem Port.cnt_stamp (sent : Bool) (kind tag : Nat) {k : Nat} (hk : k ≠ 0x84) :
    Sparse.get 0 (x.stamp t sent kind tag).cnt k = Sparse.get 0 x.cnt k := by
  unfold Port.stamp
  split
  · rfl
  · rw [Port.cnt_bump, if_neg hk]

theorem Port.tsq_stamp (sent : Bool) (kind tag : Nat) (hroom : x.tsq.length < 64) :
    (x.stamp t sent kind tag).tsq = x.tsq ++ [⟨t, sent, kind, tag⟩] := by
  unfold Port.stamp
  rw [if_pos hroom]

/-- A received frame is stamped where its carriage asks for it (R265, R270). -/
theorem Port.rxStamp_frame (c : Carriage) : let z := x.rxStamp t c
    z = { x with tsq := z.tsq, cnt := z.cnt } := by
  unfold Port.rxStamp
  split
  · exact x.stamp_frame t ..
  · rfl

theorem Port.cnt_rxStamp (c : Carriage) {k : Nat} (hk : k ≠ 0x84) : Sparse.get 0 (x.rxStamp t c).cnt k = Sparse.get 0 x.cnt k := by
  unfold Port.rxStamp
  split
  · exact x.cnt_stamp t _ _ _ hk
  · rfl

theorem Port.tsq_rxStamp (c : Carriage) : (c.ts = false → (x.rxStamp t c).tsq = x.tsq) ∧
    (c.ts = true → x.tsq.length < 64 → (x.rxStamp t c).tsq = x.tsq ++ [⟨t, false, 0, c.xfer⟩]) := by
  unfold Port.rxStamp
  refine ⟨fun hts => ?_, fun hts hroom => ?_⟩
  · rw [if_neg (by simp [hts])]
  · rw [if_pos hts]
    exact x.tsq_stamp t _ _ _ hroom

end

/-! ### ETH frames (R268) -/

/-- The port once an ETH frame's codewords and the frame itself are counted (R292). -/
def Port.ethSeen (x : Port) (f : EFrame) : Port := (x.fec f.feccw f.fecuc).bump 0x64 1

/-- The port after an ETH frame. -/
def Port.ethRx (x : Port) (t : Ptp) (f : EFrame) : Port :=
  if !f.fcsOk then ((x.ethSeen f).bump 0x70 1).bump 0x78 1
  else if f.unsupported then (x.ethSeen f).bump 0x78 1
  else if eventFrame f then (x.ethSeen f).stamp t false 1 (f.ev1588.getD 0)
  else if (x.ethSeen f).ethTakes f then (x.ethSeen f).rxStamp t (bodyCar f.body)
  else (x.ethSeen f).bump 0x78 1

theorem exec_ethFrame {s : State} {p : Nat} (hp : p < 12) (hup : (s.port p).st = .up) (hm : (s.port p).mode = 2) (f : EFrame) :
    exec (.ethFrame p f) s = .next (s.setPort p ((s.port p).ethRx s.aon.ptp f)) := by
  show execEthFrame p f s = _
  unfold execEthFrame
  rw [onPort_next hp]
  exact congrArg Host.Outcome.next (if_neg (by simp [hup, hm]))

section
variable (x : Port) (t : Ptp) (f : EFrame)

theorem Port.ethSeen_frame : x.ethSeen f = { x with cnt := (x.ethSeen f).cnt } := by
  unfold Port.ethSeen Port.fec Port.bump
  rfl

theorem Port.ethTakes_bump (off n : Nat) : (x.bump off n).ethTakes f = x.ethTakes f := rfl

@[simp] theorem Port.tsq_ethSeen : (x.ethSeen f).tsq = x.tsq := by simp [Port.ethSeen, Port.fec]
@[simp] theorem Port.ethTakes_ethSeen : (x.ethSeen f).ethTakes f = x.ethTakes f := by simp [Port.ethSeen, Port.fec, Port.ethTakes_bump]

theorem Port.cnt_ethSeen {k : Nat} (h64 : k ≠ 0x64) (h68 : k ≠ 0x68) (h6C : k ≠ 0x6C) :
    Sparse.get 0 (x.ethSeen f).cnt k = Sparse.get 0 x.cnt k := by
  rw [Port.ethSeen, Port.cnt_bump, if_neg h64, Port.fec, Port.cnt_bump, if_neg h6C, Port.cnt_bump, if_neg h68]

/-- A frame in ETH mode changes the stamp queue and the counters; those of the codewords and of the frames received are as it was seen. -/
theorem Port.ethRx_frame : let z := x.ethRx t f
    z = { x with tsq := z.tsq, cnt := z.cnt } ∧
    ∀ k, k ≠ 0x70 → k ≠ 0x78 → k ≠ 0x84 → Sparse.get 0 z.cnt k = Sparse.get 0 (x.ethSeen f).cnt k := by
  have hx := x.ethSeen_frame f
  unfold Port.ethRx
  generalize x.ethSeen f = y at hx
  have hframe {z : Port} (hz : z = { y with tsq := z.tsq, cnt := z.cnt }) : z = { x with tsq := z.tsq, cnt := z.cnt } := by
    rw [hx] at hz
    exact hz
  split_ifs
  · exact ⟨hframe rfl, fun k h70 h78 _ => by rw [Port.cnt_bump, if_neg h78, Port.cnt_bump, if_neg h70]⟩
  · exact ⟨hframe rfl, fun k _ h78 _ => by rw [Port.cnt_bump, if_neg h78]⟩
  · exact ⟨hframe (y.stamp_frame t ..), fun k _ _ h84 => y.cnt_stamp t _ _ _ h84⟩
  · exact ⟨hframe (y.rxStamp_frame t _), fun k _ _ h84 => y.cnt_rxStamp t _ h84⟩
  · exact ⟨hframe rfl, fun k _ h78 _ => by rw [Port.cnt_bump, if_neg h78]⟩

theorem Port.ethRx_badFcs (hfcs : f.fcsOk = false) : let z := x.ethRx t f
    z.tsq = x.tsq ∧ Sparse.get 0 z.cnt 0x70 = sat32 (Sparse.get 0 x.cnt 0x70) 1 ∧ Sparse.get 0 z.cnt 0x78 = sat32 (Sparse.get 0 x.cnt 0x78) 1 := by
  unfold Port.ethRx
  rw [if_pos (by simp [hfcs])]
  refine ⟨by simp, ?_, ?_⟩
  · rw [Port.cnt_bump, if_neg (by decide), Port.cnt_bump, if_pos rfl, Port.cnt_ethSeen _ _ (by decide) (by decide) (by decide)]
  · rw [Port.cnt_bump, if_pos rfl, Port.cnt_bump, if_neg (by decide), Port.cnt_ethSeen _ _ (by decide) (by decide) (by decide)]

variable {f} (hfcs : f.fcsOk = true)
include hfcs

theorem Port.ethRx_goodFcs : Sparse.get 0 (x.ethRx t f).cnt 0x70 = Sparse.get 0 x.cnt 0x70 := by
  rw [← Port.cnt_ethSeen x f (k := 0x70) (by decide) (by decide) (by decide)]
  unfold Port.ethRx
  rw [if_neg (by simp [hfcs])]
  split_ifs
  · rw [Port.cnt_bump, if_neg (by decide)]
  · exact (x.ethSeen f).cnt_stamp t _ _ _ (by decide)
  · exact (x.ethSeen f).cnt_rxStamp t _ (by decide)
  · rw [Port.cnt_bump, if_neg (by decide)]

/-- A frame with an excluded feature, and one that the port does not take, is dropped and counted. -/
theorem Port.ethRx_dropped (h : f.unsupported = true ∨ (f.unsupported = false ∧ eventFrame f = false ∧ x.ethTakes f = false)) :
    let z := x.ethRx t f
    z.tsq = x.tsq ∧ Sparse.get 0 z.cnt 0x78 = sat32 (Sparse.get 0 x.cnt 0x78) 1 := by
  have hz : x.ethRx t f = (x.ethSeen f).bump 0x78 1 := by
    unfold Port.ethRx
    rw [if_neg (by simp [hfcs])]
    obtain hun | ⟨hun, hev, ht⟩ := h
    · rw [if_pos hun]
    · rw [if_neg (by simp [hun]), if_neg (by simp [hev]), if_neg (by simp [ht])]
  rw [hz]
  exact ⟨by simp, by rw [Port.cnt_bump, if_pos rfl, Port.cnt_ethSeen _ _ (by decide) (by decide) (by decide)]⟩

variable (hun : f.unsupported = false)
include hun

/-- An IEEE 1588 event message of its own EtherType is stamped with its sequence identifier (R270). -/
theorem Port.ethRx_event (het : f.etype = 0x88F7) {n : Nat} (hn : f.ev1588 = some n) (hroom : x.tsq.length < 64) :
    (x.ethRx t f).tsq = x.tsq ++ [⟨t, false, 1, n⟩] := by
  unfold Port.ethRx
  rw [if_neg (by simp [hfcs]), if_neg (by simp [hun]), if_pos (by simp [eventFrame, hn, het]), hn]
  have h := (x.ethSeen f).tsq_stamp t false 1 n
  rw [Port.tsq_ethSeen] at h
  exact h hroom

/-- Module traffic that the port takes is not dropped, and is stamped where its carriage asks for it (R265, R270). -/
theorem Port.ethRx_taken (hev : eventFrame f = false) (ht : x.ethTakes f = true) : let z := x.ethRx t f
    let c := bodyCar f.body
    Sparse.get 0 z.cnt 0x78 = Sparse.get 0 x.cnt 0x78 ∧ (c.ts = false → z.tsq = x.tsq) ∧
    (c.ts = true → x.tsq.length < 64 → z.tsq = x.tsq ++ [⟨t, false, 0, c.xfer⟩]) := by
  unfold Port.ethRx
  rw [if_neg (by simp [hfcs]), if_neg (by simp [hun]), if_neg (by simp [hev]), if_pos ((Port.ethTakes_ethSeen ..).trans ht)]
  have htsq := (x.ethSeen f).tsq_rxStamp t (bodyCar f.body)
  rw [Port.tsq_ethSeen] at htsq
  exact ⟨(Port.cnt_rxStamp _ _ _ (by decide)).trans (Port.cnt_ethSeen _ _ (by decide) (by decide) (by decide)), htsq⟩

end

/-! ### DIRECT frames (R266, R267) -/

theorem frameOk_iff (f : DFrame) : frameOk f = true ↔ crc32 (beBytes 8 f.hdr ++ f.body) = f.crc ∧ fld f.hdr 39 28 = f.body.length := by
  simp [frameOk]

/-- The port once a frame's codewords are counted, its acknowledgement is taken and it counts as received. -/
def Port.taken (x : Port) (t : Ptp) (f : DFrame) : Port := ((x.fec f.feccw f.fecuc).ack (fld f.hdr 47 40) t).bump 0x64 1

section
variable (x : Port) (t : Ptp) (f : DFrame)

theorem Port.cnt_fec (cw uc k : Nat) : Sparse.get 0 (x.fec cw uc).cnt k =
    if k = 0x6C then sat32 (Sparse.get 0 x.cnt 0x6C) uc else if k = 0x68 then sat32 (Sparse.get 0 x.cnt 0x68) cw else Sparse.get 0 x.cnt k := by
  have h : Sparse.get 0 (x.bump 0x68 cw).cnt 0x6C = Sparse.get 0 x.cnt 0x6C := by rw [Port.cnt_bump, if_neg (by decide)]
  rw [Port.fec, Port.cnt_bump, h, Port.cnt_bump]

/-- What is taken: the acknowledged frames leave, and of the counters only that of the frames received changes beside the codewords. -/
theorem Port.taken_frame : let y := x.taken t f
    y = { x with replay := (x.ack (fld f.hdr 47 40) t).replay, holder := y.holder, cnt := y.cnt } ∧
    ∀ k, Sparse.get 0 y.cnt k = if k = 0x64 then sat32 (Sparse.get 0 x.cnt 0x64) 1 else Sparse.get 0 (x.fec f.feccw f.fecuc).cnt k := by
  unfold Port.taken
  rw [Port.ack_fec, Port.ack_frame]
  refine ⟨rfl, fun k => ?_⟩
  rw [Port.cnt_bump, Port.cnt_fec, Port.cnt_fec, Port.cnt_fec]
  rfl

/-- The port after a DIRECT frame with its codewords. -/
def Port.directSeen : Port := (x.fec f.feccw f.fecuc).directRx t f

theorem Port.directSeen_bad (h : frameOk f = false) :
    x.directSeen t f = (Port.bump { x.fec f.feccw f.fecuc with lnak := some x.rxSeq } 0x70 1).linkFrame 3 := by
  unfold Port.directSeen Port.directRx
  rw [if_pos (by simp [h])]
  rfl

/-- A good frame is taken; then its FTYPE and its LSEQ decide. -/
theorem Port.directSeen_good (h : frameOk f = true) : x.directSeen t f =
    let y := x.taken t f
    let c := bodyCar f.body
    let n := fld f.hdr 55 48
    if fld f.hdr 63 56 ≠ 1 then y.bump 0x78 1
    else if n = (y.rxSeq + 1) % 256 then
      let z := ({ y with rxSeq := n, lnak := none } : Port).linkFrame 2
      if c.cver ≠ 1 ∨ 5 ≤ c.cls then z.bump 0x78 1 else z.rxStamp t c
    else if y.lnak.isSome ∨ (y.rxSeq + 256 - n) % 256 < 128 then y
    else ({ y with lnak := some y.rxSeq } : Port).linkFrame 3 := by
  unfold Port.directSeen Port.directRx Port.taken
  rw [if_neg (by simp [h])]

@[simp] theorem Port.rxSeq_taken : (x.taken t f).rxSeq = x.rxSeq := by rw [(x.taken_frame t f).1]
@[simp] theorem Port.lnak_taken : (x.taken t f).lnak = x.lnak := by rw [(x.taken_frame t f).1]
@[simp] theorem Port.tsq_taken : (x.taken t f).tsq = x.tsq := by rw [(x.taken_frame t f).1]
@[simp] theorem Port.replay_taken : (x.taken t f).replay = (x.ack (fld f.hdr 47 40) t).replay := by rw [(x.taken_frame t f).1]

@[simp] theorem Port.rxSeq_linkFrame (k : Nat) : (x.linkFrame k).rxSeq = x.rxSeq := rfl
@[simp] theorem Port.lnak_linkFrame (k : Nat) : (x.linkFrame k).lnak = x.lnak := rfl
@[simp] theorem Port.tsq_linkFrame (k : Nat) : (x.linkFrame k).tsq = x.tsq := rfl
@[simp] theorem Port.replay_linkFrame (k : Nat) : (x.linkFrame k).replay = x.replay := rfl
@[simp] theorem Port.tx_linkFrame (k : Nat) : (x.linkFrame k).tx = directFrame k 0 x.rxSeq [] := rfl
theorem Port.cnt_linkFrame (k : Nat) {i : Nat} : Sparse.get 0 (x.linkFrame k).cnt i =
    if i = 0x60 then sat32 (Sparse.get 0 x.cnt 0x60) 1 else Sparse.get 0 x.cnt i := Port.cnt_bump ..

/-- Every counter but those of the frames sent and received, of the bad, the dropped and the stamps, is as the codewords leave it. -/
theorem Port.cnt_directSeen {k : Nat} (h60 : k ≠ 0x60) (h64 : k ≠ 0x64) (h70 : k ≠ 0x70) (h78 : k ≠ 0x78) (h84 : k ≠ 0x84) :
    Sparse.get 0 (x.directSeen t f).cnt k = Sparse.get 0 (x.fec f.feccw f.fecuc).cnt k := by
  obtain ⟨-, htaken⟩ := x.taken_frame t f
  by_cases hok : frameOk f = true
  · rw [Port.directSeen_good _ _ _ hok]
    have hy : Sparse.get 0 (x.taken t f).cnt k = Sparse.get 0 (x.fec f.feccw f.fecuc).cnt k := by rw [htaken, if_neg h64]
    dsimp only
    split_ifs
    · rw [Port.cnt_bump, if_neg h78, hy]
    · rw [Port.cnt_bump, if_neg h78, Port.cnt_linkFrame, if_neg h60, hy]
    · rw [Port.cnt_rxStamp _ _ _ h84, Port.cnt_linkFrame, if_neg h60, hy]
    · exact hy
    · rw [Port.cnt_linkFrame, if_neg h60, hy]
  · rw [Port.directSeen_bad _ _ _ (by simpa using hok), Port.cnt_linkFrame, if_neg h60, Port.cnt_bump, if_neg h70]

/-- A frame whose CRC or LEN is wrong is answered by an LNAK and counted (R267). -/
theorem Port.directSeen_bad_spec (h : frameOk f = false) : let z := x.directSeen t f
    z.tx = directFrame 3 0 x.rxSeq [] ∧ Sparse.get 0 z.cnt 0x60 = sat32 (Sparse.get 0 x.cnt 0x60) 1 ∧
    z.lnak = some x.rxSeq ∧ z.rxSeq = x.rxSeq ∧ z.replay = x.replay ∧ z.tsq = x.tsq ∧
    Sparse.get 0 z.cnt 0x70 = sat32 (Sparse.get 0 x.cnt 0x70) 1 := by
  rw [Port.directSeen_bad _ _ _ h]
  refine ⟨by simp [Port.fec], ?_, by simp, by simp [Port.fec], by simp [Port.fec], by simp [Port.fec], ?_⟩
  · rw [Port.cnt_linkFrame, if_pos rfl, Port.cnt_bump, if_neg (by decide), Port.cnt_fec, if_neg (by decide), if_neg (by decide)]
  · rw [Port.cnt_linkFrame, if_neg (by decide), Port.cnt_bump, if_pos rfl, Port.cnt_fec, if_neg (by decide), if_neg (by decide)]

variable {f} (h : frameOk f = true)
include h

theorem Port.directSeen_good_spec : let z := x.directSeen t f
    z.replay = (x.ack (fld f.hdr 47 40) t).replay ∧ Sparse.get 0 z.cnt 0x64 = sat32 (Sparse.get 0 x.cnt 0x64) 1 := by
  obtain ⟨-, htaken⟩ := x.taken_frame t f
  have hcnt : Sparse.get 0 (x.taken t f).cnt 0x64 = sat32 (Sparse.get 0 x.cnt 0x64) 1 := by rw [htaken, if_pos rfl]
  have hreplay := x.replay_taken t f
  rw [Port.directSeen_good _ _ _ h]
  generalize x.taken t f = y at hcnt hreplay
  rw [← hcnt, ← hreplay]
  dsimp only
  split_ifs
  · exact ⟨by simp, by rw [Port.cnt_bump, if_neg (by decide)]⟩
  · exact ⟨by simp, by rw [Port.cnt_bump, if_neg (by decide), Port.cnt_linkFrame, if_neg (by decide)]⟩
  · exact ⟨by rw [Port.rxStamp_frame]; rfl, by rw [Port.cnt_rxStamp _ _ _ (by decide), Port.cnt_linkFrame, if_neg (by decide)]⟩
  · exact ⟨rfl, rfl⟩
  · exact ⟨by simp, by rw [Port.cnt_linkFrame, if_neg (by decide)]⟩

/-- A frame of a reserved FTYPE is dropped and counted (log entry 42). -/
theorem Port.directSeen_reserved (hft : fld f.hdr 63 56 ≠ 1) : let z := x.directSeen t f
    z.rxSeq = x.rxSeq ∧ Sparse.get 0 z.cnt 0x78 = sat32 (Sparse.get 0 x.cnt 0x78) 1 := by
  obtain ⟨-, htaken⟩ := x.taken_frame t f
  rw [Port.directSeen_good _ _ _ h]
  dsimp only
  rw [if_pos hft]
  refine ⟨by simp, ?_⟩
  rw [Port.cnt_bump, if_pos rfl, htaken, if_neg (by decide), Port.cnt_fec, if_neg (by decide), if_neg (by decide)]

variable (hft : fld f.hdr 63 56 = 1)
include hft

/-- A DATA frame in sequence is acknowledged by an LACK; one of another CVER or of a reserved CLASS is dropped and counted (R265, R267). -/
theorem Port.directSeen_next (hn : fld f.hdr 55 48 = (x.rxSeq + 1) % 256) : let z := x.directSeen t f
    let c := bodyCar f.body
    let n := fld f.hdr 55 48
    z.rxSeq = n ∧ z.lnak = none ∧ z.tx = directFrame 2 0 n [] ∧ Sparse.get 0 z.cnt 0x60 = sat32 (Sparse.get 0 x.cnt 0x60) 1 ∧
    (c.cver ≠ 1 ∨ 5 ≤ c.cls → Sparse.get 0 z.cnt 0x78 = sat32 (Sparse.get 0 x.cnt 0x78) 1 ∧ z.tsq = x.tsq) ∧
    (c.cver = 1 → c.cls < 5 → Sparse.get 0 z.cnt 0x78 = Sparse.get 0 x.cnt 0x78 ∧
      (c.ts = true → x.tsq.length < 64 → z.tsq = x.tsq ++ [⟨t, false, 0, c.xfer⟩])) := by
  obtain ⟨-, htaken⟩ := x.taken_frame t f
  have h60 : Sparse.get 0 (x.taken t f).cnt 0x60 = Sparse.get 0 x.cnt 0x60 := by
    rw [htaken, if_neg (by decide), Port.cnt_fec, if_neg (by decide), if_neg (by decide)]
  have h78 : Sparse.get 0 (x.taken t f).cnt 0x78 = Sparse.get 0 x.cnt 0x78 := by
    rw [htaken, if_neg (by decide), Port.cnt_fec, if_neg (by decide), if_neg (by decide)]
  have htsq := x.tsq_taken t f
  have hrx := x.rxSeq_taken t f
  rw [Port.directSeen_good _ _ _ h]
  generalize x.taken t f = y at h60 h78 htsq hrx
  dsimp only
  rw [if_neg (by simp [hft]), if_pos (hrx ▸ hn), ← h60, ← h78, ← htsq]
  by_cases hc : (bodyCar f.body).cver ≠ 1 ∨ 5 ≤ (bodyCar f.body).cls
  · rw [if_pos hc]
    refine ⟨by simp, by simp, by simp, ?_, fun _ => ⟨?_, by simp⟩, fun h1 h5 => absurd hc (by omega)⟩
    · rw [Port.cnt_bump, if_neg (by decide), Port.cnt_linkFrame, if_pos rfl]
    · rw [Port.cnt_bump, if_pos rfl, Port.cnt_linkFrame, if_neg (by decide)]
  · rw [if_neg hc]
    have hz := Port.rxStamp_frame (({ y with rxSeq := fld f.hdr 55 48, lnak := none } : Port).linkFrame 2) t (bodyCar f.body)
    obtain ⟨-, hyes⟩ := Port.tsq_rxStamp (({ y with rxSeq := fld f.hdr 55 48, lnak := none } : Port).linkFrame 2) t (bodyCar f.body)
    refine ⟨by rw [hz]; rfl, by rw [hz]; rfl, by rw [hz]; rfl, ?_, fun h => absurd h hc, fun _ _ => ⟨?_, hyes⟩⟩
    · rw [Port.cnt_rxStamp _ _ _ (by decide), Port.cnt_linkFrame, if_pos rfl]
    · rw [Port.cnt_rxStamp _ _ _ (by decide), Port.cnt_linkFrame, if_neg (by decide)]

/-- A DATA frame out of sequence is discarded, and answered by an LNAK where it is new and none has been sent (R267). -/
theorem Port.directSeen_gap (hn : fld f.hdr 55 48 ≠ (x.rxSeq + 1) % 256) : let z := x.directSeen t f
    let n := fld f.hdr 55 48
    z.rxSeq = x.rxSeq ∧ z.tsq = x.tsq ∧ z.lnak = (if x.lnak = none ∧ 128 ≤ (x.rxSeq + 256 - n) % 256 then some x.rxSeq else x.lnak) ∧
    (x.lnak = none → 128 ≤ (x.rxSeq + 256 - n) % 256 →
      z.tx = directFrame 3 0 x.rxSeq [] ∧ Sparse.get 0 z.cnt 0x60 = sat32 (Sparse.get 0 x.cnt 0x60) 1) := by
  obtain ⟨-, htaken⟩ := x.taken_frame t f
  have h60 : Sparse.get 0 (x.taken t f).cnt 0x60 = Sparse.get 0 x.cnt 0x60 := by
    rw [htaken, if_neg (by decide), Port.cnt_fec, if_neg (by decide), if_neg (by decide)]
  have htsq := x.tsq_taken t f
  have hrx := x.rxSeq_taken t f
  have hlnak := x.lnak_taken t f
  rw [Port.directSeen_good _ _ _ h]
  generalize x.taken t f = y at h60 htsq hrx hlnak
  dsimp only
  rw [if_neg (by simp [hft]), if_neg (hrx ▸ hn), ← h60, ← htsq, ← hrx, ← hlnak]
  by_cases hnew : y.lnak = none ∧ 128 ≤ (y.rxSeq + 256 - fld f.hdr 55 48) % 256
  · rw [if_pos hnew, if_neg (by rw [hnew.1]; simp; omega)]
    refine ⟨by simp, by simp, by simp, fun _ _ => ⟨by simp, ?_⟩⟩
    rw [Port.cnt_linkFrame, if_pos rfl]
  · have hold : y.lnak.isSome = true ∨ (y.rxSeq + 256 - fld f.hdr 55 48) % 256 < 128 := by
      by_cases hl : y.lnak = none
      · exact Or.inr (Nat.not_le.1 (not_and.1 hnew hl))
      · exact Or.inl (Option.ne_none_iff_isSome.1 hl)
    rw [if_neg hnew, if_pos hold]
    exact ⟨rfl, rfl, rfl, fun h1 h2 => absurd ⟨h1, h2⟩ hnew⟩

end

theorem exec_directDataFrame {s : State} {p : Nat} (hp : p < 12) (hup : (s.port p).st = .up) (hm : (s.port p).mode = 1) (f : DFrame) :
    exec (.directDataFrame p f) s = .next (s.setPort p (((s.port p).directSeen s.aon.ptp f).arbitrate s.cc s.aon.ptp)) := by
  show execDirectDataFrame p f s = _
  unfold execDirectDataFrame
  rw [onPort_next hp]
  exact congrArg Host.Outcome.next (if_pos ⟨hup, hm⟩)

/-! ### LACK and LNAK (R267) -/

/-- The port that an LNAK leaves, before it retrains: the rest of the replay buffer is sent again (R266, R267). -/
def Port.replayed (x : Port) (e : Nat × Nat × List Byte) : Port :=
  (({ x with replay := x.replay.map fun d => (d.1, d.2.1 + 1, x.again d.1 d.2.2), tx := x.again e.1 e.2.2 } : Port).bump 0x60
    x.replay.length).bump 0x74 1

section
variable {s : State} {p : Nat} (hp : p < 12) (hup : (s.port p).st = .up) (hm : (s.port p).mode = 1)
include hp hup hm

theorem exec_lack (n : Nat) : exec (.lack p n) s = .next (s.setPort p (((s.port p).ack n s.aon.ptp).bump 0x64 1)) := by
  show execLack p n s = _
  unfold execLack
  rw [onPort_next hp]
  exact congrArg Host.Outcome.next (if_pos ⟨hup, hm⟩)

theorem exec_lnak (n : Nat) {e : Nat × Nat × List Byte}
    (he : (((s.port p).ack n s.aon.ptp).bump 0x64 1).replay.getLast? = some e) :
    let y := (((s.port p).ack n s.aon.ptp).bump 0x64 1).replayed e
    exec (.lnak p n) s = .next
      (if (y.replay.any fun e => decide (8 ≤ e.2.1)) = true then (s.setPort p y).flap p 0 else s.setPort p y) := by
  show execLnak p n s = _
  unfold execLnak
  rw [onPort_next hp]
  dsimp only
  rw [if_neg (by simp [hup, hm]), he]
  rfl

end

/-- The frames left are sent again in order, each with the ACKSEQ of now, and an LNAK and the frames are counted (R292). -/
theorem Port.replayed_spec (x : Port) (e : Nat × Nat × List Byte) : let z := x.replayed e
    z.st = x.st ∧ z.tx = x.again e.1 e.2.2 ∧ z.replay = (x.replay.map fun d => (d.1, d.2.1 + 1, x.again d.1 d.2.2)) ∧
    ∀ k, Sparse.get 0 z.cnt k = if k = 0x74 then sat32 (Sparse.get 0 x.cnt 0x74) 1
      else if k = 0x60 then sat32 (Sparse.get 0 x.cnt 0x60) x.replay.length else Sparse.get 0 x.cnt k := by
  unfold Port.replayed
  refine ⟨by simp, by simp, by simp, fun k => ?_⟩
  have h74 (y : Port) (n : Nat) : Sparse.get 0 (y.bump 0x60 n).cnt 0x74 = Sparse.get 0 y.cnt 0x74 := by rw [Port.cnt_bump, if_neg (by decide)]
  rw [Port.cnt_bump, h74, Port.cnt_bump]

/-- The frames that an acknowledgement leaves in the replay buffer, and the port, a link frame received (R267, R292). -/
theorem Port.ackedFrame_spec (x : Port) (t : Ptp) {n r : Nat} {bs : List Byte} {pre post : List (Nat × Nat × List Byte)}
    (h : x.replay = pre ++ (n, r, bs) :: post) (hpre : ∀ e ∈ pre, e.1 ≠ n) : let z := (x.ack n t).bump 0x64 1
    z.st = x.st ∧ z.rxSeq = x.rxSeq ∧ z.replay = post ∧
    ∀ k, Sparse.get 0 z.cnt k = if k = 0x64 then sat32 (Sparse.get 0 x.cnt 0x64) 1 else Sparse.get 0 x.cnt k := by
  rw [x.ack_of_mem t h hpre]
  exact ⟨rfl, rfl, rfl, fun k => Port.cnt_bump ..⟩

/-- A port that retrains after an LNAK keeps the frame that it sent last and the counters, but for the flap (R267, R272). -/
theorem State.flap_again {s : State} {p : Nat} (hup : (s.port p).st = .up) : let u := s.flap p 0
    let z := u.port p
    (u.tiles = s.tiles ∧ u.mem = s.mem ∧ ∀ q, q ≠ p → u.port q = s.port q) ∧
    z.st ≠ .up ∧ z.replay = [] ∧ z.tx = (s.port p).tx ∧ Sparse.get 0 z.cnt 0x80 = sat32 (Sparse.get 0 (s.port p).cnt 0x80) 1 ∧
    ∀ k, k ≠ 0x7C → k ≠ 0x80 → Sparse.get 0 z.cnt k = Sparse.get 0 (s.port p).cnt k := by
  obtain ⟨hbeside, hports, hz⟩ := State.flap_spec hup 0
  obtain ⟨htiles, hmem, -, -⟩ := State.besidePorts_iff.1 hbeside
  obtain ⟨hv, hcnt, hvtiles, hvmem, hvports⟩ := s.portDown_frame p
  refine ⟨⟨htiles.trans hvtiles, hmem.trans hvmem, fun q hq => (hports q hq).trans (hvports q hq)⟩, ?_⟩
  rw [hz]
  refine ⟨?_, by rw [hv], by rw [hv], ?_, fun k h7C h80 => ?_⟩
  · unfold State.flapState
    dsimp only
    split
    · decide
    · decide
  · rw [Port.cnt_bump, if_pos rfl, hcnt, if_neg (by decide)]
  · rw [Port.cnt_bump, if_neg h80, hcnt, if_neg h7C]

/-- An LNAK, in a port whose replay buffer keeps frames after the one acknowledged: they are sent again, and the eighth replay of one
retrains the port (R266, R267). -/
theorem exec_lnak_spec {s : State} {p n r : Nat} {bs : List Byte} {pre post : List (Nat × Nat × List Byte)} {e : Nat × Nat × List Byte}
    (hp : p < 12) (hup : (s.port p).st = .up) (hm : (s.port p).mode = 1) (h : (s.port p).replay = pre ++ (n, r, bs) :: post)
    (hpre : ∀ e ∈ pre, e.1 ≠ n) (he : post.getLast? = some e) : let y := s.port p
    ∃ u : State, exec (.lnak p n) s = .next u ∧ (∀ q, q ≠ p → u.port q = s.port q) ∧ u.tiles = s.tiles ∧ u.mem = s.mem ∧
      Sparse.get 0 (u.port p).cnt 0x74 = sat32 (Sparse.get 0 y.cnt 0x74) 1 ∧ (u.port p).tx = y.again e.1 e.2.2 ∧
      Sparse.get 0 (u.port p).cnt 0x60 = sat32 (Sparse.get 0 y.cnt 0x60) post.length ∧
      Sparse.get 0 (u.port p).cnt 0x64 = sat32 (Sparse.get 0 y.cnt 0x64) 1 ∧
      ((∀ d ∈ post, d.2.1 < 7) → (u.port p).st = .up ∧ (u.port p).replay = post.map fun d => (d.1, d.2.1 + 1, y.again d.1 d.2.2)) ∧
      ((∃ d ∈ post, 7 ≤ d.2.1) → (u.port p).st ≠ .up ∧ (u.port p).replay = [] ∧
        Sparse.get 0 (u.port p).cnt 0x80 = sat32 (Sparse.get 0 y.cnt 0x80) 1) := by
  obtain ⟨hst, hrx, hrest, hcnt⟩ := (s.port p).ackedFrame_spec s.aon.ptp h hpre
  have hlast := exec_lnak hp hup hm n (e := e) (by rw [hrest, he])
  generalize ((s.port p).ack n s.aon.ptp).bump 0x64 1 = x at hst hrx hrest hcnt hlast
  have hagain (k : Nat) (l : List Byte) : x.again k l = (s.port p).again k l := by rw [Port.again, Port.again, hrx]
  obtain ⟨hzst, hztx, hzreplay, hzcnt⟩ := x.replayed_spec e
  simp only [hagain, hrest, hst] at hzst hztx hzreplay hzcnt
  generalize x.replayed e = z at hzst hztx hzreplay hzcnt hlast
  have h74 : Sparse.get 0 z.cnt 0x74 = sat32 (Sparse.get 0 (s.port p).cnt 0x74) 1 := by
    rw [hzcnt, if_pos rfl, hcnt, if_neg (by decide)]
  have h60 : Sparse.get 0 z.cnt 0x60 = sat32 (Sparse.get 0 (s.port p).cnt 0x60) post.length := by
    rw [hzcnt, if_neg (by decide), if_pos rfl, hcnt, if_neg (by decide)]
  have h64 : Sparse.get 0 z.cnt 0x64 = sat32 (Sparse.get 0 (s.port p).cnt 0x64) 1 := by
    rw [hzcnt, if_neg (by decide), if_neg (by decide), hcnt, if_pos rfl]
  have h80 : Sparse.get 0 z.cnt 0x80 = Sparse.get 0 (s.port p).cnt 0x80 := by
    rw [hzcnt, if_neg (by decide), if_neg (by decide), hcnt, if_neg (by decide)]
  have heighth : (z.replay.any fun d => decide (8 ≤ d.2.1)) = true ↔ ∃ d ∈ post, 7 ≤ d.2.1 := by
    simp [hzreplay, List.any_map]
  by_cases h7 : ∃ d ∈ post, 7 ≤ d.2.1
  · have hport : (s.setPort p z).port p = z := s.port_setPort_self p z
    obtain ⟨⟨htiles, hmem, hothers⟩, hnot, hnone, htx, hflap, hsame⟩ :=
      State.flap_again (s := s.setPort p z) (p := p) (by rw [hport, hzst, hup])
    rw [hport] at htx hflap hsame
    refine ⟨_, hlast.trans (congrArg Host.Outcome.next (if_pos (heighth.2 h7))),
      fun q hq => (hothers q hq).trans ((State.port_setPort ..).trans (if_neg hq)), htiles, hmem,
      (hsame _ (by decide) (by decide)).trans h74, htx.trans hztx, (hsame _ (by decide) (by decide)).trans h60,
      (hsame _ (by decide) (by decide)).trans h64, fun hfew => ?_, fun _ => ⟨hnot, hnone, hflap.trans (by rw [h80])⟩⟩
    obtain ⟨d, hd, hle⟩ := h7
    exact absurd (hfew d hd) (Nat.not_lt.2 hle)
  · refine ⟨_, hlast.trans (congrArg Host.Outcome.next (if_neg (mt heighth.1 h7))),
      fun q hq => (State.port_setPort ..).trans (if_neg hq), rfl, rfl, ?_⟩
    rw [State.port_setPort_self]
    exact ⟨h74, hztx, h60, h64, fun _ => ⟨hzst.trans hup, hzreplay⟩, fun hd => absurd hd h7⟩

/-- Settles O29: the frames by what each makes of the port; an LNAK's eighth replay is a flap. -/
theorem linkAndEthFrames : Obligations.LinkAndEthFrames := by
  unfold Obligations.LinkAndEthFrames
  refine ⟨fun s p hp hup hm => ⟨fun f => ?data, fun n pre post r bs hrep hpre => ⟨?_, ?_, ?lnak⟩⟩, fun s p f hp hup hm => ?eth⟩
  case data =>
    obtain ⟨h, l, hgrant⟩ := ((s.port p).directSeen s.aon.ptp f).arbitrate_frame s.cc s.aon.ptp
    refine ⟨_, exec_directDataFrame hp hup hm f, fun q hq => (State.port_setPort ..).trans (if_neg hq), rfl, rfl, ?_⟩
    rw [State.port_setPort_self, hgrant, ← frameOk_iff, Bool.not_eq_true]
    dsimp only
    refine ⟨?_, ?_, fun hbad => Port.directSeen_bad_spec _ _ f hbad, fun hok => ?_⟩
    · rw [Port.cnt_directSeen _ _ _ (by decide) (by decide) (by decide) (by decide) (by decide), Port.cnt_fec, if_neg (by decide), if_pos rfl]
    · rw [Port.cnt_directSeen _ _ _ (by decide) (by decide) (by decide) (by decide) (by decide), Port.cnt_fec, if_pos rfl]
    · obtain ⟨hreplay, h64⟩ := Port.directSeen_good_spec (s.port p) s.aon.ptp hok
      refine ⟨hreplay, h64, fun hft => Port.directSeen_reserved _ _ hok hft, fun hft hn => Port.directSeen_next _ _ hok hft hn,
        fun hft hn => ?_, fun hft hn => ?_⟩
      · obtain ⟨hrx, htsq, hlnak, -⟩ := Port.directSeen_gap (s.port p) s.aon.ptp hok hft hn
        exact ⟨hrx, htsq, hlnak⟩
      · obtain ⟨-, -, -, hanswer⟩ := Port.directSeen_gap (s.port p) s.aon.ptp hok hft hn
        exact hanswer
  · intro hroom
    have hfull : ¬ (s.port p).replayFull = true := by
      simp [Port.replayFull, hm]
      omega
    rw [exec_lack hp hup hm, Port.ack_of_mem _ _ hrep hpre, if_neg hfull]
  · intro hfull
    rw [exec_lack hp hup hm, Port.ack_of_mem _ _ hrep hpre, if_pos (by simp [Port.replayFull, hm, hfull])]
  case lnak => exact fun e he => exec_lnak_spec hp hup hm hrep hpre he
  case eth =>
    obtain ⟨hz, hcnt⟩ := (s.port p).ethRx_frame s.aon.ptp f
    refine ⟨_, exec_ethFrame hp hup hm f, hz, ?_, ?_, ?_, fun hfcs => Port.ethRx_badFcs _ _ f hfcs,
      fun hfcs => ⟨Port.ethRx_goodFcs _ _ hfcs, fun hun => Port.ethRx_dropped _ _ hfcs (Or.inl hun),
        fun hun het n hn hroom => Port.ethRx_event _ _ hfcs hun het hn hroom,
        fun hun hev ht => Port.ethRx_dropped _ _ hfcs (Or.inr ⟨hun, hev, ht⟩), fun hun hev ht => Port.ethRx_taken _ _ hfcs hun hev ht⟩⟩
    · rw [hcnt _ (by decide) (by decide) (by decide), Port.ethSeen, Port.cnt_bump, if_pos rfl, Port.cnt_fec, if_neg (by decide), if_neg (by decide)]
    · rw [hcnt _ (by decide) (by decide) (by decide), Port.ethSeen, Port.cnt_bump, if_neg (by decide), Port.cnt_fec, if_neg (by decide), if_pos rfl]
    · rw [hcnt _ (by decide) (by decide) (by decide), Port.ethSeen, Port.cnt_bump, if_neg (by decide), Port.cnt_fec, if_pos rfl]

end Sys2Proof.Machine

/-!
PROOFS. O31: DATA segments (R265, R277, R292, R296, R297, R305, R314, R323).
-/
namespace Sys2Proof.Machine

/-! ### A write to words without errors (R60, R208) -/

theorem foldl_fixed_on {α β : Type} {f : α → β → α} {a : α} {l : List β} (h : ∀ x ∈ l, f a x = a) : l.foldl f a = a := by
  induction l with
  | nil => rfl
  | cons x l ih =>
    rw [List.foldl_cons, h x (List.mem_cons_self ..)]
    exact ih fun y hy => h y (List.mem_cons_of_mem _ hy)

theorem mem_wordsOf {a n w : Nat} : w ∈ wordsOf a n ↔ 0 < n ∧ 8 * w < a + n ∧ a < 8 * w + 8 := by
  unfold wordsOf
  split
  next h => simp [h]
  next h =>
    simp only [List.mem_map, List.mem_range]
    refine ⟨?_, fun hw => ⟨w - a / 8, by omega, by omega⟩⟩
    rintro ⟨k, hk, rfl⟩
    omega

/-- Every word of n bytes from address a is free of errors. -/
def State.CleanAt (s : State) (a n : Nat) : Prop := ∀ w ∈ wordsOf a n, Sparse.get Ecc.ok s.mem.ecc w = .ok

section
variable {s : State} {a n : Nat} (h : s.CleanAt a n)
include h

theorem State.memRead_of_clean {b k : Nat} (hsub : 0 < k → a ≤ b ∧ b + k ≤ a + n) : s.memRead b k = s := by
  refine foldl_fixed_on fun e he => ?_
  have hin := of_decide_eq_true (List.mem_filter.1 he).2
  have hok : Sparse.get Ecc.ok s.mem.ecc e.1 = .ok := h _ (mem_wordsOf.2 (by omega))
  unfold State.memSettle State.memCheckWord
  simp [hok]

theorem State.memEdges_of_clean (hn : 0 < n) : s.memEdges a n = s := by
  have hfirst : (if a % 8 = 0 ∧ 8 ≤ n then s else s.memRead a (min n (8 - a % 8))) = s := by
    split
    · rfl
    · exact State.memRead_of_clean h fun _ => by omega
  unfold State.memEdges
  rw [hfirst]
  dsimp only
  split
  · rfl
  · exact State.memRead_of_clean h fun _ => by omega

end

/-- The mark of a word after a write: its own mark, or where the write covers it in part the one it had (R60). -/
def markAfter (a n : Nat) (pz : Nat → Bool) (m : Mem) (w : Nat) : Bool :=
  pz w || (!(decide (a ≤ 8 * w) && decide (8 * w + 8 ≤ a + n)) && m.wordPz w)

theorem Mem.wordPz_writePz (a n : Nat) (pz : Nat → Bool) (m : Mem) (v w : Nat) :
    (m.writePz a n pz v).wordPz w = if w = v then markAfter a n pz m v else m.wordPz w := Sparse.get_set ..

theorem Mem.wordPz_writeWords (a n : Nat) (pz : Nat → Bool) (l : List Nat) (m : Mem) (w : Nat) :
    (l.foldl (Mem.writePz a n pz) m).wordPz w = if w ∈ l then markAfter a n pz m w else m.wordPz w := by
  induction l generalizing m with
  | nil => simp
  | cons v l ih =>
    rw [List.foldl_cons, ih]
    unfold markAfter
    rw [Mem.wordPz_writePz]
    by_cases hv : w = v
    · subst hv
      unfold markAfter
      cases pz w <;> simp
    · simp [hv]

theorem State.wordPz_memWrite {s : State} {a : Nat} {bs : List Byte} (h : s.CleanAt a bs.length) (pz : Nat → Bool) (w : Nat) :
    (s.memWrite a bs pz).mem.wordPz w = if w ∈ wordsOf a bs.length then markAfter a bs.length pz s.mem w else s.mem.wordPz w := by
  have hread : (if bs.isEmpty then s else s.memEdges a bs.length) = s := by
    split
    · rfl
    next hne => exact State.memEdges_of_clean h (List.length_pos_iff.2 (by simpa using hne))
  have hdirty (u : State) (p : Nat) : (u.dirtyPage p).mem = u.mem := by
    unfold State.dirtyPage
    split
    · rfl
    · rfl
  unfold State.memWrite
  rw [hread]
  dsimp only
  rw [foldl_keep State.mem State.dirtyPage hdirty]
  exact Mem.wordPz_writeWords ..

/-- A word's mark in terms of the words that the write covers whole and in part. -/
theorem State.wordPz_memWrite_iff {s : State} {a : Nat} {bs : List Byte} (h : s.CleanAt a bs.length) (pz : Nat → Bool) (w : Nat) :
    (s.memWrite a bs pz).mem.wordPz w = true ↔ (w ∈ wordsOf a bs.length ∧ pz w = true) ∨
      (¬ (a ≤ 8 * w ∧ 8 * w + 8 ≤ a + bs.length) ∧ s.mem.wordPz w = true) := by
  rw [State.wordPz_memWrite h]
  by_cases hw : w ∈ wordsOf a bs.length
  · simp only [hw, if_true, markAfter, Bool.or_eq_true, Bool.and_eq_true, Bool.not_eq_true', Bool.and_eq_false_iff, decide_eq_false_iff_not,
      true_and, ← not_and_or]
  · have hout : ¬ (a ≤ 8 * w ∧ 8 * w + 8 ≤ a + bs.length) := fun hin => hw (mem_wordsOf.2 (by omega))
    rw [if_neg hw]
    simp only [hw, false_and, false_or, hout, not_false_eq_true, true_and]

/-- A mark of a piece of k bytes marks the words that it touches. -/
theorem wordMark_iff {a k : Nat} {l : List Bool} {w : Nat} :
    wordMark a k l w = true ↔ ∃ i, l[i]? = some true ∧ a + k * i < 8 * w + 8 ∧ 8 * w < a + k * i + k := by
  have hmem (b : Bool) (i : Nat) : (b, i) ∈ l.zip (List.range l.length) ↔ l[i]? = some b := by
    refine List.mem_iff_getElem?.trans ⟨fun ⟨j, hj⟩ => ?_, fun hb => ⟨i, List.getElem?_zip_eq_some.2 ⟨hb, ?_⟩⟩⟩
    · obtain ⟨hb, hr⟩ := List.getElem?_zip_eq_some.1 hj
      obtain ⟨_, hji⟩ := List.getElem?_eq_some_iff.1 hr
      rw [List.getElem_range] at hji
      subst hji
      exact hb
    · exact List.getElem?_range (List.getElem?_eq_some_iff.1 hb).1
  unfold wordMark
  simp only [List.any_eq_true, Prod.exists, hmem, Bool.and_eq_true, decide_eq_true_eq]
  constructor
  · rintro ⟨b, i, hi, ⟨rfl, hlo⟩, hhi⟩
    exact ⟨i, hi, hlo, hhi⟩
  · rintro ⟨i, hi, hlo, hhi⟩
    exact ⟨true, i, hi, ⟨rfl, hlo⟩, hhi⟩

/-- What the transfers, the ports and the collective engine hold. -/
def State.traffic (s : State) : Sparse Port × Txp × Coll := (s.ports, s.txp, s.coll)

theorem State.traffic_memWrite (s : State) (a : Nat) (bs : List Byte) (pz : Nat → Bool) : (s.memWrite a bs pz).traffic = s.traffic := by
  have hsettle (u : State) (w : Nat) : (u.memSettle w).traffic = u.traffic := by
    unfold State.memSettle State.memCheckWord
    dsimp only
    split_ifs <;> rfl
  have hread (u : State) (b k : Nat) : (u.memRead b k).traffic = u.traffic :=
    foldl_keep State.traffic (fun (u : State) (e : Nat × Ecc) => u.memSettle e.1) (fun u e => hsettle u e.1) _ u
  have hedges : (s.memEdges a bs.length).traffic = s.traffic := by
    unfold State.memEdges
    dsimp only
    split_ifs <;> simp only [hread]
  have hdirty (u : State) (p : Nat) : (u.dirtyPage p).traffic = u.traffic := by
    unfold State.dirtyPage
    split
    · rfl
    · rfl
  unfold State.memWrite
  dsimp only
  rw [foldl_keep State.traffic State.dirtyPage hdirty]
  refine Eq.trans rfl (?_ : (if bs.isEmpty then s else s.memEdges a bs.length).traffic = s.traffic)
  split
  · rfl
  · exact hedges

/-! ### A completed part at the collective engine (R283, R287) -/

theorem Sparse.find?_put_ne {α : Type} (m : Sparse α) {k j : Nat} (h : j ≠ k) (v : α) :
    (Sparse.put m k v).find? (fun e => e.1 == j) = m.find? fun e => e.1 == j := by
  induction m with
  | nil => simp [Sparse.put, h.symm]
  | cons e m ih =>
    unfold Sparse.put
    split_ifs with h1 h2
    · rw [List.find?_cons_of_neg (by simpa using h.symm), List.find?_cons_of_neg (by simpa [← h1] using h.symm)]
    · rw [List.find?_cons_of_neg (by simpa using h.symm)]
    · rw [List.find?_cons, List.find?_cons, ih]

theorem State.collOf_congr {s u : State} (h : u.coll = s.coll) (cid : Nat) : u.collOf cid = s.collOf cid := by
  unfold State.collOf
  rw [h]

theorem State.collOf_setRun_ne (s : State) {cid k : Nat} (h : cid ≠ k) (q : CollRun) : (s.setRun k q).collOf cid = s.collOf cid := by
  have hput : (s.setRun k q).coll.runs.find? (fun e => e.1 == cid) = s.coll.runs.find? fun e => e.1 == cid := Sparse.find?_put_ne _ h _
  unfold State.collOf
  rw [hput]
  rfl

/-- What the engine leaves alone as transfers complete: ports, transfers, the bytes and their marks, and what waits to start. -/
def State.landed (s : State) : Sparse Port × Txp × Sparse Byte × Sparse Bool × List Nat :=
  (s.ports, s.txp, s.mem.data, s.mem.pz, s.coll.waiting)

theorem State.landed_arriveWin (s : State) (w : Nat) : (s.arriveWin w).landed = s.landed := by
  unfold State.arriveWin
  split
  · rfl
  · exact (foldl_keep State.landed (fun (u : State) t => u.setTile t ((u.tile t).incFlag _)) (fun _ _ => rfl) _ _).trans rfl

/-- The check of a run changes nothing, or ends the run and its window arrives. -/
theorem State.collCheck_cases {P : State → Prop} {s : State} {cid : Nat} (hsame : P s)
    (hdone : ∀ d r, s.collOf cid = some (d, r) → P ((s.setRun cid { r with dstDone := true }).arriveWin d.dstWin)) : P (s.collCheck cid) := by
  unfold State.collCheck
  split
  · exact hsame
  next d r h =>
    dsimp only
    split
    · exact hsame
    · exact hdone d r h

/-- What a completed part means to one collective. -/
def State.partAt (step : Nat) (p : SegDst × Nat) (u : State) (cid : Nat) : State :=
  match u.collOf cid with
  | some (_, r) =>
    if r.step ≠ step then { u with coll := { u.coll with early := u.coll.early ++ [(cid, step, p)] } }
    else
      match p.1 with
      | .coll _ rank blk off =>
        let l := (rank, blk, off, p.2)
        if r.landed.contains l then u else u.setRun cid { r with landed := r.landed ++ [l] }
      | .win _ off =>
        if r.got.contains (off, p.2) ∨ r.dstDone then u else (u.setRun cid { r with got := r.got ++ [(off, p.2)] }).collCheck cid
  | none => { u with coll := { u.coll with early := u.coll.early ++ [(cid, step, p)] } }

/-- The collectives that bytes at a place are for: the one of a staging slot, those whose result a window takes. -/
def State.servedAt (s : State) (dst : SegDst) : List Nat :=
  match dst with
  | .coll cid _ _ _ => [cid]
  | .win w _ => (s.coll.decls.filter fun e => e.2.dstWin == w).map (·.1)

theorem State.partDone_eq (step : Nat) (s : State) (p : SegDst × Nat) :
    State.partDone step s p = (s.servedAt p.1).foldl (State.partAt step p) s := rfl

theorem State.partAt_cases {P : State → Prop} {step : Nat} {p : SegDst × Nat} {u : State} {cid : Nat} (hsame : P u)
    (hearly : ∀ l, P { u with coll := { u.coll with early := l } })
    (hlanded : ∀ d r l, u.collOf cid = some (d, r) → P (u.setRun cid { r with landed := l }))
    (hgot : ∀ d r l, u.collOf cid = some (d, r) → P ((u.setRun cid { r with got := l }).collCheck cid)) : P (u.partAt step p cid) := by
  unfold State.partAt
  split
  next d r h =>
    split
    · exact hearly _
    · split
      · dsimp only
        split
        · exact hsame
        · exact hlanded d r _ h
      · split
        · exact hsame
        · exact hgot d r _ h
  next => exact hearly _

theorem State.landed_partAt (step : Nat) (p : SegDst × Nat) (u : State) (cid : Nat) : (u.partAt step p cid).landed = u.landed := by
  refine State.partAt_cases (P := fun v => v.landed = u.landed) rfl (fun _ => rfl) (fun _ _ _ _ => rfl) fun d r l h => ?_
  exact State.collCheck_cases (P := fun v => v.landed = u.landed) rfl fun _ _ _ => (State.landed_arriveWin ..).trans rfl

theorem State.landed_partDone (step : Nat) (s : State) (p : SegDst × Nat) : (State.partDone step s p).landed = s.landed := by
  rw [State.partDone_eq]
  exact foldl_keep State.landed _ (State.landed_partAt step p) _ _

/-- A collective runs in a step. -/
def State.RunsAt (s : State) (cid : Nat) (d : CollDecl) (step : Nat) : Prop := ∃ q, s.collOf cid = some (d, q) ∧ q.step = step

section
variable {s : State} {cid : Nat} {d : CollDecl} {step : Nat} (h : s.RunsAt cid d step)
include h

/-- A run that is written in its own step goes on in its step. -/
theorem State.RunsAt.setRun {k : Nat} {e : CollDecl} {r q : CollRun} (hk : s.collOf k = some (e, r)) (hq : q.step = r.step) :
    (s.setRun k q).RunsAt cid d step := by
  obtain ⟨r', hr, hstep⟩ := h
  by_cases hc : cid = k
  · subst hc
    obtain ⟨rfl, rfl⟩ : d = e ∧ r' = r := by simpa [hr] using hk
    exact ⟨q, State.collOf_setRun hr q, hq.trans hstep⟩
  · exact ⟨r', (s.collOf_setRun_ne hc q).trans hr, hstep⟩

theorem State.RunsAt.of_coll {u : State} (hu : u.coll = s.coll) : u.RunsAt cid d step := by
  obtain ⟨q, hq, hstep⟩ := h
  exact ⟨q, (State.collOf_congr hu cid).trans hq, hstep⟩

theorem State.RunsAt.partAt (n : Nat) (p : SegDst × Nat) (k : Nat) : (s.partAt n p k).RunsAt cid d step := by
  refine State.partAt_cases (P := fun v => v.RunsAt cid d step) h (fun _ => h) (fun e r l hk => h.setRun hk rfl) fun e r l hk => ?_
  have hgot := h.setRun (q := { r with got := l }) hk rfl
  exact State.collCheck_cases (P := fun v => v.RunsAt cid d step) hgot fun e' r' hk' =>
    (hgot.setRun (q := { r' with dstDone := true }) hk' rfl).of_coll (State.arriveWin_coll ..)

theorem State.RunsAt.partDone (n : Nat) (p : SegDst × Nat) : (State.partDone n s p).RunsAt cid d step := by
  rw [State.partDone_eq]
  generalize s.servedAt p.1 = l
  induction l generalizing s with
  | nil => exact h
  | cons k l ih => exact ih (h.partAt n p k)

/-- A contribution whose last segment has landed is one that has landed (R287). -/
theorem State.RunsAt.contribution (rank blk off n : Nat) :
    ∃ q, (State.partDone step s (.coll cid rank blk off, n)).collOf cid = some (d, q) ∧ (rank, blk, off, n) ∈ q.landed := by
  obtain ⟨q, hq, hstep⟩ := h
  rw [State.partDone_eq]
  show ∃ r, (s.partAt step (.coll cid rank blk off, n) cid).collOf cid = some (d, r) ∧ _
  unfold State.partAt
  rw [hq]
  dsimp only
  rw [if_neg (by simp [hstep])]
  split
  next hin => exact ⟨q, hq, by simpa using hin⟩
  next => exact ⟨_, State.collOf_setRun hq _, by simp⟩

end

/-- The parts of a transfer are done in turn; the last of them, a contribution, has landed at the end. -/
theorem State.RunsAt.contributions {s : State} {cid : Nat} {d : CollDecl} {step : Nat} (h : s.RunsAt cid d step) (l : List (SegDst × Nat))
    (rank blk off n : Nat) :
    ∃ q, ((l ++ [(SegDst.coll cid rank blk off, n)]).foldl (State.partDone step) s).collOf cid = some (d, q) ∧ (rank, blk, off, n) ∈ q.landed := by
  rw [List.foldl_append]
  have hrest : (l.foldl (State.partDone step) s).RunsAt cid d step := by
    induction l generalizing s with
    | nil => exact h
    | cons p l ih => exact ih (h.partDone step p)
  exact hrest.contribution rank blk off n

/-! ### The progress of a transfer (R277) -/

theorem State.rxOf_keys {s : State} {dev cls xfer : Nat} {x : RxXfer} (h : s.rxOf dev cls xfer = some x) :
    x.dev = dev ∧ x.cls = cls ∧ x.xfer = xfer := by
  have hx := List.find?_some h
  simp only [Bool.and_eq_true, beq_iff_eq] at hx
  obtain ⟨⟨hdev, hcls⟩, hxfer⟩ := hx
  exact ⟨hdev, hcls, hxfer⟩

theorem State.rxOf_setRx (s : State) (x : RxXfer) : (s.setRx x).rxOf x.dev x.cls x.xfer = some x := by
  unfold State.rxOf State.setRx
  dsimp only
  rw [List.find?_append, List.find?_eq_none.2]
  · simp
  · intro r hr
    have hne := (List.mem_filter.1 hr).2
    intro heq
    simp only [Bool.and_eq_true, beq_iff_eq] at heq
    simp [heq] at hne

/-- A transfer's progress as the first segment of an attempt finds it. -/
def RxXfer.begin' (x : RxXfer) (att : Nat) : RxXfer :=
  if x.att < att then { x with att := att, segs := [], parts := [], last := none, complete := false } else x

/-- The progress that a segment finds, and the one that it leaves. -/
def State.rxFound (s : State) (dev : Nat) (c : Carriage) (g : Seg) : RxXfer :=
  (s.rxOf dev c.cls c.xfer).getD ⟨dev, c.cls, c.xfer, c.att, [], [], none, false, 0, s.now, g.session⟩
def State.rxAfter (s : State) (dev : Nat) (c : Carriage) (g : Seg) (dst : SegDst) (n : Nat) : RxXfer :=
  { ((s.rxFound dev c g).begin' c.att).take c dst n with at' := s.now, sess := g.session }

section
variable (s : State) (dev : Nat) (c : Carriage) (g : Seg) (dst : SegDst) (n : Nat)

theorem State.rxFound_keys : let x := s.rxFound dev c g
    x.dev = dev ∧ x.cls = c.cls ∧ x.xfer = c.xfer := by
  unfold State.rxFound
  match h : s.rxOf dev c.cls c.xfer with
  | none => exact ⟨rfl, rfl, rfl⟩
  | some x => exact State.rxOf_keys h

theorem State.rxFound_old : c.att < (s.rxFound dev c g).att ↔ ∃ x, s.rxOf dev c.cls c.xfer = some x ∧ c.att < x.att := by
  unfold State.rxFound
  match h : s.rxOf dev c.cls c.xfer with
  | none => simp
  | some x => simp

theorem State.rxAfter_spec (hold : ¬ c.att < (s.rxFound dev c g).att) : let x := s.rxAfter dev c g dst n
    (x.dev = dev ∧ x.cls = c.cls ∧ x.xfer = c.xfer) ∧ x.att = c.att ∧ x.sess = g.session ∧ c.segno ∈ x.segs ∧
    (c.last = true → x.last = some c.segno) ∧ ∃ l, x.parts = l ++ [(dst, n)] := by
  have hkeys := s.rxFound_keys dev c g
  unfold State.rxAfter
  generalize s.rxFound dev c g = x at hold hkeys
  have hbegin : (x.begin' c.att).dev = x.dev ∧ (x.begin' c.att).cls = x.cls ∧ (x.begin' c.att).xfer = x.xfer ∧ (x.begin' c.att).att = c.att := by
    unfold RxXfer.begin'
    split
    · exact ⟨rfl, rfl, rfl, rfl⟩
    · exact ⟨rfl, rfl, rfl, by omega⟩
  generalize x.begin' c.att = y at hbegin
  obtain ⟨hdev, hcls, hxfer, hatt⟩ := hbegin
  unfold RxXfer.take
  refine ⟨⟨hdev.trans hkeys.1, hcls.trans hkeys.2.1, hxfer.trans hkeys.2.2⟩, hatt, rfl, ?_, fun hl => if_pos hl, _, rfl⟩
  dsimp only
  split
  next hin => simpa using hin
  next => simp

end

/-- Every segment up to the last has arrived. -/
theorem RxXfer.whole_iff (x : RxXfer) : x.whole = true ↔ ∃ m, x.last = some m ∧ ∀ k ≤ m, k ∈ x.segs := by
  unfold RxXfer.whole
  split
  next n h => simp [h]
  next h => simp [h]

/-! ### The bytes land (R265, R277) -/

/-- The progress that is written: complete where it is whole. -/
def RxXfer.closed (x : RxXfer) : RxXfer := if x.whole then { x with complete := true } else x

theorem RxXfer.closed_spec (x : RxXfer) : x.closed = { x with complete := x.closed.complete } ∧
    ∀ m, x.last = some m → (∀ k ≤ m, k ∈ x.segs) → x.closed.complete = true := by
  unfold RxXfer.closed
  split
  · exact ⟨rfl, fun _ _ _ => rfl⟩
  next hnot => exact ⟨rfl, fun m hm hall => absurd (x.whole_iff.2 ⟨m, hm, hall⟩) hnot⟩

section
variable {s : State} (hwait : s.coll.waiting = []) (step : Nat) (x : RxXfer) (a : Nat) (data : List Byte) (mask : List Bool)

theorem State.landed_parts (l : List (SegDst × Nat)) (u : State) : (l.foldl (State.partDone step) u).landed = u.landed :=
  foldl_keep State.landed _ (State.landed_partDone step) l u

include hwait

theorem State.landBytes_eq : s.landBytes step x a data mask =
    (if x.whole then x.parts else []).foldl (State.partDone step) ((s.memWrite a data (wordMark a 8 mask)).setRx x.closed) := by
  have htraffic := s.traffic_memWrite a data (wordMark a 8 mask)
  unfold State.landBytes RxXfer.closed
  dsimp only
  split
  · refine State.retryColl_idle ?_
    have hl := State.landed_parts step x.parts ((s.memWrite a data (wordMark a 8 mask)).setRx { x with complete := true })
    simp only [State.landed, State.traffic, Prod.mk.injEq] at hl htraffic
    obtain ⟨-, -, hcoll⟩ := htraffic
    obtain ⟨-, -, -, -, hw⟩ := hl
    exact hw.trans ((congrArg Coll.waiting hcoll).trans hwait)
  · rfl

theorem State.landBytes_spec : let t := s.landBytes step x a data mask
    t.ports = s.ports ∧ t.txp.old = s.txp.old ∧ t.mem.data = Sparse.setRun 0 s.mem.data a data ∧
    (∀ w, t.mem.wordPz w = (s.memWrite a data (wordMark a 8 mask)).mem.wordPz w) ∧
    t.rxOf x.dev x.cls x.xfer = some x.closed := by
  have htraffic := s.traffic_memWrite a data (wordMark a 8 mask)
  have hl := State.landed_parts step (if x.whole then x.parts else []) ((s.memWrite a data (wordMark a 8 mask)).setRx x.closed)
  rw [← State.landBytes_eq hwait] at hl
  simp only [State.landed, State.traffic, Prod.mk.injEq] at hl htraffic
  obtain ⟨hports, htxp, -⟩ := htraffic
  obtain ⟨hlports, hltxp, hldata, hlpz, -⟩ := hl
  have hrx : (s.landBytes step x a data mask).rxOf x.dev x.cls x.xfer =
      ((s.memWrite a data (wordMark a 8 mask)).setRx x.closed).rxOf x.dev x.cls x.xfer := by
    unfold State.rxOf
    rw [hltxp]
  have hkeys : x.closed.dev = x.dev ∧ x.closed.cls = x.cls ∧ x.closed.xfer = x.xfer := by
    rw [x.closed_spec.1]
    exact ⟨rfl, rfl, rfl⟩
  obtain ⟨hdev, hcls, hxfer⟩ := hkeys
  refine ⟨hlports.trans hports, (congrArg Txp.old hltxp).trans (by rw [← htxp]; rfl), hldata.trans (State.memWrite_data ..), fun w => ?_, ?_⟩
  · unfold Mem.wordPz
    rw [hlpz]
    rfl
  · rw [hrx, ← hdev, ← hcls, ← hxfer]
    exact State.rxOf_setRx _ _

/-- A contribution that is one segment has landed (R287). -/
theorem State.landBytes_contribution {cid rank blk off n : Nat} {d : CollDecl} (hrun : s.RunsAt cid d step) (hwhole : x.whole = true)
    (hparts : ∃ l, x.parts = l ++ [(SegDst.coll cid rank blk off, n)]) :
    ∃ q, (s.landBytes step x a data mask).collOf cid = some (d, q) ∧ (rank, blk, off, n) ∈ q.landed := by
  obtain ⟨l, hl⟩ := hparts
  rw [State.landBytes_eq hwait, if_pos hwhole, hl]
  have hcoll : ((s.memWrite a data (wordMark a 8 mask)).setRx x.closed).coll = s.coll := (s.memWrite_coll_masks ..).1
  exact (hrun.of_coll hcoll).contributions l rank blk off n

end

/-! ### A segment that its session accepts (R296, R297) -/

/-- A session that accepts a SEQ below the limit has not reached one (R300). -/
theorem Session.spent_took {x : Session} {now n : Nat} (h : x.spent now = false) (hn : n < 2 ^ 34) (t : Nat) : (x.took n t).spent now = false := by
  unfold Session.spent at h ⊢
  simp only [Bool.or_eq_false_iff, decide_eq_false_iff_not] at h ⊢
  obtain ⟨⟨htx, hrx⟩, hat⟩ := h
  exact ⟨⟨htx, Nat.not_le.2 (max_lt (Nat.not_le.1 hrx) hn)⟩, hat⟩

section
variable {s u : State} {dev : Nat} {g : Seg} (h : s.Hears dev g u)
include h

theorem State.Hears.recvSeg : s.recvSeg dev g = (u, true) := by
  obtain ⟨htype, hrsv, hup, hnum, hspent, hfresh, rfl⟩ := h
  unfold State.recvSeg
  dsimp only
  rw [if_neg (by simp [htype, hrsv]), if_pos ⟨hup, hnum⟩, if_neg (by simp [hspent]), if_pos hfresh]

/-- An accepted segment changes the sessions alone. -/
theorem State.Hears.eq : u = { s with txp := { s.txp with sessions := u.txp.sessions } } := by
  obtain ⟨-, -, -, -, -, -, rfl⟩ := h
  rfl

/-- The session is still UP, and reaches no limit by a SEQ below it (R300). -/
theorem State.Hears.live (hseq : g.seq < 2 ^ 34) : (u.sess dev).st = .up ∧ (u.sess dev).spent u.now = false := by
  obtain ⟨-, -, hup, -, hspent, -, rfl⟩ := h
  have hsess : (s.setSess dev ((s.sess dev).took g.seq s.now)).sess dev = (s.sess dev).took g.seq s.now := Sparse.get_put_self ..
  rw [hsess]
  exact ⟨hup, Session.spent_took hspent hseq _⟩

end

theorem exec_dataSegment {s u : State} {p dev : Nat} {g : Seg} (hp : p < 12) (hup : (s.port p).st = .up) (h : s.Hears dev g u) {c : Carriage}
    {dst : SegDst} {data : List Byte} (hwait : s.segWaits dev c.cls g.step dst data.length = false) (mask : List Bool) :
    exec (.dataSegment p dev c g dst data mask) s = .next
      (if g.epoch ≠ 0 ∧ g.epoch < s.txp.epoch then u.rejectStale dev c g.seq
       else if !s.knowsEpoch g.epoch then s.resend dev 2 [g.epoch]
       else (u.landSegment p dev c g dst data mask).closeOld dev) := by
  show execDataSegment p dev c g dst data mask s = _
  unfold execDataSegment
  rw [onPort_next hp, h.recvSeg]
  exact congrArg Host.Outcome.next (if_neg (by simp [hup, hwait]))

theorem exec_dataSegment_waits {s : State} {p dev : Nat} {g : Seg} (hp : p < 12) {c : Carriage} {dst : SegDst} {data : List Byte}
    (hwait : s.segWaits dev c.cls g.step dst data.length = true) (mask : List Bool) :
    exec (.dataSegment p dev c g dst data mask) s = .next s := by
  show execDataSegment p dev c g dst data mask s = _
  unfold execDataSegment
  rw [onPort_next hp]
  exact congrArg Host.Outcome.next (if_pos (Or.inr hwait))

theorem State.closeOld_none {s : State} {dev : Nat} (h : (s.txp.old.find? fun e => e.1 == dev) = none) : s.closeOld dev = s := by
  unfold State.closeOld
  rw [h]

/-- Where a segment goes does not depend on the sessions and on what has been received. -/
theorem State.landing_sessions_rx (s : State) (a : Sparse Session) (b : List RxXfer) (dev cls step : Nat) (dst : SegDst) (n : Nat) :
    ({ s with txp := { s.txp with sessions := a, rx := b } } : State).landing dev cls step dst n = s.landing dev cls step dst n := rfl

/-! ### Windows (R323) -/

section
variable {s : State} {w : Nat}

theorem State.landing_unknown (hw : s.win w = none) (dev cls step off n : Nat) :
    s.landing dev cls step (.win w off) n = .error (some 0x0E) := by
  unfold State.landing
  simp only [hw]

variable {x : Win} (hw : s.win w = some x) (dev cls step off n : Nat)
include hw

/-- A partner of the set with write permission lands in a window while it is outside; it is answered WINHELD while it is inside, and PERM
otherwise. -/
theorem State.landing_win :
    let may := x.side1 = true ∧ off + n ≤ x.size ∧ bitAt x.perm 1 = true ∧ ((s.groupOf x.pset).any fun m => m.dev == dev) = true
    (may → x.outside = true → s.landing dev cls step (.win w off) n = .ok (x.base + off)) ∧
    (may → x.outside = false → s.landing dev cls step (.win w off) n = .error (some 0x0D)) ∧
    (¬ may → s.landing dev cls step (.win w off) n = .error (some 0x0E)) := by
  intro may
  have hmay : (!x.side1 ∨ x.size < off + n ∨ !bitAt x.perm 1 ∨ !((s.groupOf x.pset).any fun m => m.dev == dev)) ↔ ¬ may := by
    simp only [may, Bool.not_eq_true', not_and_or, Nat.not_le, Bool.not_eq_true]
  unfold State.landing
  simp only [hw, hmay]
  refine ⟨fun h hout => ?_, fun h hin => ?_, fun h => if_pos h⟩
  · rw [if_neg (not_not.2 h), if_neg (by simp [hout])]
  · rw [if_neg (not_not.2 h), if_pos (by simp [hin])]

end

/-- The only answers to a segment that does not land (R323). -/
theorem State.landing_code {s : State} {dev cls step n : Nat} {dst : SegDst} {code : Nat}
    (h : s.landing dev cls step dst n = .error (some code)) : code = 0x0D ∨ code = 0x0E := by
  unfold State.landing at h
  cases dst with
  | win w off =>
    dsimp only at h
    split at h
    · cases h
      exact Or.inr rfl
    · split_ifs at h
      · cases h
        exact Or.inr rfl
      · cases h
        exact Or.inl rfl
  | coll cid rank blk off =>
    dsimp only at h
    split at h
    · cases h
    · split_ifs at h
      · cases h

/-! ### A refused segment is answered (R310, R323) -/

/-- What a message leaves alone: the bytes, their marks and the sessions that close behind a successor. -/
def State.besideSend (s : State) : Sparse Byte × Sparse Bool × Sparse Session := (s.mem.data, s.mem.pz, s.txp.old)

theorem State.emit_spec (s : State) (p : Nat) (m : OutMsg) :
    (s.emit p m).txp.out = s.txp.out ++ [m] ∧ (s.emit p m).besideSend = s.besideSend := by
  refine ⟨congrArg Prod.fst (s.emit_links p m), ?_⟩
  unfold State.emit
  dsimp only
  split
  · exact State.mgmt_keep State.besideSend (fun _ _ _ => rfl) (fun _ _ => rfl) _ _ _ _
  · rfl

/-- A message leaves by a session that is UP and has reached no limit (R297). -/
theorem State.send_live {s : State} {m : OutMsg} {dev : Nat} (hm : m.dev = dev) (hup : (s.sess dev).st = .up)
    (hlive : (s.sess dev).spent s.now = false) :
    s.send m = s.emit (s.sess dev).port { m with session := (s.sess dev).num, epoch := s.txp.epoch } := by
  subst hm
  have hend : s.endSpent m.dev = s := by
    refine if_neg ?_
    rintro ⟨-, hspent⟩
    exact absurd (hlive.symm.trans hspent) Bool.false_ne_true
  unfold State.send
  rw [hend]
  exact if_pos hup

theorem State.reject_spec {s : State} {dev : Nat} (hup : (s.sess dev).st = .up) (hlive : (s.sess dev).spent s.now = false) (code detail ref : Nat) :
    let t := s.reject dev code none detail ref
    t.besideSend = s.besideSend ∧ ∃ m, t.txp.out = s.txp.out ++ [m] ∧ m.dev = dev ∧ m.mtype = 0x13 ∧ m.kind = code := by
  unfold State.reject
  rw [State.send_live (s := s.txpBump 6 1) (dev := dev) rfl hup hlive]
  obtain ⟨hout, hbeside⟩ := State.emit_spec (s.txpBump 6 1) ((s.txpBump 6 1).sess dev).port
    { outMsg dev 0x13 code 0 [detail] (rejectBytes code none detail) with
      ref := ref % 65536, session := ((s.txpBump 6 1).sess dev).num, epoch := (s.txpBump 6 1).txp.epoch }
  exact ⟨hbeside, _, hout, rfl, rfl, rfl⟩

/-! ### A segment of a transfer's attempt (R265, R277, R323) -/

section
variable {u v : State} {dev : Nat} {c : Carriage} (hv : u.retireRx dev c.cls c.xfer c.att = v) (p : Nat) (g : Seg) {dst : SegDst} {data : List Byte}
  (mask : List Bool)

/-- A segment of another CVER or of an older attempt (R265, R277). -/
def State.Older (v : State) (dev : Nat) (c : Carriage) : Prop := c.cver ≠ 1 ∨ ∃ x, v.rxOf dev c.cls c.xfer = some x ∧ c.att < x.att

theorem State.older_iff : (c.cver ≠ 1 ∨ c.att < (v.rxFound dev c g).att) ↔ v.Older dev c := or_congr_right (v.rxFound_old dev c g)

include hv

theorem State.landSegment_older (h : v.Older dev c) : u.landSegment p dev c g dst data mask = v.setPort p ((v.port p).bump 0x78 1) := by
  unfold State.landSegment
  rw [hv]
  exact if_pos ((State.older_iff g).2 h)

variable (h : ¬ v.Older dev c)
include h

theorem State.landSegment_badCls (hbad : c.cls = 0 ∨ 5 ≤ c.cls ∨ 2048 < data.length) :
    u.landSegment p dev c g dst data mask = v.txpBump 3 1 := by
  unfold State.landSegment
  rw [hv]
  exact (if_neg (mt (State.older_iff g).1 h)).trans (if_pos hbad)

variable (h1 : 1 ≤ c.cls) (h5 : c.cls < 5) (hlen : data.length ≤ 2048)
include h1 h5 hlen

theorem State.landSegment_unowned (hland : v.landing dev c.cls g.step dst data.length = .error none) :
    u.landSegment p dev c g dst data mask = v := by
  unfold State.landSegment
  rw [hv]
  refine (if_neg (mt (State.older_iff g).1 h)).trans ((if_neg (by omega)).trans ?_)
  rw [hland]

theorem State.landSegment_refused {code : Nat} (hland : v.landing dev c.cls g.step dst data.length = .error (some code)) :
    ∃ a, u.landSegment p dev c g dst data mask =
      if code = 0x0E then ((v.refuse a data.length).reject dev code none c.xfer g.seq).freeHealth (leBytes 8 dev)
      else (v.refuse a data.length).reject dev code none c.xfer g.seq := by
  have hattempt := mt (State.older_iff g).1 h
  unfold State.rxFound at hattempt
  unfold State.landSegment
  rw [hv]
  dsimp only
  rw [if_neg hattempt, if_neg (by omega), hland]
  exact ⟨_, rfl⟩

theorem State.landSegment_lands {a : Nat} (hland : v.landing dev c.cls g.step dst data.length = .ok a) :
    u.landSegment p dev c g dst data mask =
      v.landBytes g.step (v.rxAfter dev c g dst data.length) a data (if c.pm then mask else []) := by
  unfold State.landSegment
  rw [hv]
  refine (if_neg (mt (State.older_iff g).1 h)).trans ((if_neg (by omega)).trans ?_)
  rw [hland]
  rfl

end

/-- A segment that lands: its bytes, its marks, the progress of its transfer, and the contribution that it is (R60, R265, R277, R287). -/
theorem State.lands_spec {v : State} {dev : Nat} {c : Carriage} (hnew : ¬ v.Older dev c) (hidle : v.coll.waiting = []) (g : Seg) (dst : SegDst)
    (data : List Byte) (mask : List Bool) (a : Nat) :
    let t := v.landBytes g.step (v.rxAfter dev c g dst data.length) a data (if c.pm then mask else [])
    t.ports = v.ports ∧ t.txp.old = v.txp.old ∧ t.mem.data = Sparse.setRun 0 v.mem.data a data ∧
    (v.CleanAt a data.length → ∀ w, t.mem.wordPz w = true ↔
      (w ∈ wordsOf a data.length ∧ c.pm = true ∧ ∃ i, mask[i]? = some true ∧ a + 8 * i < 8 * w + 8 ∧ 8 * w < a + 8 * i + 8) ∨
      (¬ (a ≤ 8 * w ∧ 8 * w + 8 ≤ a + data.length) ∧ v.mem.wordPz w = true)) ∧
    (∃ x, t.rxOf dev c.cls c.xfer = some x ∧ x.att = c.att ∧ x.sess = g.session ∧ c.segno ∈ x.segs ∧ (c.last = true → x.last = some c.segno) ∧
      (∀ m, x.last = some m → (∀ k ≤ m, k ∈ x.segs) → x.complete = true)) ∧
    (∀ cid rank blk off d r, dst = .coll cid rank blk off → v.collOf cid = some (d, r) → r.step = g.step → c.segno = 0 → c.last = true →
      ∃ q, t.collOf cid = some (d, q) ∧ (rank, blk, off, data.length) ∈ q.landed) := by
  have hatt : ¬ c.att < (v.rxFound dev c g).att := fun hlt => hnew ((State.older_iff g).1 (Or.inr hlt))
  obtain ⟨⟨hdev, hcls, hxfer⟩, hxatt, hxsess, hseg, hlast, hparts⟩ := v.rxAfter_spec dev c g dst data.length hatt
  generalize v.rxAfter dev c g dst data.length = x at hdev hcls hxfer hxatt hxsess hseg hlast hparts
  obtain ⟨hports, hold, hdata, hpz, hrx⟩ := State.landBytes_spec hidle g.step x a data (if c.pm then mask else [])
  rw [hdev, hcls, hxfer] at hrx
  refine ⟨hports, hold, hdata, fun hclean w => ?_, ⟨x.closed, hrx, ?_⟩, ?_⟩
  · rw [hpz, State.wordPz_memWrite_iff hclean, wordMark_iff]
    cases c.pm
    · simp
    · simp
  · obtain ⟨hclosed, hcomplete⟩ := x.closed_spec
    rw [hclosed]
    exact ⟨hxatt, hxsess, hseg, hlast, hcomplete⟩
  · rintro cid rank blk off d r rfl hcoll hstep h0 hlst
    refine State.landBytes_contribution hidle g.step x a data _ ⟨r, hcoll, hstep⟩ ?_ hparts
    exact x.whole_iff.2 ⟨0, h0 ▸ hlast hlst, fun k hk => by rw [Nat.le_zero.1 hk, ← h0]; exact hseg⟩

/-- A segment that is answered PERM or WINHELD writes nothing and is rejected (R323). -/
theorem State.refused_spec {v : State} {dev : Nat} (hup : (v.sess dev).st = .up) (hlive : (v.sess dev).spent v.now = false) (a n code detail ref : Nat)
    (data : List Byte) :
    let t := if code = 0x0E then ((v.refuse a n).reject dev code none detail ref).freeHealth data else (v.refuse a n).reject dev code none detail ref
    t.besideSend = v.besideSend ∧ ∃ m, t.txp.out = v.txp.out ++ [m] ∧ m.dev = dev ∧ m.mtype = 0x13 ∧ m.kind = code := by
  obtain ⟨hbeside, hm⟩ := State.reject_spec (s := v.refuse a n) hup hlive code detail ref
  dsimp only
  split
  · exact ⟨hbeside, hm⟩
  · exact ⟨hbeside, hm⟩

/-- The state that an accepted segment finds once the finished transfers are forgotten: the sessions and what has been received apart, it is
the state before. -/
theorem State.Hears.retired {s u : State} {dev : Nat} {g : Seg} (h : s.Hears dev g u) (cls xfer att : Nat) :
    ∃ rx, u.retireRx dev cls xfer att = { s with txp := { s.txp with sessions := u.txp.sessions, rx := rx } } := by
  have hu := h.eq
  generalize u.txp.sessions = a at hu
  subst hu
  exact ⟨_, rfl⟩

section
variable {s u : State} {p dev : Nat} {c : Carriage} {g : Seg} {dst : SegDst} {data : List Byte} (hp : p < 12) (hup : (s.port p).st = .up)
  (hwait : s.segWaits dev c.cls g.step dst data.length = false) (h : s.Hears dev g u) (mask : List Bool)
include hp hup hwait h

theorem exec_dataSegment_stale (h0 : g.epoch ≠ 0) (hold : g.epoch < s.txp.epoch) :
    exec (.dataSegment p dev c g dst data mask) s = .next (u.rejectStale dev c g.seq) := by
  rw [exec_dataSegment hp hup h hwait, if_pos ⟨h0, hold⟩]

theorem exec_dataSegment_unknown (hknows : s.knowsEpoch g.epoch = false) :
    exec (.dataSegment p dev c g dst data mask) s = .next (s.resend dev 2 [g.epoch]) := by
  have hnew : ¬ (g.epoch ≠ 0 ∧ g.epoch < s.txp.epoch) := by
    rintro ⟨-, hold⟩
    simp [State.knowsEpoch, hold.le] at hknows
  rw [exec_dataSegment hp hup h hwait, if_neg hnew, if_pos (by simp [hknows])]

/-- In the epoch in force and without a session that closes behind a successor, the segment lands or is refused. -/
theorem exec_dataSegment_now (hnow : g.epoch = 0 ∨ s.txp.epoch ≤ g.epoch) (hknows : s.knowsEpoch g.epoch = true)
    (hold : (s.txp.old.find? fun e => e.1 == dev) = none) (hkeeps : (u.landSegment p dev c g dst data mask).txp.old = s.txp.old) :
    exec (.dataSegment p dev c g dst data mask) s = .next (u.landSegment p dev c g dst data mask) := by
  rw [exec_dataSegment hp hup h hwait, if_neg (by omega), if_neg (by simp [hknows]), State.closeOld_none (hkeeps ▸ hold)]

end

/-- Settles O31: a segment that lands by its bytes, its progress and what its transfer means to the engine. -/
theorem dataSegmentsLand : Obligations.DataSegmentsLand := by
  unfold Obligations.DataSegmentsLand
  intro s p dev c g dst data mask hp hup
  refine ⟨fun hwait => exec_dataSegment_waits hp hwait mask, ?win, fun u hwait h =>
    ⟨exec_dataSegment_stale hp hup hwait h mask, exec_dataSegment_unknown hp hup hwait h mask⟩, ?now⟩
  case win =>
    rintro w off rfl
    exact ⟨fun x hx => State.landing_win hx dev c.cls g.step off data.length, fun hw => State.landing_unknown hw ..⟩
  case now =>
    intro u hwait h hseq hnow hknows hold
    obtain ⟨rx, hrx⟩ := h.retired c.cls c.xfer c.att
    obtain ⟨hsess, hlive⟩ := h.live hseq
    have hrun := exec_dataSegment_now hp hup hwait h mask hnow hknows hold
    generalize hv : u.retireRx dev c.cls c.xfer c.att = v at hrx
    have hland : v.landing dev c.cls g.step dst data.length = s.landing dev c.cls g.step dst data.length := by
      rw [hrx, State.landing_sessions_rx]
    have hvold : v.txp.old = s.txp.old := by rw [hrx]
    have hvmem : v.mem = s.mem := by rw [hrx]
    have hvcoll : v.coll = s.coll := by rw [hrx]
    have hvports : v.ports = s.ports := by rw [hrx]
    have hvout : v.txp.out = s.txp.out := by rw [hrx]
    have hvport : v.port p = s.port p := congrArg (fun l => Sparse.get Port.reset l p) hvports
    have hvsess : v.sess dev = u.sess dev := by
      rw [hrx]
      rfl
    have hvnow : v.now = u.now := by
      rw [hrx]
      exact (congrArg State.now h.eq).symm
    refine ⟨fun hold => ?_, fun hnew hbad => ?_, fun hnew h1 h5 hlen => ?_⟩
    · have ht := State.landSegment_older hv p g (dst := dst) (data := data) mask hold
      rw [hrun (by rw [ht]; exact hvold), ht, hvport]
    · have ht := State.landSegment_badCls hv p g (dst := dst) mask hnew hbad
      rw [hrun (by rw [ht]; exact hvold), ht]
    · refine ⟨fun hnone => ?_, fun code hcode => ?_, fun a ha hidle => ?_⟩
      · have ht := State.landSegment_unowned hv p g mask hnew h1 h5 hlen (hland.trans hnone)
        rw [hrun (by rw [ht]; exact hvold), ht]
      · obtain ⟨a, ht⟩ := State.landSegment_refused hv p g mask hnew h1 h5 hlen (hland.trans hcode)
        obtain ⟨hbeside, m, hout, hdev, htype, hkind⟩ :=
          State.refused_spec (hvsess ▸ hsess) (hvsess ▸ hvnow ▸ hlive) a data.length code c.xfer g.seq (leBytes 8 dev)
        rw [← ht] at hbeside hout
        simp only [State.besideSend, Prod.mk.injEq] at hbeside
        obtain ⟨hdata, hpz, hkeeps⟩ := hbeside
        exact ⟨_, m, hrun (hkeeps.trans hvold), hdata.trans (congrArg Mem.data hvmem), hpz.trans (congrArg Mem.pz hvmem),
          hvout ▸ hout, hdev, htype, hkind, State.landing_code hcode⟩
      · have ht := State.landSegment_lands hv p g mask hnew h1 h5 hlen (hland.trans ha)
        obtain ⟨hports, hkeeps, hdata, hmarks, hx, hcontrib⟩ :=
          State.lands_spec hnew ((congrArg Coll.waiting hvcoll).trans hidle) g dst data mask a
        rw [← ht] at hports hkeeps hdata hmarks hx hcontrib
        rw [hvmem] at hdata hmarks
        refine ⟨_, hrun (hkeeps.trans hvold), hports.trans hvports, fun b => ?_, fun hclean => hmarks fun w hw => hvmem ▸ hclean w hw, hx,
          fun cid rank blk off d r hdst hcoll => hcontrib cid rank blk off d r hdst ((State.collOf_congr hvcoll cid).trans hcoll)⟩
        rw [hdata, Sparse.get_setRun]

end Sys2Proof.Machine
